-- ==== Sys2Proof/Word.lean ====
section
/-! DEFINITION. The word types of the KZ4810 model. -/

namespace Sys2Proof

/-- One byte, as it stands in a buffer, a queue entry or an object's value. -/
abbrev Byte := BitVec 8

/-- A 16-bit status word, numbered by bits in the spec's tables. -/
abbrev Word16 := BitVec 16

/-- A 32-bit counter or status word. -/
abbrev Word32 := BitVec 32

/-- A 64-bit status word or time counter. -/
abbrev Word64 := BitVec 64

end Sys2Proof
end

