-- ==== Sys2Proof/Types.lean ====
section
/-! DEFINITION. The named alternatives that operands and state share: what a lane or a pattern entry
demands, the classes of channels, LIMP levels, trip kinds and where a request came from. -/

namespace Sys2Proof

/-- What a lane command (R129) or a pattern entry (R26, R225) demands of a channel: codes 0x00, 0x01, 0x02. -/
inductive Drive where
  | off
  | on
  | follow
  deriving DecidableEq, Repr, Inhabited

/-- The three channel classes (R19, Table 01-3). -/
inductive ChClass where
  | h
  | m
  | l
  deriving DecidableEq, Repr, Inhabited

/-- The classification a bank holds of a LIMP land (R53, Table 02-8). -/
inductive LimpClass where
  | deasserted
  | asserted
  | outOfWindow
  deriving DecidableEq, Repr, Inhabited

/-- The two LIMP lands a bank senses: its own LIMPx and the shared LIMPX (R53, R55). -/
inductive LimpLand where
  | own
  | shared
  deriving DecidableEq, Repr, Inhabited

/-- The four kinds of trip (Table 06-2); the message kinds are those of Table 10-4. -/
inductive TripKind where
  | shortCircuit
  | overload
  | detection
  | wire
  deriving DecidableEq, Repr, Inhabited

/-- What a sensor has disagreed under (R202), which is the kind of its source (Table 10-4, i = 4). -/
inductive SensorFault where
  | belowNeighbours
  | aboveNeighbours
  | outOfRange
  | reference
  deriving DecidableEq, Repr, Inhabited

/-- Where a dictionary request came from: the SPI port through Q0, or a network port through Q5 (R385). -/
inductive Transport where
  | spi
  | net
  deriving DecidableEq, Repr, Inhabited

/-- The role of a session (R39). -/
inductive Role where
  | observer
  | operator
  | service
  deriving DecidableEq, Repr, Inhabited

/-- One bank's readings over the link cycle that ends at an uplink frame, supplied from outside:
per channel the mean of its unblanked samples in microamperes (none where every sample was blanked),
whether its samples reached full scale, its output voltage, and the samples (V_DS in mV, I in mA) at which its clamp conducted since
they were last handed over; the fourteen sensor readings in 0.1 degrees; the bank supply. -/
structure Readings where
  current : List (Option Nat)
  full    : List Bool := []
  output  : List Nat
  clamp   : List (List (Nat × Nat)) := []
  sensors : List Int
  supply  : Nat
  deriving DecidableEq, Repr, Inhabited

/-- What the hub die measures of its surroundings (R69, R98, R222), supplied from outside: its supplies in mV, its junction temperature, and the levels
of the lands WAKE, TEST, PPS, ZXA and ZXB. -/
structure HubReadings where
  vcore : Nat
  vio   : Nat
  vphy  : Nat
  temp  : Int
  wake  : Bool := false
  test  : Bool := false
  pps   : Bool := false
  zxa   : Bool := false
  zxb   : Bool := false
  deriving DecidableEq, Repr, Inhabited

end Sys2Proof
end

