-- ==== Sys2Proof/Syntax.lean ====
section
/-! DEFINITION. The commands of the block, one constructor per row of the spec's table: those with operands in
its order, then those without. Operands: b a bank (0 to 3),
ch a physical channel (0 to 47), lane a lane (0 to 47), n a port or session, k the session a write comes from; times are in ns, voltages in mV,
currents in mA or, where named ua, microamperes, temperatures in 0.1 degrees. -/

namespace Sys2Proof

/-- The commands. -/
inductive Instr where
  /-- DOWNLINK_FRAME_SEND (R20). -/
  | downlinkFrameSend (b : Nat) (readings : HubReadings)
  /-- BANK_DOWNLINK_FRAME_RX (R22). -/
  | bankDownlinkFrameRx (b : Nat) (crcOk : Bool)
  /-- BANK_UPLINK_SEND (R20). -/
  | bankUplinkSend (b : Nat) (readings : Readings)
  /-- UPLINK_FRAME_RX (R21). -/
  | uplinkFrameRx (b : Nat) (crcOk : Bool)
  /-- COMMAND_GIVE_UP (R22). -/
  | commandGiveUp (b : Nat)
  /-- HOLD_TIMER_EXPIRY (R23). -/
  | holdTimerExpiry (b : Nat)
  /-- RESTART_HOLD_EXPIRY (R24). -/
  | restartHoldExpiry (b : Nat)
  /-- EVENT_ACKNOWLEDGE (R35). -/
  | eventAcknowledge (k mask : Nat)
  /-- VCORE_PRESENT (R87). -/
  | vcorePresent (mv held : Nat)
  /-- VCORE_ABSENT (R97). -/
  | vcoreAbsent (mv held step : Nat) (landed : Bool)
  /-- VIO_PRESENT (R97). -/
  | vioPresent (mv held : Nat)
  /-- VPHY_PRESENT (R97). -/
  | vphyPresent (mv held : Nat)
  /-- VSUP_PRESENT (R84). -/
  | vsupPresent (b mv held : Nat) (storeOk : Bool) (own shared : Nat)
  /-- VSUP_ABSENT (R97). -/
  | vsupAbsent (b mv held : Nat)
  /-- VSUP_OVERVOLTAGE_WARNING (R76). -/
  | vsupOvervoltageWarning (b mv held : Nat)
  /-- VSUP_OVERVOLTAGE_CLEAR (R76). -/
  | vsupOvervoltageClear (b mv : Nat)
  /-- TIER_LOWER (R78). -/
  | tierLower (mv held : Nat)
  /-- TIER_RAISE (R78). -/
  | tierRaise (mv held : Nat)
  /-- SYNTH_LOCK (R79). -/
  | synthLock (mv : Nat)
  /-- CALIBRATION_START (R79). -/
  | calibrationStart (temp : Int)
  /-- RSTN_RESET (R63). -/
  | rstnReset (width : Nat)
  /-- HUB_RESET_RELEASE (R87). -/
  | hubResetRelease (straps : List Nat) (romOk selfOk : Bool) (temp : Int)
  /-- START_RETRY (R88). -/
  | startRetry (straps : List Nat) (romOk selfOk : Bool) (temp : Int)
  /-- BANK_CLAIM (R93). -/
  | bankClaim (b : Nat)
  /-- RESET_REQUEST_RUNTIME_RESTART (R81). -/
  | resetRequestRuntimeRestart (k : Nat)
  /-- RESET_REQUEST_HUB_RESET (R81). -/
  | resetRequestHubReset (k : Nat)
  /-- RESET_REQUEST_PORT_RESET (R381). -/
  | resetRequestPortReset (k n : Nat)
  /-- RESET_REQUEST_WHOLE_DEVICE (R81). -/
  | resetRequestWholeDevice (k : Nat)
  /-- STANDBY_REQUEST (R94). -/
  | standbyRequest (k : Nat)
  /-- WAKE_EXIT_STANDBY (R96). -/
  | wakeExitStandby (held : Nat)
  /-- LIMP_CLASSIFICATION_ADOPT (R53). -/
  | limpClassificationAdopt (b : Nat) (land : LimpLand) (mv held : Nat)
  /-- IN_EDGE_ACCEPT (R111). -/
  | inEdgeAccept (pin : Nat) (level : Bool) (held : Nat)
  /-- SENSE_STARVED (R108). -/
  | senseStarved (ch without : Nat)
  /-- LANE_COMMAND_OFF (R129). -/
  | laneCommandOff (k lane : Nat)
  /-- LANE_COMMAND_ON (R129). -/
  | laneCommandOn (k lane : Nat)
  /-- LANE_COMMAND_FOLLOW (R129). -/
  | laneCommandFollow (k lane : Nat)
  /-- TAGGED_COMMAND_APPLY (R128). -/
  | taggedCommandApply (b : Nat)
  /-- MAP_COMMIT (R122). -/
  | mapCommit (k : Nat)
  /-- PROFILE_SLOT_WRITE (R142). -/
  | profileSlotWrite (k slot sub : Nat) (value : List Byte)
  /-- SPRINT_STEP_BOUNDARY (R137). -/
  | sprintStepBoundary (ch : Nat)
  /-- SPRINT_FREEZE_LIMIT (R155). -/
  | sprintFreezeLimit (ch : Nat)
  /-- RAMP_TARGET_WRITE (R151). -/
  | rampTargetWrite (k lane : Nat) (rate : Bool) (value : Nat)
  /-- RAMP_TARGET_REACHED (R149). -/
  | rampTargetReached (ch : Nat)
  /-- RAMP_HOLD_EXPIRY (R149). -/
  | rampHoldExpiry (ch : Nat)
  /-- RAMP_COMPLETE (R148). -/
  | rampComplete (ch mv : Nat)
  /-- RAMP_ZERO_TURN_OFF (R151). -/
  | rampZeroTurnOff (ch : Nat)
  /-- RAMP_STALL_FLAG (R150). -/
  | rampStallFlag (ch : Nat)
  /-- RAMP_STALL_END (R150). -/
  | rampStallEnd (ch : Nat)
  /-- SHORT_CIRCUIT_LIMIT_ENTER (R165). -/
  | shortCircuitLimitEnter (ch mv risen ma : Nat)
  /-- BANK_DISTURBANCE_END (R154). -/
  | bankDisturbanceEnd (b : Nat)
  /-- SHORT_CIRCUIT_TRIP (R166). -/
  | shortCircuitTrip (ch : Nat)
  /-- OVERLOAD_TRIP (R166). -/
  | overloadTrip (ch : Nat)
  /-- SC_DETECTION_TRIP (R167). -/
  | scDetectionTrip (ch ma held : Nat)
  /-- TRIP_TIMER_RESET (R166). -/
  | tripTimerReset (ch : Nat)
  /-- BACKOFF_END (R173). -/
  | backoffEnd (ch : Nat)
  /-- LATCH_OFF_CLEAR (R175). -/
  | latchOffClear (ch : Nat)
  /-- RETRY_COUNTER_RESET (R176). -/
  | retryCounterReset (ch : Nat)
  /-- LATCH_COUNT_RESET (R176). -/
  | latchCountReset (ch : Nat)
  /-- UNLOCK (R178). -/
  | unlock (k lane : Nat)
  /-- CLAMP_END (R180). -/
  | clampEnd (ch : Nat) (samples : List (Nat × Nat))
  /-- CLAMP_DECAY (R179). -/
  | clampDecay (b : Nat) (samples : List (List (Nat × Nat)))
  /-- WIRE_MODEL_UPDATE (R186). -/
  | wireModelUpdate (b : Nat) (currents : List Nat)
  /-- ON_STATE_OPEN_LOAD (R183). -/
  | onStateOpenLoad (ch ua held : Nat)
  /-- ON_STATE_OPEN_LOAD_CLEAR (R183). -/
  | onStateOpenLoadClear (ch ua held : Nat)
  /-- OFF_STATE_SOURCE_ON (R185). -/
  | offStateSourceOn (ch : Nat)
  /-- OFF_STATE_OPEN_LOAD (R185). -/
  | offStateOpenLoad (ch mv held : Nat)
  /-- OFF_STATE_OPEN_LOAD_CLEAR (R185). -/
  | offStateOpenLoadClear (ch mv held : Nat)
  /-- OFF_STATE_ZERO_UPDATE (R190). -/
  | offStateZeroUpdate (ch : Nat) (mean : Int)
  /-- CROSS_MEASUREMENT (R190). -/
  | crossMeasurement (ch : Nat) (clean : Bool) (direct inverted : Int)
  /-- STALE_OFFSET_ENTER (R191). -/
  | staleOffsetEnter (ch : Nat)
  /-- SNAPSHOT_TRIGGER (R196). -/
  | snapshotTrigger (k lane : Nat)
  /-- SNAPSHOT_CAPTURE (R196). -/
  | snapshotCapture (b : Nat)
  /-- THERMAL_WARNING (R206). -/
  | thermalWarning (ch : Nat) (temp : Int)
  /-- THERMAL_WARNING_CLEAR (R206). -/
  | thermalWarningClear (ch : Nat) (temp : Int)
  /-- THERMAL_SHUTDOWN (R207). -/
  | thermalShutdown (ch : Nat) (temp : Int)
  /-- THERMAL_SHUTDOWN_EXIT (R208). -/
  | thermalShutdownExit (ch : Nat) (temp : Int)
  /-- THERMAL_LATCH_CLEAR (R209). -/
  | thermalLatchClear (ch : Nat)
  /-- THERMAL_COUNT_RESET (R209). -/
  | thermalCountReset (ch : Nat)
  /-- SENSOR_BROKEN (R203). -/
  | sensorBroken (b sensor : Nat) (kind : SensorFault) (held : Nat)
  /-- SENSOR_READMIT (R205). -/
  | sensorReadmit (k value : Nat)
  /-- BANK_THERMAL_WARNING (R210). -/
  | bankThermalWarning (b : Nat) (r1 r2 : Int)
  /-- BANK_THERMAL_NORMAL (R210). -/
  | bankThermalNormal (b : Nat) (r1 r2 : Int)
  /-- BANK_SHEDDING_ENTER (R211). -/
  | bankSheddingEnter (b : Nat) (r1 r2 : Int)
  /-- BANK_SHEDDING_LEAVE (R210). -/
  | bankSheddingLeave (b : Nat) (r1 r2 : Int)
  /-- SHED_GROUP (R211). -/
  | shedGroup (b : Nat)
  /-- RESTORE_GROUP (R212). -/
  | restoreGroup (b : Nat)
  /-- SHEDDING_PRIORITY_WRITE (R212). -/
  | sheddingPriorityWrite (k lane priority : Nat)
  /-- BANK_SHED_HOLD_CLEAR (R213). -/
  | bankShedHoldClear (b : Nat)
  /-- BANK_THERMAL_TRIP (R213). -/
  | bankThermalTrip (b : Nat) (r1 r2 : Int)
  /-- BANK_TRIP_LEAVE (R210). -/
  | bankTripLeave (b : Nat) (r1 r2 : Int)
  /-- MRAM_WINDOW_CLOSE (R215). -/
  | mramWindowClose (temp : Int)
  /-- MRAM_WINDOW_OPEN (R215). -/
  | mramWindowOpen (temp : Int) (held : Nat)
  /-- DEFERRAL_MARKER (R218). -/
  | deferralMarker (temp : Int)
  /-- CHGPERM_HIGH (R220). -/
  | chgpermHigh (held : Nat)
  /-- PERMIT_REQUEST_WRITE (R219). -/
  | permitRequestWrite (k value : Nat)
  /-- PATTERN_ENTRY_WRITE (R225). -/
  | patternEntryWrite (k lane : Nat) (glide : Bool) (value : Nat)
  /-- LANE_FAILSAFE_ENTER (R228). -/
  | laneFailsafeEnter (k lane : Nat)
  /-- LANE_RELEASE_AS_STORED (R231). -/
  | laneReleaseAsStored (k lane : Nat)
  /-- LANE_RELEASE_TO_OFF (R231). -/
  | laneReleaseToOff (k lane : Nat)
  /-- BANK_FAILSAFE_ENTER (R228). -/
  | bankFailsafeEnter (k b : Nat)
  /-- BANK_RELEASE_AS_STORED (R231). -/
  | bankReleaseAsStored (k b : Nat)
  /-- BANK_RELEASE_TO_OFF (R231). -/
  | bankReleaseToOff (k b : Nat)
  /-- WATCHDOG_ARM (R239). -/
  | watchdogArm (k seed : Nat)
  /-- WATCHDOG_DISARM (R239). -/
  | watchdogDisarm (k : Nat)
  /-- STRIDE_TOKEN (R241). -/
  | strideToken (k token : Nat)
  /-- ZX_EDGE_ACCEPT (R248). -/
  | zxEdgeAccept (input : Nat) (level : Bool) (at_ : Nat)
  /-- LAP_SNAPSHOT (R261). -/
  | lapSnapshot (k : Nat)
  /-- LAP_COUNT_PRESET (R262). -/
  | lapCountPreset (k value : Nat)
  /-- SCHEDULE_ARM (R264). -/
  | scheduleArm (k lane : Nat) (cmd : Drive)
  /-- SCHEDULE_CANCEL (R264). -/
  | scheduleCancel (k lane : Nat)
  /-- SCHEDULE_RESOLVE (R265). -/
  | scheduleResolve (lane : Nat)
  /-- SCHEDULE_APPLY (R266). -/
  | scheduleApply (b lane : Nat)
  /-- SYNC_WINDOW_END (R270). -/
  | syncWindowEnd (lane : Nat) (currents unblanked : List Nat)
  /-- CAPTURE_ARM (R272). -/
  | captureArm (k : Nat)
  /-- CAPTURE_ABORT (R272). -/
  | captureAbort (k : Nat)
  /-- CAPTURE_SAMPLE (R273); `mean` is in microamperes. -/
  | captureSample (mean : Nat) (blanked limited : Bool)
  /-- Q7_READ_INDEX_WRITE (R273). -/
  | q7ReadIndexWrite (k value : Nat)
  /-- FAULT_ERROR_ACCEPT_S (R289). -/
  | faultErrorAcceptS (source kind origin address : Nat)
  /-- FAULT_ERROR_ACCEPT_D (R290). -/
  | faultErrorAcceptD (source kind origin address : Nat)
  /-- FAULT_STATE0_ACCEPT (R289). -/
  | faultState0Accept (source : Nat)
  /-- GRACE_EXPIRY (R297). -/
  | graceExpiry (source : Nat)
  /-- ESCALATION_STEP (R297). -/
  | escalationStep (source : Nat)
  /-- CLEAR_SOURCE (R303). -/
  | clearSource (k source : Nat)
  /-- CLEAR_ALL (R304). -/
  | clearAll (k : Nat)
  /-- RECORD_CLEAR (R305). -/
  | recordClear (k : Nat)
  /-- ACKNOWLEDGE_SOURCE (R306). -/
  | acknowledgeSource (k source : Nat)
  /-- ESCALATION_CEILING_WRITE (R301). -/
  | escalationCeilingWrite (k source value : Nat)
  /-- FACTORY_TEST_KEY (R308). -/
  | factoryTestKey (k value : Nat) (testHigh : Bool)
  /-- FAULT_INJECT (R309). -/
  | faultInject (k word : Nat)
  /-- GROUP_D_FORCE_WRITE (R310). -/
  | groupDForceWrite (k value : Nat)
  /-- TIME_SET (R317). -/
  | timeSet (k seconds nanos : Nat)
  /-- STEP_ADJUST (R317). -/
  | stepAdjust (k : Nat) (ns : Int)
  /-- INCREMENT_WRITE (R324). -/
  | incrementWrite (k value : Nat)
  /-- SERVO_OWNER_TAKE (R324). -/
  | servoOwnerTake (k : Nat)
  /-- SERVO_OWNER_RETURN (R324). -/
  | servoOwnerReturn (k : Nat)
  /-- GPTP_SYNC_RX (R323). -/
  | gptpSyncRx (n origin interval : Nat)
  /-- SECOND_DOMAIN_SAMPLE (R327). -/
  | secondDomainSample (n origin interval : Nat)
  /-- GPTP_ANNOUNCE_RX (R326). -/
  | gptpAnnounceRx (n : Nat) (second : Bool) (vector steps : Nat)
  /-- GPTP_PDELAY_EXCHANGE (R328). -/
  | gptpPdelayExchange (n responders delay : Nat)
  /-- ANNOUNCE_RECEIPT_TIMEOUT (R334). -/
  | announceReceiptTimeout (second : Bool)
  /-- PPS_MODE_WRITE (R340). -/
  | ppsModeWrite (k value : Nat)
  /-- PPS_EDGE_CAPTURE (R341). -/
  | ppsEdgeCapture (low : Nat)
  /-- QUEUE_PRODUCER_WRITE (R367). -/
  | queueProducerWrite (k queue value : Nat)
  /-- TRANSMIT_OPPORTUNITY (R365). -/
  | transmitOpportunity (n id : Nat)
  /-- TRANSMIT_ABORT (R358). -/
  | transmitAbort (n : Nat)
  /-- FRAME_TRANSMIT_END (R348). -/
  | frameTransmitEnd (n : Nat)
  /-- BEACON_LOST (R357). -/
  | beaconLost (n : Nat)
  /-- FRAME_INGRESS (R361). -/
  | frameIngress (n : Nat) (frame : List Byte) (lineError : Bool)
  /-- LEARN_ENTRY_AGE_OUT (R363). -/
  | learnEntryAgeOut (mac : Nat)
  /-- QUEUE_CONSUMER_WRITE (R367). -/
  | queueConsumerWrite (k queue value : Nat)
  /-- OVERFLOW_FLAG_CLEAR (R383). -/
  | overflowFlagClear (k queue : Nat)
  /-- PORT_ENABLE (R355). -/
  | portEnable (k n : Nat)
  /-- PORT_DISABLE (R355). -/
  | portDisable (k n : Nat)
  /-- PLCA_SETTING_WRITE (R356). -/
  | plcaSettingWrite (k n sub value : Nat)
  /-- SPI_WRITE_Q0 (R392). -/
  | spiWriteQ0 (sck : Bool) (data : List Byte)
  /-- SPI_READ_Q1 (R392). -/
  | spiReadQ1 (sck : Bool) (clocked : Nat)
  /-- REQUEST_DISCARD (R394). -/
  | requestDiscard (via : Transport)
  /-- DISCOVER (R389). -/
  | discover (via : Transport)
  /-- OPEN (R395). -/
  | openSession (via : Transport)
  /-- CONFIRM (R396). -/
  | confirm (via : Transport)
  /-- CLOSE (R403). -/
  | close (via : Transport)
  /-- KEEPALIVE (R403). -/
  | keepalive (via : Transport)
  /-- PROVISION (R401). -/
  | provision (via : Transport)
  /-- READ (R407). -/
  | read (via : Transport)
  /-- WRITE (R407). -/
  | write (via : Transport)
  /-- SEGMENT_READ (R408). -/
  | segmentRead (via : Transport)
  /-- SEGMENT_WRITE (R409). -/
  | segmentWrite (via : Transport)
  /-- QUEUE_READ (R410). -/
  | queueRead (via : Transport)
  /-- QUEUE_WRITE (R410). -/
  | queueWrite (via : Transport)
  /-- BUFFER_READ (R410). -/
  | bufferRead (via : Transport)
  /-- BUFFER_WRITE (R410). -/
  | bufferWrite (via : Transport)
  /-- CONFIRM_TIMEOUT (R396). -/
  | confirmTimeout (n : Nat)
  /-- SESSION_RECLAIM (R403). -/
  | sessionReclaim (n : Nat)
  /-- SEGMENT_TIMEOUT (R409). -/
  | segmentTimeout (n : Nat)
  /-- SESSION_CLOSE_OBJECT (R397). -/
  | sessionCloseObject (k n : Nat)
  /-- KEY_WRITE (R401). -/
  | keyWrite (k : Nat) (role : Role) (key : List Byte)
  /-- TRANSPORT_CONFIG_WRITE (R404). -/
  | transportConfigWrite (k sub : Nat) (value : List Byte)
  /-- TEAM_ENABLE (R438). -/
  | teamEnable (k : Nat)
  /-- TEAM_DISABLE (R449). -/
  | teamDisable (k : Nat)
  /-- MEMBER_TIMEOUT (R444). -/
  | memberTimeout (m : Nat)
  /-- AWAY_TIMEOUT (R450). -/
  | awayTimeout (m : Nat)
  /-- SAVE_REQUEST (R472). -/
  | saveRequest (k : Nat)
  /-- STORE_WRITE_COMPLETE (R473). -/
  | storeWriteComplete (verified : Bool)
  /-- JOURNAL_CLEAR (R479). -/
  | journalClear (k : Nat)
  /-- JOURNAL_CURSOR_WRITE (R436). -/
  | journalCursorWrite (k value : Nat)
  /-- PATCH_VERIFY (R483). -/
  | patchVerify (k : Nat)
  /-- PATCH_ERASE (R483). -/
  | patchErase (k : Nat)
  /-- PATCH_ACTIVATE (R484). -/
  | patchActivate (k : Nat)
  /-- PATCH_REVERT (R484). -/
  | patchRevert (k : Nat)
  /-- BANK_ISOLATE (R489). -/
  | bankIsolate (k b : Nat)
  /-- BANK_RESET_REQUEST (R490). -/
  | bankResetRequest (k b : Nat)
  /-- BANK_RETRIM (R491). -/
  | bankRetrim (k b : Nat)
  /-- RETRIM_COMPLETE (R491). -/
  | retrimComplete (b : Nat) (within : Bool)
  /-- BANK_RETIRE (R492). -/
  | bankRetire (k b : Nat)
  /-- BANK_RETURN_TO_SERVICE (R492). -/
  | bankReturnToService (k b : Nat)
  /-- CHANNEL_RETIRE_WRITE (R434). -/
  | channelRetireWrite (k ch value : Nat)
  /-- MIGRATION_START (R493). -/
  | migrationStart (k : Nat)
  /-- REGISTER_WRITE (R41). -/
  | registerWrite (k idx sub : Nat) (value : List Byte)
  /-- OVERLOAD_LIMITING_ENTER (R165). -/
  | overloadLimitingEnter (ch mv risen ma : Nat)
  /-- CURRENT_LIMITING_LEAVE (R165). -/
  | currentLimitingLeave (ch : Nat)
  /-- SENSE_STARVED_CLEAR (R108). -/
  | senseStarvedClear (ch interval : Nat)
  /-- TURN_OFF_EDGE_END (R180). -/
  | turnOffEdgeEnd (ch : Nat)
  /-- BEACON_SEEN (R357). -/
  | beaconSeen (n : Nat)
  /-- GPTP_SYNC_SEND (R329). -/
  | gptpSyncSend (n : Nat) (second : Bool)
  /-- GPTP_ANNOUNCE_SEND (R329). -/
  | gptpAnnounceSend (n : Nat)
  /-- RECEIVE_ERROR_RATE_CLEAR (R360). -/
  | receiveErrorRateClear (n : Nat)
  /-- SENSOR_CIRCUIT_FAULT (R204). -/
  | sensorCircuitFault (b sensor : Nat) (temp : Int) (circuit : Bool)
  /-- VIO_ABSENT (R97). -/
  | vioAbsent (mv held : Nat)
  /-- VPHY_ABSENT (R97). -/
  | vphyAbsent (mv held : Nat)
  /-- CALIBRATION_END (R79). -/
  | calibrationEnd
  /-- REFERENCE_CLOCK_LOSS (R80). -/
  | referenceClockLoss (silent : Nat)
  /-- REFERENCE_CLOCK_RESTORED (R80). -/
  | referenceClockRestored (running : Nat)
  /-- RUNTIME_WATCHDOG_EXPIRY (R82). -/
  | runtimeWatchdogExpiry (silent : Nat)
  /-- DICTIONARY_READY (R89). -/
  | dictionaryReady
  /-- LAP_BOUNDARY_APPLY (R263). -/
  | lapBoundaryApply
  /-- CHGPERM_LOW (R220). -/
  | chgpermLow
  /-- WATCHDOG_LATE_MISS (R241). -/
  | watchdogLateMiss
  /-- ARM_DEADLINE_EXPIRY (R243). -/
  | armDeadlineExpiry
  /-- VOTED_CROSSING (R250). -/
  | votedCrossing
  /-- LAP_ORIGIN (R260). -/
  | lapOrigin
  /-- MISSING_CROSSING (R256). -/
  | missingCrossing
  /-- CAPTURE_START (R272). -/
  | captureStart
  /-- ERRN_PULSE_END (R292). -/
  | errnPulseEnd
  /-- STEP_CONFIRM_TIMEOUT (R298). -/
  | stepConfirmTimeout
  /-- FACTORY_TEST_EXIT (R308). -/
  | factoryTestExit
  /-- HOST_SERVO_TIMEOUT (R325). -/
  | hostServoTimeout
  /-- SYNC_RECEIPT_TIMEOUT (R334). -/
  | syncReceiptTimeout (second : Bool)
  /-- HOLDOVER_LIMIT (R335). -/
  | holdoverLimit
  /-- PPS_MISSING (R341). -/
  | ppsMissing
  /-- PPS_OUTPUT_RISE (R340). -/
  | ppsOutputRise
  /-- PPS_OUTPUT_FALL (R340). -/
  | ppsOutputFall
  /-- Q3_LAUNCH_ELIGIBLE (R346). -/
  | q3LaunchEligible
  /-- MEDIUM_WAIT_TIMEOUT (R346). -/
  | mediumWaitTimeout
  /-- Q4_HANDOVER (R374). -/
  | q4Handover
  /-- Q5_CLASSIFY (R376). -/
  | q5Classify
  /-- SPI_STATUS (R392). -/
  | spiStatus (sck : Bool)
  /-- SPI_TRANSACTION_DISCARD (R392). -/
  | spiTransactionDiscard (sck : Bool)
  /-- RESPONSE_POST_RESUME (R393). -/
  | responsePostResume
  /-- ARP_REQUEST (R386). -/
  | arpRequest
  /-- ICMP_ECHO (R386). -/
  | icmpEcho
  /-- TEAM_STATUS_SEND (R443). -/
  | teamStatusSend
  /-- TEAM_STATUS_RX (R443). -/
  | teamStatusRx
  /-- TEAM_JOIN_RX (R448). -/
  | teamJoinRx
  /-- TEAM_JOIN_REPLY_RX (R448). -/
  | teamJoinReplyRx
  /-- TEAM_LEAVE_RX (R449). -/
  | teamLeaveRx
  /-- TEAM_PROPOSE_RX (R461). -/
  | teamProposeRx
  /-- TEAM_WITHDRAW_RX (R464). -/
  | teamWithdrawRx
  /-- TEAM_INTENT_RX (R462). -/
  | teamIntentRx
  /-- TEAM_COMMIT_RX (R462). -/
  | teamCommitRx
  /-- TEAM_CANCEL_RX (R464). -/
  | teamCancelRx
  /-- TEAM_REJECT_RX (R461). -/
  | teamRejectRx
  /-- FORMATION_WINDOW_END (R445). -/
  | formationWindowEnd
  /-- PACER_CLAIM_TIMEOUT (R445). -/
  | pacerClaimTimeout
  /-- JOIN_REPLY_TIMEOUT (R448). -/
  | joinReplyTimeout
  /-- JOIN_RETRY (R448). -/
  | joinRetry
  /-- PUBLICATION_TIME (R461). -/
  | publicationTime
  /-- COMMIT_SEND_TIME (R462). -/
  | commitSendTime
  /-- COMMIT_DEADLINE (R462). -/
  | commitDeadline
  /-- ENTRY_TARGET_REACHED (R458). -/
  | entryTargetReached
  /-- SAVE_DELAY_EXPIRY (R472). -/
  | saveDelayExpiry
  /-- JOURNAL_RECORD_WRITE (R475). -/
  | journalRecordWrite
  /-- RESTART_HOLD_ACK_TIMEOUT (R485). -/
  | restartHoldAckTimeout
  deriving DecidableEq, Repr

end Sys2Proof
end

