-- ==== Sys2Proof/Decode.lean ====
section
/-! DEFINITION. Decoding of table words: the table gives no row any bits, so no word spells a command. -/

namespace Sys2Proof

/-- The command a word of the table's bits spells: none, for commands reach the block as events, register writes and frames, and not as
words. -/
def decodeTableWord (_nbits _w : Nat) : Option Instr := none

end Sys2Proof
end

