-- ==== Sys2Proof/Machine/BankState.lean ====
section
/-! DEFINITION. What one bank die holds: the bank-local store, the logic of its twelve channels, its
sensors, its fault messages and its link endpoint (chapters 01 to 08 of the spec).
Voltages are in mV, currents in mA unless a name says otherwise, temperatures in 0.1 degrees,
times in ns from the model's clock. -/

namespace Sys2Proof.Machine

/-- A stopwatch that can be stopped and resumed: the time it has gathered, and since when it runs. -/
structure Timer where
  acc   : Nat := 0
  since : Option Nat := none
  deriving DecidableEq, Repr, Inhabited

/-- Pattern entries of a channel (R225); factory value OFF. -/
structure PatternCfg where
  failSafe : Drive := .off
  glide    : Drive := .off
  deriving DecidableEq, Repr, Inhabited

/-- Input route, slew and sense range of a channel (R109, R101, R106). -/
structure IoCfg where
  route    : Option Nat := none
  inverted : Bool := false
  filter   : Nat := 1
  slew     : Nat := 1
  led      : Bool := false
  deriving DecidableEq, Repr, Inhabited

/-- Load group values of a channel, with the resolved step table (R133, R144, R145, R146):
steps are pairs of a limit in mA and a duration in units of 100 microseconds; the re-arm time is in microseconds. -/
structure LoadCfg where
  loadType   : Nat := 0
  selection  : Nat := 0xFE
  steps      : List (Nat × Nat) := []
  rearm      : Nat := 0
  rampRate   : Nat := 1000
  rampTarget : Nat := 1000
  rampHold   : Nat := 500000
  deriving DecidableEq, Repr, Inhabited

/-- Protection values of a channel (R193, Table 06-7) and the number of channels of its lane (R186). -/
structure ProtCfg where
  steady      : Nat := 600
  adjusted    : Bool := false
  retries     : Nat := 3
  backoffBase : Nat := 50000
  doubling    : Bool := true
  retrySprint : Bool := true
  healthy     : Nat := 1000
  lockAt      : Nat := 3
  budget      : Nat := 30
  openStd     : Nat := 0
  openLed     : Nat := 0
  openFilter  : Nat := 10
  offCheck    : Bool := false
  wireI       : Nat := 0
  wireTau     : Nat := 60000
  wireRise    : Nat := 400
  share       : Nat := 1
  deriving DecidableEq, Repr, Inhabited

/-- The bank-local store entry of one channel: what survives a bank reset and a loss of VSUPx (Table 03-3). -/
structure ChanCfg where
  pattern   : PatternCfg := {}
  io        : IoCfg := {}
  load      : LoadCfg := {}
  prot      : ProtCfg := {}
  warnLevel : Int := 1500
  senseSync : Bool := false
  retired   : Bool := false
  lockClamp : Bool := false
  lockLatch : Bool := false
  deriving DecidableEq, Repr, Inhabited

/-- Switching state of a channel: its normal-operation state (R131), its fail-safe cause bits (R228),
whether it is on, its last edges and its blanking (R103, R114). -/
structure ChanIo where
  normal         : Drive := .off
  c              : Bool := false
  w              : Bool := false
  x              : Bool := false
  on             : Bool := false
  offSince       : Option Nat := none
  demandOffSince : Option Nat := some 0
  edgeAt         : Nat := 0
  edgeRate       : Nat := 0
  blankUntil     : Nat := 0
  turningOff     : Bool := false
  deriving DecidableEq, Repr, Inhabited

/-- The sprint window of a channel (R135 to R140) and its freeze by a bank disturbance (R155).
step 0 is no window; steps 1 to 8 run, or stand suspended. `timer` counts from the start of the window (R137). -/
structure ChanWindow where
  step        : Nat := 0
  suspended   : Bool := false
  table       : List (Nat × Nat) := []
  timer       : Timer := {}
  frozen      : Bool := false
  freezeTotal : Timer := {}
  freezeRun   : Timer := {}
  freezeSpent : Bool := false
  started     : Word32 := 0
  deriving DecidableEq, Repr, Inhabited

/-- The regulated ramp of a capacitive channel (R146 to R153): the reference in nV, so that a rate in
mV per ms moves it by whole units per ns. -/
structure ChanRamp where
  regulating : Bool := false
  followsLane : Bool := true
  target     : Nat := 0
  reference  : Nat := 0
  movingFrom : Option Nat := none
  holdTimer  : Option Nat := none
  stallFrom  : Option Nat := none
  freeFrom   : Option Nat := none
  stalled    : Bool := false
  aboveRef   : Bool := false
  expired    : Bool := false
  complete   : Bool := false
  zeroOff    : Bool := false
  deriving DecidableEq, Repr, Inhabited

/-- Current limiting, trips, back-off and latch-off of a channel (R165 to R176). `shorted` marks a channel whose short began or
extended the disturbance that stands (R155; DEDUCED, log 101). -/
structure ChanTrip where
  overload   : Bool := false
  shortCct   : Bool := false
  shorted    : Bool := false
  olTimer    : Timer := {}
  scTimer    : Timer := {}
  olGone     : Option Nat := none
  scGone     : Option Nat := none
  backoff    : Option Nat := none
  wireHold   : Bool := false
  retryDue   : Bool := false
  retryCount : Nat := 0
  latchedAt  : Option Nat := none
  latchCount : Nat := 0
  healthyT   : Timer := {}
  latchT     : Timer := {}
  trips      : Word32 := 0
  deriving DecidableEq, Repr, Inhabited

/-- Clamp integrator (R179) in whole microjoules with its fractional part in millionths, and its totals; `event` is the energy of the
event in progress in millionths, and `reached` says that E has reached the budget in it (R180). -/
structure ChanClamp where
  energy   : Nat := 0
  frac     : Nat := 0
  event    : Nat := 0
  reached  : Bool := false
  total    : Nat := 0
  totalFrac : Nat := 0
  events   : Word32 := 0
  deriving DecidableEq, Repr, Inhabited

/-- Open-load detection (R183, R185), offset tracking (R190, R191) and the wire model (R186) of a channel. -/
structure ChanSense where
  openOn       : Bool := false
  openOff      : Bool := false
  sourceOn     : Bool := false
  offsetStd    : Int := 0
  offsetLed    : Int := 0
  offsetAtStd  : Nat := 0
  offsetAtLed  : Nat := 0
  crossAt      : Nat := 0
  crossWait    : Nat := 100000000
  zeroAt       : Nat := 0
  stale        : Bool := false
  wireRise     : Rat := 0
  current      : Nat := 0
  fullScale    : Bool := false
  rangeBlank   : Nat := 0
  starved      : Bool := false
  output       : Nat := 0
  deriving DecidableEq, Repr, Inhabited

/-- Thermal shutdown, its latch, the warning and the shed holds of a channel (R206 to R211). -/
structure ChanThermal where
  warned    : Bool := false
  shutdown  : Bool := false
  latchedAt : Option Nat := none
  streak    : Nat := 0
  streakT   : Timer := {}
  shutdowns : Word32 := 0
  shedBy    : BitVec 4 := 0
  deriving DecidableEq, Repr, Inhabited

/-- The values a lane snapshot captures in a bank (R196). -/
structure ChanSnap where
  energy : Nat := 0
  rise   : Nat := 0
  total  : Nat := 0
  events : Word32 := 0
  trips  : Word32 := 0
  deriving DecidableEq, Repr, Inhabited

/-- One physical channel of a bank: its store entry and its logic. -/
structure Chan where
  cfg     : ChanCfg := {}
  io      : ChanIo := {}
  window  : ChanWindow := {}
  ramp    : ChanRamp := {}
  trip    : ChanTrip := {}
  clamp   : ChanClamp := {}
  sense   : ChanSense := {}
  thermal : ChanThermal := {}
  snap    : ChanSnap := {}
  deriving DecidableEq, Repr, Inhabited

/-- One temperature sensor (R199, R203): its reading, whether its circuit reports an open or short,
and its broken flag with the kind it was declared under (held in the store). -/
structure Sensor where
  reading : Int := 250
  circuit : Bool := false
  broken  : Option SensorFault := none
  deriving DecidableEq, Repr, Inhabited

/-- Thermal state of a bank (R210, Table 07-2). -/
inductive ThermalState where
  | normal
  | warning
  | shedding
  | tripped
  deriving DecidableEq, Repr, Inhabited

/-- A bank-originated cause of fail-safe, and the hub-originated ones (Table 08-5, objects 0x2031.06 to .09). -/
inductive FailSafeCause where
  | none
  | bankStart
  | holdExpiry
  | restartHoldExpiry
  | storeCheck
  | command
  | watchdog
  | escalation
  | glideExit
  deriving DecidableEq, Repr, Inhabited

/-- A fault message of Table 10-1, less its origin's reserved bits. -/
structure FaultMsg where
  source  : Nat
  kind    : Nat
  origin  : Nat
  address : Nat
  seq     : Nat
  error   : Bool
  deriving DecidableEq, Repr, Inhabited

/-- The bank's own state beside its channels: what the logic and the store of one bank hold. -/
structure BankCore where
  /-- The runtime version of the ROM, as it stands at each start of the bank (R139, R174). -/
  version      : Nat := 0x0302
  /-- VSUPx present and the bank's start-up complete. -/
  running      : Bool := false
  /-- In a bank reset, from its beginning to the end of Table 03-5 (R84). -/
  starting     : Bool := false
  supply       : Nat := 0
  overvoltage  : Bool := false
  inputValid   : Bool := false
  /-- Accepted level of each pin under each filter code, at 6 * pin + code (R111); none until accepted. -/
  inputs       : List (Option Bool) := List.replicate 96 none
  limpOwn      : LimpClass := .deasserted
  limpShared   : LimpClass := .deasserted
  /-- Candidates of the two LIMP lands and when the voltage first entered their band (R53). -/
  limpOwnNext    : Option (LimpClass × Nat) := none
  limpSharedNext : Option (LimpClass × Nat) := none
  escGlide     : Bool := false
  glideToSafe  : Bool := false
  holdTime     : Nat := 50
  holdFrom     : Option Nat := none
  restartHold  : Bool := false
  /-- The hold timer has run out and no valid downlink frame has arrived since. -/
  silent       : Bool := false
  holdExpired  : Bool := false
  lastCause    : FailSafeCause := .none
  storeFailed  : Bool := false
  isolated     : Bool := false
  disturbed    : Bool := false
  disturbedAt  : Nat := 0
  /-- Disturbances begun, and the position of the channel whose short began the last (R154, R156). -/
  disturbances : Nat := 0
  disturbedBy  : Nat := 0
  shortLeft    : Nat := 0
  thermal      : ThermalState := .normal
  warnAt       : Int := 1500
  shedAt       : Int := 1600
  coolFrom     : Option Nat := none
  trims        : List Int := List.replicate 28 0
  lastValidRx  : Option Nat := none
  startedAt    : Nat := 0
  snapCycle    : Nat := 0
  /-- Start of the last uplink frame. -/
  sentAt       : Nat := 0
  chans        : List Chan := List.replicate 12 {}
  sensors      : List Sensor := List.replicate 14 {}
  deriving DecidableEq, Repr, Inhabited

/-- A complete bank-local store, as the runtime writes it at a claim after a store check failure (R93). -/
structure StoreImage where
  holdTime    : Nat := 50
  glideToSafe : Bool := false
  warnAt      : Int := 1500
  shedAt      : Int := 1600
  trims       : List Int := List.replicate 28 0
  entries     : List ChanCfg := List.replicate 12 {}
  deriving DecidableEq, Repr, Inhabited

/-- A command the hub sends to a bank over its link. Positions p run from 0 to 11. -/
inductive BankCmd where
  | setNormal (p : Nat) (d : Drive)
  | setPattern (p : Nat) (v : PatternCfg)
  | setIo (p : Nat) (v : IoCfg)
  | setLoad (p : Nat) (v : LoadCfg)
  | setProt (p : Nat) (v : ProtCfg)
  | setWarn (p : Nat) (v : Int)
  | setSync (p : Nat) (v : Bool)
  | setRetired (p : Nat) (v : Bool)
  | setHoldTime (ms : Nat)
  | setGlideExit (toSafe : Bool)
  | setLevels (warn shed : Int)
  | setC (p : Nat) (v : Bool)
  | setW (p : Nat) (v : Bool)
  | setX (p : Nat) (v : Bool)
  /-- X becomes C (R232). -/
  | releaseX (p : Nat)
  /-- W becomes C on every channel of the bank (R232). -/
  | releaseW
  | setEscGlide (v : Bool)
  | unlock (p : Nat)
  | shed (p : Nat) (byBank : Nat) (v : Bool)
  | readmit (sensor : Nat)
  | snapshot (cycle : Nat)
  | setIsolated (v : Bool)
  | resetBank
  | retrim
  | fullStore (img : StoreImage)
  | setTrims (trims : List Int)
  /-- Cancellation of a resolved schedule of a lane (R268). -/
  | cancelSchedule (lane : Nat)
  deriving DecidableEq, Repr, Inhabited

/-- A bank command on its way: its number for the acknowledgement (R22), the lane it serves, the moment it is tagged for
(the origin of a bank link cycle under R128, or a schedule's target under R266, where `resolved` is true). -/
structure LinkCmd where
  id       : Nat
  lane     : Nat := 0
  tag      : Option Nat := none
  resolved : Bool := false
  cmd      : BankCmd
  deriving DecidableEq, Repr

/-- A downlink frame on the link of one bank (R20, R24, R283): the commands it carries, whether it carries the announced
restart hold, and the acknowledged sequence numbers of fault messages. -/
structure DownFrame where
  startAt : Nat
  cmds    : List LinkCmd
  hold    : Bool
  msgAcks : List Nat
  deriving DecidableEq, Repr

/-- An uplink frame (R20, R21, R283): acknowledgements, the bank's state as telemetry, up to two fault
messages, its count of discards, and the drops and executions of resolved schedules it reports (R266). -/
structure UpFrame where
  startAt  : Nat
  acks     : List Nat
  msgs     : List FaultMsg
  first    : Bool
  discards : Nat
  schedRan : List (Nat × Bool)
  core     : BankCore
  deriving DecidableEq, Repr, Inhabited

/-- One bank die with its link: its core, its unacknowledged fault messages (R283), commands waiting for a
tag, and the frames in flight in both directions.
`acksDue` are the commands acted on since the last uplink frame, `acked` those acted on before, `resetAck` the command that reset the bank, to be
acknowledged after its start; `schedRan` pairs a lane with
whether its resolved schedule acted (true) or was dropped (false), for the next uplink frame (R266). -/
structure Bank where
  core      : BankCore := {}
  msgs      : List FaultMsg := []
  nextSeq   : Nat := 0
  lostMsgs  : Nat := 0
  firstUp   : Bool := true
  acksDue   : List Nat := []
  acked     : List Nat := []
  resetAck  : List Nat := []
  discards  : Nat := 0
  tagged    : List LinkCmd := []
  schedRan  : List (Nat × Bool) := []
  detected  : Option Nat := none
  down      : Option DownFrame := none
  up        : Option UpFrame := none
  retrimming : Bool := false
  deriving DecidableEq, Repr, Inhabited

end Sys2Proof.Machine
end

