-- ==== Sys2Proof/Machine/BankOps.lean ====
section
/-! DEFINITION. The named operations over one bank: timers, switching, ramps, windows, disturbances, temperatures, fault
messages, and `BankCore.settle`, which brings every channel to the state its sources demand (R25). -/

namespace Sys2Proof.Machine

/-! ## Timers -/

/-- Time a timer has gathered by `now`. -/
def Timer.value (t : Timer) (now : Nat) : Nat :=
  match t.since with
  | none => t.acc
  | some s => t.acc + (now - s)

/-- Let a timer run on from `now`. -/
def Timer.start (t : Timer) (now : Nat) : Timer :=
  match t.since with
  | none => { t with since := some now }
  | some _ => t

/-- Stop a timer at `now`, keeping what it gathered. -/
def Timer.stop (t : Timer) (now : Nat) : Timer := { acc := t.value now, since := none }

/-- Set a timer back to 0, running on if it ran. -/
def Timer.restart (t : Timer) (now : Nat) : Timer :=
  { acc := 0, since := if t.since.isSome then some now else none }

/-- Has the moment `from_` passed at least `d` ago? False when it is absent. -/
def elapsed (from_ : Option Nat) (d now : Nat) : Bool :=
  match from_ with
  | none => false
  | some t => decide (t + d ≤ now)

/-- Lower end of a nominal time within `percent` per cent: the earliest moment the spec lets the event come. -/
def earliest (nominal percent : Nat) : Nat := nominal * (100 - percent) / 100

/-- Apply `f` to the element at position `i` of a list, if there is one. -/
def editAt {α : Type} : List α → Nat → (α → α) → List α
  | [], _, _ => []
  | a :: as, 0, f => f a :: as
  | a :: as, n + 1, f => a :: editAt as n f

/-- Apply `f` to every element together with its position, from `i` on. -/
def mapFrom {α β : Type} (f : Nat → α → β) : Nat → List α → List β
  | _, [] => []
  | i, a :: as => f i a :: mapFrom f (i + 1) as

/-- Nearest integer to n/d, halves away from zero (R15). -/
def roundDiv (n d : Nat) : Nat := (2 * n + d) / (2 * d)

/-! ## Class figures (Tables 04-1, 04-2, 06-1, 06-4, 06-6) -/

/-- Class of the channel at a position of its bank (R19). -/
def classAt (p : Nat) : ChClass := if p ≤ 1 then .h else if p ≤ 7 then .m else .l

/-- Class of OUTk (R19). -/
def classOf (k : Nat) : ChClass := classAt (k % 12)

/-- Slew rate in mV per microsecond (Table 04-2). -/
def slewRate (cl : ChClass) (code : Nat) : Nat :=
  2 ^ code * (match cl with | .h => 250 | .m => 500 | .l => 1000)

/-- t_settle in ns (R114). -/
def settleTime (cl : ChClass) : Nat := match cl with | .h => 20000 | .m => 10000 | .l => 5000

/-- t_slew in ns at a bank supply in mV (R101). -/
def slewTime (cl : ChClass) (code supply : Nat) : Nat := supply * 1000 / slewRate cl code

/-- t_blank in ns (R114). -/
def blankTime (cl : ChClass) (code supply : Nat) : Nat := slewTime cl code supply + settleTime cl

/-- Class range of the steady limit, in mA (Table 06-1). -/
def steadyMin (cl : ChClass) : Nat := match cl with | .h => 500 | .m => 100 | .l => 10
def steadyMax (cl : ChClass) : Nat := match cl with | .h => 40000 | .m => 12000 | .l => 3000
def steadyDefault (cl : ChClass) : Nat := match cl with | .h => 14400 | .m => 3600 | .l => 600

/-- Clamp budget range and default, in mJ (Table 06-4). -/
def budgetMax (cl : ChClass) : Nat := match cl with | .h => 800 | .m => 200 | .l => 30

/-- Trip times in ns and the detection threshold in mA (Table 06-1). -/
def tripShort (cl : ChClass) : Nat := match cl with | .h => 500000 | .m => 350000 | .l => 200000
def tripOver (cl : ChClass) : Nat := match cl with | .h => 10000000 | .m => 5000000 | .l => 2000000
def tripOverWindow (cl : ChClass) : Nat := match cl with | .h => 50000000 | .m => 20000000 | .l => 5000000
def detectAt (cl : ChClass) : Nat := match cl with | .h => 60000 | .m => 20000 | .l => 5000

/-- Decay shift of the clamp integrator (Table 06-4). -/
def decayShift (cl : ChClass) : Nat := match cl with | .h => 11 | .m => 10 | .l => 9

/-- Sense full scale in microamperes, in the standard range and in the LED range (Table 04-1, R107). -/
def fullScale (cl : ChClass) (led : Bool) : Nat :=
  if led then 20000 else match cl with | .h => 40000000 | .m => 12000000 | .l => 3000000

/-- Stale-offset band in microamperes (Table 06-6). -/
def staleBand (cl : ChClass) (led : Bool) : Nat :=
  if led then 200 else match cl with | .h => 400000 | .m => 120000 | .l => 30000

/-- Tolerance of the active limit in mA (Table 06-1). -/
def limitTolerance (cl : ChClass) (limit : Nat) : Nat :=
  match cl with | .h => limit * 6 / 100 + 200 | .m => limit * 6 / 100 + 60 | .l => limit * 8 / 100 + 5

/-- Filter time in ns of an input filter code (Table 04-3). -/
def filterTime (code : Nat) : Nat :=
  match code with | 0 => 0 | 1 => 1000 | 2 => 2000 | 3 => 5000 | 4 => 10000 | _ => 20000

/-! ## What drives a channel (R25) -/

/-- A channel's lock flag (R177). -/
def Chan.locked (ch : Chan) : Bool := ch.cfg.lockClamp || ch.cfg.lockLatch

/-- The bank's glide condition (R234). -/
def BankCore.glideOn (b : BankCore) : Bool :=
  decide (b.limpOwn = .asserted) || decide (b.limpShared = .asserted) || b.escGlide

/-- Is any fail-safe cause bit set on the channel (R228)? -/
def Chan.inFailSafe (ch : Chan) : Bool := ch.io.c || ch.io.w || ch.io.x

/-- Does protection hold the channel off: lock, back-off, wire model, latch-off, thermal shutdown or latch, shed hold,
expired ramp hold, bank trip (source 1 of Table 01-4)? -/
def BankCore.heldOff (b : BankCore) (ch : Chan) : Bool :=
  ch.locked || ch.trip.backoff.isSome || ch.trip.wireHold || ch.trip.latchedAt.isSome
    || ch.thermal.shutdown || ch.thermal.latchedAt.isSome || ch.thermal.shedBy != 0
    || ch.ramp.expired || decide (b.thermal = .tripped)

/-- The channel is current-limited (R165). -/
def Chan.limited (ch : Chan) : Bool := ch.trip.overload || ch.trip.shortCct

/-- The source in force at a channel, numbered as in Table 01-4. -/
def BankCore.sourceOf (b : BankCore) (ch : Chan) : Nat :=
  if b.heldOff ch || ch.limited then 1
  else if ch.cfg.retired || b.isolated then 2
  else if b.glideOn then 3
  else if ch.inFailSafe then 4
  else 5

/-- The pattern or lane state that governs a channel below protection; a bank whose store failed its check drives OFF in place
of both patterns (R85). -/
def BankCore.entryOf (b : BankCore) (ch : Chan) : Drive :=
  if ch.cfg.retired || b.isolated then .off
  else if b.glideOn then (if b.storeFailed then .off else ch.cfg.pattern.glide)
  else if ch.inFailSafe then (if b.storeFailed then .off else ch.cfg.pattern.failSafe)
  else ch.io.normal

/-- What the routed input demands of a channel in FOLLOW (R110): off while the input-valid line is deasserted, with no route,
or before the filter has accepted a level. -/
def BankCore.followOn (b : BankCore) (ch : Chan) : Bool :=
  match ch.cfg.io.route with
  | none => false
  | some pin =>
    !b.storeFailed && b.inputValid &&
      (match b.inputs.getD (6 * pin + ch.cfg.io.filter) none with
       | none => false
       | some v => v != ch.cfg.io.inverted)

/-- The state sources 2 to 5 demand of a channel. -/
def BankCore.demanded (b : BankCore) (ch : Chan) : Bool :=
  match b.entryOf ch with
  | .off => false
  | .on => true
  | .follow => b.followOn ch

/-- Is source 5 the one that demands (so the lane's ramp target applies, R147)? -/
def BankCore.normalRules (b : BankCore) (ch : Chan) : Bool :=
  !(ch.cfg.retired || b.isolated || b.glideOn || ch.inFailSafe)

/-! ## Ramp reference (R146 to R152) -/

/-- Target voltage in nV for a target in per mille and a supply in mV. -/
def rampVolts (target supply : Nat) : Nat := target * supply * 1000

/-- Reference of a ramp at `now`, in nV: it moves toward the target at the ramp rate and never passes it. -/
def ChanRamp.referenceAt (r : ChanRamp) (rate supply now : Nat) : Nat :=
  match r.movingFrom with
  | none => r.reference
  | some t =>
    let goal := rampVolts r.target supply
    let d := rate * (now - t)
    if r.reference ≤ goal then min goal (r.reference + d) else max goal (r.reference - d)

/-- Bring the stored reference up to `now`. -/
def Chan.rebaseRamp (ch : Chan) (supply now : Nat) : Chan :=
  { ch with ramp := { ch.ramp with
      reference := ch.ramp.referenceAt ch.cfg.load.rampRate supply now
      movingFrom := ch.ramp.movingFrom.map fun _ => now } }

/-- A bank disturbance stands that another channel's short began: the channel is one of Table 05-5 (R155). -/
def BankCore.disturbs (b : BankCore) (ch : Chan) : Bool := b.disturbed && !ch.trip.shorted

/-- The reference moves while the ramp regulates, is not limited and no bank disturbance holds it (R150, R155). In a hold it stands at the target voltage
and follows that with VSUPx (R146, R149). -/
def BankCore.rampMoves (b : BankCore) (ch : Chan) : Bool :=
  ch.io.on && ch.ramp.regulating && !ch.limited && !b.disturbs ch

/-- Set whether the reference moves from `now` on. -/
def BankCore.paceRamp (b : BankCore) (now : Nat) (ch : Chan) : Chan :=
  { ch with ramp := { ch.ramp with movingFrom := if b.rampMoves ch then some now else none } }

/-- Hold at an intermediate target (R149), or expire at once where the hold limit has already been reached. -/
def Chan.expireHold (ch : Chan) (now : Nat) : Chan :=
  if elapsed ch.ramp.holdTimer (ch.cfg.load.rampHold * 1000) now then
    { ch with ramp := { ch.ramp with expired := true, holdTimer := none } }
  else ch

/-- Begin the hold of R149 where the reference stands at a target above 0 and below 1000 per mille. -/
def Chan.beginHold (ch : Chan) (supply now : Nat) : Chan :=
  if ch.ramp.regulating && ch.ramp.holdTimer.isNone && decide (0 < ch.ramp.target) && decide (ch.ramp.target < 1000)
      && decide (ch.ramp.reference = rampVolts ch.ramp.target supply) then
    Chan.expireHold { ch with ramp := { ch.ramp with holdTimer := some now } } now
  else ch

/-- A new target for a ramp in progress or a completed one (R151, R152): the hold stops, and a completed ramp goes back into
regulation with its reference at VSUPx, stalled from the start where the channel is limited (R150). -/
def Chan.retarget (ch : Chan) (target supply now : Nat) : Chan :=
  if decide (target = ch.ramp.target) || !(ch.ramp.regulating || ch.ramp.complete) then ch
  else
    let r := ch.ramp
    let r := if r.complete then
        { r with complete := false, regulating := true, reference := rampVolts 1000 supply
                 stallFrom := if ch.limited then some now else none, freeFrom := none } else r
    let r := { r with target := target, holdTimer := none }
    let r := if decide (target = 1000) && decide (980 * supply * 1000 ≤ r.reference) && decide (980 * supply ≤ 1000 * ch.sense.output)
      then { r with regulating := false, complete := true, stallFrom := none, freeFrom := none, stalled := false, aboveRef := false } else r
    Chan.beginHold { ch with ramp := r } supply now

/-- The target rule of R147: source 5 makes the lane's target apply; a ramp started by a pattern keeps 1000. -/
def BankCore.rampRule (b : BankCore) (now : Nat) (ch : Chan) : Chan :=
  if ch.io.on && decide (ch.cfg.load.loadType = 5) then
    let ch := if b.normalRules ch then { ch with ramp := { ch.ramp with followsLane := true } } else ch
    ch.retarget (if ch.ramp.followsLane then ch.cfg.load.rampTarget else 1000) b.supply now
  else ch

/-! ## Sprint windows (R135 to R140) -/

/-- First step from `k` on (1-based) with a non-zero duration, 0 when there is none. -/
def firstStep : List (Nat × Nat) → Nat → Nat
  | [], _ => 0
  | (_, d) :: rest, k => if d = 0 then firstStep rest (k + 1) else k

/-- The step after `k` in a table, 0 at the end. -/
def nextStep (table : List (Nat × Nat)) (k : Nat) : Nat := firstStep (table.drop k) (k + 1)

/-- Nominal time in ns from the start of a window to the end of its step (R137), in units of 100 microseconds in the table. -/
def ChanWindow.due (w : ChanWindow) : Nat := 100000 * ((w.table.take w.step).map Prod.snd).sum

/-- A sprint window runs on the channel. -/
def ChanWindow.running (w : ChanWindow) : Bool := decide (w.step ≠ 0) && !w.suspended

/-- Start a new window from the resolved table (R136); no window when every step has duration 0. -/
def Chan.startWindow (ch : Chan) (now : Nat) : Chan :=
  let k := firstStep ch.cfg.load.steps 1
  if k = 0 then { ch with window := { ch.window with step := 0, suspended := false } }
  else { ch with window := { ch.window with
          step := k, suspended := false, table := ch.cfg.load.steps
          timer := { acc := 0, since := some now }
          frozen := false, freezeTotal := {}, freezeRun := {}, freezeSpent := false
          started := ch.window.started + 1 } }

/-- End the window, whether it runs or is suspended (R137, R140, R169). -/
def Chan.dropWindow (ch : Chan) (now : Nat) : Chan :=
  { ch with window := { ch.window with
      step := 0, suspended := false, frozen := false
      timer := {}, freezeTotal := ch.window.freezeTotal.stop now, freezeRun := {} } }

/-- Suspend a running window at a turn-off edge (R139); under Runtime 3.1 and earlier the edge ends it. -/
def Chan.suspendWindow (ch : Chan) (version now : Nat) : Chan :=
  if ch.window.running then
    if version < 0x0302 then ch.dropWindow now
    else { ch with window := { ch.window with
            suspended := true, frozen := false
            timer := ch.window.timer.stop now
            freezeTotal := ch.window.freezeTotal.stop now, freezeRun := {} } }
  else ch

/-- Resume a suspended window (R139). -/
def Chan.resumeWindow (ch : Chan) (now : Nat) : Chan :=
  { ch with window := { ch.window with suspended := false, timer := ch.window.timer.start now } }

/-- The window part of a turn-on edge: R136 and R139, or R174 for a retry. -/
def Chan.windowAtTurnOn (ch : Chan) (version now : Nat) : Chan :=
  if ch.trip.retryDue then
    if ch.cfg.prot.retrySprint && decide (0x0302 ≤ version) then ch.startWindow now else ch.dropWindow now
  else
    let offLong := match ch.io.offSince with
      | none => true
      | some t => decide (t + ch.cfg.load.rearm * 1000 ≤ now)
    if offLong then ch.startWindow now
    else if ch.window.suspended then ch.resumeWindow now
    else ch

/-- The active limit in mA (R162), at 75 % while the channel is derated (R204). -/
def Chan.activeLimit (ch : Chan) (derated : Bool) : Nat :=
  let l := if ch.window.running then ((ch.window.table.drop (ch.window.step - 1)).head?.map Prod.fst).getD 0
           else ch.cfg.prot.steady
  if derated then roundDiv (3 * l) 4 else l

/-! ## Temperatures (R201 to R205) -/

/-- Condition 3 of R202: out of range, or the sensing circuit reports an open or short. -/
def Sensor.condition3 (s : Sensor) : Bool := s.circuit || decide (s.reading < -550) || decide (2000 < s.reading)

/-- A sensor no comparison may use as it reads: broken, or under condition 3 (R204). -/
def Sensor.unusable (s : Sensor) : Bool := s.broken.isSome || s.condition3

/-- Sensors disagree and are declared one by one (R203); with every one broken the bank has no bank temperature (R201). -/
def BankCore.allBroken (b : BankCore) : Bool := b.sensors.all fun s => s.broken.isSome

/-- Sensor s of a bank. -/
def BankCore.sensor (b : BankCore) (s : Nat) : Sensor := b.sensors.getD s {}

/-- Highest of a list of readings, none for an empty list. -/
def highest : List Int → Option Int
  | [] => none
  | a :: as => match highest as with
    | none => some a
    | some m => some (max a m)

/-- Insert a reading into an ordered list. -/
def insertOrdered (a : Int) : List Int → List Int
  | [] => [a]
  | b :: bs => if a ≤ b then a :: b :: bs else b :: insertOrdered a bs

/-- Median of a list of readings: the middle one of the ordered list, or of an even number half the sum of the two middle ones, rounded down
(DESIGN CHOICE, log 81: no rule says how). -/
def median (l : List Int) : Option Int :=
  let o := l.foldr insertOrdered []
  match o.length with
  | 0 => none
  | n => if n % 2 = 1 then o[n / 2]? else
      match o[n / 2 - 1]?, o[n / 2]? with
      | some a, some b => some ((a + b) / 2)
      | _, _ => none

/-- The sensors beside position p: p - 1 and p + 1, or a reference sensor at either end (Table 07-1). -/
def neighbours (p : Nat) : Nat × Nat := (if p = 0 then 12 else p - 1, if p = 11 then 13 else p + 1)

/-- Reading of the sensor at position p, or its substitute from its neighbours (R204); none where both of them are unusable too. -/
def BankCore.nearTemp (b : BankCore) (p : Nat) : Option Int :=
  let s := b.sensor p
  if !s.unusable then some s.reading
  else
    let lo := b.sensor (neighbours p).1
    let hi := b.sensor (neighbours p).2
    match lo.unusable, hi.unusable with
    | false, false => some (max lo.reading hi.reading + 100)
    | false, true => some (lo.reading + 100)
    | true, false => some (hi.reading + 100)
    | true, true => none

/-- What the channel sensors of a bank that are not broken read, or their substitutes (R204). -/
def BankCore.soundTemps (b : BankCore) (f : Nat → Option Int) : List Int :=
  ((List.range 12).filter fun p => (b.sensor p).broken.isNone).filterMap f

/-- The bank temperature (R201): the higher reference reading; with both reference sensors broken the highest of the channel sensors that are not
broken. A reference sensor that is under condition 3 and not broken is replaced as R204 says: by the other one, or by the median of those channel
sensors. -/
def BankCore.temperature (b : BankCore) : Option Int :=
  let r1 := b.sensor 12
  let r2 := b.sensor 13
  match r1.unusable, r2.unusable with
  | false, false => some (max r1.reading r2.reading)
  | false, true => some r1.reading
  | true, false => some r2.reading
  | true, true => if r1.broken.isSome && r2.broken.isSome then highest (b.soundTemps b.nearTemp) else median (b.soundTemps b.nearTemp)

/-- Reading or substitute of the sensor at position p (R204): 20.0 K above the bank temperature where both neighbours are unusable; none where the bank has
none. -/
def BankCore.channelTemp (b : BankCore) (p : Nat) : Option Int :=
  match b.nearTemp p with
  | some t => some t
  | none => b.temperature.map (· + 200)

/-- A channel is derated while its sensor is broken (R204). -/
def BankCore.derated (b : BankCore) (p : Nat) : Bool := (b.sensor p).broken.isSome

/-- Note since when the bank temperature has stood below T_w - 5.0 K; a running bank whose sensors are all broken is tripped (R201). -/
def BankCore.noteCool (b : BankCore) (now : Nat) : BankCore :=
  { b with
    thermal := if b.running && b.allBroken then .tripped else b.thermal
    coolFrom := match b.temperature with
      | some t => if t < b.warnAt - 50 then some (b.coolFrom.getD now) else none
      | none => none }

/-! ## Edges -/

/-- A turn-on edge of the channel at position p: blanking (R114), the window (R136, R139, R174), the ramp (R146 to R148), the
off-state source (R185) and the on-time timers (R176, R209). -/
def BankCore.turnOn (b : BankCore) (now p : Nat) (ch : Chan) : Chan :=
  let ch := ch.windowAtTurnOn b.version now
  let trip := { ch.trip with
    retryCount := if ch.trip.retryDue then ch.trip.retryCount + 1 else ch.trip.retryCount
    retryDue := false
    healthyT := ch.trip.healthyT.start now
    latchT := ch.trip.latchT.start now }
  let io := { ch.io with
    on := true, offSince := none, edgeAt := now, edgeRate := slewRate (classAt p) ch.cfg.io.slew
    blankUntil := now + blankTime (classAt p) ch.cfg.io.slew b.supply }
  let lane := b.normalRules ch
  let target := if lane then ch.cfg.load.rampTarget else 1000
  let ramp :=
    if ch.cfg.load.loadType = 5 then
      if decide (target = 1000) && decide (980 * b.supply ≤ 1000 * ch.sense.output) then
        { ch.ramp with regulating := false, complete := true, followsLane := lane, target := 1000, zeroOff := false }
      else
        { ch.ramp with regulating := true, complete := false, followsLane := lane, target := target
                       reference := ch.sense.output * 1000000, holdTimer := none, zeroOff := false }
    else { ch.ramp with regulating := false, complete := false, zeroOff := false }
  let sense := { ch.sense with openOff := false, sourceOn := false, crossAt := now, crossWait := 100000000 }
  let thermal := { ch.thermal with streakT := ch.thermal.streakT.start now }
  Chan.beginHold { ch with io := io, trip := trip, ramp := ramp, sense := sense, thermal := thermal } b.supply now

/-- A turn-off edge of the channel at position p, at the slew rate given (0 where it is not slew-controlled): blanking (R114), a
running window suspends (R139), a ramp is abandoned (R151), limiting ends and the on-time timers stop. -/
def BankCore.turnOff (b : BankCore) (now p rate : Nat) (ch : Chan) : Chan :=
  let ch := ch.suspendWindow b.version now
  { ch with
    io := { ch.io with
      on := false, offSince := some now, edgeAt := now, edgeRate := rate, turningOff := true
      blankUntil := now + blankTime (classAt p) ch.cfg.io.slew b.supply }
    trip := { ch.trip with
      overload := false, shortCct := false
      olTimer := ch.trip.olTimer.stop now, scTimer := ch.trip.scTimer.stop now
      olGone := if ch.limited then some now else ch.trip.olGone
      scGone := if ch.trip.shortCct then some now else ch.trip.scGone
      healthyT := ch.trip.healthyT.stop now, latchT := ch.trip.latchT.stop now }
    ramp := { ch.ramp with
      regulating := false, complete := false, movingFrom := none, holdTimer := none
      stallFrom := none, freeFrom := none, stalled := false, aboveRef := false }
    thermal := { ch.thermal with streakT := ch.thermal.streakT.stop now } }

/-- Would a turn-on find a ramp target of 0 at an output of 0 V, or follow a turn-off at target 0 (R151)? Such a channel stays off. -/
def BankCore.staysAtZero (b : BankCore) (ch : Chan) : Bool :=
  decide (ch.cfg.load.loadType = 5) && b.normalRules ch && decide (ch.cfg.load.rampTarget = 0)
    && (ch.ramp.zeroOff || decide (ch.sense.output = 0))

/-- The edge, or the new ramp target, that the sources of a channel call for (R25, R147), and since when its demand has been off (R175). -/
def BankCore.drive (b : BankCore) (now p : Nat) (ch : Chan) : Chan :=
  let want := b.running && b.demanded ch
  let ch := { ch with
    io := { ch.io with demandOffSince := if want then none else some (ch.io.demandOffSince.getD now) }
    ramp := { ch.ramp with zeroOff := want && ch.ramp.zeroOff } }
  if want && !b.heldOff ch then
    if ch.io.on then b.rampRule now ch
    else if b.staysAtZero ch then { ch with ramp := { ch.ramp with zeroOff := true } }
    else b.turnOn now p ch
  else if ch.io.on then
    b.turnOff now p (slewRate (classAt p) (if b.heldOff ch then 3 else ch.cfg.io.slew)) ch
  else ch

/-- A channel whose ramp hold limit is 0 switches off at the moment its hold begins (R149). -/
def BankCore.endHold (b : BankCore) (now p : Nat) (ch : Chan) : Chan :=
  if ch.io.on && ch.ramp.expired then b.turnOff now p (slewRate (classAt p) 3) ch else ch

/-- Bring one channel to the state its sources demand. -/
def BankCore.settleChan (b : BankCore) (now p : Nat) (ch : Chan) : Chan := b.endHold now p (b.drive now p ch)

/-! ## Disturbances (R154, R155) -/

/-- Should the sprint window of a channel stand still: a disturbance stands, the channel is not the shorted one, and neither the
2 ms nor the 10 ms limit is reached? -/
def BankCore.freezes (b : BankCore) (ch : Chan) : Bool :=
  b.disturbs ch && ch.io.on && ch.window.running && !ch.window.freezeSpent

/-- Freeze or unfreeze a window as `freezes` says. -/
def BankCore.freezeChan (b : BankCore) (now : Nat) (ch : Chan) : Chan :=
  let w := ch.window
  if b.freezes ch then
    if w.frozen then ch
    else { ch with window := { w with
            frozen := true, timer := w.timer.stop now
            freezeTotal := w.freezeTotal.start now, freezeRun := { acc := 0, since := some now } } }
  else if w.frozen then
    { ch with window := { w with
        frozen := false
        timer := if w.running && ch.io.on then w.timer.start now else w.timer
        freezeTotal := w.freezeTotal.stop now, freezeRun := {} } }
  else ch

/-- The short of the channel at position p begins a disturbance, or extends the one in progress (R154). -/
def BankCore.beginDisturbance (b : BankCore) (now p : Nat) : BankCore :=
  { b with disturbed := true, shortLeft := now, disturbances := if b.disturbed then b.disturbances else b.disturbances + 1
           disturbedAt := if b.disturbed then b.disturbedAt else now
           disturbedBy := if b.disturbed then b.disturbedBy else p
           chans := editAt b.chans p fun ch => { ch with trip := { ch.trip with shorted := true } } }

/-- Some channel of the bank is in short-circuit limiting. -/
def BankCore.anyShort (b : BankCore) : Bool := b.chans.any fun ch => ch.trip.shortCct

/-- End a disturbance: samples and open-load detection of the other channels stay suspended for t_settle, the freeze of this disturbance is over. -/
def BankCore.endDisturbance (b : BankCore) (now : Nat) : BankCore :=
  { b with
    disturbed := false, shortLeft := now
    chans := mapFrom (fun p ch =>
      { ch with
        io := { ch.io with blankUntil := if ch.trip.shorted then ch.io.blankUntil else max ch.io.blankUntil (now + settleTime (classAt p)) }
        trip := { ch.trip with shorted := false }
        window := { ch.window with freezeSpent := decide (10000000 ≤ ch.window.freezeTotal.value now) } }) 0 b.chans }

/-! ## Settling a bank -/

/-- The whole bank after a change: the glide exit mode (R236), the bits that stand for expiry (R230), every channel's edges, since when no channel is in
short-circuit limiting (R154), and every channel's freeze and ramp. `before` is the bank before the change. -/
def BankCore.settle (before b : BankCore) (now : Nat) : BankCore :=
  let leaves := b.running && before.glideOn && !b.glideOn && b.glideToSafe
  let b := if leaves then
      { b with lastCause := .glideExit
               chans := b.chans.map fun ch => { ch with io := { ch.io with c := true } } }
    else b
  let b := { b with holdExpired := b.holdExpired && b.chans.any fun ch => ch.io.c }
  let b := { b with chans := mapFrom (fun p ch => b.settleChan now p ch) 0 b.chans }
  let b := { b with shortLeft := if before.anyShort && !b.anyShort then now else b.shortLeft }
  { b with chans := b.chans.map fun ch => b.paceRamp now (b.freezeChan now ch) }

/-- Bring every ramp reference up to `now` before a change. -/
def BankCore.rebase (b : BankCore) (now : Nat) : BankCore :=
  { b with chans := b.chans.map fun ch => ch.rebaseRamp b.supply now }

/-- Apply `f` to the channel at position p. -/
def BankCore.editChan (b : BankCore) (p : Nat) (f : Chan → Chan) : BankCore := { b with chans := editAt b.chans p f }

/-- The channel at position p. -/
def BankCore.chan (b : BankCore) (p : Nat) : Chan := b.chans.getD p {}

/-! ## Trips (R168 to R177) -/

/-- Number of a trip kind in its message (Table 10-4, i = 0). -/
def tripCode : TripKind → Nat
  | .shortCircuit => 1
  | .overload => 2
  | .detection => 3
  | .wire => 4

/-- Back-off in ns before retry k (R172). -/
def backoffTime (cfg : ProtCfg) (k : Nat) : Nat :=
  1000 * (if cfg.doubling then min 10000000 (cfg.backoffBase * 2 ^ (k - 1)) else cfg.backoffBase)

/-- The retry counter and the latch-off count as the on-time without a trip leaves them (R176). -/
def Chan.lapseCounts (ch : Chan) (now : Nat) : Chan :=
  { ch with trip := { ch.trip with
      retryCount := if ch.cfg.prot.healthy * 1000000 ≤ ch.trip.healthyT.value now then 0 else ch.trip.retryCount
      latchCount := if 600000000000 ≤ ch.trip.latchT.value now then 0 else ch.trip.latchCount } }

/-- A trip timer is set to 0 once its condition has been absent for 1 ms (R166). -/
def Chan.lapseTimers (ch : Chan) (now : Nat) : Chan :=
  let ch := if elapsed ch.trip.olGone 1000000 now then { ch with trip := { ch.trip with olTimer := {}, olGone := none } } else ch
  if elapsed ch.trip.scGone 1000000 now then { ch with trip := { ch.trip with scTimer := {}, scGone := none } } else ch

/-- A trip of the channel at position p: off, window discarded, counted, and back-off, latch-off or lock. -/
def BankCore.trip (b : BankCore) (now p : Nat) (kind : TripKind) (ch : Chan) : Chan :=
  let rate := if kind = .detection then 0 else slewRate (classAt p) 3
  let ch := ch.lapseCounts now
  let ch := (if ch.io.on then b.turnOff now p rate ch else ch).dropWindow now
  let spent := decide (ch.cfg.prot.retries ≤ ch.trip.retryCount)
  let latches := if spent then ch.trip.latchCount + 1 else ch.trip.latchCount
  { ch with
    cfg := { ch.cfg with
      lockLatch := ch.cfg.lockLatch || (spent && decide (ch.cfg.prot.lockAt ≠ 0) && decide (ch.cfg.prot.lockAt ≤ latches)) }
    trip := { ch.trip with
      trips := ch.trip.trips + 1
      wireHold := ch.trip.wireHold || decide (kind = .wire)
      retryDue := false
      latchedAt := if spent then some now else ch.trip.latchedAt
      latchCount := latches
      backoff := if spent then none else some (now + backoffTime ch.cfg.prot (ch.trip.retryCount + 1))
      healthyT := ch.trip.healthyT.restart now
      latchT := ch.trip.latchT.restart now } }

/-- The overload trip time in force: t_olw in a window or a regulated ramp (R166). -/
def Chan.overloadTime (ch : Chan) (p : Nat) : Nat :=
  if ch.window.running || ch.ramp.regulating then tripOverWindow (classAt p) else tripOver (classAt p)

/-- Does the overload timer stand at or beyond t_ol at the end of a window or ramp, with neither left (R166)? -/
def Chan.overdue (ch : Chan) (p now : Nat) : Bool :=
  ch.io.on && !ch.window.running && !ch.ramp.regulating && decide (tripOver (classAt p) ≤ ch.trip.olTimer.value now)

/-! ## Fault messages (R282 to R284) -/

/-- Post one message of the bank; the seventeenth unacknowledged one is discarded and counted (R283). -/
def Bank.post (b : Bank) (origin source kind address : Nat) (error : Bool) : Bank :=
  if b.msgs.length < 16 then
    { b with
      msgs := b.msgs ++ [{ source := source, kind := kind, origin := origin, address := address, seq := b.nextSeq, error := error }]
      nextSeq := (b.nextSeq + 1) % 128 }
  else { b with lostMsgs := b.lostMsgs + 1 }

/-- Number of a sensor fault in its message (Table 10-4, i = 4). -/
def sensorKind : SensorFault → Nat
  | .belowNeighbours => 1
  | .aboveNeighbours => 2
  | .outOfRange => 3
  | .reference => 4

/-- The level causes of one channel as (source index i, kind, stands) in Table 10-4's order. -/
def Chan.causes (ch : Chan) : List (Nat × Nat × Bool) :=
  [ (1, 1, ch.trip.latchedAt.isSome),
    (1, 2, ch.thermal.latchedAt.isSome),
    (2, 1, ch.cfg.lockClamp),
    (2, 2, ch.cfg.lockLatch),
    (3, 1, ch.thermal.warned),
    (3, 2, ch.thermal.shutdown),
    (6, 1, ch.ramp.expired),
    (11, 1, ch.sense.openOn),
    (11, 2, ch.sense.openOff),
    (11, 3, ch.sense.stale) ]

/-- The level causes of a bank as (i, kind, address) in order: channel causes with the physical channel as address, then sensors,
then the bank's own (Table 10-4). -/
def BankCore.causes (b : BankCore) (bank : Nat) : List (Nat × Nat × Nat) :=
  (mapFrom (fun p ch => (ch.causes.filter fun c => c.2.2).map fun c => (c.1, c.2.1, 12 * bank + p)) 0 b.chans).flatten
  ++ (mapFrom (fun i s => match s.broken with
        | some f => [(4, sensorKind f, i)]
        | none => []) 0 b.sensors).flatten
  ++ (if b.thermal = .tripped then [(5, 1, 0xFF)] else [])
  ++ (if b.limpOwn = .outOfWindow then [(10, 1, 0xFF)] else [])
  ++ (if b.limpShared = .outOfWindow then [(10, 2, 0xFF)] else [])
  ++ (if b.overvoltage then [(10, 3, 0xFF)] else [])

/-- Post the messages a change calls for: state 1 for each cause that has appeared, state 0 for each source none of whose causes
stands any more (R284). -/
def Bank.report (b : Bank) (bank : Nat) (before : BankCore) : Bank :=
  let old := before.causes bank
  let new := b.core.causes bank
  let b := (new.filter fun c => !old.contains c).foldl (fun b c => b.post bank (12 * bank + c.1) c.2.1 c.2.2 true) b
  ([1, 2, 3, 4, 5, 6, 10, 11].filter fun i => (old.any fun c => c.1 == i) && !(new.any fun c => c.1 == i)).foldl
    (fun b i => b.post bank (12 * bank + i) 1 0xFF false) b

/-- Positions, on before it, whose ramp has ended in a change, with the overload timer at or beyond t_ol: they trip at that moment (R166). -/
def BankCore.overruns (before after : BankCore) (now : Nat) : List Nat :=
  (List.range 12).filter fun p => (before.chan p).io.on && (before.chan p).ramp.regulating && (after.chan p).ramp.complete && (after.chan p).overdue p now

/-- One event of a bank: `f` changes the core, the bank settles, ramps that end too late trip, and the messages the change calls for are posted. -/
def Bank.act (b : Bank) (bank now : Nat) (f : BankCore → BankCore) : Bank :=
  let before := b.core.rebase now
  let after := BankCore.settle before (f before) now
  let late := before.overruns after now
  let last := if late.isEmpty then after
    else BankCore.settle after (late.foldl (fun c p => c.editChan p fun ch => c.trip now p .overload ch) after) now
  let b := { late.foldl (fun b p => b.post bank (12 * bank) 2 (12 * bank + p) true) b with core := last }
  b.report bank before

/-- As `act`, with event messages (i, kind, address) posted first. -/
def Bank.actWith (b : Bank) (bank now : Nat) (events : List (Nat × Nat × Nat)) (f : BankCore → BankCore) : Bank :=
  (events.foldl (fun b e => b.post bank (12 * bank + e.1) e.2.1 e.2.2 true) b).act bank now f

end Sys2Proof.Machine
end

