-- ==== Sys2Proof/Machine/BankEvents.lean ====
section
/-! DEFINITION. What each event does inside one bank: its start and loss, the commands it acts on, its frames and hold
timer, switching, ramps and windows, protection, open load and offsets, temperatures. Every function takes the bank's
number, the time and the bank, and leaves the bank as it is where the event cannot occur. -/

namespace Sys2Proof.Machine

/-! ## Start and loss (R84, R85, R182, R97) -/

/-- A channel at a bank start. `cold`: VSUPx was absent, so E and the wire model start at 50 % (R182). -/
def Chan.atStart (ch : Chan) (cold : Bool) (now : Nat) : Chan :=
  { cfg := ch.cfg
    io := { c := true, demandOffSince := some now, edgeAt := now, blankUntil := now }
    clamp := if cold then { energy := ch.cfg.prot.budget * 500 } else { energy := ch.clamp.energy, frac := ch.clamp.frac }
    sense := { offsetAtStd := now, offsetAtLed := now, zeroAt := now
               wireRise := if ch.cfg.prot.wireI = 0 then 0
                           else if cold then (ch.cfg.prot.wireRise : Rat) / 2 else ch.sense.wireRise } }

/-- Band of a LIMP land voltage: a classification, or none in a band that keeps the previous one (Table 02-8). The table puts 2.8 V and 6.0 V in two
bands each; at 2.8 V the previous classification is kept, at 6.0 V it is asserted (DESIGN CHOICE, log 80). -/
def limpBand (mv : Nat) : Option LimpClass :=
  if mv < 1200 then some .deasserted
  else if mv ≤ 2800 then none
  else if mv ≤ 6000 then some .asserted
  else if mv ≤ 7500 then none
  else some .outOfWindow

/-- What Table 03-5 needs from outside at the end of a bank start: the outcome of the store check, the supply, the voltages that the two LIMP lands have
had since their sensing started, and the runtime version of the ROM. -/
structure StartFacts where
  storeOk : Bool
  supply  : Nat
  own     : Nat
  shared  : Nat
  version : Nat

/-- The core of a bank at the end of Table 03-5, before its channels are driven. The LIMP classifications started deasserted (R53), and one of another
band has been adopted by now. -/
def BankCore.atStart (b : BankCore) (cold : Bool) (f : StartFacts) (now : Nat) : BankCore :=
  let failed := b.storeFailed || !f.storeOk
  { b with
    version := f.version, running := true, starting := false, supply := f.supply, overvoltage := false
    inputs := List.replicate 96 none
    limpOwn := (limpBand f.own).getD .deasserted, limpShared := (limpBand f.shared).getD .deasserted
    limpOwnNext := none, limpSharedNext := none, escGlide := false
    holdFrom := none, restartHold := false, silent := false, holdExpired := false
    lastCause := if failed then .storeCheck else .bankStart
    storeFailed := failed
    disturbed := false, shortLeft := now
    thermal := .normal, coolFrom := none, lastValidRx := none, startedAt := now, snapCycle := 0, sentAt := now
    chans := b.chans.map fun ch => ch.atStart cold now }

/-- The end of a bank start (Table 03-5): logic reset, every channel in fail-safe with C (R86), message store and link endpoint empty but for the
acknowledgement of the command that reset the bank. A store that fails its check is reported in the first uplink frame (R85). After a bank reset, E and
the wire model go on from their kept values (R182). -/
def Bank.startUp (b : Bank) (bank now : Nat) (f : StartFacts) : Bank :=
  let core := (b.core.atStart (!b.core.starting) f now).noteCool now
  let b : Bank := { core := BankCore.settle core core now, acksDue := b.resetAck, acked := b.resetAck }
  if core.storeFailed then b.post bank (12 * bank + 9) 1 0xFF true else b

/-- A bank stops: its channels are off, its link falls silent and its messages are lost (R97, Table 03-3). In a bank reset it is `starting` until Table 03-5
has run again; its store, the clamp integrators and the wire models stand still (R182). -/
def Bank.halt (b : Bank) (now : Nat) (starting : Bool) (supply : Nat) : Bank :=
  { core := { b.core with
      running := false, starting := starting, supply := supply, overvoltage := false, disturbed := false
      holdFrom := none, restartHold := false, silent := false
      chans := b.core.chans.map fun ch =>
        { ch with io := { ch.io with on := false, offSince := some now, turningOff := false }
                  window := {}, ramp := {}, trip := {} } } }

/-- Loss of VSUPx (R97, R50). -/
def Bank.powerOff (b : Bank) (now : Nat) : Bank := b.halt now false 0

/-- A bank reset begins (Table 03-3, R490). -/
def Bank.reset (b : Bank) (now : Nat) : Bank := b.halt now true b.core.supply

/-! ## Commands of the hub -/

/-- A new protection group for a channel (R197): a budget lowered to E or below locks a channel that is off (R180), a disabled
off-state check switches the source off (R185), and a wire rated current of 0 sets the rise to 0 (R186). An on-state open-load report that stands is
left as it is, also by a threshold of 0: no rule ends it but the clearing of R183 (DESIGN CHOICE, log 84). -/
def Chan.setProt (ch : Chan) (v : ProtCfg) : Chan :=
  let lowered := decide (v.budget < ch.cfg.prot.budget) && decide (v.budget ≠ 0)
  { ch with
    cfg := { ch.cfg with
      prot := v
      lockClamp := ch.cfg.lockClamp || (lowered && !ch.io.on && decide (v.budget * 1000 ≤ ch.clamp.energy)) }
    sense := { ch.sense with
      sourceOn := ch.sense.sourceOn && v.offCheck
      openOff := ch.sense.openOff && v.offCheck
      wireRise := if v.wireI = 0 then 0 else ch.sense.wireRise } }

/-- A new load group for a channel: a change of load type, selection or re-arm time discards a suspended window (R140); a hold
that has already lasted as long as a new limit expires (R149). -/
def Chan.setLoad (ch : Chan) (v : LoadCfg) (now : Nat) : Chan :=
  let old := ch.cfg.load
  let changed := decide (old.loadType ≠ v.loadType) || decide (old.selection ≠ v.selection) || decide (old.rearm ≠ v.rearm)
  let ch := if ch.window.suspended && changed then ch.dropWindow now else ch
  Chan.expireHold { ch with cfg := { ch.cfg with load := v } } now

/-- New switching and sense values for a channel: a change of sense range discards the samples of 100 microseconds, as if blanked (R106): the report
before them is kept (R104). -/
def Chan.setIo (ch : Chan) (v : IoCfg) (now : Nat) : Chan :=
  { ch with
    cfg := { ch.cfg with io := v }
    sense := if ch.cfg.io.led = v.led then ch.sense else { ch.sense with rangeBlank := now + 100000 } }

/-- Clear lock, latch-off and both counters (R178). -/
def Chan.unlock (ch : Chan) : Chan :=
  { ch with
    cfg := { ch.cfg with lockClamp := false, lockLatch := false }
    trip := { ch.trip with latchedAt := none, retryCount := 0, latchCount := 0 } }

/-- The wire model rise as it is reported, in 0.1 K (R186); how it is rounded is not said: to the nearest (DESIGN CHOICE, log 11). -/
def Chan.reportRise (ch : Chan) : Nat := min 0xFFFF (ch.sense.wireRise + 1 / 2).floor.toNat

/-- The capture of a channel's counters (R196). -/
def Chan.snapshot (ch : Chan) : Chan :=
  { ch with snap := { energy := ch.clamp.energy / 1000
                      rise := ch.reportRise
                      total := ch.clamp.total / 1000
                      events := ch.clamp.events
                      trips := ch.trip.trips } }

/-- The store entry of a channel replaced as a whole, its lock flags kept (R93): every group takes effect as a write of its own would. -/
def Chan.rewrite (ch : Chan) (v : ChanCfg) (now : Nat) : Chan :=
  let c := ((ch.setIo v.io now).setLoad v.load now).setProt v.prot
  { c with cfg := { v with lockClamp := c.cfg.lockClamp, lockLatch := c.cfg.lockLatch } }

/-- Which of the four banks' shed holds stand on a channel (R211): set or clear that of one bank. -/
def setBit4 (bits : BitVec 4) (i : Nat) (v : Bool) : BitVec 4 :=
  if v then bits ||| (1#4 <<< i) else bits &&& ~~~(1#4 <<< i)

/-- What one command does to a bank's core (before the bank settles). -/
def BankCore.command (b : BankCore) (now : Nat) : BankCmd → BankCore
  | .setNormal p d => b.editChan p fun ch =>
      { ch with io := { ch.io with normal := d }
                ramp := { ch.ramp with expired := ch.ramp.expired && decide (d ≠ .off) } }
  | .setPattern p v => b.editChan p fun ch => { ch with cfg := { ch.cfg with pattern := v } }
  | .setIo p v => b.editChan p fun ch => ch.setIo v now
  | .setLoad p v => b.editChan p fun ch => ch.setLoad v now
  | .setProt p v => b.editChan p fun ch => ch.setProt v
  | .setWarn p v => b.editChan p fun ch => { ch with cfg := { ch.cfg with warnLevel := v } }
  | .setSync p v => b.editChan p fun ch => { ch with cfg := { ch.cfg with senseSync := v } }
  | .setRetired p v => b.editChan p fun ch => { ch with cfg := { ch.cfg with retired := v } }
  | .setHoldTime ms => { b with holdTime := ms }
  | .setGlideExit v => { b with glideToSafe := v }
  | .setLevels w sh => BankCore.noteCool { b with warnAt := w, shedAt := sh } now
  | .setC p v =>
      let b := b.editChan p fun ch => { ch with io := { ch.io with c := v } }
      if v then { b with lastCause := .command } else b
  | .setW p v =>
      let b := b.editChan p fun ch => { ch with io := { ch.io with w := v } }
      if v then { b with lastCause := .watchdog } else b
  | .setX p v =>
      let b := b.editChan p fun ch => { ch with io := { ch.io with x := v } }
      if v then { b with lastCause := .escalation } else b
  | .releaseX p => b.editChan p fun ch => { ch with io := { ch.io with c := ch.io.c || ch.io.x, x := false } }
  | .releaseW => { b with chans := b.chans.map fun ch => { ch with io := { ch.io with c := ch.io.c || ch.io.w, w := false } } }
  | .setEscGlide v => { b with escGlide := v }
  | .unlock p => b.editChan p Chan.unlock
  | .shed p byBank v => b.editChan p fun ch =>
      { ch with thermal := { ch.thermal with shedBy := setBit4 ch.thermal.shedBy byBank v } }
  | .readmit s => BankCore.noteCool { b with sensors := editAt b.sensors s fun x => { x with broken := none } } now
  | .snapshot cycle => { b with snapCycle := max cycle (now / 50000), chans := b.chans.map Chan.snapshot }
  | .setIsolated v => { b with isolated := v }
  | .resetBank => b
  | .retrim => b
  | .fullStore img =>
      { b with
        holdTime := img.holdTime, glideToSafe := img.glideToSafe, warnAt := img.warnAt, shedAt := img.shedAt
        trims := img.trims, storeFailed := false
        chans := mapFrom (fun p ch => ch.rewrite (img.entries.getD p {}) now) 0 b.chans }
  | .setTrims t => { b with trims := t }
  | .cancelSchedule _ => b

/-- A command acting on a bank: on the core, or on what stands beside it (a bank reset R490, a re-trim R491, a cancelled
schedule R268). An isolated bank drops the resolved schedules it holds (R489, Table 09-3). -/
def Bank.command (b : Bank) (bank now : Nat) (c : BankCmd) : Bank :=
  match c with
  | .resetBank => b.reset now
  | .retrim => { b with retrimming := true }
  | .cancelSchedule lane => { b with tagged := b.tagged.filter fun t => !(t.resolved && decide (t.lane = lane)) }
  | .setIsolated true =>
    let dropped := b.tagged.filter LinkCmd.resolved
    let b := b.act bank now fun core => core.command now (.setIsolated true)
    { b with tagged := b.tagged.filter fun t => !t.resolved, schedRan := b.schedRan ++ dropped.map fun t => (t.lane, false) }
  | _ => b.act bank now fun core => core.command now c

/-! ## Frames (R20 to R24) -/

/-- Length of the bank link cycle and of a frame, in ns (R20, R21). -/
def cycleTime : Nat := 50000
def frameTime : Nat := 12800

/-- The first cycle origin after `now`. -/
def nextOrigin (now : Nat) : Nat := (now / cycleTime + 1) * cycleTime

/-- Take one command of a valid frame: one acted on before is only acknowledged again; a tagged one waits for its moment, or for the
next cycle origin where that has passed (R128); any other acts at once. A bank reset clears the link endpoint, with the commands behind it, and is
acknowledged after the start that follows. -/
def Bank.take (b : Bank) (bank now : Nat) (c : LinkCmd) : Bank :=
  if !b.core.running then b
  else if b.acked.contains c.id then { b with acksDue := b.acksDue ++ [c.id] }
  else
    let b := { b with acksDue := b.acksDue ++ [c.id] }
    let b := { b with acked := b.acked ++ [c.id] }
    match c.tag with
    | none =>
      let b := b.command bank now c.cmd
      if c.cmd = .resetBank then { b with resetAck := [c.id] } else b
    | some t => { b with tagged := b.tagged ++ [{ c with tag := some (if now < t then t else nextOrigin now) }] }

/-- When a place frees in a full message store, the bank sends source 0x39 with the count of discarded messages (R283). -/
def Bank.reportLoss (b : Bank) (bank : Nat) : Bank :=
  if decide (0 < b.lostMsgs) && decide (b.msgs.length < 16) then
    Bank.post { b with lostMsgs := 0 } bank 0x39 1 (min 0xFF b.lostMsgs) true
  else b

/-- A downlink frame reaches its bank (R21 to R24). A bad CRC discards and counts it; a valid one restarts the hold timer, sets or
cancels the announced restart hold, frees acknowledged messages and brings its commands. -/
def Bank.receive (b : Bank) (bank now : Nat) (crcOk : Bool) : Bank :=
  match b.down with
  | none => b
  | some f =>
    if !b.core.running then { b with down := none }
    else if now < f.startAt + frameTime then b
    else if !crcOk then { b with down := none, detected := some f.startAt, discards := b.discards + 1 }
    else
      let core := { b.core with
        holdFrom := some now, silent := false, restartHold := f.hold, lastValidRx := some now }
      let b := { b with
        down := none, detected := some f.startAt, core := core
        acked := b.acked.filter fun i => f.cmds.any fun c => c.id == i
        msgs := b.msgs.filter fun m => !f.msgAcks.contains m.seq }
      f.cmds.foldl (fun b c => b.take bank now c) (b.reportLoss bank)

/-- Is a command a snapshot (R196)? -/
def BankCmd.isSnapshot : BankCmd → Bool
  | .snapshot _ => true
  | _ => false

/-- The commands whose tagged cycle origin has come act (R128): the snapshots (R196), or the others. -/
def Bank.applyTagged (b : Bank) (bank now : Nat) (snaps : Bool) : Bank :=
  let due (t : LinkCmd) : Bool := !t.resolved && elapsed t.tag 0 now && (t.cmd.isSnapshot == snaps)
  if b.core.running then
    (b.tagged.filter due).foldl (fun b t => b.command bank now t.cmd) { b with tagged := b.tagged.filter fun t => !due t }
  else b

/-- The resolved commands of a lane whose time has come. -/
def Bank.dueSchedules (b : Bank) (now lane : Nat) : List LinkCmd :=
  b.tagged.filter fun t => t.resolved && decide (t.lane = lane) && elapsed t.tag 0 now

/-- They are dropped, and the drop is reported (R266, R267). -/
def Bank.dropSchedule (b : Bank) (now lane : Nat) : Bank :=
  if (b.dueSchedules now lane).isEmpty || !b.core.running then b
  else { b with tagged := b.tagged.filter fun t => !(t.resolved && decide (t.lane = lane) && elapsed t.tag 0 now)
                schedRan := b.schedRan ++ (b.dueSchedules now lane).map fun _ => (lane, false) }

/-- The resolved schedule of a lane comes to its time (R266): it acts only if a valid downlink frame arrived within the 200 microseconds before it,
otherwise it is dropped; either is reported in the next uplink frame. -/
def Bank.applySchedule (b : Bank) (bank now lane : Nat) : Bank :=
  let due := b.dueSchedules now lane
  if due.isEmpty || !b.core.running then b
  else
    let b := { b with tagged := b.tagged.filter fun t => !(t.resolved && decide (t.lane = lane) && elapsed t.tag 0 now) }
    due.foldl (fun b t =>
      let heard := match b.core.lastValidRx, t.tag with
        | some r, some at_ => decide (at_ ≤ r + 200000)
        | _, _ => false
      let b := if heard then b.command bank now t.cmd else b
      { b with schedRan := b.schedRan ++ [(lane, heard)] }) b

/-- Can a sample of the channel since the last uplink frame be unblanked? Not where the present blanking after an edge (R114), or the present
disturbance (R155), reaches back to that frame, and not in the 100 microseconds after a change of range (R106). -/
def BankCore.sampled (b : BankCore) (ch : Chan) (now : Nat) : Bool :=
  (decide (ch.io.blankUntil ≤ now) || decide (b.sentAt < ch.io.edgeAt) || (decide (b.sentAt < b.disturbedAt) && !b.disturbs ch))
    && (!b.disturbs ch || decide (b.sentAt < b.disturbedAt)) && decide (ch.sense.rangeBlank ≤ now)

/-- One channel's report for an uplink frame (R104, R105, R107): 0 while off, the last report where every sample was blanked, never above
full scale, which samples may reach though their mean does not. -/
def Chan.reading (ch : Chan) (p : Nat) (sampled : Bool) (mean : Option Nat) (full : Bool) (output : Nat) : Chan :=
  let top := fullScale (classAt p) ch.cfg.io.led
  let sense := { ch.sense with output := output }
  let sense :=
    if !ch.io.on then { sense with current := 0, fullScale := false }
    else match mean with
      | none => sense
      | some c => if sampled then { sense with current := if full then top else min c top, fullScale := full || decide (top ≤ c) } else sense
  { ch with sense := sense }

/-- Whether the output stands above the reference by more than the tolerance of R146 after a reversal (bit [9] of Table 05-8). -/
def Chan.judgeAbove (ch : Chan) (supply now : Nat) : Chan :=
  let ref := ch.ramp.referenceAt ch.cfg.load.rampRate supply now
  { ch with ramp := { ch.ramp with
      aboveRef := ch.ramp.regulating && decide (ref + supply * 20000 + 200000000 < ch.sense.output * 1000000) } }

/-- Energy of clamp samples in millionths of a microjoule: each sample of 1 microsecond adds V_DS times I, in mV and mA (R179). -/
def clampEnergy : List (Nat × Nat) → Nat
  | [] => 0
  | (mv, ma) :: rest => mv * ma + clampEnergy rest

/-- Add the samples of a conducting clamp to the integrator, which saturates, and to the total (R179), and note that E has reached the budget (R180). -/
def Chan.addClamp (ch : Chan) (samples : List (Nat × Nat)) : Chan :=
  let e := clampEnergy samples
  let sum := ch.clamp.frac + e
  let tot := ch.clamp.totalFrac + e
  let energy := min 0xFFFFFFFF (ch.clamp.energy + sum / 1000000)
  { ch with clamp := { ch.clamp with
      energy := energy
      frac := sum % 1000000
      event := ch.clamp.event + e
      reached := ch.clamp.reached || (decide (ch.cfg.prot.budget ≠ 0) && decide (ch.cfg.prot.budget * 1000 ≤ energy))
      total := ch.clamp.total + tot / 1000000
      totalFrac := tot % 1000000 } }

/-- As `addClamp`, of a channel whose turn-off is under way: no other clamp conducts. -/
def Chan.clampSamples (ch : Chan) (samples : List (Nat × Nat)) : Chan := if ch.io.turningOff then ch.addClamp samples else ch

/-- The bank's own measurements as they stand at an uplink frame. -/
def BankCore.measure (b : BankCore) (now : Nat) (r : Readings) : BankCore :=
  { b with
    supply := r.supply
    sentAt := now
    chans := mapFrom (fun p ch =>
      ((ch.clampSamples (r.clamp.getD p [])).reading p (b.sampled ch now) (r.current.getD p none) (r.full.getD p false) (r.output.getD p 0)).judgeAbove
        r.supply now) 0 b.chans
    sensors := mapFrom (fun i s => { s with reading := r.sensors.getD i s.reading }) 0 b.sensors }

/-- Thermal shutdown at 175.0 degrees (R207), with the latch at the 16th consecutive one: 1 s of on-time since the last one starts a new count (R209). -/
def Chan.shut (ch : Chan) (now : Nat) : Chan :=
  let n := (if 1000000000 ≤ ch.thermal.streakT.value now then 0 else ch.thermal.streak) + 1
  { ch with thermal := { ch.thermal with
      shutdown := true, shutdowns := ch.thermal.shutdowns + 1
      streak := n, streakT := ch.thermal.streakT.restart now
      latchedAt := if 16 ≤ n then some now else ch.thermal.latchedAt } }

/-- A channel whose sensor or substitute stands at `t`, against its warning level and the limits of thermal shutdown (R206 to R208). -/
def Chan.compare (ch : Chan) (t : Int) (now : Nat) : Chan :=
  let ch := if ch.cfg.warnLevel ≤ t then { ch with thermal := { ch.thermal with warned := true } } else ch
  if !ch.thermal.shutdown && decide (1750 ≤ t) then ch.shut now
  else if ch.thermal.shutdown && decide (t < 1600) then { ch with thermal := { ch.thermal with shutdown := false } }
  else ch

/-- Normal to warning at T_w (R210). -/
def toWarning (c : BankCore) (t : Option Int) : Option ThermalState :=
  match t with
  | some t => if c.thermal = .normal ∧ c.warnAt ≤ t then some .warning else none
  | none => none

/-- Warning to normal below T_w - 5.0 K (R210). -/
def toNormal (c : BankCore) (t : Option Int) : Option ThermalState :=
  match t with
  | some t => if c.thermal = .warning ∧ t < c.warnAt - 50 then some .normal else none
  | none => none

/-- Warning to shedding at T_s (R210, R211). -/
def toShedding (c : BankCore) (t : Option Int) : Option ThermalState :=
  match t with
  | some t => if (c.thermal = .warning ∨ c.thermal = .normal) ∧ c.shedAt ≤ t then some .shedding else none
  | none => none

/-- Shedding to warning below T_s (R210). -/
def leaveShedding (c : BankCore) (t : Option Int) : Option ThermalState :=
  match t with
  | some t => if c.thermal = .shedding ∧ t < c.shedAt then some .warning else none
  | none => none

/-- Into the tripped state at 170.0 degrees, or with every sensor broken (R201, R213). -/
def toTripped (c : BankCore) (t : Option Int) : Option ThermalState :=
  match t with
  | some t => if c.thermal ≠ .tripped ∧ 1700 ≤ t then some .tripped else none
  | none => if c.thermal ≠ .tripped ∧ c.allBroken then some .tripped else none

/-- Tripped to warning below 155.0 degrees (R210). -/
def leaveTripped (c : BankCore) (t : Option Int) : Option ThermalState :=
  match t with
  | some t => if c.thermal = .tripped ∧ t < 1550 then some .warning else none
  | none => none

/-- The thermal state that one comparison of the bank temperature leads to (Table 07-2): the hottest move that applies. -/
def BankCore.thermalNext (c : BankCore) : ThermalState :=
  let t := c.temperature
  (([toTripped, toShedding, toWarning, leaveTripped, leaveShedding, toNormal].filterMap fun f => f c t).head?).getD c.thermal

/-- Every sample is compared with the limits of chapter 07 (R200): the channels' own and the bank's. -/
def BankCore.compare (c : BankCore) (now : Nat) : BankCore :=
  let c := c.noteCool now
  { c with
    thermal := c.thermalNext
    chans := mapFrom (fun p ch => match c.channelTemp p with | some t => ch.compare t now | none => ch) 0 c.chans }

/-- An uplink frame, 25 microseconds after the detected start of a downlink frame (R20): acknowledgements, telemetry, the two oldest
fault messages, and the count of discards. -/
def Bank.send (b : Bank) (bank now : Nat) (r : Readings) : Bank :=
  match b.detected with
  | none => b
  | some t =>
    if b.core.running && decide (t + 25000 ≤ now) then
      let b := b.act bank now fun c => (c.measure now r).compare now
      { b with
        detected := none, acksDue := [], schedRan := [], firstUp := false
        up := some { startAt := now, acks := b.acksDue, msgs := b.msgs.take 2, first := b.firstUp
                     discards := b.discards, schedRan := b.schedRan, core := b.core } }
    else b

/-- C on every channel of the bank, with its cause. -/
def BankCore.failSafeAll (b : BankCore) (cause : FailSafeCause) : BankCore :=
  { b with lastCause := cause, chans := b.chans.map fun ch => { ch with io := { ch.io with c := true } } }

/-- Hold timer expiry (R23, R229, R230). -/
def Bank.holdExpiry (b : Bank) (bank now : Nat) : Bank :=
  if b.core.running && !b.core.restartHold && elapsed b.core.holdFrom (earliest (b.core.holdTime * 1000000) 2) now then
    b.actWith bank now [(8, 1, 0xFF)] fun c =>
      { c.failSafeAll .holdExpiry with holdFrom := none, silent := true, holdExpired := true }
  else b

/-- Expiry of an announced restart hold (R24). -/
def Bank.restartHoldExpiry (b : Bank) (bank now : Nat) : Bank :=
  if b.core.running && b.core.restartHold && elapsed b.core.holdFrom (earliest 150000000 2) now then
    b.actWith bank now [(8, 2, 0xFF)] fun c =>
      { c.failSafeAll .restartHoldExpiry with holdFrom := none, restartHold := false, silent := true, holdExpired := true }
  else b

/-! ## Supply and lands -/

/-- Overvoltage warning of VSUPx, above the threshold for 20 microseconds (R76). -/
def Bank.overvoltageOn (b : Bank) (bank now mv held : Nat) : Bank :=
  if b.core.running && decide (59000 ≤ mv) && decide (20000 ≤ held) then
    b.act bank now fun c => { c with overvoltage := true, supply := mv }
  else b

/-- The overvoltage warning clears (R76). -/
def Bank.overvoltageOff (b : Bank) (bank now mv : Nat) : Bank :=
  if b.core.running && b.core.overvoltage && decide (mv < 59000) then
    b.act bank now fun c => { c with overvoltage := false, supply := mv }
  else b

/-- The classification of a LIMP land and its candidate, after the voltage has stood in its present band for `held` (R53): a keep band leaves the candidate,
the band of the classification in force drops it, and another band begins one; 100 microseconds after its beginning a candidate is adopted. -/
def limpNext (cl : LimpClass) (next : Option (LimpClass × Nat)) (mv held now : Nat) : LimpClass × Option (LimpClass × Nat) :=
  let next := match limpBand mv with
    | none => next
    | some c =>
      if c = cl then none
      else match next with
        | some (d, t) => if d = c then some (d, min t (now - held)) else some (c, now - held)
        | none => some (c, now - held)
  match next with
  | some (c, t) => if t + 100000 ≤ now then (c, none) else (cl, next)
  | none => (cl, none)

/-- LIMP sensing of one land (R53), entering or leaving glide (R234, R236). -/
def Bank.limpAdopt (b : Bank) (bank now : Nat) (land : LimpLand) (mv held : Nat) : Bank :=
  if b.core.running then
    b.act bank now fun c => match land with
      | .own => let (cl, n) := limpNext c.limpOwn c.limpOwnNext mv held now; { c with limpOwn := cl, limpOwnNext := n }
      | .shared => let (cl, n) := limpNext c.limpShared c.limpSharedNext mv held now; { c with limpShared := cl, limpSharedNext := n }
  else b

/-- A pin level that has held for a filter time is accepted under every code with that time or a shorter one (R111). -/
def BankCore.acceptEdge (b : BankCore) (pin : Nat) (level : Bool) (held : Nat) : BankCore :=
  { b with inputs := mapFrom (fun i v =>
      if decide (i / 6 = pin) && decide (filterTime (i % 6) ≤ held) then some level else v) 0 b.inputs }

/-- An IN edge at a bank (R110, R111). -/
def Bank.inputEdge (b : Bank) (bank now pin : Nat) (level : Bool) (held : Nat) : Bank :=
  if b.core.inputValid then b.act bank now fun c => c.acceptEdge pin level held else b

/-- The input-valid line (R52, R110): deasserted, every level is invalid; asserted, each pin counts from its first accepted level. -/
def Bank.setInputValid (b : Bank) (bank now : Nat) (v : Bool) : Bank :=
  b.act bank now fun c => { c with inputValid := v, inputs := c.inputs.map fun _ => none }

/-! ## Windows and ramps -/

/-- The channel at position p, after f, in a bank event. -/
def Bank.editChan (b : Bank) (bank now p : Nat) (f : Chan → Chan) : Bank :=
  b.act bank now fun c => c.editChan p f

/-- A sprint step ends (R137): its successor follows, or the window ends, with the trip of R166 where the overload timer calls for it.
Boundaries lie within 1 % and 20 microseconds of their nominal times from the start of the window. -/
def Bank.stepBoundary (b : Bank) (bank now p : Nat) : Bank :=
  let ch := b.core.chan p
  let w := ch.window
  if b.core.running && ch.io.on && w.running && !w.frozen && decide (w.due * 99 ≤ (w.timer.value now + 20000) * 100) then
    let k := nextStep w.table w.step
    let step := fun (ch : Chan) =>
      if k = 0 then ch.dropWindow now
      else { ch with window := { ch.window with step := k } }
    if (step ch).overdue p now then
      b.actWith bank now [(0, 2, 12 * bank + p)] fun c => c.editChan p fun ch => c.trip now p .overload (step ch)
    else b.editChan bank now p step
  else b

/-- A freeze reaches 2 ms in one disturbance or 10 ms in one window, and the step timer runs on (R155). -/
def Bank.freezeLimit (b : Bank) (bank now p : Nat) : Bank :=
  let w := (b.core.chan p).window
  if w.frozen && (decide (2000000 ≤ w.freezeRun.value now) || decide (10000000 ≤ w.freezeTotal.value now)) then
    b.editChan bank now p fun ch => { ch with window := { ch.window with freezeSpent := true } }
  else b

/-- The reference reaches an intermediate target and the hold begins (R149). -/
def Bank.rampReached (b : Bank) (bank now p : Nat) : Bank :=
  b.act bank now fun c => c.editChan p fun ch => if ch.io.on then ch.beginHold c.supply now else ch

/-- A hold has lasted for the ramp hold limit (R149). -/
def Bank.rampHoldExpiry (b : Bank) (bank now p : Nat) : Bank :=
  b.editChan bank now p fun ch => ch.expireHold now

/-- The output stands at 98 % of VSUPx at a target of 1000 (R148): full enhancement. -/
def Bank.rampComplete (b : Bank) (bank now p mv : Nat) : Bank :=
  let ch := b.core.chan p
  if ch.io.on && ch.ramp.regulating && decide (ch.ramp.target = 1000) && decide (98 * b.core.supply ≤ 100 * mv) then
    b.editChan bank now p fun ch =>
      { ch with ramp := { ch.ramp with regulating := false, complete := true, stallFrom := none, freeFrom := none
                                       stalled := false, aboveRef := false }
                sense := { ch.sense with output := mv } }
  else b

/-- The reference reaches 0 V at a target of 0 and the channel turns off under R101, whatever the output voltage then is; the lane command stays
ON (R151). -/
def Bank.rampZero (b : Bank) (bank now p : Nat) : Bank :=
  b.act bank now fun c => c.editChan p fun ch =>
    if ch.io.on && ch.ramp.regulating && decide (ch.ramp.target = 0) && decide (ch.ramp.reference = 0) then
      let ch := c.turnOff now p (slewRate (classAt p) ch.cfg.io.slew) ch
      { ch with ramp := { ch.ramp with zeroOff := true } }
    else ch

/-- A stall has lasted longer than 100 microseconds (R150). -/
def Bank.rampStall (b : Bank) (bank now p : Nat) : Bank :=
  b.editChan bank now p fun ch =>
    if ch.ramp.regulating && elapsed ch.ramp.stallFrom 100001 now then { ch with ramp := { ch.ramp with stalled := true } } else ch

/-- 100 microseconds without limiting end a stall (R150). -/
def Bank.rampStallEnd (b : Bank) (bank now p : Nat) : Bank :=
  b.editChan bank now p fun ch =>
    if ch.ramp.stallFrom.isSome && !ch.limited && elapsed ch.ramp.freeFrom 100000 now then
      { ch with ramp := { ch.ramp with stallFrom := none, freeFrom := none, stalled := false } }
    else ch

/-! ## Protection -/

/-- A limited sample: into overload limiting, or into short-circuit limiting, which begins a bank disturbance (R165, R154). -/
def Chan.limit (ch : Chan) (short : Bool) (now : Nat) : Chan :=
  let ch := ch.lapseTimers now
  { ch with
    trip := { ch.trip with
      overload := !short, shortCct := short
      olTimer := ch.trip.olTimer.start now, olGone := none
      scTimer := if short then ch.trip.scTimer.start now else ch.trip.scTimer.stop now
      scGone := if short then none else if ch.trip.shortCct then some now else ch.trip.scGone }
    ramp := if ch.ramp.regulating then
        { ch.ramp with stallFrom := some (ch.ramp.stallFrom.getD now), freeFrom := none }
      else ch.ramp }

/-- Current at or below V_sc's regime bounds decides the regime (R165): the output below 25 % of VSUPx that has risen by less than 2 % of
VSUPx over the preceding 100 microseconds is short-circuit limiting. -/
def isShortRegime (supply output risen : Nat) : Bool := decide (4 * output < supply) && decide (50 * risen < supply)

/-- The channel at p is limited at a current of `ma`, which stands at its active limit within the tolerance (R162, R163), and at an output of `mv` that has
risen by `risen` over 100 microseconds (R165). -/
def Bank.limitEnter (b : Bank) (bank now p mv risen ma : Nat) (short : Bool) : Bank :=
  let l := (b.core.chan p).activeLimit (b.core.derated p)
  if b.core.running && (b.core.chan p).io.on && decide (l ≤ ma + limitTolerance (classAt p) l)
      && decide (isShortRegime b.core.supply mv risen = short) then
    b.act bank now fun c =>
      let c := c.editChan p fun ch => Chan.limit { ch with sense := { ch.sense with output := mv } } short now
      if short then c.beginDisturbance now p else c
  else b

/-- The channel leaves limiting (R165, R166). -/
def Bank.limitLeave (b : Bank) (bank now p : Nat) : Bank :=
  if (b.core.chan p).limited then
    b.editChan bank now p fun ch =>
      { ch with
        trip := { ch.trip with
          overload := false, shortCct := false
          olTimer := ch.trip.olTimer.stop now, scTimer := ch.trip.scTimer.stop now
          olGone := some now, scGone := if ch.trip.shortCct then some now else ch.trip.scGone }
        ramp := if ch.ramp.stallFrom.isSome then { ch.ramp with freeFrom := some now } else ch.ramp }
  else b

/-- A trip of the channel at p, with its message (R168). -/
def Bank.tripChan (b : Bank) (bank now p : Nat) (kind : TripKind) : Bank :=
  b.actWith bank now [(0, tripCode kind, 12 * bank + p)] fun c =>
    let c := c.editChan p fun ch => c.trip now p kind ch
    if kind = .detection then c.beginDisturbance now p else c

/-- The short-circuit timer reaches t_sc, within 5 % (R166, R164). -/
def Bank.shortTrip (b : Bank) (bank now p : Nat) : Bank :=
  let ch := b.core.chan p
  if ch.io.on && ch.trip.shortCct && decide (earliest (tripShort (classAt p)) 5 ≤ ch.trip.scTimer.value now) then
    b.tripChan bank now p .shortCircuit
  else b

/-- The overload timer reaches t_ol or t_olw, within 5 % (R166, R164). -/
def Bank.overloadTrip (b : Bank) (bank now p : Nat) : Bank :=
  let ch := b.core.chan p
  if ch.io.on && ch.limited && decide (earliest (ch.overloadTime p) 5 ≤ ch.trip.olTimer.value now) then
    b.tripChan bank now p .overload
  else b

/-- Current above the detection threshold for the detection delay of 1 microsecond (R167). -/
def Bank.detectionTrip (b : Bank) (bank now p ma held : Nat) : Bank :=
  if b.core.running && (b.core.chan p).io.on && decide (detectAt (classAt p) < ma) && decide (1000 ≤ held) then
    b.tripChan bank now p .detection
  else b

/-- The disturbance ends 50 microseconds after no channel is in short-circuit limiting (R154). -/
def Bank.disturbanceEnd (b : Bank) (bank now : Nat) : Bank :=
  if b.core.disturbed && !b.core.anyShort && decide (b.core.shortLeft + 50000 ≤ now) then
    b.act bank now fun c => c.endDisturbance now
  else b

/-- A trip timer resets once its condition has been absent for 1 ms (R166). -/
def Bank.timerReset (b : Bank) (bank now p : Nat) : Bank := b.editChan bank now p fun ch => ch.lapseTimers now

/-- The wire model has cooled below 50 % of the rated rise (R172). -/
def Chan.wireCool (ch : Chan) : Bool := decide (2 * ch.sense.wireRise < (ch.cfg.prot.wireRise : Rat))

/-- The back-off ends, or the wire model releases the channel after it (R172, R173): the next demanded turn-on is the retry. -/
def Bank.backoffEnd (b : Bank) (bank now p : Nat) : Bank :=
  b.editChan bank now p fun ch =>
    let ch := if elapsed ch.trip.backoff 0 now then { ch with trip := { ch.trip with backoff := none, retryDue := true } } else ch
    if ch.trip.wireHold && ch.trip.backoff.isNone && ch.wireCool then
      { ch with trip := { ch.trip with wireHold := false } }
    else ch

/-- The latch-off clears when the demand has been off for 10 ms, from the later of the latch and the demand's going off (R175). -/
def Bank.latchClear (b : Bank) (bank now p : Nat) : Bank :=
  b.editChan bank now p fun ch =>
    if elapsed ch.trip.latchedAt 10000000 now && elapsed ch.io.demandOffSince 10000000 now then
      { ch with trip := { ch.trip with latchedAt := none, retryCount := 0, retryDue := false } }
    else ch

/-- The healthy time of on-time without a trip sets the retry counter to 0 (R176). -/
def Bank.retryReset (b : Bank) (bank now p : Nat) : Bank :=
  b.editChan bank now p fun ch =>
    if decide (ch.cfg.prot.healthy * 1000000 ≤ ch.trip.healthyT.value now) then
      { ch with trip := { ch.trip with retryCount := 0 } }
    else ch

/-- 600 s of on-time without a trip set the latch-off count to 0 (R176). -/
def Bank.latchCountReset (b : Bank) (bank now p : Nat) : Bank :=
  b.editChan bank now p fun ch =>
    if decide (600000000000 ≤ ch.trip.latchT.value now) then { ch with trip := { ch.trip with latchCount := 0 } } else ch

/-! ## Clamp energy (R179 to R181) -/

/-- Lock on a spent budget at the end of a turn-off (R180), also where E has decayed below it again within the event; with a budget of 0, after an event
of 1 microjoule or more (R198). -/
def Chan.lockOnBudget (ch : Chan) : Chan :=
  let spent := if ch.cfg.prot.budget = 0 then decide (1000000 ≤ ch.clamp.event)
               else ch.clamp.reached || decide (ch.cfg.prot.budget * 1000 ≤ ch.clamp.energy)
  { ch with cfg := { ch.cfg with lockClamp := ch.cfg.lockClamp || spent }
            clamp := { ch.clamp with event := 0, reached := false }
            io := { ch.io with turningOff := false } }

/-- Count a clamp event (R179). -/
def Chan.countClamp (ch : Chan) : Chan := { ch with clamp := { ch.clamp with events := ch.clamp.events + 1 } }

/-- A clamp event ends with its last samples: counted, and the channel locks if E has reached the budget (R179, R180). -/
def Bank.clampEnd (b : Bank) (bank now p : Nat) (samples : List (Nat × Nat)) : Bank :=
  if (b.core.chan p).io.turningOff then b.editChan bank now p fun ch => (ch.addClamp samples).countClamp.lockOnBudget else b

/-- A turn-off edge without a clamp event ends (R180). -/
def Bank.edgeEnd (b : Bank) (bank now p : Nat) : Bank :=
  let ch := b.core.chan p
  if ch.io.turningOff && !ch.io.on && decide (ch.clamp.event = 0) then b.editChan bank now p Chan.lockOnBudget else b

/-- Every 1 ms each clamp integrator decays (R179), after the samples that the conducting clamps have had since they were last added. -/
def Bank.clampDecay (b : Bank) (bank now : Nat) (samples : List (List (Nat × Nat))) : Bank :=
  if b.core.running then
    b.act bank now fun c => { c with chans := mapFrom (fun p ch =>
      let ch := ch.clampSamples (samples.getD p [])
      { ch with clamp := { ch.clamp with energy := ch.clamp.energy - ch.clamp.energy / 2 ^ decayShift (classAt p) } }) 0 c.chans }
  else b

/-- The integrator stands at or above 75 % of a budget that is not 0 (R181). -/
def Chan.clampWarns (ch : Chan) : Bool :=
  decide (ch.cfg.prot.budget ≠ 0) && decide (750 * ch.cfg.prot.budget ≤ ch.clamp.energy)

/-! ## Wire model (R186 to R188) -/

/-- One update of a channel's wire model over 1 ms from its mean current in microamperes (R186, R187). -/
def Chan.wireStep (ch : Chan) (p meanUa : Nat) : Chan :=
  let v := ch.cfg.prot
  if v.wireI = 0 then { ch with sense := { ch.sense with wireRise := 0 } }
  else
    let i := meanUa + (if ch.sense.stale then staleBand (classAt p) ch.cfg.io.led else 0)
    let x : Rat := (i : Rat) * v.share / (1000 * v.wireI)
    { ch with sense := { ch.sense with
        wireRise := ch.sense.wireRise + ((v.wireRise : Rat) * (x * x) - ch.sense.wireRise) / v.wireTau } }

/-- The wire model stands at the rated rise, or at 80 % of it (R188). -/
def Chan.wireSpent (ch : Chan) : Bool :=
  decide (ch.cfg.prot.wireI ≠ 0) && decide ((ch.cfg.prot.wireRise : Rat) ≤ ch.sense.wireRise)
def Chan.wireWarns (ch : Chan) : Bool :=
  decide (ch.cfg.prot.wireI ≠ 0) && decide (8 * (ch.cfg.prot.wireRise : Rat) ≤ 10 * ch.sense.wireRise)

/-- Every 1 ms each channel updates its wire model and trips where the rise reaches the rated rise (R186, R188). -/
def Bank.wireUpdate (b : Bank) (bank now : Nat) (currents : List Nat) : Bank :=
  if b.core.running then
    let step := fun p (ch : Chan) => ch.wireStep p (currents.getD p 0)
    let trips := fun p (ch : Chan) => (step p ch).wireSpent && !ch.trip.wireHold
    let events := (mapFrom (fun p ch => if trips p ch then [(0, 4, 12 * bank + p)] else []) 0 b.core.chans).flatten
    b.actWith bank now events fun c =>
      { c with chans := mapFrom (fun p ch => if trips p ch then c.trip now p .wire (step p ch) else step p ch) 0 c.chans }
  else b

/-! ## Open load (R183 to R185, R192) -/

/-- On-state open-load threshold in microamperes for the range in effect (R184). -/
def Chan.openThreshold (ch : Chan) : Nat :=
  if ch.cfg.io.led then ch.cfg.prot.openLed else 1000 * ch.cfg.prot.openStd

/-- Threshold for clearing: 10 % above, at least 1 mA in the standard range and 10 microamperes in the LED range (R183). -/
def Chan.openClearAt (ch : Chan) : Nat :=
  ch.openThreshold + max (ch.openThreshold / 10) (if ch.cfg.io.led then 10 else 1000)

/-- Open load may be judged: the time counted is unblanked and no disturbance stands (R183, R155). -/
def BankCore.judges (b : BankCore) (ch : Chan) (now : Nat) : Bool :=
  b.running && decide (ch.io.blankUntil ≤ now) && !b.disturbs ch

/-- A current of `ua` below the threshold for `held` of unblanked time reports on-state open load (R183, R192). -/
def Bank.openOn (b : Bank) (bank now p ua held : Nat) : Bank :=
  let ch := b.core.chan p
  let band := if ch.sense.stale then staleBand (classAt p) ch.cfg.io.led else 0
  if ch.io.on && b.core.judges ch now && decide (ua + band < ch.openThreshold)
      && decide (ch.cfg.prot.openFilter * 1000000 ≤ held) then
    b.editChan bank now p fun ch => { ch with sense := { ch.sense with openOn := true } }
  else b

/-- A current at or above the threshold plus 10 % for the filter time clears the report (R183). -/
def Bank.openOnClear (b : Bank) (bank now p ua held : Nat) : Bank :=
  let ch := b.core.chan p
  if ch.io.on && b.core.judges ch now && decide (ch.openClearAt ≤ ua) && decide (ch.cfg.prot.openFilter * 1000000 ≤ held) then
    b.editChan bank now p fun ch => { ch with sense := { ch.sense with openOn := false } }
  else b

/-- Off and unblanked for 1 ms with the check enabled: the channel sources 80 microamperes (R185). -/
def Bank.sourceOn (b : Bank) (bank now p : Nat) : Bank :=
  let ch := b.core.chan p
  if b.core.judges ch now && !ch.io.on && ch.cfg.prot.offCheck && decide (ch.io.blankUntil + 1000000 ≤ now) then
    b.editChan bank now p fun ch => { ch with sense := { ch.sense with sourceOn := true } }
  else b

/-- The output above 2.0 V for the filter time reports off-state open load (R185). -/
def Bank.openOff (b : Bank) (bank now p mv held : Nat) : Bank :=
  let ch := b.core.chan p
  if ch.sense.sourceOn && b.core.judges ch now && decide (2000 < mv) && decide (ch.cfg.prot.openFilter * 1000000 ≤ held) then
    b.editChan bank now p fun ch => { ch with sense := { ch.sense with openOff := true, output := mv } }
  else b

/-- The output at or below 2.0 V for the filter time while the source is on clears the report (R185). -/
def Bank.openOffClear (b : Bank) (bank now p mv held : Nat) : Bank :=
  let ch := b.core.chan p
  if ch.sense.sourceOn && b.core.judges ch now && decide (mv ≤ 2000) && decide (ch.cfg.prot.openFilter * 1000000 ≤ held) then
    b.editChan bank now p fun ch => { ch with sense := { ch.sense with openOff := false, output := mv } }
  else b

/-! ## Sense starvation and offsets (R108, R190, R191) -/

/-- On for 10 ms without an unblanked interval of 20 microseconds (R108); `without` is how long none has occurred. -/
def Bank.starve (b : Bank) (bank now p without : Nat) : Bank :=
  if (b.core.chan p).io.on && decide (10000000 ≤ without) then
    b.editChan bank now p fun ch => { ch with sense := { ch.sense with starved := true } }
  else b

/-- An unblanked on-interval of at least 20 microseconds clears it (R108). -/
def Bank.starveClear (b : Bank) (bank now p interval : Nat) : Bank :=
  if (b.core.chan p).io.on && decide (20000 ≤ interval) then
    b.editChan bank now p fun ch => { ch with sense := { ch.sense with starved := false } }
  else b

/-- An accepted offset update in the sense range in effect (R190, R191). -/
def Chan.acceptOffset (ch : Chan) (offset : Int) (now : Nat) : Chan :=
  { ch with sense :=
      if ch.cfg.io.led then { ch.sense with offsetLed := offset, offsetAtLed := now, stale := false }
      else { ch.sense with offsetStd := offset, offsetAtStd := now, stale := false } }

/-- Off-state zero (R190): 200 microseconds off and unblanked, then every 10 ms, the mean of 50 samples becomes the offset. -/
def Bank.zeroUpdate (b : Bank) (bank now p : Nat) (mean : Int) : Bank :=
  let ch := b.core.chan p
  if b.core.judges ch now && !ch.io.on && decide (ch.io.blankUntil + 250000 ≤ now)
      && (decide (ch.sense.zeroAt ≤ ch.io.blankUntil) || decide (ch.sense.zeroAt + 10000000 ≤ now)) then
    b.editChan bank now p fun ch =>
      let ch := ch.acceptOffset mean now
      { ch with sense := { ch.sense with zeroAt := now } }
  else b

/-- The present offset estimate of the range in effect. -/
def Chan.offset (ch : Chan) : Int := if ch.cfg.io.led then ch.sense.offsetLed else ch.sense.offsetStd

/-- Is a cross-measurement accepted (R190)? No sample blanked, not limited, the means within 0.5 % of full scale plus twice the present
offset's magnitude. -/
def Chan.crossAccepted (ch : Chan) (p now : Nat) (clean : Bool) (direct inverted : Int) : Bool :=
  clean && !ch.limited && decide (ch.io.blankUntil + 40000 ≤ now)
    && decide (((direct - inverted).natAbs : Int) * 200 ≤ fullScale (classAt p) ch.cfg.io.led + 400 * (ch.offset.natAbs : Int))

/-- A cross-measurement (R190): half the difference of the two means becomes the offset where it is accepted, an odd difference rounded down (DESIGN
CHOICE, log 82: no rule says how); a rejected one is repeated 10 ms later, an accepted one 100 ms later. -/
def Bank.crossMeasure (b : Bank) (bank now p : Nat) (clean : Bool) (direct inverted : Int) : Bank :=
  let ch := b.core.chan p
  if b.core.running && ch.io.on && decide (ch.sense.crossAt + ch.sense.crossWait ≤ now) then
    b.editChan bank now p fun ch =>
      if ch.crossAccepted p now (clean && !b.core.disturbs ch) direct inverted then
        let ch := ch.acceptOffset ((direct - inverted) / 2) now
        { ch with sense := { ch.sense with crossAt := now, crossWait := 100000000 } }
      else { ch with sense := { ch.sense with crossAt := now, crossWait := 10000000 } }
  else b

/-- Offset age in ns in the range in effect, which saturates at 0xFFFFFFFF ms (R191). -/
def Chan.offsetAge (ch : Chan) (now : Nat) : Nat :=
  min (0xFFFFFFFF * 1000000) (now - (if ch.cfg.io.led then ch.sense.offsetAtLed else ch.sense.offsetAtStd))

/-- An offset age above 10 s is the stale-offset state (R191). -/
def Bank.goStale (b : Bank) (bank now p : Nat) : Bank :=
  b.editChan bank now p fun ch =>
    if decide (10000000000 < ch.offsetAge now) then { ch with sense := { ch.sense with stale := true } } else ch

/-! ## Temperatures (R202 to R213) -/

/-- Take a reading of one sensor and note how the bank temperature stands. -/
def BankCore.read (b : BankCore) (s : Nat) (reading : Int) (now : Nat) : BankCore :=
  BankCore.noteCool { b with sensors := editAt b.sensors s fun x => { x with reading := reading } } now

/-- Take a reading of both reference sensors. -/
def BankCore.readRefs (b : BankCore) (r1 r2 : Int) (now : Nat) : BankCore := (b.read 12 r1 now).read 13 r2 now

/-- Does the reading or substitute at position p satisfy `f`? -/
def BankCore.tempIs (b : BankCore) (p : Nat) (f : Int → Bool) : Bool :=
  match b.channelTemp p with
  | none => false
  | some t => f t

/-- A reading at or above the lane's warning level (R206). -/
def Bank.thermalWarn (b : Bank) (bank now p : Nat) (reading : Int) : Bank :=
  b.act bank now fun c =>
    let c := c.read p reading now
    if c.running && c.tempIs p (fun t => decide ((c.chan p).cfg.warnLevel ≤ t)) then
      c.editChan p fun ch => { ch with thermal := { ch.thermal with warned := true } }
    else c

/-- Below the warning level minus 5.0 K the warning of this channel may clear (R206). -/
def BankCore.warnGone (c : BankCore) (p : Nat) : Bool := c.tempIs p fun t => decide (t < (c.chan p).cfg.warnLevel - 50)

/-- Clear the warning of a channel (R206). -/
def Bank.thermalWarnClear (b : Bank) (bank now p : Nat) : Bank :=
  b.editChan bank now p fun ch => { ch with thermal := { ch.thermal with warned := false } }

/-- A reading at or above 175.0 degrees (R207). -/
def Bank.thermalShutdown (b : Bank) (bank now p : Nat) (reading : Int) : Bank :=
  b.act bank now fun c =>
    let c := c.read p reading now
    if c.running && !(c.chan p).thermal.shutdown && c.tempIs p (fun t => decide (1750 ≤ t)) then
      c.editChan p fun ch => ch.shut now
    else c

/-- A reading below 160.0 degrees ends a thermal shutdown (R208). -/
def Bank.thermalExit (b : Bank) (bank now p : Nat) (reading : Int) : Bank :=
  b.act bank now fun c =>
    let c := c.read p reading now
    if c.running && (c.chan p).thermal.shutdown && c.tempIs p (fun t => decide (t < 1600)) then
      c.editChan p fun ch => { ch with thermal := { ch.thermal with shutdown := false } }
    else c

/-- The thermal latch clears after 10 ms without demand, and the count of consecutive shutdowns restarts (R209). -/
def Bank.thermalLatchClear (b : Bank) (bank now p : Nat) : Bank :=
  b.editChan bank now p fun ch =>
    if elapsed ch.thermal.latchedAt 10000000 now && elapsed ch.io.demandOffSince 10000000 now then
      { ch with thermal := { ch.thermal with latchedAt := none, streak := 0 } }
    else ch

/-- 1 s of on-time without a shutdown restarts the count (R209). -/
def Bank.thermalCountReset (b : Bank) (bank now p : Nat) : Bank :=
  b.editChan bank now p fun ch =>
    if decide (1000000000 ≤ ch.thermal.streakT.value now) then { ch with thermal := { ch.thermal with streak := 0 } } else ch

/-- Value of a sensor in a comparison: its reading, or its substitute where it is unusable (R204). -/
def BankCore.compared (b : BankCore) (s : Nat) : Option Int :=
  if s < 12 then b.channelTemp s
  else
    let own := b.sensor s
    let other := b.sensor (25 - s)
    if !own.unusable then some own.reading
    else if !other.unusable then some other.reading
    else median (b.soundTemps b.nearTemp)

/-- Is `a` more than 25.0 K below `b`? -/
def below25 (a : Int) (b : Option Int) : Bool :=
  match b with
  | none => false
  | some b => decide (a + 250 < b)

/-- Does sensor s disagree under this condition of R202? -/
def BankCore.disagrees (b : BankCore) (s now : Nat) (f : SensorFault) : Bool :=
  let x := b.sensor s
  match f with
  | .outOfRange => x.condition3
  | .belowNeighbours =>
    decide (s < 12) && below25 x.reading (b.compared (neighbours s).1) && below25 x.reading (b.compared (neighbours s).2)
      && (match b.compared 12, b.compared 13 with
          | some r1, some r2 => decide (x.reading + 250 < min r1 r2)
          | _, _ => false)
  | .aboveNeighbours =>
    decide (s < 12) && !(b.chan s).io.on && elapsed (some ((b.chan s).io.offSince.getD b.startedAt)) 100000000 now
      && (match b.compared (neighbours s).1, b.compared (neighbours s).2 with
          | some l, some h => decide (l + 250 < x.reading) && decide (h + 250 < x.reading)
          | _, _ => false)
  | .reference =>
    decide (12 ≤ s) && decide (s < 14)
      && (match b.compared (25 - s), median (b.soundTemps b.channelTemp) with
          | some o, some m => decide (250 < (x.reading - o).natAbs) && decide (250 < (x.reading - m).natAbs)
          | _, _ => false)

/-- A sensor that has disagreed for 10 ms is declared broken (R203); during a disturbance and for 50 ms after it the timers hold. -/
def Bank.sensorBroken (b : Bank) (bank now s : Nat) (f : SensorFault) (held : Nat) : Bank :=
  if b.core.running && decide (s < 14) && (b.core.sensor s).broken.isNone && decide (10000000 ≤ held) && !b.core.disturbed
      && (decide (b.core.shortLeft + 50000000 ≤ now) || decide (b.core.shortLeft = b.core.startedAt))
      && b.core.disagrees s now f then
    b.act bank now fun c => BankCore.noteCool { c with sensors := editAt c.sensors s fun x => { x with broken := some f } } now
  else b

/-- A sensor's circuit reports an open or short, or it reads out of range: its substitute serves at once (R204). -/
def Bank.sensorFault (b : Bank) (bank now s : Nat) (reading : Int) (circuit : Bool) : Bank :=
  if b.core.running && decide (s < 14) then
    b.act bank now fun c =>
      BankCore.noteCool { c with sensors := editAt c.sensors s fun x => { x with reading := reading, circuit := circuit } } now
  else b

/-- State of a bank after reading its reference sensors (R210): `f` says from which states and at which temperature it moves. -/
def Bank.thermalMove (b : Bank) (bank now : Nat) (r1 r2 : Int) (f : BankCore → Option Int → Option ThermalState) : Bank :=
  b.act bank now fun c =>
    let c := c.readRefs r1 r2 now
    if c.running then
      match f c c.temperature with
      | none => c
      | some st => { c with thermal := st }
    else c

/-- A bank whose hold timer has expired clears its shed holds after 10 s below T_w - 5.0 K (R213). -/
def Bank.shedHoldClear (b : Bank) (bank now : Nat) : Bank :=
  if b.core.running && b.core.silent && elapsed b.core.coolFrom 10000000000 now then
    b.act bank now fun c => { c with chans := c.chans.map fun ch => { ch with thermal := { ch.thermal with shedBy := 0 } } }
  else b

/-- A re-trim completes (R491): the new trims are kept only if every one lies within its factory limits; an accepted one is an
accepted offset update (R191). -/
def Bank.retrimDone (b : Bank) (bank now : Nat) (trims : List Int) (within : Bool) : Bank :=
  if b.core.running && b.retrimming then
    let b := { b with retrimming := false }
    if within then
      b.act bank now fun c =>
        { c with trims := trims, chans := c.chans.map fun ch =>
            { ch with sense := { ch.sense with offsetAtStd := now, offsetAtLed := now, stale := false } } }
    else b
  else b

end Sys2Proof.Machine
end

