-- ==== Sys2Proof/Machine/LapState.lean ====
section
/-! DEFINITION. The hub's lap tracker (R248 to R263) and its waveform capture with Q7 (R272 to R274), and the reports
that hub blocks hand to the collector and to the runtime. -/

namespace Sys2Proof.Machine

/-- What a hub block reports: a fault message of origin hub (R282), an event recorded under the object its rule names
(R371, R518), or a journal record (R476). -/
inductive Notice where
  | fault (source kind address : Nat)
  | gone (source : Nat)
  | event (number index sub : Nat)
  | faultEvent (number : Nat) (msg : FaultMsg)
  | journal (cls code : Nat) (payload : List Byte)
  /-- The collector's own reaction (R300, R298): the hub goes into reset with this cause. -/
  | resetHub (cause : Nat)
  deriving DecidableEq, Repr

/-- Tracker states (R252, Table 09-1). -/
inductive LapMode where
  | off
  | acquiring
  | relocking
  | locked
  | coasting
  deriving DecidableEq, Repr, Inhabited

/-- The tracker's configuration objects as they act (Table 09-7). -/
structure LapCfg where
  vote      : Nat := 0
  polarity  : Nat := 0
  filterUs  : Nat := 100
  agreeUs   : Nat := 100
  delayUs   : Nat := 0
  nominal   : Nat := 5000
  gain      : Nat := 1
  gate      : Nat := 0x0800
  lock      : Nat := 0x0100
  dist      : Nat := 0x0200
  expected  : Bool := false
  holdMs    : Nat := 2000
  step      : Bool := false
  deriving DecidableEq, Repr, Inhabited

/-- One zero-cross input: its candidate since the last vote, its run of failures and of agreements (R251), and whether a
falling level was accepted in this lap and in the last. -/
structure ZxInput where
  level     : Bool := false
  candidate : Option Int := none
  bad       : Nat := 0
  good      : Nat := 0
  failed    : Bool := false
  used      : Bool := false
  fallNow   : Bool := false
  fallLast  : Bool := false
  deriving DecidableEq, Repr, Inhabited

/-- The background estimator (R253): unseeded, it remembers the last crossing; seeded, it has a period and a next prediction. -/
structure LapEstimator where
  lastCross : Option Int := none
  period    : Option Rat := none
  origin    : Rat := 0
  next      : Rat := 0
  hits      : Nat := 0
  deriving DecidableEq, Repr, Inhabited

/-- The lap tracker. Times in ns; `startPhase` is the phase at the present origin (not 0 only after a step, R254). -/
structure Lap where
  mode        : LapMode := .acquiring
  zxa         : ZxInput := {}
  zxb         : ZxInput := {}
  count       : Nat := 0
  originAt    : Rat := 0
  startPhase  : Nat := 0
  length      : Rat := 20000000
  period      : Rat := 20000000
  nextLength  : Option Rat := none
  crossedNow  : Bool := false
  crossedNext : Bool := false
  missed      : Nat := 0
  lostAt      : Nat := 0
  est         : LapEstimator := {}
  error       : Int := 0
  disturbed   : Bool := false
  disturbNext : Bool := false
  stepped     : Bool := false
  /-- Flags of the second half-lap window of the lap before: disturbed, and a step in it; none where there was no such lap (R271). -/
  before      : Option (Bool × Bool) := none
  source      : Nat := 2
  rejected    : Word32 := 0
  disagreed   : Word32 := 0
  entries     : Word32 := 0
  disturbedLaps : Word32 := 0
  preset      : Option Nat := none
  boundaryDue : Bool := false
  snapPos     : Nat := 0
  snapSec     : Nat := 0
  snapNs      : Nat := 0
  snapS       : Nat := 0
  deriving DecidableEq, Repr, Inhabited

/-- Capture status (0x2044.06). -/
inductive CaptureMode where
  | idle
  | armed
  | running
  | complete
  | truncated
  | aborted
  deriving DecidableEq, Repr, Inhabited

/-- The waveform capture and the ring Q7 (R272, R273): the parameters read at the arming write, and up to 4096 entries, oldest first. -/
structure Capture where
  mode     : CaptureMode := .idle
  channel  : Nat := 0
  phase    : Nat := 0
  interval : Nat := 100
  length   : Nat := 1024
  armedAt  : Nat := 0
  leadNs   : Nat := 0
  startPos : Nat := 0
  startAt  : Nat := 0
  written  : Nat := 0
  taken    : Nat := 0
  number   : Nat := 0
  writeIdx : Nat := 0
  readIdx  : Nat := 0
  count    : Nat := 0
  ring     : List (Nat × Word32) := []
  deriving DecidableEq, Repr, Inhabited

end Sys2Proof.Machine
end

