-- ==== Sys2Proof/Machine/CollectorState.lean ====
section
/-! DEFINITION. What the fault collector keeps (chapter 10): status, cause, sticky and acknowledge bits, the first-error
record, the per-source fields, grace timers, escalation steps and ERRN. -/

namespace Sys2Proof.Machine

/-- Scope of an escalation step in force (Table 10-9). -/
inductive Scope where
  | lane (n : Nat)
  | bank (b : Nat)
  | glide
  deriving DecidableEq, Repr, Inhabited

/-- One source's fields (Table 10-12) and its grace timer: `graceAt` is the expiry of the grace interval or of the further interval
before the next step (R295, R297); `due` is a step that fell due while the runtime did not run (R299). -/
structure SourceRec where
  kind    : Nat := 0
  address : Nat := 0xFF
  origin  : Nat := 0xFF
  errors  : Word32 := 0
  graceAt : Option Nat := none
  step    : Nat := 0
  scopes  : List Scope := []
  due     : Option Nat := none
  deriving DecidableEq, Repr, Inhabited

/-- A step requested from the runtime and not yet confirmed (R298): the banks whose frames have not gone out yet. -/
structure StepRequest where
  source : Nat
  step   : Nat
  at_    : Nat
  banks  : List Nat
  deriving DecidableEq, Repr, Inhabited

/-- The first-error record (Table 10-11, 0x5003). -/
structure ErrorRecord where
  valid    : Bool := false
  overflow : Bool := false
  injected : Bool := false
  source   : Nat := 0xFF
  kind     : Nat := 0
  address  : Nat := 0xFF
  origin   : Nat := 0xFF
  seconds  : Nat := 0
  nanos    : Nat := 0
  later    : Nat := 0
  deriving DecidableEq, Repr, Inhabited

/-- The collector (R281). A hub reset clears all of it. -/
structure Collector where
  status    : Word64 := 0
  cause     : Word64 := 0
  acked     : Word64 := 0
  sticky    : Word32 := 0
  causeD    : Word32 := 0
  force     : Word32 := 0
  record    : ErrorRecord := {}
  sources   : List SourceRec := List.replicate 96 {}
  refused   : Nat := 0xFF
  refusals  : Word32 := 0
  standing  : Nat := 0
  steps     : Word32 := 0
  pulseTo   : Option Nat := none
  handed    : Bool := false
  hubSeq    : Nat := 0
  /-- Numbers of the messages that the hub raises in the name of each bank (R282; DESIGN CHOICE, log 87). -/
  nameSeq   : List Nat := List.replicate 4 0
  seen      : List (List Nat) := List.replicate 4 []
  requests  : List StepRequest := []
  keyStage  : Nat := 0
  keyAt     : Nat := 0
  keyBy     : Nat := 0xFF
  testMode  : Bool := false
  deriving DecidableEq, Repr, Inhabited

/-- The collector's configuration objects as they act (0x5000, and the severities and ceilings at 0x5010 + s). -/
structure CollectorCfg where
  graceMs    : Nat := 100
  pulseUs    : Nat := 1000
  corrected  : Bool := false
  static     : Bool := false
  threshold  : Nat := 2
  level      : Bool := false
  severities : List Nat := []
  ceilings   : List Nat := []
  deriving DecidableEq, Repr, Inhabited

end Sys2Proof.Machine
end

