-- ==== Sys2Proof/Machine/CollectorOps.lean ====
section
/-! DEFINITION. The operations of the fault collector: the source tables, capture (R289, R290), ERRN (R292, R293), grace and
escalation (R295 to R302), clearing and acknowledging (R303 to R306), injection and force (R308 to R310). -/

namespace Sys2Proof.Machine

/-! ## The source tables (10-4 to 10-6) -/

/-- Sources that do not exist (R285). -/
def reservedSource (s : Nat) : Bool :=
  (decide (0x3B ≤ s) && decide (s ≤ 0x3F)) || decide (0x5B ≤ s)

/-- Class of a group S source: 0 corrected, 1 uncorrected-contained, 2 fatal. -/
def sourceClass (s : Nat) : Nat :=
  if s < 48 then
    match s % 12 with | 0 => 0 | 3 => 0 | 10 => 0 | 11 => 0 | _ => 1
  else match s with
    | 0x30 => 2 | 0x31 => 2 | 0x3A => 2
    | 0x32 => 0 | 0x35 => 0 | 0x38 => 0 | 0x39 => 0
    | _ => 1

/-- Is the source of level type (R284)? -/
def sourceLevel (s : Nat) : Bool :=
  if s < 48 then match s % 12 with | 0 => false | 8 => false | 9 => false | _ => true
  else [0x34, 0x35, 0x36, 0x37, 0x38, 0x3A, 0x40, 0x41, 0x43, 0x44, 0x45, 0x46, 0x53, 0x57].contains s

/-- Default escalation ceiling of a group S source; 0 for a corrected one, 3 for a fatal one. -/
def defaultCeiling (s : Nat) : Nat :=
  if s < 48 then match s % 12 with | 1 => 1 | 2 => 1 | 5 => 2 | 6 => 1 | _ => 0
  else if sourceClass s = 2 then 3 else 0

/-- Default severity of a group D source (Table 10-6). -/
def defaultSeverity (s : Nat) : Nat :=
  match s with
  | 0x42 => 0 | 0x43 => 2 | 0x44 => 2 | 0x45 => 2 | 0x4A => 2 | 0x4C => 0 | 0x4D => 2 | 0x50 => 2 | 0x52 => 2
  | 0x53 => 3 | 0x54 => 2 | 0x56 => 2 | 0x58 => 0
  | _ => 1

/-- Start step of a source's escalation (Table 10-9); for a channel source, 2 when the channel has no lane. -/
def startStep (s : Nat) (hasLane : Bool) : Nat :=
  if s < 48 then
    if [0, 1, 2, 3, 6, 11].contains (s % 12) then (if hasLane then 1 else 2) else 2
  else 3

/-- Events a source is reported on, by kind and address. -/
def sourceEvents (s kind address : Nat) : List Nat :=
  if s < 48 then
    match s % 12 with
    | 3 => [4] | 4 => [4] | 5 => [4]
    | 7 => [5, s / 12]
    | 10 => if kind = 3 then [5] else [s / 12]
    | _ => [s / 12]
  else match s with
    | 0x30 => []
    | 0x31 => [13] | 0x32 => [13] | 0x33 => [13] | 0x34 => [5] | 0x35 => [12] | 0x36 => [6] | 0x37 => [7] | 0x38 => [7]
    | 0x39 => [15] | 0x3A => [15]
    | 0x40 => [8] | 0x41 => [9] | 0x42 => [11] | 0x43 => [10] | 0x44 => [10] | 0x45 => [10] | 0x46 => [10]
    | 0x47 => [11] | 0x48 => [11] | 0x49 => [11] | 0x4A => [11] | 0x4B => [11] | 0x4C => [7] | 0x4D => [12] | 0x4E => [12]
    | 0x4F => [12] | 0x50 => [13] | 0x51 => [13] | 0x52 => [14] | 0x53 => [14] | 0x54 => [14] | 0x55 => [7] | 0x56 => [4]
    | 0x57 => [address / 12 % 4] | 0x58 => [5] | 0x59 => [13] | 0x5A => [5]
    | _ => []

/-- A fault message as its 32 bits (Table 10-1). -/
def FaultMsg.word (m : FaultMsg) : Nat :=
  m.source % 128 + (m.kind % 16) * 2 ^ 8 + (m.origin % 16) * 2 ^ 12 + (m.address % 256) * 2 ^ 16 + (m.seq % 128) * 2 ^ 24
    + (if m.error then 2 ^ 31 else 0)

/-! ## Bits -/

/-- Set or clear one bit of a word. -/
def putBit {w : Nat} (x : BitVec w) (i : Nat) (v : Bool) : BitVec w :=
  if v then x ||| (BitVec.ofNat w 1 <<< i) else x &&& ~~~(BitVec.ofNat w 1 <<< i)

/-- A source's fields. -/
def Collector.source (c : Collector) (s : Nat) : SourceRec := c.sources.getD s {}

/-- Edit a source's fields. -/
def Collector.edit (c : Collector) (s : Nat) (f : SourceRec → SourceRec) : Collector :=
  { c with sources := editAt c.sources s f }

/-- Severity and ceiling in force. -/
def CollectorCfg.severity (g : CollectorCfg) (s : Nat) : Nat := g.severities.getD (s - 0x40) (defaultSeverity s)
def CollectorCfg.ceiling (g : CollectorCfg) (s : Nat) : Nat :=
  if s < 0x40 ∧ sourceClass s = 1 then g.ceilings.getD s (defaultCeiling s) else defaultCeiling s

/-- The fault of a source stands (R288). -/
def Collector.stands (c : Collector) (s : Nat) : Bool :=
  if s < 0x40 then c.status.getLsbD s else c.sticky.getLsbD (s - 0x40)

/-- The cause bit of a source: the real cause, or for group D the force bit (R310). -/
def Collector.causeOf (c : Collector) (s : Nat) : Bool :=
  if s < 0x40 then c.cause.getLsbD s else (c.causeD ||| c.force).getLsbD (s - 0x40)

/-- A fatal group S fault stands. -/
def Collector.fatal (c : Collector) : Bool :=
  c.status.getLsbD 0x30 || c.status.getLsbD 0x31 || c.status.getLsbD 0x3A

/-! ## ERRN -/

/-- The condition of static mode (Table 10-7). -/
def Collector.staticLow (c : Collector) (g : CollectorCfg) : Bool :=
  g.static && (List.range 32).any fun i => c.sticky.getLsbD i && decide (g.threshold ≤ g.severity (0x40 + i))

/-- ERRN is driven low (R293, R57). -/
def Collector.errnLow (c : Collector) (g : CollectorCfg) (now : Nat) : Bool :=
  !c.handed || (match c.pulseTo with | some t => decide (now < t) | none => false)
    || g.level || c.staticLow g || c.fatal

/-- A group S error that calls for a pulse starts or extends it (R292). -/
def Collector.pulse (c : Collector) (g : CollectorCfg) (s now : Nat) : Collector :=
  if c.handed && (decide (sourceClass s ≠ 0) || g.corrected) then { c with pulseTo := some (now + g.pulseUs * 1000) } else c

/-- The pulse ends W after the latest pulsing error (R292). -/
def Collector.pulseEnd (c : Collector) (now : Nat) : Collector :=
  if elapsed c.pulseTo 0 now then { c with pulseTo := none } else c

/-! ## Capture -/

/-- Fill the first-error record, or count an error after the first (R289). -/
def ErrorRecord.take (r : ErrorRecord) (m : FaultMsg) (injected : Bool) (sec ns : Nat) : ErrorRecord :=
  if r.valid then { r with overflow := true, later := min 0xFFFF (r.later + 1) }
  else { valid := true, injected := injected, source := m.source, kind := m.kind, address := m.address, origin := m.origin
         seconds := sec, nanos := ns }

/-- The collector accepts a group S error (R289). -/
def Collector.acceptS (c : Collector) (g : CollectorCfg) (m : FaultMsg) (injected : Bool) (now sec ns : Nat) :
    Collector × List Notice :=
  let s := m.source
  let was := c.status.getLsbD s
  let c := { c with status := putBit c.status s true, cause := putBit c.cause s (sourceLevel s), record := c.record.take m injected sec ns }
  let c := c.edit s fun x => { x with kind := m.kind, address := m.address, origin := m.origin, errors := x.errors + 1 }
  let c := c.pulse g s now
  let c := if !was && decide (sourceClass s ≠ 0) then c.edit s fun x => { x with graceAt := some (now + g.graceMs * 1000000) } else c
  (c, (sourceEvents s m.kind m.address).map (fun e => .faultEvent e m)
      ++ [.journal 1 (sourceClass s) ((List.range 4).map fun i => BitVec.ofNat 8 (m.word / 256 ^ i))]
      ++ (if s = 0x30 then [.resetHub 0x0A] else []))

/-- The collector accepts a group D error (R290). -/
def Collector.acceptD (c : Collector) (g : CollectorCfg) (m : FaultMsg) : Collector × List Notice :=
  let s := m.source
  let c := { c with sticky := putBit c.sticky (s - 0x40) true
                    causeD := if m.kind = 0xF then c.causeD else putBit c.causeD (s - 0x40) (sourceLevel s) }
  let c := c.edit s fun x => { x with kind := m.kind, address := m.address, origin := m.origin, errors := x.errors + 1 }
  (c, if 1 ≤ g.severity s then (sourceEvents s m.kind m.address).map fun e => .faultEvent e m else [])

/-- A state-0 message clears the source's cause bit and does nothing else (R289, R290). -/
def Collector.acceptGone (c : Collector) (s : Nat) : Collector :=
  if s < 0x40 then { c with cause := putBit c.cause s false } else { c with causeD := putBit c.causeD (s - 0x40) false }

/-- Accept one message. -/
def Collector.accept (c : Collector) (g : CollectorCfg) (m : FaultMsg) (injected : Bool) (now sec ns : Nat) :
    Collector × List Notice :=
  if reservedSource m.source || decide (0x60 ≤ m.source) || decide (m.kind = 0) then (c, [])
  else if !m.error then (c.acceptGone m.source, [])
  else if m.source < 0x40 then c.acceptS g m injected now sec ns
  else c.acceptD g m

/-- Accept a bank's message once: a repeat whose sequence number has been accepted is discarded (R283). -/
def Collector.acceptFrom (c : Collector) (g : CollectorCfg) (bank : Nat) (m : FaultMsg) (now sec ns : Nat) :
    Collector × List Notice :=
  let seen := c.seen.getD bank []
  if seen.contains m.seq then (c, [])
  else ({ c with seen := editAt c.seen bank fun l => m.seq :: l.take 63 }).accept g m false now sec ns

/-- Origin of the messages of a source (Tables 10-4 to 10-6). -/
def sourceOrigin (s : Nat) : Nat := if s < 48 then s / 12 else 4

/-- The next sequence number of an origin (R282), for a message that the hub makes: what it raises in a bank's name has a count of its own
(DESIGN CHOICE, log 87). -/
def Collector.stamp (c : Collector) (origin : Nat) : Collector × Nat :=
  if origin < 4 then ({ c with nameSeq := editAt c.nameSeq origin fun n => (n + 1) % 128 }, c.nameSeq.getD origin 0)
  else ({ c with hubSeq := (c.hubSeq + 1) % 128 }, c.hubSeq)

/-- A message of a hub block, with the next sequence number of its origin (R282). What the hub raises of a bank source it raises in the bank's name
(Table 10-4). -/
def Collector.raise (c : Collector) (g : CollectorCfg) (source kind address now sec ns : Nat) : Collector × List Notice :=
  (c.stamp (sourceOrigin source)).1.accept g
    { source := source, kind := kind, origin := sourceOrigin source, address := address, seq := (c.stamp (sourceOrigin source)).2, error := true }
    false now sec ns

/-- A state-0 message of a hub block, which takes a sequence number as every message does (R282). -/
def Collector.raiseGone (c : Collector) (source : Nat) : Collector := ((c.stamp (sourceOrigin source)).1).acceptGone source

/-! ## Escalation (R295 to R302) -/

/-- Scope of a step of a source (Table 10-9); `lane` is the lane that owns the addressed channel. -/
def stepScope (s step : Nat) (lane : Option Nat) : Scope :=
  match step with
  | 1 => match lane with | some n => .lane n | none => .bank (s / 12)
  | 2 => .bank (s / 12)
  | _ => .glide

/-- Banks a scope concerns: the banks of a lane's channels, one bank, or all present ones. -/
def Scope.banks (sc : Scope) (laneBanks : List Nat) (present : List Nat) : List Nat :=
  match sc with
  | .lane _ => laneBanks
  | .bank b => [b]
  | .glide => present

/-- Apply a step: it is in force, reported on E15, and the next step follows after a further G up to the ceiling (R297). -/
def Collector.applyStep (c : Collector) (g : CollectorCfg) (s step : Nat) (sc : Scope) (banks : List Nat) (now : Nat) :
    Collector × List Notice :=
  let c := c.edit s fun x => { x with
    step := step, scopes := x.scopes ++ [sc], due := none
    graceAt := if step < 3 ∧ step + 1 ≤ g.ceiling s then some (now + g.graceMs * 1000000) else none }
  let at_ : Nat := match sc with | .lane n => n | .bank b => b | .glide => 0xFF
  ({ c with steps := c.steps + 1, requests := if banks.isEmpty then c.requests else c.requests ++ [{ source := s, step := step, at_ := now, banks := banks }] },
   [.event 15 (0x5010 + s) 0x08, .journal 3 step [BitVec.ofNat 8 s, BitVec.ofNat 8 at_]])

/-- The step that falls due for a source at the expiry of its timer, if its ceiling allows it (R297). -/
def Collector.stepDue (c : Collector) (g : CollectorCfg) (s : Nat) (hasLane : Bool) (now : Nat) : Option Nat :=
  let x := c.source s
  if elapsed x.graceAt 0 now && c.status.getLsbD s && !c.acked.getLsbD s then
    let k := if x.step = 0 then startStep s hasLane else x.step + 1
    if k ≤ 3 ∧ k ≤ g.ceiling s then some k else none
  else none

/-- The steps of a source end, and its timer stops (R301). The scopes that ended are returned. -/
def Collector.endSteps (c : Collector) (s : Nat) : Collector × List Scope :=
  let scopes := (c.source s).scopes
  ({ c.edit s fun x => { x with graceAt := none, step := 0, scopes := [], due := none } with
     requests := c.requests.filter fun r => r.source != s }, scopes)

/-- Every scope in force. -/
def Collector.scopes (c : Collector) : List Scope := c.sources.flatMap SourceRec.scopes

/-- Highest step in force (0x5006.01). -/
def Collector.highestStep (c : Collector) : Nat := c.sources.foldl (fun m x => max m x.step) 0

/-- The runtime has sent a frame to a bank: requests that waited for it only are confirmed (R298). -/
def Collector.confirmBank (c : Collector) (bank : Nat) : Collector :=
  { c with requests := (c.requests.map fun r => { r with banks := r.banks.filter (· != bank) }).filter fun r => !r.banks.isEmpty }

/-- A request unconfirmed for 2 ms (R298). -/
def Collector.overdueRequest (c : Collector) (now : Nat) : Bool := c.requests.any fun r => decide (r.at_ + 2000000 ≤ now)

/-! ## Clearing and acknowledging (R303 to R306) -/

/-- Clear one source that stands with its cause gone. -/
def Collector.clearNow (c : Collector) (s : Nat) : Collector × List Scope :=
  let (c, sc) := c.endSteps s
  if s < 0x40 then ({ c with status := putBit c.status s false, acked := putBit c.acked s false }, sc)
  else ({ c with sticky := putBit c.sticky (s - 0x40) false }, sc)

/-- A refused clear (R303). -/
def Collector.refuseClear (c : Collector) (s : Nat) : Collector := { c with refused := s, refusals := c.refusals + 1 }

/-- Sources that stand with their cause present, and those that can be cleared (R304). -/
def Collector.clearable (c : Collector) : List Nat := (List.range 96).filter fun s => c.stands s && !c.causeOf s
def Collector.persisting (c : Collector) : List Nat := (List.range 96).filter fun s => c.stands s && c.causeOf s

/-- Clear every clearable source (R304). -/
def Collector.clearAll (c : Collector) : Collector × List Scope :=
  let left := c.persisting.length
  let (c, sc) := c.clearable.foldl (fun (acc : Collector × List Scope) s =>
    let (c, sc) := acc.1.clearNow s
    (c, acc.2 ++ sc)) (c, [])
  ({ c with standing := left }, sc)

/-- Acknowledge a source (R306): without effect for a corrected source, group D, or a clear status bit. -/
def Collector.acknowledge (c : Collector) (s : Nat) : Collector :=
  if s < 0x40 ∧ sourceClass s ≠ 0 ∧ c.status.getLsbD s then
    { c.edit s fun x => { x with graceAt := none, due := none } with acked := putBit c.acked s true }
  else c

/-- A new ceiling (R301). Lowered to a step that stands, it stops the further interval and a step that is due. Raised where the source still stands,
unacknowledged, at its former ceiling, the next step follows a further G. -/
def Collector.setCeiling (c : Collector) (g : CollectorCfg) (s old new now : Nat) : Collector :=
  let x := c.source s
  if new < old then
    c.edit s fun x => { x with graceAt := if 1 ≤ x.step ∧ new ≤ x.step then none else x.graceAt
                               due := x.due.filter fun k => decide (k ≤ new) }
  else if old < new ∧ c.status.getLsbD s ∧ ¬ c.acked.getLsbD s ∧ x.graceAt.isNone ∧ x.due.isNone ∧ x.step < new then
    c.edit s fun x => { x with graceAt := some (now + g.graceMs * 1000000) }
  else c

/-- A write of the force object (R310): a bit set is an error of kind 0xF, a bit cleared a state-0 message unless the real cause stands. -/
def Collector.setForce (c : Collector) (g : CollectorCfg) (v : Word32) (now sec ns : Nat) : Collector × List Notice :=
  let rise := (List.range 27).filter fun i => v.getLsbD i && !c.force.getLsbD i
  let fall := (List.range 27).filter fun i => !v.getLsbD i && c.force.getLsbD i
  let c := fall.foldl (fun (c : Collector) _ => (c.stamp 4).1) { c with force := v }
  rise.foldl (fun (acc : Collector × List Notice) i =>
    let (c, n) := acc.1.raise g (0x40 + i) 0xF 0xFF now sec ns
    (c, acc.2 ++ n)) (c, [])

/-- One write of the factory test key (R308): three values in order, each within 10 ms, from one session, with TEST high. -/
def Collector.key (c : Collector) (v session now : Nat) (testHigh : Bool) : Collector :=
  if v = 0 then { c with testMode := false, keyStage := 0 }
  else if !testHigh then { c with keyStage := 0 }
  else
    let inTime := decide (c.keyBy = session) && decide (now ≤ c.keyAt + 10000000)
    let stage :=
      if c.keyStage = 1 ∧ inTime ∧ v = 0x00D7 then 2
      else if c.keyStage = 2 ∧ inTime ∧ v = 0xA3C5 then 3
      else if v = 0x4B1E then 1 else 0
    { c with keyStage := if stage = 3 then 0 else stage, keyAt := now, keyBy := session
             testMode := c.testMode || decide (stage = 3) }

/-- Is a value a valid fault message of a group S source for injection (R309)? -/
def injectable (w : Nat) : Bool :=
  let s := w % 128
  !w.testBit 7 && decide (s < 0x40) && !reservedSource s && decide (w / 256 % 16 ≠ 0) && decide (w / 4096 % 16 < 5)

/-- The message a value injects, its sequence number ignored. -/
def injectedMsg (w : Nat) : FaultMsg :=
  { source := w % 128, kind := w / 256 % 16, origin := w / 4096 % 16, address := w / 65536 % 256, seq := 0, error := w.testBit 31 }

end Sys2Proof.Machine
end

