-- ==== Sys2Proof/Machine/LapOps.lean ====
section
/-! DEFINITION. The operations of the lap tracker: candidates, the vote, the loop, the background estimator, re-locking,
coasting and lap origins (R248 to R263), and the capture ring Q7 (R272, R273). -/

namespace Sys2Proof.Machine

/-- Nearest integer, halves away from zero. -/
def roundRat (x : Rat) : Int := if x < 0 then -((-x + 1 / 2).floor) else (x + 1 / 2).floor

/-- Lap loop gains (Table 09-2). -/
def gainKp (code : Nat) : Rat := match code with | 0 => 1 / 16 | 1 => 1 / 8 | 2 => 1 / 4 | _ => 1 / 2
def gainKi (code : Nat) : Rat := match code with | 0 => 1 / 512 | 1 => 1 / 128 | 2 => 1 / 32 | _ => 1 / 8

/-- The nominal period in ns (R258): the frequency is in 0.01 Hz. -/
def LapCfg.nominalPeriod (c : LapCfg) : Rat := 100000000000 / (c.nominal : Rat)

/-- Does a period lie from 14.0 ms to 25.6 ms (R253, R257)? -/
def periodInRange (p : Rat) : Bool := decide (14000000 ≤ p) && decide (p ≤ 25600000)

/-- End of the present lap. -/
def Lap.nextOrigin (l : Lap) : Rat := l.originAt + l.length

/-- Lap phase at `now`, 0 to 65535 (R260). -/
def Lap.phase (l : Lap) (now : Nat) : Nat :=
  let t : Rat := (now : Rat) - l.originAt
  if t ≤ 0 ∨ l.length = 0 then l.startPhase
  else min 65535 (l.startPhase + (t * (65536 - l.startPhase : Nat) / l.length).floor.toNat)

/-- Lap position (R260). -/
def Lap.position (l : Lap) (now : Nat) : Nat := l.count * 65536 + l.phase now

/-- A change of state with its E7 report, and the end of a standing loss on entry into Locked (R252, Table 10-5). -/
def Lap.enter (l : Lap) (m : LapMode) : Lap × List Notice :=
  if l.mode = m then (l, [])
  else
    let l := { l with
      mode := m
      entries := if m = .locked then l.entries + 1 else l.entries
      missed := 0
      source := match m with | .relocking => 0 | .locked => 0 | .coasting => l.source | _ => 2 }
    let code := match m with | .off => 0 | .acquiring => 1 | .relocking => 2 | .locked => 3 | .coasting => 4
    (l, [.event 7 0x2041 0x09, .journal 0xB code []] ++ (if m = .locked then [.gone 0x37] else []))

/-- Loss from Locked or Re-locking (R257): Coasting at the last period; a fault message where mains is expected. -/
def Lap.lose (l : Lap) (c : LapCfg) (kind now : Nat) : Lap × List Notice :=
  let (l, n) := l.enter .coasting
  ({ l with lostAt := now, source := 1, nextLength := none, est := {} },
   n ++ (if c.expected then [.fault 0x37 kind 0xFF] else []))

/-- Set the tracker going at a hub start (R259). -/
def Lap.begin (c : LapCfg) (now : Nat) : Lap :=
  { mode := if c.vote = 3 then .off else .acquiring
    originAt := now, length := c.nominalPeriod, period := c.nominalPeriod }

/-- Set the tracker going again at an exit from standby (R252): Acquiring, or Off, on the nominal period. What R95 stopped stands as it stood: the count, the
counters and the state of the inputs. -/
def Lap.again (l : Lap) (c : LapCfg) (now : Nat) : Lap :=
  { Lap.begin c now with
    count := l.count, rejected := l.rejected, disagreed := l.disagreed, entries := l.entries, disturbedLaps := l.disturbedLaps, preset := l.preset
    snapPos := l.snapPos, snapSec := l.snapSec, snapNs := l.snapNs, snapS := l.snapS
    zxa := { l.zxa with candidate := none }, zxb := { l.zxb with candidate := none } }

/-- The edit of one of the two inputs. -/
def Lap.editZx (l : Lap) (input : Nat) (f : ZxInput → ZxInput) : Lap :=
  if input = 0 then { l with zxa := f l.zxa } else { l with zxb := f l.zxb }

/-- Is an input used by the vote mode (R249)? -/
def LapCfg.uses (c : LapCfg) (input : Nat) : Bool :=
  match c.vote with
  | 0 => true
  | 1 => decide (input = 0)
  | 2 => decide (input = 1)
  | _ => false

/-- An accepted level of ZXA or ZXB (R248): a rising level, after the polarity setting, gives a candidate at the time of its first
transition less the detector delay, to 4 ns. -/
def Lap.zxEdge (l : Lap) (c : LapCfg) (input : Nat) (level : Bool) (at_ : Nat) : Lap :=
  let v := level != c.polarity.testBit input
  let t : Int := (at_ / 4 * 4 : Nat) - (1000 * c.delayUs : Nat)
  l.editZx input fun z =>
    if v then { z with level := true, candidate := if c.uses input then some t else none }
    else { z with level := false, fallNow := true }

/-- What a voted crossing took from an input (R250): nothing; a candidate that agreed with the other's; one that was used, alone or against the other's; one
that disagreed and was not used; or one left for a crossing of its own. -/
inductive ZxPart where
  | none
  | agreed
  | used
  | unused
  | left
  deriving DecidableEq, Repr

/-- Count one voted crossing for an input (R251): 8 in a row without a candidate of its own, or with one that disagreed and was not used, declare it failed; 8
in a row in which it agreed clear it. -/
def ZxInput.judge (z : ZxInput) (x : ZxPart) : ZxInput :=
  let bad := if x = .agreed ∨ x = .used then 0 else z.bad + 1
  let good := if x = .agreed then z.good + 1 else 0
  { z with candidate := if x = .left then z.candidate else none, used := decide (x = .agreed ∨ x = .used), bad := min 8 bad, good := min 8 good
           failed := if 8 ≤ bad then true else if 8 ≤ good then false else z.failed }

/-- The predicted origin nearest to a time, and whether it is the coming one. -/
def Lap.predicted (l : Lap) (t : Int) : Rat × Bool :=
  if (t : Rat) - l.originAt < l.nextOrigin - t then (l.originAt, false) else (l.nextOrigin, true)

/-- The outcome of a vote (R250): the crossing, what it took from each input, and whether the two disagreed. -/
structure Vote where
  time  : Int
  a     : ZxPart
  b     : ZxPart
  disagreed : Bool
  deriving DecidableEq, Repr

/-- Distance of two times. -/
def apart (a b : Rat) : Rat := if a < b then b - a else a - b

/-- The prediction that a candidate is held against, with its period: in Locked the lap's own, else the background estimator's, if it has one. -/
def Lap.prediction (l : Lap) (t : Int) : Option (Rat × Rat) :=
  if l.mode = .locked then some ((l.predicted t).1, l.period) else l.est.period.map fun p => (l.est.next, p)

/-- Half the gate around a prediction, in ns (R256). -/
def LapCfg.gateNs (c : LapCfg) (period : Rat) : Rat := period * c.gate / 65536

/-- Does a candidate lie within the gate (R256)? -/
def Lap.inGate (l : Lap) (c : LapCfg) (t : Int) : Bool :=
  match l.prediction t with
  | some (p, period) => decide (apart t p ≤ c.gateNs period)
  | none => false

/-- Combine the candidates (R250). Two that lie further apart than the agreement window are weighed against each other where both lie within the gate, and
where there is no prediction; else each makes a crossing of its own, the earlier first. -/
def Lap.vote (l : Lap) (c : LapCfg) : Option Vote :=
  match l.zxa.candidate, l.zxb.candidate with
  | none, none => none
  | some a, none => some ⟨a, .used, .none, false⟩
  | none, some b => some ⟨b, .none, .used, false⟩
  | some a, some b =>
    if (a - b).natAbs ≤ 1000 * c.agreeUs then some ⟨(a + b) / 2, .agreed, .agreed, false⟩
    else match l.prediction a with
    | none => some ⟨a, .used, .unused, true⟩
    | some (p, _) =>
      if l.inGate c a && l.inGate c b then
        if apart a p ≤ apart b p then some ⟨a, .used, .unused, true⟩ else some ⟨b, .unused, .used, true⟩
      else if a ≤ b then some ⟨a, .used, .left, false⟩ else some ⟨b, .left, .used, false⟩

/-- Phase error in lap units of a period, to the nearest unit (R255). -/
def lapError (crossing predicted period : Rat) : Int := roundRat ((crossing - predicted) * 65536 / period)

/-- Clip to plus or minus the disturbance threshold (R255). -/
def clipTo (e : Int) (limit : Nat) : Int := max (-(limit : Int)) (min (limit : Int) e)

/-- One loop update (R255): the new period and the length of the lap that begins at this origin. -/
def loopUpdate (c : LapCfg) (period : Rat) (ec : Int) : Rat × Rat :=
  let p := period * (1 + gainKi c.gain * ec / 65536)
  (p, p * (1 + gainKp c.gain * ec / 65536))

/-- What a voted crossing is to the background estimator (R253, R256, R257). -/
inductive EstOutcome where
  /-- The first crossing, or an interval that seeds it. -/
  | seeding
  | inside
  | outside
  /-- Inside the gate, and the period has left its range. -/
  | range
  deriving DecidableEq, Repr

/-- A voted crossing at the background estimator (R253). -/
def LapEstimator.crossing (e : LapEstimator) (c : LapCfg) (t : Int) : LapEstimator × EstOutcome :=
  match e.period with
  | none =>
    match e.lastCross with
    | none => ({ e with lastCross := some t }, .seeding)
    | some s =>
      let d : Rat := t - s
      if periodInRange d then ({ lastCross := some t, period := some d, origin := t, next := t + d, hits := 0 }, .seeding)
      else ({ lastCross := some t }, .seeding)
  | some p =>
    let err := lapError t e.next p
    if (c.gate : Int) < err.natAbs then ({ lastCross := some t }, .outside)
    else
      let (p', len) := loopUpdate c p (clipTo err c.dist)
      if periodInRange p' then
        ({ lastCross := some t, period := some p', origin := e.next, next := e.next + len
           hits := if err.natAbs ≤ c.lock then e.hits + 1 else 0 }, .inside)
      else ({ lastCross := some t }, .range)

/-- The estimator's phase at a time, 0 to 65535: its lap runs from its last origin to its prediction. -/
def LapEstimator.phaseAt (e : LapEstimator) (t : Rat) : Nat :=
  if e.period.isNone ∨ e.next ≤ e.origin then 0
  else let x := (t - e.origin) / (e.next - e.origin); ((x - x.floor) * 65536).floor.toNat

/-- A rejected edge: counted, and the lap flagged (R256, R277). -/
def Lap.reject (l : Lap) : Lap × List Notice :=
  ({ l with rejected := l.rejected + 1, disturbed := true
            disturbedLaps := if l.disturbed then l.disturbedLaps else l.disturbedLaps + 1 },
   if l.disturbed then [] else [.event 7 0x2041 0x0E])

/-- The report of an input's failure or recovery (R251). -/
def zxNotices (before after : ZxInput) (input : Nat) (other : Bool) : List Notice :=
  if after.failed && !before.failed then [.event 7 0x2040 0x06, .fault 0x38 1 input]
  else if before.failed && !after.failed && !other then [.gone 0x38] else []

/-- In Locked, every voted crossing inside the gate updates the loop (R255); outside it, it is rejected (R256). -/
def Lap.lockedCrossing (l : Lap) (c : LapCfg) (t : Int) (now : Nat) : Lap × List Notice :=
  let (p, coming) := l.predicted t
  let err := lapError t p l.period
  if (c.gate : Int) < err.natAbs then l.reject
  else
    let (period, len) := loopUpdate c l.period (clipTo err c.dist)
    let big := decide ((c.dist : Int) < err.natAbs)
    let l := { l with error := err, period := period, missed := 0 }
    let l := if coming then { l with nextLength := some len, crossedNext := true, disturbNext := big || l.disturbNext }
             else { l with length := len, crossedNow := true, disturbed := big || l.disturbed
                           disturbedLaps := if big && !l.disturbed then l.disturbedLaps + 1 else l.disturbedLaps }
    let n := if big && !coming then [.event 7 0x2041 0x0E] else []
    if periodInRange period then (l, n)
    else let (l, m) := l.lose c 2 now; (l, n ++ m)

/-- In Acquiring, Coasting and Re-locking a voted crossing goes to the background estimator (R253). One outside the gate is rejected; in Re-locking the
estimator goes on by its predictions, until four are missed or its period leaves the range (R257). -/
def Lap.backgroundCrossing (l : Lap) (c : LapCfg) (t : Int) (now : Nat) : Lap × List Notice :=
  let (e, what) := l.est.crossing c t
  let (l, n) := if what = .outside then l.reject else (l, [])
  if l.mode = .relocking then
    match what with
    | .outside => (l, n)
    | .range => let (l, m) := l.lose c 2 now; (l, n ++ m)
    | _ => ({ l with est := e, missed := 0 }, n)
  else
    let l := { l with est := e }
    if 8 ≤ e.hits then let (l, m) := l.enter .relocking; (l, n ++ m) else (l, n)

/-- Has a candidate, with all that may still come before a time, been accepted by now? -/
def LapCfg.settled (c : LapCfg) (t : Rat) (now : Nat) : Bool := decide (t + 1000 * (c.delayUs + c.filterUs : Nat) ≤ now)

/-- May a lone candidate be voted: no partner can come within the agreement window any more, nor, where it lies within the gate, another candidate in it
(R250)? -/
def Lap.loneDue (l : Lap) (c : LapCfg) (t : Int) (now : Nat) : Bool :=
  decide (c.vote ≠ 0) ||
    (c.settled (t + 1000 * c.agreeUs) now &&
      (match l.prediction t with
       | some (p, period) => !l.inGate c t || c.settled (p + c.gateNs period) now
       | none => true))

/-- Is a vote complete: a candidate in hand from each input the mode uses, or a lone one that none can join (R250)? -/
def Lap.voteDue (l : Lap) (c : LapCfg) (now : Nat) : Bool :=
  match l.zxa.candidate, l.zxb.candidate with
  | none, none => false
  | some _, some _ => true
  | some a, none => l.loneDue c a now
  | none, some b => l.loneDue c b now

/-- A voted crossing (R250, R251, R253, R255). -/
def Lap.crossing (l : Lap) (c : LapCfg) (now : Nat) : Lap × List Notice :=
  if !l.voteDue c now then (l, [])
  else match l.vote c with
  | none => (l, [])
  | some v =>
    let a := if c.uses 0 then l.zxa.judge v.a else { l.zxa with candidate := none, used := false }
    let b := if c.uses 1 then l.zxb.judge v.b else { l.zxb with candidate := none, used := false }
    let n := zxNotices l.zxa a 0 b.failed ++ zxNotices l.zxb b 1 a.failed
    let l := { l with zxa := a, zxb := b, disagreed := if v.disagreed then l.disagreed + 1 else l.disagreed }
    let (l, m) := match l.mode with
      | .locked => l.lockedCrossing c v.time now
      | .off => (l, [])
      | _ => l.backgroundCrossing c v.time now
    (l, n ++ m)

/-- A candidate that lies within the gate waits for its vote. -/
def Lap.gatePending (l : Lap) (c : LapCfg) : Bool :=
  (match l.zxa.candidate with | some t => l.inGate c t | none => false) || (match l.zxb.candidate with | some t => l.inGate c t | none => false)

/-- A gate that ends without a voted crossing (R256); the fourth in a row declares loss (R257). In Re-locking the estimator's predictions
are judged. -/
def Lap.missing (l : Lap) (c : LapCfg) (now : Nat) : Lap × List Notice :=
  match l.mode with
  | .locked =>
    if !l.crossedNow && !l.gatePending c && decide (l.originAt + c.gateNs l.period ≤ now) then
      let l := { l with missed := l.missed + 1, crossedNow := true, error := 0 }
      if 4 ≤ l.missed then l.lose c 1 now else (l, [])
    else (l, [])
  | .relocking =>
    match l.est.period with
    | none => (l, [])
    | some p =>
      if !l.gatePending c && decide (l.est.next + c.gateNs p ≤ now) then
        let l := { l with missed := l.missed + 1
                          est := { l.est with origin := l.est.next, next := l.est.next + p, hits := 0 } }
        if 4 ≤ l.missed then l.lose c 1 now else (l, [])
      else (l, [])
  | _ => (l, [])

/-- The lap that begins at an origin: its first phase, its length, the period and the period source (R254, R255, R258). -/
def Lap.nextLap (l : Lap) (c : LapCfg) (o : Rat) : Nat × Rat × Rat × Nat :=
  match l.mode with
  | .locked => (0, l.nextLength.getD l.period, l.period, 0)
  | .relocking =>
    match l.est.period with
    | none => (0, l.period, l.period, l.source)
    | some p =>
      let phi := l.est.phaseAt o
      if c.step then (phi, p * (65536 - phi : Nat) / 65536, p, 0)
      else
        let d : Int := if 32768 ≤ phi then (phi : Int) - 65536 else phi
        let s : Int := if d < 0 then -(min d.natAbs 0x0400 : Nat) else (min d.natAbs 0x0400 : Nat)
        (0, p * (65536 - s) / 65536, p, 0)
  | .coasting =>
    if decide ((l.lostAt + c.holdMs * 1000000 : Nat) ≤ o) then (0, c.nominalPeriod, c.nominalPeriod, 2)
    else (0, l.period, l.period, l.source)
  | _ => (0, c.nominalPeriod, c.nominalPeriod, 2)

/-- Does Re-locking complete at this origin (R254)? -/
def Lap.relocks (l : Lap) (c : LapCfg) (o : Rat) : Bool :=
  decide (l.mode = .relocking) && l.est.period.isSome &&
    (c.step || let phi := l.est.phaseAt o; decide (phi ≤ c.lock) || decide (65536 - phi ≤ c.lock))

/-- A lap origin, real or virtual (R260): the count increments, or becomes a preset (R262), and the phase returns to 0 or to the step's
phase (R254). -/
def Lap.origin (l : Lap) (c : LapCfg) (now : Nat) : Lap × List Notice :=
  let o := l.nextOrigin
  if (now : Rat) < o then (l, [])
  else
    let (phi, len, period, src) := l.nextLap c o
    let locks := l.relocks c o
    let l := { l with
      count := match l.preset with | some n => n % 2 ^ 48 | none => (l.count + 1) % 2 ^ 48
      preset := none
      originAt := o, startPhase := phi, length := len, period := period, source := src
      nextLength := none, crossedNow := l.crossedNext, crossedNext := false
      disturbed := l.disturbNext, disturbNext := false
      disturbedLaps := if l.disturbNext then l.disturbedLaps + 1 else l.disturbedLaps
      before := some (l.disturbed, l.stepped && decide (0x8000 ≤ l.startPhase))
      stepped := locks && c.step
      boundaryDue := true
      zxa := { l.zxa with fallLast := l.zxa.fallNow, fallNow := false }
      zxb := { l.zxb with fallLast := l.zxb.fallNow, fallNow := false } }
    let n := if l.disturbed then [.event 7 0x2041 0x0E] else []
    if locks then
      let (l, m) := { l with crossedNow := true }.enter .locked
      (l, n ++ m)
    else (l, n)

/-- The vote mode in force changes (R252, R278): to Off, or to Coasting, without a lap loss fault message. -/
def Lap.setVote (l : Lap) (c : LapCfg) (now : Nat) : Lap × List Notice :=
  if c.vote = 3 then
    let (l, n) := l.enter .off
    ({ l with est := {}, nextLength := none, zxa := { l.zxa with candidate := none }, zxb := { l.zxb with candidate := none } }, n)
  else
    let src := match l.mode with | .off => 2 | .acquiring => 2 | _ => 1
    let (l, n) := l.enter .coasting
    ({ l with lostAt := now, source := src, est := {}, nextLength := none
              zxa := { l.zxa with candidate := none }, zxb := { l.zxb with candidate := none } }, n)

/-- The half-lap window that has ended last (R270): its lap and whether it is the second, with its flags (R271): its lap is disturbed, and a step fell in it.
None where no lap has gone before. A step past the middle leaves a lap without a first window. -/
def Lap.window (l : Lap) (now : Nat) : Option (Nat × Bool × Bool × Bool) :=
  if 0x8000 ≤ l.phase now ∧ l.startPhase < 0x8000 then some (l.count, false, l.disturbed, l.stepped)
  else l.before.map fun w => ((l.count + 2 ^ 48 - 1) % 2 ^ 48, true, w.1, w.2)

/-- First time at or after `from_` at which the lap reaches a phase, and its lap count, looking `n` laps ahead (R264): the coming lap has the length that a
crossing has already given it, those after it the period. -/
def Lap.nextPhase (l : Lap) (phase : Nat) (from_ : Rat) : Nat → Nat → Option (Nat × Rat)
  | 0, _ => none
  | n + 1, ahead =>
    let t : Option Rat :=
      if ahead = 0 then
        if phase < l.startPhase ∨ 65536 ≤ l.startPhase then none
        else some (l.originAt + l.length * ((phase - l.startPhase : Nat) : Rat) / ((65536 - l.startPhase : Nat) : Rat))
      else
        let coming := l.nextLength.getD l.period
        if ahead = 1 then some (l.nextOrigin + coming * (phase : Rat) / 65536)
        else some (l.nextOrigin + coming + l.period * ((ahead - 2 : Nat) : Rat) + l.period * (phase : Rat) / 65536)
    match t with
    | some t => if from_ ≤ t then some ((l.count + ahead) % 2 ^ 48, t) else l.nextPhase phase from_ n (ahead + 1)
    | none => l.nextPhase phase from_ n (ahead + 1)

/-- Time at which the lap `ahead` laps after the present one reaches a phase. -/
def Lap.timeOf (l : Lap) (ahead phase : Nat) : Option Rat := (l.nextPhase phase 0 1 ahead).map Prod.snd

/-! ## Capture and Q7 -/

/-- Number of Q7 entries (R273). -/
def q7Size : Nat := 4096

/-- One Q7 entry (Table 09-4). -/
def q7Entry (current : Nat) (blanked limited disturbed first : Bool) (number : Nat) : Word32 :=
  BitVec.ofNat 32 (min current 0xFFFF
    + (if blanked then 2 ^ 16 else 0) + (if limited then 2 ^ 17 else 0)
    + (if disturbed then 2 ^ 18 else 0) + (if first then 2 ^ 19 else 0) + (number % 16) * 2 ^ 20)

/-- Write one entry at the write index (R273). -/
def Capture.push (c : Capture) (v : Word32) : Capture :=
  { c with ring := c.ring.filter (fun e => e.1 != c.writeIdx) ++ [(c.writeIdx, v)]
           writeIdx := (c.writeIdx + 1) % q7Size, count := c.count + 1 }

/-- One sample of a running capture (R273): a full ring ends it truncated, its last sample ends it complete. -/
def Capture.sample (c : Capture) (current : Nat) (blanked limited disturbed : Bool) : Capture × List Notice :=
  if c.mode ≠ .running then (c, [])
  else if q7Size ≤ c.count then
    ({ c with mode := .truncated }, [.event 7 0x2044 0x06, .fault 0x4C 1 0xFF])
  else
    let c := c.push (q7Entry current blanked limited disturbed (decide (c.written = 0)) c.number)
    let c := { c with written := c.written + 1 }
    if c.length ≤ c.written then ({ c with mode := .complete }, [.event 7 0x2044 0x06]) else (c, [])

/-- A write of the Q7 read index (R273): the answer is a status, 0x0306 for 4096 or more, 0x0502 beyond the count. -/
def Capture.advance (c : Capture) (v : Nat) : Capture × Nat :=
  if q7Size ≤ v then (c, 0x0306)
  else
    let n := (v + q7Size - c.readIdx) % q7Size
    if c.count < n then (c, 0x0502)
    else ({ c with readIdx := v, count := c.count - n }, 0)

/-- End a capture early (R272, R274). -/
def Capture.abort (c : Capture) : Capture × List Notice :=
  match c.mode with
  | .armed => ({ c with mode := .aborted }, [.event 7 0x2044 0x06])
  | .running => ({ c with mode := .aborted }, [.event 7 0x2044 0x06])
  | _ => (c, [])

end Sys2Proof.Machine
end

