-- ==== Sys2Proof/Machine/NetState.lean ====
section
/-! DEFINITION. The hub's two network ports, the frame switch and the hardware queues Q0 to Q6 (chapter 12). -/

namespace Sys2Proof.Machine

/-- Where a queued frame comes from: a Q3 or Q4 descriptor, the runtime or gPTP, or the other port. -/
inductive FrameSource where
  | q3 (index : Nat)
  | q4 (index : Nat)
  | runtime
  | gptp
  | forwarded
  deriving DecidableEq, Repr, Inhabited

/-- A frame queued for transmission on a port: its source, its bytes (for a descriptor's frame, none: the hub reads the buffer while it
sends), its length without the FCS, and its timestamp request. -/
structure TxFrame where
  source : FrameSource
  data   : List Byte := []
  length : Nat := 0
  wantTs : Bool := false
  tsId   : Nat := 0
  held   : Bool := false
  deriving DecidableEq, Repr, Inhabited

/-- The Q3 head once converted (R345): its launch in units of domain P, whether it was judged late, when it became eligible, and whether a
step or a calibration intervened. -/
structure Q3Head where
  launch    : Int := 0
  late      : Bool := false
  lateBy    : Nat := 0
  eligible  : Option Nat := none
  stepped   : Bool := false
  retimed   : Bool := false
  /-- Lap count (its low 16 bits) and phase still to be resolved at the origin of that lap (R275). -/
  lapAt     : Option (Nat × Nat) := none
  deriving DecidableEq, Repr, Inhabited

/-- A frame in transmission, or between two attempts: its class, the attempts aborted so far, when its delimiter started, and for a Q3 frame its
converted launch. -/
structure TxCurrent where
  frame    : TxFrame
  cls      : Nat
  startAt  : Nat
  startP   : Nat
  coarse   : Bool
  attempts : Nat
  head     : Q3Head := {}
  deriving DecidableEq, Repr, Inhabited

/-- One ring port (R355 to R360). -/
structure Port where
  running    : Bool := false
  inReset    : Bool := false
  beaconLost : Bool := false
  lastBeacon : Nat := 0
  /-- Within a PLCA cycle, the first ID whose transmit opportunity is still to come; none before the first BEACON (R356). -/
  cycle      : Option Nat := none
  /-- A PLCA setting was written while a frame was in transmission (R356). -/
  plcaDue    : Bool := false
  linkDown   : Bool := false
  abortRun   : Nat := 0
  class3     : List TxFrame := []
  class1     : List TxFrame := []
  class0     : List TxFrame := []
  current    : Option TxCurrent := none
  waiting    : Option TxCurrent := none
  burst      : Nat := 0
  errorTimes : List Nat := []
  errorRate  : Bool := false
  sent       : Word32 := 0
  received   : Word32 := 0
  rxErrors   : Word32 := 0
  aborts     : Word32 := 0
  dropped    : Word32 := 0
  flushed    : Word32 := 0
  /-- Frames completed on the line, oldest first: what the outside can see of the last transmission. -/
  lastSent   : Option TxFrame := none
  deriving DecidableEq, Repr, Inhabited

/-- Indices, entries and overflow of a ring of fixed-size entries (R367). An entry is held as one number, least significant byte first. -/
structure Ring where
  prod     : Nat := 0
  cons     : Nat := 0
  slots    : List Nat := []
  overflow : Bool := false
  lost     : Word32 := 0
  deriving DecidableEq, Repr, Inhabited

/-- A host ring entry (R370) and the time at which CSN rose on it (R240). -/
structure HostEntry where
  payload : List Byte := []
  length  : Nat := 0
  bad     : Bool := false
  at_     : Nat := 0
  deriving DecidableEq, Repr, Inhabited

/-- Q0 or Q1: up to 31 entries in use, oldest first, and the two indices (R370). -/
structure HostRing where
  prod    : Nat := 0
  cons    : Nat := 0
  entries : List HostEntry := []
  deriving DecidableEq, Repr, Inhabited

/-- Copies of Q4 frames still outstanding: descriptor index, copies left, highest status so far, attempts. -/
structure Q4Pending where
  index    : Nat
  copies   : Nat
  status   : Nat := 0
  attempts : Nat := 0
  deriving DecidableEq, Repr, Inhabited

/-- A learned address (R363). -/
structure Learned where
  mac  : Nat
  port : Nat
  seen : Nat
  deriving DecidableEq, Repr, Inhabited

/-- Ports, switch and queues. -/
structure Net where
  port0    : Port := {}
  port1    : Port := {}
  learned  : List Learned := []
  q0       : HostRing := {}
  q1       : HostRing := {}
  q2       : Ring := { slots := List.replicate 64 0 }
  q2Seq    : Nat := 0
  q2Gap    : Bool := false
  q3       : Ring := { slots := List.replicate 16 0 }
  q3Head   : Option Q3Head := none
  /-- Per Q3 entry, the domain P time to which its lap phase has been resolved (R275). -/
  q3Laps   : List (Option Int) := List.replicate 16 none
  q4       : Ring := { slots := List.replicate 32 0 }
  q4Out    : List Q4Pending := []
  /-- Q4 descriptors that were in the ring at the last standby entry and have not been handed over since (Table 12-8). -/
  q4Held   : Nat := 0
  q5       : Ring := { slots := List.replicate 64 0 }
  /-- When the frame of each Q5 entry arrived, in the model's clock (R385). -/
  q5At     : List Nat := List.replicate 64 0
  classify : Nat := 0
  q6       : Ring := { slots := List.replicate 16 0 }
  /-- Domain P at the last standby entry and exit, in its own units: launches between the two met standby (Table 12-8). -/
  gapFrom  : Nat := 0
  gapTo    : Nat := 0
  spiBad   : Word32 := 0
  deriving DecidableEq, Repr, Inhabited

/-- Network settings in force (Table 12-10). -/
structure PortCfg where
  enabled   : Bool := true
  nodeId    : Nat := 0
  idCount   : Nat := 1
  nodeCount : Nat := 8
  timer     : Nat := 32
  burst     : Nat := 0
  errors    : Nat := 10
  deriving DecidableEq, Repr, Inhabited

structure NetCfg where
  port0     : PortCfg := {}
  port1     : PortCfg := {}
  bridge    : Bool := true
  ageing    : Nat := 300
  vid       : Nat := 0
  highMap   : Nat := 0xF0
  pcp       : Nat := 0
  delivery  : Nat := 0
  filter    : List Nat := []
  ownMac    : Nat := 0
  runtimeGroups : List Nat := []
  deriving DecidableEq, Repr, Inhabited

end Sys2Proof.Machine
end

