-- ==== Sys2Proof/Config.lean ====
section
/-! DEFINITION. What one unit's manufacture fixes and what the spec leaves open, as constants without a body: nothing in Lean can
evaluate them, so a statement that mentions one holds for every value. -/

namespace Sys2Proof

/-- The n-th bit the spec leaves open (such as whether a low pulse of 1 to 10 microseconds on RSTN resets the hub, R63). -/
opaque Config.freeBit : Nat → Bool

/-- The n-th byte of the hub's entropy source, from which nonces and epochs are drawn (R400, R440). -/
opaque Config.entropyByte : Nat → Byte

/-- Serial number of the unit (R6). -/
opaque Config.serial : Nat

/-- The unit is of grade G1, not G0 (R5). -/
opaque Config.gradeG1 : Bool

/-- Date code, MAC address and further identity values that the factory writes, by index and subindex (R6). -/
opaque Config.factoryValue : Nat → Nat → Nat

/-- Bytes of an identity value that is a string or an octet field, by index and subindex. -/
opaque Config.factoryBytes : Nat → Nat → List Byte

/-- CRC-32C of the ROM (R87, step 5). -/
opaque Config.romCrc : Nat

/-- Outcome of the signature check over a patch image under the public key held in ROM (R481, R483): the key is not given. -/
opaque Config.signatureOk : List Byte → List Byte → Bool

/-- Clock class, accuracy and variance the unit advertises in Announce (R331); the spec does not give them. -/
opaque Config.clockQuality : Nat

/-- Fields of a gPTP message by message type and number of the field that neither the spec nor the unit's state gives a value (IEEE 802.1AS, which the spec
cites and does not reproduce): flags, information fields, time source. -/
opaque Config.gptpField : Nat → Nat → Nat

/-- The configured trims of a bank at its claim (R93), given those it holds: no object of the dictionary has them. -/
opaque Config.claimTrims : Nat → List Int → List Int

/-- Values a re-trim finds (R491), by bank and draw. -/
opaque Config.trims : Nat → Nat → List Int

end Sys2Proof
end

