-- ==== Sys2Proof/Machine/TimeState.lean ====
section
/-! DEFINITION. The hub's time domains P and S, the servo, gPTP and PPS (chapter 11). -/

namespace Sys2Proof.Machine

/-- Domain P states (R333, Table 11-2). -/
inductive PState where
  | unset
  | free
  | acquiring
  | lockedGptp
  | lockedPps
  | holdover
  | baton
  | hostServo
  deriving DecidableEq, Repr, Inhabited

/-- The servo's constants (R323). -/
structure ServoCfg where
  kp      : Nat := 512
  ki      : Nat := 51
  lockNs  : Nat := 100
  stepNs  : Nat := 1000000
  deriving DecidableEq, Repr, Inhabited

/-- One servo's working values (R323): integral and rate are fractions, `bad` counts samples beyond 8 lock thresholds. -/
structure Servo where
  integral : Rat := 0
  rate     : Rat := 0
  good     : Nat := 0
  bad      : Nat := 0
  locked   : Bool := false
  offset   : Int := 0
  deriving DecidableEq, Repr, Inhabited

/-- A grandmaster that announces itself on a domain (R326): its priority vector, the steps to it, the port it is heard on, and when it was last heard. -/
structure Candidate where
  vector  : Nat
  steps   : Nat := 0
  port    : Nat := 0
  heardAt : Nat := 0
  deriving DecidableEq, Repr, Inhabited

/-- One gPTP domain (R326, R332, R334): its grandmaster's priority vector (the identity is its low 64 bits), what the best master clock algorithm chooses from,
when Sync last came and since when an Announce is waited for, the Sync interval of the grandmaster, and the causes of its source that stand. -/
structure GptpDomain where
  grandmaster : Option Nat := none
  candidates  : List Candidate := []
  lastSync    : Option Nat := none
  lastAnnounce : Option Nat := none
  intervalNs  : Nat := 125000000
  /-- The port on which the grandmaster is heard: a relay passes time to the other one (R326). -/
  slavePort   : Option Nat := none
  /-- What the last Sync with its Follow_Up told: the time of its origin with its correction in ns, and the count of domain S when it came. -/
  origin      : Nat := 0
  originS     : Nat := 0
  lost        : Bool := false
  changed     : Bool := false
  timeout     : Bool := false
  deriving DecidableEq, Repr, Inhabited

/-- Peer delay of one port (R328). -/
structure PathDelay where
  measured : Nat := 0
  onStatic : Bool := false
  singles  : Nat := 0
  deriving DecidableEq, Repr, Inhabited

/-- The PPS land (R340, R341): as an output, its level, the domain P time in ns of its last rise, and from when on a whole second to pass is watched for. -/
structure Pps where
  high     : Bool := false
  riseAt   : Int := 0
  since    : Nat := 0
  lastEdge : Option Nat := none
  capP     : Nat := 0
  capS     : Nat := 0
  captures : Word32 := 0
  missing  : Bool := false
  outside  : Bool := false
  inside   : Nat := 0
  deriving DecidableEq, Repr, Inhabited

/-- The time domains. Domain P is kept in units of 2^-24 ns, modulo 2^48 s (R315); domain S in counts of 4 ns (R319); the anchor O of
S_derived in the units of domain P (R320). -/
structure TimeDomains where
  p          : Nat := 0
  increment  : Nat := 0x04000000
  s          : Nat := 0
  anchor     : Nat := 0
  anchorS    : Nat := 0
  rate       : Int := 0
  state      : PState := .unset
  hostOwned  : Bool := false
  hostWrite  : Nat := 0
  hostStale  : Bool := false
  timeSet    : Bool := false
  sets       : Word32 := 0
  servo      : Servo := {}
  servoS     : Servo := {}
  /-- The last sample of `servoS` steered S_derived toward domain P, not toward the second domain (R327). -/
  sToP       : Bool := false
  increments : List (Nat × Nat) := []
  deltas     : List Int := []
  slaved     : Bool := false
  slew       : Int := 0
  lostAt     : Option Nat := none
  limitHit   : Bool := false
  standbyGap : Int := 0
  first      : GptpDomain := {}
  second     : GptpDomain := {}
  path0      : PathDelay := {}
  path1      : PathDelay := {}
  /-- Sequence numbers of the gPTP messages, and when the last of each was sent (R329): per port Sync of both domains, Announce of both, peer delay. -/
  seqs       : List Nat := List.replicate 10 0
  sentAt     : List (Option Nat) := List.replicate 10 none
  pps        : Pps := {}
  onTime     : Word32 := 0
  late       : Word32 := 0
  dropped    : Word32 := 0
  deriving DecidableEq, Repr, Inhabited

/-- Time objects that act on the domains, as they stand in force (Table 11-8). -/
structure TimeCfg where
  servo       : ServoCfg := {}
  hostMs      : Nat := 4000
  baton       : Bool := false
  holdLimit   : Nat := 60
  inst        : Nat := 1
  secondOn    : Bool := false
  prio1       : Nat := 248
  prio2       : Nat := 248
  syncCode    : Nat := 2
  syncCount   : Nat := 3
  announceS   : Nat := 3
  static0     : Nat := 50
  static1     : Nat := 50
  mode0       : Nat := 0
  mode1       : Nat := 0
  ppsMode     : Nat := 0
  ppsOffset   : Nat := 0
  ppsWidth    : Nat := 100000
  ppsWindow   : Nat := 10000
  deriving DecidableEq, Repr, Inhabited

end Sys2Proof.Machine
end

