-- ==== Sys2Proof/Machine/TimeOps.lean ====
section
/-! DEFINITION. The operations of the time domains: ticks, reading, set and step, the servo (R323), gPTP (R326 to R332),
loss, holdover and baton pass (R334 to R339), PPS (R340, R341). -/

namespace Sys2Proof.Machine

/-- Units of domain P in one nanosecond and in one second, and its modulus (R315). -/
def pUnit : Nat := 2 ^ 24
def pSecond : Nat := 1000000000 * pUnit
def pModulus : Nat := 2 ^ 48 * pSecond

/-- Seconds and nanoseconds of domain P. -/
def TimeDomains.seconds (t : TimeDomains) : Nat := t.p / pSecond
def TimeDomains.nanos (t : TimeDomains) : Nat := t.p % pSecond / pUnit

/-- Domain P in whole nanoseconds. -/
def TimeDomains.pNs (t : TimeDomains) : Nat := t.p / pUnit

/-- The short time of R342. -/
def shortTime (sec ns : Nat) : Nat := ((sec % 2 ^ 32) * 1000000000 + ns) % 2 ^ 32
def TimeDomains.short (t : TimeDomains) : Nat := shortTime t.seconds t.nanos

/-- Add a signed number of units to domain P, with carry or borrow into the seconds, modulo 2^48 s. -/
def TimeDomains.move (t : TimeDomains) (d : Int) : TimeDomains :=
  { t with p := (((t.p : Int) + d) % (pModulus : Int)).toNat }

/-- Derived time of domain S in units of domain P (R320). -/
def TimeDomains.derived (t : TimeDomains) : Int :=
  let c : Rat := ((t.s + 2 ^ 64 - t.anchorS) % 2 ^ 64 : Nat)
  (t.anchor : Int) + (c * 4 * pUnit * (1 + (t.rate : Rat) / 2 ^ 32)).floor

/-- P minus S_derived in ns. -/
def TimeDomains.delta (t : TimeDomains) : Int := ((t.p : Int) - t.derived) / pUnit

/-- `k` ticks of the 250 MHz time clock (R316, R319, R336). Domain P stands still in standby (R95); slaved, it advances as S_derived
implies, plus the slew of 10 ns per ms. -/
def TimeDomains.advance (t : TimeDomains) (k : Nat) (pRuns : Bool) : TimeDomains :=
  let t' := { t with s := (t.s + k) % 2 ^ 64 }
  if !pRuns then t'
  else if t.slaved then
    let most : Int := (k * 4 * pUnit / 100000 : Nat)
    let d : Int := max (-most) (min most t.slew)
    let base : Int := ((k * 4 * pUnit : Nat) * (1 + (t.rate : Rat) / 2 ^ 32)).floor
    { t' with slew := t.slew - d }.move (base - d)
  else t'.move (k * t.increment : Nat)

/-- Code of a domain P state (Table 11-2). -/
def pStateCode : PState → Nat
  | .unset => 0
  | .free => 1
  | .acquiring => 2
  | .lockedGptp => 3
  | .lockedPps => 4
  | .holdover => 5
  | .baton => 6
  | .hostServo => 7

/-- Enter a domain P state, with its E10 report (R333). -/
def TimeDomains.enter (t : TimeDomains) (s : PState) : TimeDomains × List Notice :=
  if t.state = s then (t, [])
  else ({ t with state := s },
    [.event 10 0x4000 0x06, .journal 0xC (pStateCode s) []])

/-- The PPS output over a jump of domain P: the width of a pulse goes on from where it stood, and a whole second is watched for from the new time on. -/
def TimeDomains.ppsJump (old new : TimeDomains) : TimeDomains :=
  { new with pps := { new.pps with riseAt := new.pps.riseAt + ((new.pNs : Int) - old.pNs), since := new.pNs } }

/-- Time set (R317): loads domain P and clears the fraction. -/
def TimeDomains.set (t : TimeDomains) (sec ns : Nat) : TimeDomains × List Notice :=
  let t := t.ppsJump { t with p := (sec % 2 ^ 48) * pSecond + ns * pUnit, timeSet := true, sets := t.sets + 1 }
  let (t, n) := if t.state = .unset then t.enter .free else (t, [])
  (t, [.event 10 0x4000 0x02, .journal 0xC (pStateCode t.state) []] ++ n)

/-- Step adjust (R317). -/
def TimeDomains.step (t : TimeDomains) (ns : Int) (own : Bool) : TimeDomains × List Notice :=
  (t.ppsJump { t.move (ns * pUnit) with sets := t.sets + 1 }, [.event 10 0x4000 (if own then 0x09 else 0x03), .journal 0xC (pStateCode t.state) []])

/-- Bounds of the increment (R316). -/
def incrementMin : Nat := 0x03FF7CEE
def incrementMax : Nat := 0x04008312

/-- What a servo makes of a sample (R323): a step, or a new rate. -/
structure ServoOut where
  servo : Servo
  step  : Option Int
  lost  : Bool
  deriving DecidableEq, Repr

/-- One sample of the servo: offset o in ns, interval T in ns (R323). -/
def Servo.sample (v : Servo) (c : ServoCfg) (o : Int) (T : Nat) : ServoOut :=
  if (c.stepNs : Int) < o.natAbs then
    { servo := { v with good := 0, bad := 0, locked := false, offset := o }, step := some (-o), lost := v.locked }
  else
    let x : Rat := (o : Rat) / T
    let integral := v.integral + (c.ki : Rat) / 1024 * x
    let rate := -((c.kp : Rat) / 1024 * x + integral)
    let good := if o.natAbs ≤ c.lockNs then v.good + 1 else 0
    let bad := if 8 * c.lockNs < o.natAbs then v.bad + 1 else 0
    let locked := v.locked || decide (8 ≤ good)
    let lost := locked && decide (4 ≤ bad)
    { servo := { integral := integral, rate := rate, good := if lost then 0 else good, bad := if lost then 0 else bad
                 locked := locked && !lost, offset := o }
      step := none, lost := lost }

/-- The increment of a rate, within its range (R323). -/
def incrementOf (rate : Rat) : Nat :=
  max incrementMin (min incrementMax (roundRat ((0x04000000 : Rat) * (1 + rate))).toNat)

/-- Rebase S_derived on the present count, then set its rate (R320, R327). -/
def TimeDomains.setRateS (t : TimeDomains) (rate : Rat) : TimeDomains :=
  { t with anchor := t.derived.toNat, anchorS := t.s, rate := max (-2147484) (min 2147484 (roundRat (rate * 2 ^ 32))) }

/-- Good samples of a reference that is another one than before count from none on (R333). -/
def Servo.afresh (v : Servo) : Servo := { v with good := 0, bad := 0, locked := false }

/-- Steer domain S by a sample (R327): toward domain P, or of its own offset. A lock belongs to what was sampled, and starts over with a change of it. -/
def TimeDomains.sampleS (t : TimeDomains) (c : ServoCfg) (toP : Bool) (o : Int) (T : Nat) : TimeDomains :=
  let out := (if t.sToP = toP then t.servoS else t.servoS.afresh).sample c o T
  let t := { t with sToP := toP }
  match out.step with
  | some d => { t with servoS := out.servo, anchor := (t.derived + d * pUnit).toNat, anchorS := t.s }
  | none => { t.setRateS out.servo.rate with servoS := out.servo }

/-- The second domain is in lock by 8 good samples of its own (R336). -/
def TimeDomains.secondLocked (t : TimeDomains) : Bool := t.servoS.locked && !t.sToP

/-- The end of holdover or of a baton pass at a reference sample (R338, R339). -/
def TimeDomains.endLoss (t : TimeDomains) : TimeDomains × List Notice :=
  if t.lostAt.isSome then
    ({ t with lostAt := none, limitHit := false, slaved := false, slew := 0 }, [.gone 0x45])
  else (t, [])

/-- Mean of the increments written in the last 16 s of lock, or the last one (R335). -/
def TimeDomains.holdIncrement (t : TimeDomains) (now : Nat) : Nat :=
  let l := t.increments.filter fun e => decide (now ≤ e.1 + 16000000000)
  match t.increments, l with
  | (first, _) :: _, _ :: _ =>
    if first + 16000000000 ≤ now then roundDiv ((l.map Prod.snd).foldl (· + ·) 0) l.length else t.increment
  | _, _ => t.increment

/-- A reference sample of domain P (R323, R333, R338). `locked` is the state 8 good samples lead to. -/
def TimeDomains.sampleP (t : TimeDomains) (c : TimeCfg) (o : Int) (T now : Nat) (locked : PState) : TimeDomains × List Notice :=
  if t.hostOwned then ({ t with servo := { t.servo with offset := o } }, [])
  else
    let (t, n0) := t.endLoss
    let out := t.servo.sample c.servo o T
    match out.step with
    | some d =>
      let (t, n1) := TimeDomains.step { t with servo := out.servo, increments := [] } d true
      let (t, n2) := t.enter .acquiring
      (t, n0 ++ n1 ++ n2)
    | none =>
      let inc := incrementOf out.servo.rate
      let t := { t with
        servo := out.servo, increment := inc
        increments := if out.servo.locked then (t.increments.filter fun (e : Nat × Nat) => decide (now ≤ e.1 + 17000000000)) ++ [(now, inc)] else [] }
      let (t, n1) := t.enter (if out.servo.locked then locked else .acquiring)
      (t, n0 ++ n1)

/-- At a sample of the first domain while domain P is locked, P - S_derived is sampled (R336). -/
def TimeDomains.noteDelta (t : TimeDomains) : TimeDomains :=
  if t.state = .lockedGptp ∨ t.state = .lockedPps then { t with deltas := (t.deltas ++ [t.delta]).drop (t.deltas.length - 7) } else t

/-- Mean of the last samples of P - S_derived, in ns (R336). -/
def TimeDomains.deltaMean (t : TimeDomains) : Int :=
  if t.deltas.isEmpty then 0 else (t.deltas.foldl (· + ·) 0) / (t.deltas.length : Int)

/-- Domain P loses its reference (R334): a baton pass where the loss mode asks for it and the second domain is locked, otherwise
holdover (R335, R336). -/
def TimeDomains.lose (t : TimeDomains) (c : TimeCfg) (baton : Bool) (now : Nat) : TimeDomains × List Notice :=
  if t.hostOwned || decide (t.state = .unset) || decide (t.state = .free) || t.lostAt.isSome then (t, [])
  else if baton && c.secondOn && t.secondLocked then
    let d : Int := (t.p : Int) - (t.derived + t.deltaMean * pUnit)
    let jump : Int := max (-(8 * pUnit : Nat)) (min (8 * pUnit : Nat) d)
    let (t, n) := TimeDomains.enter ({ t with slaved := true, slew := d - jump, lostAt := some now, servo := t.servo.afresh }.move (-jump)) .baton
    (t, .fault 0x45 1 0xFF :: n)
  else
    let (t, n) := TimeDomains.enter { t with increment := t.holdIncrement now, lostAt := some now, servo := t.servo.afresh } .holdover
    (t, .fault 0x45 2 0xFF :: n)

/-- The second domain loses its grandmaster during a baton pass (R337). -/
def TimeDomains.loseSecond (t : TimeDomains) (now : Nat) : TimeDomains × List Notice :=
  if t.state = .baton then
    let (t, n) := TimeDomains.enter { t with lostAt := some now, limitHit := false, servoS := t.servoS.afresh } .holdover
    (t, .fault 0x45 2 0xFF :: n)
  else ({ t with servoS := t.servoS.afresh }, [])

/-- Time in holdover reaches the limit (R335). -/
def TimeDomains.holdLimitReached (t : TimeDomains) (c : TimeCfg) (now : Nat) : TimeDomains × List Notice :=
  if t.state = .holdover ∧ !t.limitHit ∧ elapsed t.lostAt (c.holdLimit * 1000000000) now then
    ({ t with limitHit := true }, [.fault 0x45 3 0xFF])
  else (t, [])

/-- Source of a gPTP domain, and its causes that stand (R332). -/
def gptpSource (second : Bool) : Nat := if second then 0x44 else 0x43
def GptpDomain.anyCause (d : GptpDomain) : Bool := d.lost || d.changed || d.timeout

/-- Edit one of the two domains. -/
def TimeDomains.domain (t : TimeDomains) (second : Bool) : GptpDomain := if second then t.second else t.first
def TimeDomains.setDomain (t : TimeDomains) (second : Bool) (d : GptpDomain) : TimeDomains :=
  if second then { t with second := d } else { t with first := d }

/-- The unit may be grandmaster: locked to PPS and set since the hub start (R331). -/
def TimeDomains.capable (t : TimeDomains) : Bool := decide (t.state = .lockedPps) && t.timeSet

/-- The unit's own priority vector: priority1 255 unless capable (R331). -/
def TimeDomains.ownVector (t : TimeDomains) (c : TimeCfg) (identity : Nat) : Nat :=
  (if t.capable then c.prio1 else 255) * 2 ^ 104 + Config.clockQuality % 2 ^ 32 * 2 ^ 72
    + (if t.capable then c.prio2 else 255) * 2 ^ 64 + identity % 2 ^ 64

/-- Candidates whose last Announce is younger than the announce receipt timeout (R329). -/
def GptpDomain.live (d : GptpDomain) (c : TimeCfg) (now : Nat) : List Candidate :=
  d.candidates.filter fun x => decide (now < x.heardAt + c.announceS * 1000000000)

/-- The better of two: by its vector, then by the steps to it. -/
def Candidate.best (x : Candidate) (y : Option Candidate) : Option Candidate :=
  match y with
  | none => some x
  | some y => if y.vector < x.vector ∨ (y.vector = x.vector ∧ y.steps ≤ x.steps) then some y else some x

/-- The unit itself is the grandmaster of a domain (R331). -/
def TimeDomains.ownMaster (t : TimeDomains) (second : Bool) (identity : Nat) : Bool :=
  match (t.domain second).grandmaster with
  | some g => decide (g % 2 ^ 64 = identity % 2 ^ 64)
  | none => false

/-- The best master clock algorithm (R326, R331, R332): of the candidates that still announce themselves and, where it is capable, the unit itself, the best is
grandmaster. Another identity than before is a change of grandmaster until 8 good samples of its domain, but for the unit's own, which it does not sample
(DEDUCED, log 98). -/
def TimeDomains.selectMaster (t : TimeDomains) (c : TimeCfg) (second : Bool) (identity now : Nat) : TimeDomains × List Notice :=
  let d := t.domain second
  let live := d.live c now
  let heard := live.foldl (fun y x => x.best y) none
  let own := t.ownVector c identity
  let mine := t.capable && (match heard with | some x => decide (own < x.vector) | none => true)
  let best := if mine then some own else heard.map Candidate.vector
  let differs := match d.grandmaster, best with | some g, some v => decide (g % 2 ^ 64 ≠ v % 2 ^ 64) | _, _ => false
  let loses := d.grandmaster.isSome && best.isNone
  let d' : GptpDomain := { d with
    candidates := live, grandmaster := best, slavePort := if mine then none else heard.map Candidate.port
    lost := best.isNone && (d.lost || loses)
    changed := best.isSome && !mine && (d.changed || differs)
    timeout := d.timeout && best.isSome && !differs }
  let t := t.setDomain second d'
  let t := if !differs then t
    else if second then { t with servoS := { t.servoS with good := 0 } }
    else if c.ppsMode = 3 then t else { t with servo := { t.servo with good := 0 } }
  (t, (if loses then [.fault (gptpSource second) 1 0xFF] else []) ++ (if differs && !mine then [.fault (gptpSource second) 2 0xFF] else [])
        ++ (if d.anyCause && !d'.anyCause then [.gone (gptpSource second)] else []))

/-- A domain has lost its grandmaster: the first one's loss is the loss of domain P's reference, unless that is PPS (R334), the second one's ends the steering
of domain S (R337). -/
def TimeDomains.masterLost (t : TimeDomains) (c : TimeCfg) (second baton : Bool) (now : Nat) : TimeDomains × List Notice :=
  if second then t.loseSecond now else if c.ppsMode = 3 then (t, []) else t.lose c baton now

/-- An Announce on a port (R326). -/
def TimeDomains.announce (t : TimeDomains) (c : TimeCfg) (second : Bool) (x : Candidate) (identity now : Nat) : TimeDomains × List Notice :=
  let d := t.domain second
  let rest := d.candidates.filter fun y => decide (y.vector % 2 ^ 64 ≠ x.vector % 2 ^ 64)
  (t.setDomain second { d with candidates := rest ++ [x], lastAnnounce := some now }).selectMaster c second identity now

/-- Candidates heard on a port that stops running are gone, and with them perhaps the grandmaster (R334, R337). -/
def TimeDomains.deafen (t : TimeDomains) (c : TimeCfg) (second : Bool) (port identity : Nat) (baton : Bool) (now : Nat) : TimeDomains × List Notice :=
  let d := t.domain second
  let had := d.grandmaster.isSome
  let (t, a) := (t.setDomain second { d with candidates := d.candidates.filter fun y => decide (y.port ≠ port) }).selectMaster c second identity now
  let (t, b) := if had && (t.domain second).grandmaster.isNone then t.masterLost c second baton now else (t, [])
  (t, a ++ b)

/-- The announce receipt timeout of a domain's grandmaster, or no announce since the port came up (R329, R332, R334, R337): the timeout is a loss of the
reference also where another candidate takes the grandmaster's place. -/
def TimeDomains.announceLost (t : TimeDomains) (c : TimeCfg) (second baton : Bool) (identity now : Nat) : TimeDomains × List Notice :=
  let d := t.domain second
  match d.grandmaster with
  | some g =>
    if t.ownMaster second identity || (d.live c now).any (fun x => decide (x.vector % 2 ^ 64 = g % 2 ^ 64)) then (t, [])
    else
      let (t, a) := t.selectMaster c second identity now
      let (t, b) := if second && (t.domain second).grandmaster.isSome then (t, []) else t.masterLost c second baton now
      (t, a ++ b)
  | none =>
    if !d.lost && decide (c.inst ≠ 0) && (!second || c.secondOn) && elapsed d.lastAnnounce (c.announceS * 1000000000) now then
      (t.setDomain second { d with lost := true }, [.fault (gptpSource second) 1 0xFF])
    else (t, [])

/-- The sync receipt timeout of a domain (R329, R332, R334). -/
def TimeDomains.syncLost (t : TimeDomains) (c : TimeCfg) (second baton : Bool) (identity now : Nat) : TimeDomains × List Notice :=
  let d := t.domain second
  if !d.timeout && !t.ownMaster second identity && elapsed d.lastSync (c.syncCount * d.intervalNs) now then
    let t := t.setDomain second { d with timeout := d.grandmaster.isSome, lastSync := if d.grandmaster.isSome then d.lastSync else none }
    let (t, n) := if second || decide (c.ppsMode = 3) then (t, []) else t.lose c baton now
    (t, (if d.grandmaster.isSome then [.fault (gptpSource second) 3 0xFF] else []) ++ n)
  else (t, [])

/-- A sample clears the sync timeout of its domain, and 8 good ones the change of grandmaster (R332). -/
def TimeDomains.syncSeen (t : TimeDomains) (second : Bool) (interval now good : Nat) : TimeDomains × List Notice :=
  let d := t.domain second
  let d' := { d with lastSync := some now, intervalNs := interval, timeout := false, changed := d.changed && decide (good < 8) }
  (t.setDomain second d', if d.anyCause && !d'.anyCause then [.gone (gptpSource second)] else [])

/-- A peer delay exchange (R328): several responders put a measuring port on its static delay, 8 exchanges with one responder bring it back. -/
def PathDelay.exchange (p : PathDelay) (measures : Bool) (responders delay : Nat) : PathDelay × Bool :=
  if !measures then ({ p with onStatic := false, singles := 0, measured := if responders = 1 then delay else p.measured }, false)
  else if 1 < responders then ({ p with onStatic := true, singles := 0 }, !p.onStatic)
  else if responders = 1 then
    let n := min 8 (p.singles + 1)
    ({ measured := delay, onStatic := p.onStatic && decide (n < 8), singles := n }, false)
  else (p, false)

/-- Path delay in use (0x4004.0F, .10). -/
def PathDelay.inUse (p : PathDelay) (mode static : Nat) : Nat := if mode = 1 ∨ p.onStatic then static else p.measured

/-- The path delay in use on a port. -/
def TimeDomains.pathDelay (t : TimeDomains) (c : TimeCfg) (n : Nat) : Nat :=
  if n = 0 then t.path0.inUse c.mode0 c.static0 else t.path1.inUse c.mode1 c.static1

/-- Does Sync that comes on a port give a sample of a domain: its grandmaster is heard there (R326)? -/
def TimeDomains.follows (t : TimeDomains) (second : Bool) (n : Nat) : Bool :=
  let d := t.domain second
  d.grandmaster.isSome && d.slavePort == some n

/-- A Sync has come with its Follow_Up: what a relay passes on. -/
def TimeDomains.noteOrigin (t : TimeDomains) (second : Bool) (origin : Nat) : TimeDomains :=
  t.setDomain second { t.domain second with origin := origin, originS := t.s }

/-- A Sync with its Follow_Up on the first domain (R323, R327, R334). `origin` is the time of its origin in ns with its correction: with the path delay it is
the reference time at the sampling tick. `T` is the sample interval. Without a grandmaster on a second domain the sample steers S_derived toward
domain P as well. -/
def TimeDomains.syncFirst (t : TimeDomains) (c : TimeCfg) (n origin T now : Nat) : TimeDomains × List Notice :=
  if c.inst = 0 ∨ T = 0 ∨ !t.follows false n then (t, [])
  else
    let t := t.noteOrigin false origin
    let o : Int := (t.pNs : Int) - (origin + t.pathDelay c n : Nat)
    let (t, a) := if c.ppsMode = 3 then ({ t with servo := if t.hostOwned then { t.servo with offset := o } else t.servo }, [])
      else t.sampleP c o T now .lockedGptp
    let t := t.noteDelta
    let t := if c.secondOn && t.second.grandmaster.isSome then t else t.sampleS c.servo true (-t.delta) T
    let (t, b) := t.syncSeen false T now (if c.ppsMode = 3 then 0 else t.servo.good)
    (t, a ++ b)

/-- A sample of the second domain steers O, C0 and r (R327), while the domain has a grandmaster (R337). -/
def TimeDomains.syncSecond (t : TimeDomains) (c : TimeCfg) (n origin T now : Nat) : TimeDomains × List Notice :=
  if c.inst = 0 ∨ T = 0 ∨ !c.secondOn ∨ !t.follows true n then (t, [])
  else
    let t := (t.noteOrigin true origin).sampleS c.servo false (t.derived / pUnit - (origin + t.pathDelay c n : Nat)) T
    t.syncSeen true T now t.servoS.good

/-- A rising PPS edge after at least 100 ns of low level (R341). -/
def TimeDomains.ppsEdge (t : TimeDomains) (c : TimeCfg) (lowNs now : Nat) : TimeDomains × List Notice :=
  if c.ppsMode ≠ 2 ∧ c.ppsMode ≠ 3 ∨ lowNs < 100 then (t, [])
  else
    let q := t.pps
    let q := { q with capP := t.p, capS := t.s, captures := q.captures + 1 }
    let rec_ : List Notice := [.event 10 0x4005 0x05]
    if c.ppsMode = 2 then ({ t with pps := { q with lastEdge := some now } }, rec_)
    else
      let o : Int := if t.nanos < 500000000 then (t.nanos : Int) else (t.nanos : Int) - 1000000000
      let inside := decide (o.natAbs ≤ c.ppsWindow)
      let locked := decide (t.state = .lockedPps)
      let count := if inside then min 4 (q.inside + 1) else 0
      let q' := { q with lastEdge := some now, missing := q.missing && !inside, inside := count
                         outside := (q.outside || (locked && !inside)) && decide (count < 4) }
      let t := { t with pps := q' }
      -- outside its window an edge is no sample of a domain that is locked (R341), and does not end a loss (R338)
      let (t, n) := if !inside && (locked || t.lostAt.isSome) then (t, []) else t.sampleP c o 1000000000 now .lockedPps
      (t, rec_ ++ (if q'.outside && !q.outside then [.fault 0x46 2 0xFF] else [])
            ++ (if (q.missing || q.outside) && !(q'.missing || q'.outside) then [.gone 0x46] else []) ++ n)

/-- 1.5 s after the last PPS edge in reference mode (R341, R334). -/
def TimeDomains.ppsMissing (t : TimeDomains) (c : TimeCfg) (baton : Bool) (now : Nat) : TimeDomains × List Notice :=
  if c.ppsMode = 3 ∧ !t.pps.missing ∧ elapsed t.pps.lastEdge 1500000000 now then
    let (t, n) := TimeDomains.lose { t with pps := { t.pps with missing := true } } c baton now
    (t, .fault 0x46 1 0xFF :: n)
  else (t, [])

/-- Whole seconds plus the output offset that lie at or before a domain P time. -/
def ppsMarks (c : TimeCfg) (ns : Nat) : Int := ((ns : Int) - c.ppsOffset) / 1000000000

/-- The PPS output rises when domain P passes a whole second plus the output offset (R340). -/
def TimeDomains.ppsRise (t : TimeDomains) (c : TimeCfg) : TimeDomains :=
  let mark := ppsMarks c t.pNs
  if c.ppsMode = 1 ∧ !t.pps.high ∧ ppsMarks c t.pps.since < mark then
    { t with pps := { t.pps with high := true, riseAt := mark * 1000000000 + c.ppsOffset, since := t.pNs } }
  else t

/-- The PPS output falls after its width on domain P (R340). -/
def TimeDomains.ppsFall (t : TimeDomains) (c : TimeCfg) : TimeDomains :=
  if t.pps.high ∧ t.pps.riseAt + (c.ppsWidth * 1000 : Nat) ≤ t.pNs then { t with pps := { t.pps with high := false } } else t

/-- The PPS mode is written (R340): the land is driven low until the next rising edge, and its causes go. Where the reference of domain P is another one from
now on, 8 good samples of it are to come (Table 11-2); one that is not there, gPTP without a grandmaster, is a loss (DESIGN CHOICE, log 97). -/
def TimeDomains.setPpsMode (t : TimeDomains) (c : TimeCfg) (mode : Nat) (baton : Bool) (now : Nat) : TimeDomains × List Notice :=
  let had := t.pps.missing || t.pps.outside
  let t := { t with pps := { t.pps with high := false, lastEdge := if mode = 3 then some now else none, missing := false, outside := false
                                        inside := 0, since := t.pNs }
                    servo := if c.ppsMode = 3 ∨ mode = 3 then t.servo.afresh else t.servo }
  let (t, n) := if c.ppsMode = 3 ∧ mode ≠ 3 ∧ c.inst ≠ 0 ∧ t.first.grandmaster.isNone then t.lose c baton now else (t, [])
  (t, (if had then [.gone 0x46] else []) ++ n)

/-- Ownership of the servo (R324): taken, domain P is in host servo; returned, the runtime servo starts with its integral at 0. -/
def TimeDomains.takeServo (t : TimeDomains) (now : Nat) : TimeDomains × List Notice :=
  let (t, n0) := t.endLoss
  let (t, n) := TimeDomains.enter { t with hostOwned := true, hostWrite := now, hostStale := false } .hostServo
  (t, n0 ++ n)
def TimeDomains.returnServo (t : TimeDomains) : TimeDomains × List Notice :=
  let (t, n0) := t.endLoss
  let (t, n) := TimeDomains.enter { t with hostOwned := false, hostStale := false, servo := { t.servo.afresh with integral := 0 } } .free
  (t, n0 ++ n)

/-- Standby entry and exit (R322). -/
def TimeDomains.sleep (t : TimeDomains) : TimeDomains := { t with standbyGap := (t.p : Int) - t.derived, pps := { t.pps with high := false } }
def TimeDomains.wake (t : TimeDomains) (now : Nat) : TimeDomains × List Notice :=
  let p := ((t.derived + t.standbyGap) % (pModulus : Int)).toNat
  let (t, n) := TimeDomains.enter { t with
    p := p, pps := { t.pps with since := p / pUnit }, increment := t.holdIncrement now, lostAt := some now, limitHit := false, slaved := false, slew := 0
    servo := t.servo.afresh } .holdover
  (t, .fault 0x45 2 0xFF :: n)

/-- Descriptors dropped or not sent among reports (0x4006.04): every one is reported with source 0x47 kind 0x2 (R348). -/
def TimeDomains.countDropped (t : TimeDomains) (m : List Notice) : TimeDomains :=
  { t with dropped := t.dropped + BitVec.ofNat 32 (m.filter fun x => match x with | .fault 0x47 2 _ => true | _ => false).length }

end Sys2Proof.Machine
end

