-- ==== Sys2Proof/Machine/NetOps.lean ====
section
/-! DEFINITION. The operations of ports, switch and queues: ring indices (R367), records of Q2 (R371 to R373), timed launch (R344 to R348),
immediate transmit (R374), transmission and its attempts (R358, R365), ingress and forwarding (R361 to R364), Q5 and Q6 (R375 to R378),
and what stopping a port does (R381). -/

namespace Sys2Proof.Machine

/-! ## Rings -/

/-- Entries in use of a ring of N entries. -/
def inUse (prod cons n : Nat) : Nat := (prod + n - cons) % n

/-- Status of a producer index write (R367): 0x0306 for N or more, 0x0502 where it would pass capacity. -/
def producerStatus (prod cons n v : Nat) : Nat :=
  if n ≤ v then 0x0306
  else if inUse v prod n + inUse prod cons n ≤ n - 1 then 0 else 0x0502

/-- Status of a consumer index write (R367). -/
def consumerStatus (prod cons n v : Nat) : Nat :=
  if n ≤ v then 0x0306
  else if inUse v cons n ≤ inUse prod cons n then 0 else 0x0502

/-- A ring of N entries is full with N - 1 in use. -/
def Ring.full (r : Ring) (n : Nat) : Bool := decide (n - 1 ≤ inUse r.prod r.cons n)

/-- Write one entry and advance the producer index. -/
def Ring.push (r : Ring) (n v : Nat) : Ring :=
  { r with slots := editAt r.slots r.prod fun _ => v, prod := (r.prod + 1) % n }

/-- A discarded entry: flag and loss count (R373, R375, R378). -/
def Ring.lose (r : Ring) : Ring := { r with overflow := true, lost := r.lost + 1 }

/-- Field of an entry: `w` bits from bit `at_`. -/
def field (v at_ w : Nat) : Nat := v / 2 ^ at_ % 2 ^ w

/-- Replace word 3 of a 16-byte entry. -/
def setWord3 (v w : Nat) : Nat := v % 2 ^ 96 + w % 2 ^ 32 * 2 ^ 96

/-! ## Q2 -/

/-- A Q2 record (Table 12-4). -/
def q2Record (short event type seq : Nat) (gap : Bool) (w2 w3 : Nat) : Nat :=
  short % 2 ^ 32 + (event % 16 + type % 16 * 16 + seq % 256 * 256 + (if gap then 2 ^ 16 else 0)) * 2 ^ 32
    + w2 % 2 ^ 32 * 2 ^ 64 + w3 % 2 ^ 32 * 2 ^ 96

/-- Write a record, or discard it and flag the loss (R371, R373). The second part says that it was lost. -/
def Net.record (n : Net) (short event type w2 w3 : Nat) : Net × Bool :=
  if n.q2.full 64 then ({ n with q2 := n.q2.lose, q2Gap := true }, true)
  else ({ n with q2 := n.q2.push 64 (q2Record short event type n.q2Seq n.q2Gap w2 w3)
                 q2Seq := (n.q2Seq + 1) % 256, q2Gap := false }, false)

/-! ## Ports -/

def Net.port (n : Net) (i : Nat) : Port := if i = 0 then n.port0 else n.port1
def Net.editPort (n : Net) (i : Nat) (f : Port → Port) : Net :=
  if i = 0 then { n with port0 := f n.port0 } else { n with port1 := f n.port1 }
def NetCfg.port (c : NetCfg) (i : Nat) : PortCfg := if i = 0 then c.port0 else c.port1

/-- Source of a port, its event and its status object (Table 10-6, R518). -/
def portSource (i : Nat) : Nat := 0x40 + i
def portEvent (i : Nat) : Notice := .event (8 + i) (0x4401 + i) 0x08

/-- PLCA is configured (R356); the port that owns ID 0 is the coordinator. -/
def PortCfg.plca (c : PortCfg) : Bool := decide (c.nodeId ≠ 0xFF)
def PortCfg.coordinator (c : PortCfg) : Bool := decide (c.nodeId = 0)

/-- Does the port stand behind some cause of its source (R357, R359, R360)? -/
def Port.anyCause (p : Port) : Bool := p.linkDown || p.beaconLost || p.errorRate

/-- State 0 of a port's source once no cause is left (R284). -/
def portGone (before after : Port) (i : Nat) : List Notice :=
  if before.anyCause && !after.anyCause then [.gone (portSource i)] else []

/-- Start a port as after a port reset (R355). -/
def Net.startPort (n : Net) (i now : Nat) : Net × List Notice :=
  if (n.port i).running then (n, [])
  else (n.editPort i fun p => { p with running := true, inReset := false, lastBeacon := now, cycle := none, plcaDue := false }, [portEvent i])

/-- PLCA governs a port's transmissions: it is configured, and a follower has not lost the BEACON (R357). -/
def Net.plcaActive (n : Net) (c : NetCfg) (i : Nat) : Bool := (c.port i).plca && !(n.port i).beaconLost

/-- Does a port own a node ID (R356)? -/
def PortCfg.owns (c : PortCfg) (id : Nat) : Bool := decide (c.nodeId ≤ id) && decide (id < c.nodeId + c.idCount)

/-- The transmit opportunity of an ID within the PLCA cycle: one per owned ID. The coordinator's ID 0 comes with the BEACON that it sends, which begins
a cycle, as a BEACON seen does for a follower. -/
def Net.hasTurn (n : Net) (c : NetCfg) (i id : Nat) : Bool :=
  (c.port i).owns id && (((c.port i).coordinator && decide (id = 0)) || (match (n.port i).cycle with | some k => decide (k ≤ id) | none => false))

/-! ## Descriptors -/

/-- Frame length valid for a descriptor: 60 to 1518 (Table 11-4); whether the frame is tagged decides the bounds, as the buffer's bytes 12 and
13 say. -/
def lengthOk (len : Nat) (tagged : Bool) : Bool :=
  if tagged then decide (64 ≤ len) && decide (len ≤ 1518) else decide (60 ≤ len) && decide (len ≤ 1514)

/-- First EtherType field 0x8100 (R361). -/
def taggedFrame (data : List Byte) : Bool :=
  decide ((data.drop 12).take 2 = [0x81#8, 0x00#8])

/-- A field of a frame in network byte order. -/
def netNat (data : List Byte) (at_ n : Nat) : Nat := ((data.drop at_).take n).foldl (fun a b => a * 256 + b.toNat) 0

/-- Q3 descriptor fields (Table 11-4). -/
def q3Port (d : Nat) : Nat := field d (32 + 13) 1
def q3Late (d : Nat) : Bool := d.testBit (32 + 11)
def q3Mode (d : Nat) : Nat := field d (32 + 9) 2
def q3Tolerance (d : Nat) : Nat := field d (32 + 24) 8
def q3Len (d : Nat) : Nat := field d 64 16
def q3Buffer (d : Nat) : Nat := field d 80 16

/-- A Q3 descriptor that is not sent: reserved bits, launch mode, buffer or length invalid (R368, Table 11-5). -/
def q3Invalid (d : Nat) (tagged : Bool) : Bool :=
  d.testBit (32 + 12) || decide (field d (32 + 14) 10 ≠ 0) || decide (2 ≤ q3Mode d) || decide (48 ≤ q3Buffer d)
    || !lengthOk (q3Len d) tagged

/-- Q4 descriptor fields (Table 12-5). -/
def q4Egress (d : Nat) : Nat := field d 9 2
def q4Len (d : Nat) : Nat := field d 32 16
def q4Buffer (d : Nat) : Nat := field d 48 16
def q4Invalid (d : Nat) (tagged : Bool) : Bool :=
  decide (field d 11 21 ≠ 0) || decide (field d 64 32 ≠ 0) || decide (48 ≤ q4Buffer d) || !lengthOk (q4Len d) tagged

/-- What ending a Q3 descriptor with a status raises and counts (R348). -/
def q3Notices (status index : Nat) : List Notice :=
  if status = 2 ∨ status = 4 then [.fault 0x47 1 index]
  else if status = 3 ∨ status = 5 ∨ status = 6 ∨ status = 8 ∨ status = 9 then [.fault 0x47 2 index] else []

/-- Write the status of a Q3 descriptor, with the ns of its word 3 (R344, R348). -/
def Net.closeQ3 (n : Net) (i status ns : Nat) : Net × List Notice :=
  ({ n with q3 := { n.q3 with slots := editAt n.q3.slots i fun d => setWord3 d (status + min ns 0xFFFFFF * 256) } }, q3Notices status i)

/-- The head leaves the ring (R344). -/
def Net.popQ3 (n : Net) : Net := { n with q3 := { n.q3 with cons := (n.q3.cons + 1) % 16 }, q3Head := none }

/-- The head ends with a status. -/
def Net.endQ3 (n : Net) (status ns : Nat) : Net × List Notice := n.popQ3.closeQ3 n.q3.cons status ns

/-- The Q3 head descriptor, when there is one. -/
def Net.q3Front (n : Net) : Option Nat := if n.q3.prod = n.q3.cons then none else n.q3.slots[n.q3.cons]?

/-- A lap phase as ns from now, and whether it is still to be resolved, at the origin of a lap to come (R275, R345). A phase that a step
has skipped stands at the moment of the step. -/
def Lap.ahead (l : Lap) (now count phase : Nat) : Int × Bool :=
  let d := (count + 65536 - l.count % 65536) % 65536
  if d < 32768 then
    match l.timeOf d phase with
    | some t => (t.ceil - now, decide (0 < d))
    | none => (l.originAt.ceil - now, false)
  else ((l.originAt - l.length * ((65536 - d : Nat) : Rat) + l.length * (phase : Rat) / 65536).ceil - now, false)

/-- The domain P time of a Q3 entry's lap phase, once its lap has begun (R275). -/
def resolveQ3 (d : Nat) (t : TimeDomains) (lap : Nat → Nat → Int × Bool) : Option Int :=
  let (ahead, wait) := lap (field d 16 16) (field d 0 16)
  if q3Mode d = 1 ∧ !wait then some ((t.p : Int) + ahead * pUnit) else none

/-- Convert the head's launch time (R345): a short time, or a lap phase that has been resolved or waits for the origin of its lap, with the time that the lap
as it stands would give. The lead is in ns. -/
def q3Convert (d : Nat) (resolved : Option Int) (t : TimeDomains) (lead : Nat) (lap : Nat → Nat → Int × Bool) : Q3Head :=
  let ahead : Int := match resolved with
    | some l => (l - t.p) / pUnit
    | none =>
      if q3Mode d = 0 then
        let x : Nat := (field d 0 32 + 2 ^ 32 - t.short) % 2 ^ 32
        if x < 2 ^ 31 then (x : Int) else (x : Int) - 2 ^ 32
      else (lap (field d 16 16) (field d 0 16)).1
  { launch := resolved.getD ((t.p : Int) + ahead * pUnit), late := decide (ahead < lead), lateBy := (-ahead).toNat
    lapAt := if resolved.isNone && decide (q3Mode d = 1) then some (field d 16 16, field d 0 16) else none }

/-- Did a launch fall within the last standby or the settling at its exit (Table 12-8)? -/
def Net.inGap (n : Net) (h : Q3Head) : Bool := decide ((n.gapFrom : Int) ≤ h.launch) && decide (h.launch < (n.gapTo : Int))

/-- Bring the head up to date: an invalid descriptor or one for a port that does not run ends at once, a late one is sent or dropped
by its policy (R347, R368, R381, Table 12-8); the head that remains is converted. `fuel` bounds the descriptors passed. -/
def Net.settleQ3 (n : Net) (t : TimeDomains) (lead now : Nat) (lap : Nat → Nat → Int × Bool) (tagged : Nat → Bool) :
    Nat → Net × List Notice
  | 0 => (n, [])
  | fuel + 1 =>
    if n.q3Head.isSome then (n, [])
    else match n.q3Front with
    | none => (n, [])
    | some d =>
      let h := q3Convert d (n.q3Laps.getD n.q3.cons none) t lead lap
      let ended : Option (Nat × Nat) :=
        if q3Invalid d (tagged (q3Buffer d)) then some (9, 0)
        else if !(n.port (q3Port d)).running then some (6, 0)
        else if h.late && !q3Late d then (if n.inGap h then some (8, 0) else some (3, h.lateBy))
        else none
      match ended with
      | some (code, ns) =>
        let (n, a) := n.endQ3 code ns
        let (n, b) := n.settleQ3 t lead now lap tagged fuel
        (n, a ++ b)
      | none =>
        let h := if !h.late then h
          else if n.inGap h then { h with late := false, retimed := true, eligible := some now }
          else { h with eligible := some now }
        ({ n with q3Head := some h }, [])

/-- The `k` Q3 entries from an index on are resolved where they have not been and their lap has begun (R275): at acceptance, or at the origin of their lap. -/
def Net.resolveFrom (n : Net) (t : TimeDomains) (l : Lap) (now from_ k : Nat) : Net :=
  { n with q3Laps := mapFrom (fun i v =>
      if decide ((i + 16 - from_) % 16 < k) && v.isNone then resolveQ3 (n.q3.slots.getD i 0) t (l.ahead now) else v) 0 n.q3Laps }

/-- Entries newly accepted stand unresolved at first. -/
def Net.freshLaps (n : Net) (from_ k : Nat) : Net :=
  { n with q3Laps := mapFrom (fun i v => if (i + 16 - from_) % 16 < k then none else v) 0 n.q3Laps }

/-- Every accepted entry whose lap begins is resolved at its origin (R275), the head among them. -/
def Net.resolveLap (n : Net) (t : TimeDomains) (l : Lap) (now : Nat) : Net :=
  let n := n.resolveFrom t l now n.q3.cons (inUse n.q3.prod n.q3.cons 16)
  match n.q3Head, n.q3Laps.getD n.q3.cons none with
  | some h, some x => if h.lapAt.isSome then { n with q3Head := some { h with launch := x, lapAt := none } } else n
  | _, _ => n

/-! ## Q4 -/

/-- One copy of a Q4 frame ends (R374): the status is written when every copy has, as the higher of the two codes. -/
def Net.endQ4 (n : Net) (index status attempts : Nat) : Net :=
  let out := n.q4Out.map fun (q : Q4Pending) =>
    if q.index = index then { q with copies := q.copies - 1, status := max q.status status, attempts := max q.attempts attempts } else q
  let done := out.filter fun q => decide (q.index = index) && decide (q.copies = 0)
  { n with
    q4Out := out.filter fun q => !(decide (q.index = index) && decide (q.copies = 0))
    q4 := { n.q4 with slots := done.foldl (fun s q => editAt s q.index fun d => setWord3 d (q.status + q.attempts % 16 * 256)) n.q4.slots } }

/-- Priority of a frame: PCP of its tag, or the default PCP (R365). -/
def framePriority (c : NetCfg) (data : List Byte) : Nat := if taggedFrame data then netNat data 14 1 / 32 else c.pcp

/-- Class 1 or class 0 (R365). -/
def highClass (c : NetCfg) (data : List Byte) : Bool := c.highMap.testBit (framePriority c data)

/-- Room in class 1 (8 frames) or class 0 (16 frames). -/
def Port.room (p : Port) (high : Bool) : Bool := if high then decide (p.class1.length < 8) else decide (p.class0.length < 16)

/-- Queue a frame in class 1 or class 0. -/
def Port.enqueue (p : Port) (high : Bool) (f : TxFrame) : Port :=
  if high then { p with class1 := p.class1 ++ [f] } else { p with class0 := p.class0 ++ [f] }

/-- A frame of the runtime waits in class 1 of its port (R365, R366); a port that does not run sends nothing. -/
def Net.send (n : Net) (i : Nat) (data : List Byte) : Net :=
  n.editPort i fun p => if p.running then p.enqueue true { source := .runtime, data := data, length := data.length } else p

/-- A gPTP message in class 3, queue of 4 frames (R365). -/
def Net.sendGptp (n : Net) (i : Nat) (data : List Byte) : Net :=
  n.editPort i fun p =>
    if p.running && decide (p.class3.length < 4) then
      { p with class3 := p.class3 ++ [{ source := .gptp, data := data, length := data.length }] }
    else p

/-- Is a MAC address a group address? -/
def groupMac (mac : Nat) : Bool := (mac / 2 ^ 40).testBit 0

/-- Link-local addresses 01-80-C2-00-00-00 to -0F, and that of gPTP. -/
def gptpMac : Nat := 0x0180C200000E
def linkLocal (mac : Nat) : Bool := decide (mac / 16 = 0x0180C2000000 / 16)
def broadcastMac : Nat := 0xFFFFFFFFFFFF

/-- Egress ports of a frame from port 2 by switch lookup (Table 12-2). -/
def Net.lookup2 (n : Net) (c : NetCfg) (dst : Nat) : List Nat :=
  if linkLocal dst then []
  else if groupMac dst then [0, 1]
  else if dst = c.ownMac then []
  else match n.learned.find? fun l => l.mac == dst with
    | some l => [l.port]
    | none => [0, 1]

/-- The Q4 head enters its port's class queue once that has room (R374, R366, R381). -/
def Net.handover (n : Net) (c : NetCfg) (buffer : Nat → List Byte) : Net × List Notice :=
  match (if n.q4.prod = n.q4.cons then none else n.q4.slots[n.q4.cons]?) with
  | none => (n, [])
  | some d =>
    let i := n.q4.cons
    let next := { n.q4 with cons := (i + 1) % 32 }
    let data := buffer (q4Buffer d)
    let fail (code : Nat) : Net := { n with q4Held := n.q4Held - 1, q4 := { next with slots := editAt next.slots i fun d => setWord3 d code } }
    if q4Invalid d (taggedFrame data) then (fail 9, [])
    else
      let ports := match q4Egress d with
        | 0 => [0] | 1 => [1] | 2 => [0, 1]
        | _ => n.lookup2 c (netNat data 0 6)
      let ports := ports.filter fun p => (n.port p).running
      let high := highClass c data
      if ports.isEmpty then (fail 6, [])
      else if ports.all fun p => (n.port p).room high then
        let f : TxFrame := { source := .q4 i, length := q4Len d, wantTs := d.testBit 8, tsId := field d 0 8, held := decide (0 < n.q4Held) }
        let n := { n with q4 := next, q4Held := n.q4Held - 1, q4Out := n.q4Out ++ [{ index := i, copies := ports.length }] }
        (ports.foldl (fun n p => n.editPort p fun x => x.enqueue high f) n, [])
      else (n, [])

/-! ## Transmission -/

/-- The frame from the highest ready class (R365): class 3, the eligible Q3 head, class 1, class 0. -/
def Net.pick (n : Net) (i : Nat) : Option (Nat × TxFrame) :=
  let p := n.port i
  match p.class3 with
  | f :: _ => some (3, f)
  | [] =>
    match n.q3Front, n.q3Head with
    | some d, some h =>
      if h.eligible.isSome && decide (q3Port d = i) then
        some (2, { source := .q3 n.q3.cons, length := q3Len d, wantTs := d.testBit (32 + 8), tsId := field d 32 8 })
      else match p.class1, p.class0 with
        | f :: _, _ => some (1, f)
        | [], f :: _ => some (0, f)
        | [], [] => none
    | _, _ => match p.class1, p.class0 with
      | f :: _, _ => some (1, f)
      | [], f :: _ => some (0, f)
      | [], [] => none

/-- Take the frame from its class queue. -/
def Port.take (p : Port) (cls : Nat) : Port :=
  match cls with
  | 3 => { p with class3 := p.class3.drop 1 }
  | 1 => { p with class1 := p.class1.drop 1 }
  | 0 => { p with class0 := p.class0.drop 1 }
  | _ => p

/-- Status of a Q3 frame that starts (R347, Table 11-5, Table 12-8). -/
def Q3Head.status (h : Q3Head) : Nat := if h.late then 2 else if h.stepped then 4 else if h.retimed then 7 else 1

/-- Start one frame on a port: the attempt left over from an abort, or the frame from the highest ready class. -/
def Net.startFrame (n : Net) (i now pNow : Nat) (coarse : Bool) (burst : Nat) : Net :=
  let p := n.port i
  if !p.running || p.current.isSome then n
  else match p.waiting with
  | some w => n.editPort i fun p => { p with current := some { w with startAt := now, startP := pNow, coarse := coarse }, waiting := none, burst := burst }
  | none =>
    match n.pick i with
    | none => n.editPort i fun p => { p with burst := 0 }
    | some (cls, f) =>
      (if cls = 2 then n.popQ3 else n).editPort i fun p =>
        { p.take cls with
          current := some { frame := f, cls := cls, startAt := now, startP := pNow, coarse := coarse, attempts := 0, head := n.q3Head.getD {} }
          burst := burst }

/-- A transmit opportunity (R365): under PLCA that of an owned ID, with one frame and up to k further ones under max burst count k; under CSMA/CD, also of a
follower without BEACON (R357), medium access for one frame. -/
def Net.opportunity (n : Net) (c : NetCfg) (i id now pNow : Nat) (coarse : Bool) : Net :=
  if !n.plcaActive c i then n.startFrame i now pNow coarse 0
  else if !((n.port i).running && n.hasTurn c i id) then n
  else (n.editPort i fun p => { p with cycle := some (id + 1) }).startFrame i now pNow coarse (c.port i).burst

/-- A PLCA setting restarts the port's PLCA state (R356): its cycle and its beacon watch start again. -/
def Net.restartPlca (n : Net) (i now : Nat) : Net × List Notice :=
  let before := n.port i
  let n := n.editPort i fun p => { p with beaconLost := false, lastBeacon := now, cycle := none, plcaDue := false, burst := 0 }
  (n, portGone before (n.port i) i ++ (if before.beaconLost then [portEvent i] else []))

/-- A PLCA setting has been written: the restart follows once any frame in transmission has completed (R356). -/
def Net.plcaWritten (n : Net) (i now : Nat) : Net × List Notice :=
  if (n.port i).current.isSome then (n.editPort i fun p => { p with plcaDue := true }, []) else n.restartPlca i now

/-- A frame has left the line: a PLCA restart that waited for it comes. -/
def Net.lineFree (n : Net) (i now : Nat) : Net × List Notice := if (n.port i).plcaDue then n.restartPlca i now else (n, [])

/-- Write a Q6 entry for a completed frame that asks for it, or discard it and flag the loss (R377, R378). -/
def Net.stamp (n : Net) (i : Nat) (cur : TxCurrent) (q4 : Bool) : Net × List Notice :=
  if !cur.frame.wantTs then (n, [])
  else if n.q6.full 16 then ({ n with q6 := n.q6.lose }, [.fault 0x48 1 0xFF])
  else
    let sec := cur.startP / pSecond
    let ns := cur.startP % pSecond / pUnit
    let w := shortTime sec ns + (cur.frame.tsId % 256 + i * 256 + (if q4 then 512 else 0) + (if cur.coarse then 1024 else 0)) * 2 ^ 32
    ({ n with q6 := n.q6.push 16 w }, [.event 11 0x4416 0x03])

/-- A frame completes (R348, R374, R377): descriptor status, Q6 entry, counters; the link is up again (R359); a burst goes on. -/
def Net.frameEnd (n : Net) (t : TimeDomains) (i now pNow : Nat) (coarse : Bool) : Net × TimeDomains × List Notice :=
  match (n.port i).current with
  | none => (n, t, [])
  | some cur =>
    let before := n.port i
    let n := n.editPort i fun p => { p with current := none, abortRun := 0, linkDown := false, sent := p.sent + 1, lastSent := some cur.frame }
    let gone := portGone before (n.port i) i ++ (if before.linkDown then [portEvent i] else [])
    let (n, t, m) : Net × TimeDomains × List Notice := match cur.frame.source with
      | .q3 k =>
        let h := cur.head
        let st := h.status
        let delay := if h.late then h.lateBy else (((cur.startP : Int) - h.launch) / pUnit).toNat
        let (n, a) := n.stamp i cur false
        let (n, b) := n.closeQ3 k st delay
        let t := if st = 1 ∨ st = 7 then { t with onTime := t.onTime + 1 } else { t with late := t.late + 1 }
        (n, t, a ++ b)
      | .q4 idx =>
        let (n, a) := n.stamp i cur true
        (n.endQ4 idx (if cur.frame.held then 7 else 1) cur.attempts, t, a)
      | _ => (n, t, [])
    let (n, r) := n.lineFree i now
    let left := (n.port i).burst
    let n := if 0 < left then n.startFrame i now pNow coarse (left - 1) else n
    (n, t, gone ++ m ++ r)

/-- An attempt is aborted (R358): counted; the frame waits for its next opportunity, and after 16 attempts it is dropped; the link is down
from the 16th abort in a row (R359). -/
def Net.abortFrame (n : Net) (t : TimeDomains) (i now : Nat) : Net × TimeDomains × List Notice :=
  match (n.port i).current with
  | none => (n, t, [])
  | some cur =>
    let before := n.port i
    let k := cur.attempts + 1
    let n := n.editPort i fun p =>
      { p with current := none, aborts := p.aborts + 1, burst := 0, abortRun := min 16 (p.abortRun + 1)
               linkDown := p.linkDown || decide (16 ≤ p.abortRun + 1)
               waiting := if k < 16 then some { cur with attempts := k } else none }
    let (n, r) := n.lineFree i now
    let down : List Notice := r ++ if (n.port i).linkDown && !before.linkDown then [portEvent i, .fault (portSource i) 1 0xFF] else []
    if k < 16 then (n, t, down)
    else match cur.frame.source with
      | .q3 x => let (n, a) := n.closeQ3 x 6 0; (n, { t with dropped := t.dropped + 1 }, down ++ a)
      | .q4 idx => (n.endQ4 idx 6 0, t, down)
      | _ => (n, t, down)

/-- The head's launch time comes, within 40 ns (R346). -/
def Net.launch (n : Net) (t : TimeDomains) (now : Nat) (coarse : Bool) : Net :=
  match n.q3Head with
  | none => n
  | some h =>
    if h.eligible.isNone && h.lapAt.isNone && decide (h.launch ≤ (t.p : Int) + 40 * pUnit) then
      { n with q3Head := some { h with eligible := some now, retimed := h.retimed || coarse } }
    else n

/-- A step or time set carries domain P across the head's launch (R347): eligible at that tick, with status 0x04. -/
def Net.crossed (n : Net) (before after now : Nat) : Net :=
  match n.q3Head with
  | none => n
  | some h =>
    if h.eligible.isNone && h.lapAt.isNone && decide ((before : Int) < h.launch) && decide (h.launch ≤ (after : Int)) then
      { n with q3Head := some { h with eligible := some now, stepped := true } }
    else n

/-- A Q3 frame that waits for another attempt on a port beyond its tolerance. -/
def Net.overdueQ3 (n : Net) (i now : Nat) : Option Nat :=
  match (n.port i).waiting with
  | some w =>
    match w.frame.source with
    | .q3 k => let d := n.q3.slots.getD k 0
      if decide (q3Tolerance d ≠ 0) && elapsed w.head.eligible (q3Tolerance d * 10000) now then some k else none
    | _ => none
  | none => none

/-- Drop a Q3 frame that waits for another attempt beyond its tolerance (R358). -/
def Net.retryTimeout (n : Net) (t : TimeDomains) (now : Nat) : Net × TimeDomains × List Notice :=
  match (List.range 2).find? fun i => (n.overdueQ3 i now).isSome with
  | none => (n, t, [])
  | some i =>
    let (m, a) := (n.editPort i fun p => { p with waiting := none }).closeQ3 ((n.overdueQ3 i now).getD 0) 5 0
    (m, { t with dropped := t.dropped + 1 }, a)

/-- The medium wait tolerance passes before transmission has started, or between two attempts (R346, R358). -/
def Net.mediumTimeout (n : Net) (t : TimeDomains) (now : Nat) : Net × TimeDomains × List Notice :=
  match n.q3Front, n.q3Head with
  | some d, some h =>
    if decide (q3Tolerance d ≠ 0) && elapsed h.eligible (q3Tolerance d * 10000) now then
      let (n, a) := n.endQ3 5 0
      (n, { t with dropped := t.dropped + 1 }, a)
    else n.retryTimeout t now
  | _, _ => n.retryTimeout t now
/-! ## Ingress -/

/-- What the switch does with a frame from a ring port (Table 12-2): its egress ring ports, and whether port 2 gets it. -/
def Net.route (n : Net) (c : NetCfg) (i : Nat) (dst : Nat) : List Nat × Bool :=
  let other := if c.bridge then [1 - i] else []
  if linkLocal dst then ([], false)
  else if dst = c.ownMac then ([], true)
  else if dst = broadcastMac then (other, true)
  else if groupMac dst then (other, c.runtimeGroups.contains dst || c.filter.contains dst)
  else match n.learned.find? fun l => l.mac == dst with
    | some l => if l.port = i then ([], false) else (other, false)
    | none => (other, false)

/-- Learn or refresh a source address (R363). -/
def Net.learn (n : Net) (i mac now : Nat) : Net :=
  if groupMac mac then n
  else if n.learned.any fun l => l.mac == mac then
    { n with learned := n.learned.map fun (l : Learned) => if l.mac = mac then { l with port := i, seen := now } else l }
  else if n.learned.length < 64 then { n with learned := n.learned ++ [{ mac := mac, port := i, seen := now }] }
  else n

/-- Port 2 accepts a tagged frame only with VID 0 or the own VID (R364). -/
def acceptsTag (c : NetCfg) (data : List Byte) : Bool :=
  !taggedFrame data || (let v := netNat data 14 2 % 4096; decide (v = 0) || decide (v = c.vid))

/-- Does a received frame (with its FCS) pass the checks of R361? -/
def ingressOk (data : List Byte) (lineError : Bool) : Bool :=
  !lineError && decide (64 ≤ data.length) && decide (data.length ≤ if taggedFrame data then 1522 else 1518)

/-- An errored frame: counted, and its source raised while more than the threshold came within 1 s (R360). -/
def Net.badFrame (n : Net) (c : NetCfg) (i now : Nat) : Net × List Notice :=
  let n := n.editPort i fun p =>
    let times := (p.errorTimes.filter fun t => decide (now < t + 1000000000)) ++ [now]
    { p with rxErrors := p.rxErrors + 1, errorTimes := times, errorRate := p.errorRate || decide ((c.port i).errors < times.length) }
  (n, [])

/-- The error rate is held against the threshold again: it has fallen to the threshold or below, or the threshold is another (R360). -/
def Net.rateAgain (n : Net) (c : NetCfg) (i now : Nat) : Net × List Notice :=
  let before := n.port i
  let n := n.editPort i fun p =>
    let times := p.errorTimes.filter fun t => decide (now < t + 1000000000)
    { p with errorTimes := times, errorRate := p.running && decide ((c.port i).errors < times.length) }
  (n, (if (n.port i).errorRate && !before.errorRate then [.fault (portSource i) 3 0xFF] else []) ++ portGone before (n.port i) i)

/-- Queue a forwarded frame on a ring port: dropped where the port does not run or its queue is full (R366, R381). -/
def Net.forward (n : Net) (c : NetCfg) (i : Nat) (data : List Byte) : Net × List Notice :=
  let high := highClass c data
  let p := n.port i
  if !p.running then (n.editPort i fun p => { p with dropped := p.dropped + 1 }, [])
  else if p.room high then
    (n.editPort i fun p => p.enqueue high { source := .forwarded, data := data, length := data.length }, [])
  else (n.editPort i fun p => { p with dropped := p.dropped + 1 }, [.fault 0x42 1 i])

/-- A Q5 entry (Table 12-6). -/
def q5Entry (short len i : Nat) (data : List Byte) (disturbed coarse : Bool) : Nat :=
  let tag := taggedFrame data
  short % 2 ^ 32
    + (len % 2 ^ 16 + i % 2 * 2 ^ 16 + (if tag then 2 ^ 17 else 0) + (if tag then netNat data 14 1 / 32 * 2 ^ 18 else 0)
        + (if disturbed then 2 ^ 23 else 0) + (if coarse then 2 ^ 24 else 0)) * 2 ^ 32
    + ((if tag then netNat data 14 2 % 4096 else 0) + (if tag then netNat data 16 2 else netNat data 12 2) * 2 ^ 16) * 2 ^ 64

/-- Deliver a frame to port 2 (R375): the receive buffer it goes into, or none where Q5 is full. -/
def Net.deliver (n : Net) (now short i : Nat) (data : List Byte) (disturbed coarse : Bool) : Net × Option Nat × List Notice :=
  if n.q5.full 64 then ({ n with q5 := n.q5.lose }, none, [.fault 0x49 1 0xFF])
  else
    let at_ := n.q5.prod
    ({ n with q5 := n.q5.push 64 (q5Entry short data.length i data disturbed coarse), q5At := editAt n.q5At at_ fun _ => now }, some at_, [])

/-- A frame received on a port (R361 to R364, R375): the buffer index and bytes to store in a receive buffer, if any. -/
def Net.ingress (n : Net) (c : NetCfg) (i now short : Nat) (frame : List Byte) (lineError disturbed coarse : Bool) :
    Net × Option (Nat × List Byte) × List Notice :=
  if !(n.port i).running then (n, none, [])
  else if !ingressOk frame lineError then
    let before := n.port i
    let (n, m) := n.badFrame c i now
    (n, none, m ++ if (n.port i).errorRate && !before.errorRate then [.fault (portSource i) 3 0xFF] else [])
  else
    let before := n.port i
    let n := n.editPort i fun p => { p with received := p.received + 1, linkDown := false, abortRun := 0 }
    let up := portGone before (n.port i) i ++ (if before.linkDown then [portEvent i] else [])
    let data := frame.take (frame.length - 4)
    let n := n.learn i (netNat data 6 6) now
    let (out, mine) := n.route c i (netNat data 0 6)
    let (n, m1) := out.foldl (fun (acc : Net × List Notice) p =>
      let (n, m) := acc.1.forward c p data
      (n, acc.2 ++ m)) (n, [])
    if mine && acceptsTag c data then
      let (n, at_, m2) := n.deliver now short i data disturbed coarse
      (n, at_.map fun k => (k, data), up ++ m1 ++ m2)
    else (n, none, up ++ m1)

/-- Remove learned entries that have aged out (R363). -/
def Net.ageOut (n : Net) (c : NetCfg) (mac now : Nat) : Net :=
  { n with learned := n.learned.filter fun l =>
      !(decide (l.mac = mac) && decide (c.ageing ≠ 0) && decide (l.seen + c.ageing * 1000000000 ≤ now)) }

/-- No BEACON for 4 ms on a follower (R357). -/
def Net.beaconLost (n : Net) (c : NetCfg) (i now : Nat) : Net × List Notice :=
  let p := n.port i
  if p.running && (c.port i).plca && !(c.port i).coordinator && !p.beaconLost && decide (p.lastBeacon + 4000000 ≤ now) then
    (n.editPort i fun p => { p with beaconLost := true }, [portEvent i, .fault (portSource i) 2 0xFF])
  else (n, [])

/-- A BEACON is seen again (R357). -/
def Net.beaconSeen (n : Net) (c : NetCfg) (i now : Nat) : Net × List Notice :=
  let before := n.port i
  if before.running && (c.port i).plca && !(c.port i).coordinator then
    let n := n.editPort i fun p => { p with beaconLost := false, lastBeacon := now, cycle := some 0 }
    (n, (if before.beaconLost then [portEvent i] else []) ++ portGone before (n.port i) i)
  else (n, [])

/-- A port stops running (R381, Table 12-9): frames end or are flushed, learned entries go, PLCA and counters restart. -/
def Net.stopPort (n : Net) (t : TimeDomains) (i : Nat) (inReset : Bool) : Net × TimeDomains × List Notice :=
  let before := n.port i
  if !before.running then if inReset then (n.editPort i fun _ => { inReset := true }, t, [portEvent i]) else (n, t, [])
  else
    let queued := before.class1 ++ before.class0 ++ (match before.waiting with | some w => [w.frame] | none => [])
      ++ (match before.current with | some w => [w.frame] | none => [])
    let flushed := (queued.filter fun f => match f.source with | .forwarded => true | .runtime => true | _ => false).length
    let n := queued.foldl (fun n f => match f.source with | .q4 k => n.endQ4 k 6 0 | _ => n) n
    let (n, k) := queued.foldl (fun (acc : Net × List Notice) f =>
      match f.source with | .q3 x => let (n, a) := acc.1.closeQ3 x 6 0; (n, acc.2 ++ a) | _ => acc) (n, [])
    let headHere := match n.q3Front with | some d => decide (q3Port d = i) && n.q3Head.isSome | none => false
    let (n, m) := if headHere then n.endQ3 6 0 else (n, [])
    let m := k ++ m
    let cut := (queued.filter fun f => match f.source with | .q3 _ => true | _ => false).length + if headHere then 1 else 0
    let t := { t with dropped := t.dropped + BitVec.ofNat 32 cut }
    let n := n.editPort i fun _ => { inReset := inReset, flushed := BitVec.ofNat 32 flushed }
    ({ n with learned := n.learned.filter fun l => l.port != i }, t,
     m ++ [portEvent i] ++ (if before.anyCause then [.gone (portSource i)] else []))

/-- At standby entry a port stops (Table 12-8): forwarded and runtime frames are flushed and counted, Q4 frames are held, gPTP sends none. A
frame in transmission is held as well. -/
def Port.sleep (p : Port) : Port :=
  let flushes (f : TxFrame) : Bool := match f.source with | .forwarded => true | .runtime => true | _ => false
  let keep (l : List TxFrame) : List TxFrame := (l.filter fun f => match f.source with | .q4 _ => true | _ => false).map fun f => { f with held := true }
  let cut (w : Option TxCurrent) : Option TxCurrent :=
    match w with
    | some c => (match c.frame.source with | .q4 _ => some { c with frame := { c.frame with held := true } } | .q3 _ => some c | _ => none)
    | none => none
  let ended := (p.class1 ++ p.class0 ++ (match p.current with | some c => [c.frame] | none => []) ++ (match p.waiting with | some c => [c.frame] | none => [])).filter flushes
  { p with running := false, class3 := [], class1 := keep p.class1, class0 := keep p.class0, current := none
           waiting := (cut p.current) <|> (cut p.waiting), burst := 0, flushed := p.flushed + BitVec.ofNat 32 ended.length }

/-- The head after standby: a launch that fell within it is sent re-timed under late policy 1 and dropped under late policy 0 (Table 12-8). -/
def Net.wakeQ3 (n : Net) (now : Nat) : Net × List Notice :=
  match n.q3Head, n.q3Front with
  | some h, some d =>
    if h.eligible.isNone && h.lapAt.isNone && n.inGap h then
      if q3Late d then ({ n with q3Head := some { h with retimed := true, eligible := some now } }, []) else n.endQ3 8 0
    else (n, [])
  | _, _ => (n, [])

/-! ## Q5 classification -/

/-- Mark a Q5 entry's disposition (Table 12-6). -/
def markQ5 (v d : Nat) : Nat := v - field v (32 + 21) 2 * 2 ^ (32 + 21) + d * 2 ^ (32 + 21)

/-- Advance the consumer index past entries consumed or discarded (R376). -/
def Net.skipQ5 (n : Net) : Nat → Net
  | 0 => n
  | fuel + 1 =>
    if n.q5.cons = n.classify then n
    else
      let d := field (n.q5.slots.getD n.q5.cons 0) (32 + 21) 2
      if d = 1 ∨ d = 3 then Net.skipQ5 { n with q5 := { n.q5 with cons := (n.q5.cons + 1) % 64 } } fuel else n

/-- Does a frame match host delivery or the host multicast filter (R376)? -/
def hostWants (c : NetCfg) (dst : Nat) : Bool :=
  (c.delivery.testBit 0 && decide (dst = c.ownMac)) || (c.delivery.testBit 1 && decide (dst = broadcastMac))
    || (groupMac dst && decide (dst ≠ broadcastMac) && decide (dst ≠ 0) && c.filter.contains dst)

/-- Classify the entry at the classify index with a disposition (R376). -/
def Net.classifyAs (n : Net) (d : Nat) : Net × List Notice :=
  if n.classify = n.q5.prod then (n, [])
  else
    let n := { n with q5 := { n.q5 with slots := editAt n.q5.slots n.classify fun v => markQ5 v d }, classify := (n.classify + 1) % 64 }
    (n.skipQ5 64, if d = 2 then [.event 11 0x4415 0x03] else [])

end Sys2Proof.Machine
end

