-- ==== Sys2Proof/Machine/Crypto.lean ====
section
/-! DEFINITION. The checks that requests, team frames, configuration copies and patches carry: CRC-32C, SHA-256 and HMAC-SHA-256
(R398, R402, R422, R431, R441, R470, R475, R481), and the byte-order helpers of the dictionary (R12). -/

namespace Sys2Proof.Machine

/-- The `n` bytes of a value, least significant first (R12). -/
def leBytes (n v : Nat) : List Byte := (List.range n).map fun i => BitVec.ofNat 8 (v / 256 ^ i)

/-- The value of bytes carried least significant first (R12). -/
def leNat : List Byte → Nat
  | [] => 0
  | b :: bs => b.toNat + 256 * leNat bs

/-- The `n` bytes of a value in network byte order (R414). -/
def beBytes (n v : Nat) : List Byte := (leBytes n v).reverse

/-- The value of bytes in network byte order. -/
def beNat (bs : List Byte) : Nat := bs.foldl (fun a b => a * 256 + b.toNat) 0

/-- `n` bytes of `data` from offset `at_`; shorter where the data ends. -/
def slice (data : List Byte) (at_ n : Nat) : List Byte := (data.drop at_).take n

/-- A little-endian field of a body. -/
def leField (data : List Byte) (at_ n : Nat) : Nat := leNat (slice data at_ n)

/-- Pad with zero bytes to `n` bytes. -/
def padTo (n : Nat) (data : List Byte) : List Byte := data ++ List.replicate (n - data.length) 0#8

/-- ASCII bytes of a string. -/
def ascii (s : String) : List Byte := s.toList.map fun c => BitVec.ofNat 8 c.toNat

/-- ASCII text padded with 0x00, as a value (R38). -/
def text (n : Nat) (s : String) : Nat := leNat (padTo n (ascii s))

/-! ## CRC-32C -/

/-- One bit of the reflected CRC-32C division. -/
def crcBit (c : Nat) : Nat := if c % 2 = 1 then (c / 2) ^^^ 0x82F63B78 else c / 2

/-- One byte. -/
def crcByte (c : Nat) (b : Byte) : Nat := crcBit (crcBit (crcBit (crcBit (crcBit (crcBit (crcBit (crcBit (c ^^^ b.toNat))))))))

/-- CRC-32C of a run of bytes. -/
def crc32c (data : List Byte) : Nat := (data.foldl crcByte 0xFFFFFFFF) ^^^ 0xFFFFFFFF

/-! ## SHA-256 -/

/-- Rotation of a 32-bit number to the right. -/
def rotr (n x : Nat) : Nat := x / 2 ^ n + x % 2 ^ n * 2 ^ (32 - n)

def add32 (a b : Nat) : Nat := (a + b) % 2 ^ 32

/-- Complement of a 32-bit number. -/
def not32 (a : Nat) : Nat := 0xFFFFFFFF - a % 2 ^ 32

/-- The first primes, up to 311: what is left when the multiples of the primes to 17 are struck out. -/
def primes : List Nat := (List.range 312).filter fun n => decide (2 ≤ n) && [2, 3, 5, 7, 11, 13, 17].all fun d => decide (n ≤ d) || decide (n % d ≠ 0)

/-- The largest number with k-th power at most n, from `r` up: its lower bits found one by one from the top. -/
def rootFrom (k n : Nat) : Nat → Nat → Nat
  | 0, r => r
  | b + 1, r => rootFrom k n b (if (r + 2 ^ b) ^ k ≤ n then r + 2 ^ b else r)

/-- The first 32 bits of the fraction of the k-th root of a prime, as SHA-256 takes its constants. -/
def rootFraction (k p : Nat) : Nat := rootFrom k (p * 2 ^ (32 * k)) 36 0 % 2 ^ 32

/-- The round constants: from the cube roots of the first 64 primes. -/
def shaK : List Nat := primes.map (rootFraction 3)

/-- The eight working variables. -/
structure ShaVars where
  a : Nat
  b : Nat
  c : Nat
  d : Nat
  e : Nat
  f : Nat
  g : Nat
  h : Nat
  deriving DecidableEq, Repr, Inhabited

/-- The first value: from the square roots of the first eight primes. -/
def shaInit : ShaVars :=
  { a := rootFraction 2 2, b := rootFraction 2 3, c := rootFraction 2 5, d := rootFraction 2 7
    e := rootFraction 2 11, f := rootFraction 2 13, g := rootFraction 2 17, h := rootFraction 2 19 }

/-- One round on a schedule word and its constant. -/
def shaRound (v : ShaVars) (wk : Nat) : ShaVars :=
  let s1 := rotr 6 v.e ^^^ rotr 11 v.e ^^^ rotr 25 v.e
  let ch := (v.e &&& v.f) ^^^ (not32 v.e &&& v.g)
  let t1 := (v.h + s1 + ch + wk) % 2 ^ 32
  let s0 := rotr 2 v.a ^^^ rotr 13 v.a ^^^ rotr 22 v.a
  let maj := (v.a &&& v.b) ^^^ (v.a &&& v.c) ^^^ (v.b &&& v.c)
  { a := (t1 + s0 + maj) % 2 ^ 32, b := v.a, c := v.b, d := v.c, e := add32 v.d t1, f := v.e, g := v.f, h := v.g }

/-- The rounds of one block: the window holds the next sixteen words of the message schedule. -/
def shaRounds : List Nat → List Nat → ShaVars → ShaVars
  | [], _, v => v
  | k :: ks, win, v =>
    let w := win.headD 0
    let w1 := win.getD 1 0
    let w14 := win.getD 14 0
    let x0 := rotr 7 w1 ^^^ rotr 18 w1 ^^^ (w1 / 2 ^ 3)
    let x1 := rotr 17 w14 ^^^ rotr 19 w14 ^^^ (w14 / 2 ^ 10)
    shaRounds ks (win.drop 1 ++ [(w + x0 + win.getD 9 0 + x1) % 2 ^ 32]) (shaRound v (k + w))

/-- One block of 64 bytes. -/
def shaBlock (v : ShaVars) (block : List Byte) : ShaVars :=
  let r := shaRounds shaK ((List.range 16).map fun i => beNat (slice block (4 * i) 4)) v
  { a := add32 v.a r.a, b := add32 v.b r.b, c := add32 v.c r.c, d := add32 v.d r.d
    e := add32 v.e r.e, f := add32 v.f r.f, g := add32 v.g r.g, h := add32 v.h r.h }

/-- The blocks of a padded message. -/
def shaBlocks : Nat → List Byte → ShaVars → ShaVars
  | 0, _, v => v
  | n + 1, data, v => shaBlocks n (data.drop 64) (shaBlock v (data.take 64))

/-- The padding of a message of n bytes. -/
def shaPad (n : Nat) : List Byte := 0x80#8 :: List.replicate ((119 - n % 64) % 64) 0#8 ++ beBytes 8 (8 * n)

/-- SHA-256. -/
def sha256 (data : List Byte) : List Byte :=
  let m := data ++ shaPad data.length
  let v := shaBlocks (m.length / 64) m shaInit
  beBytes 4 v.a ++ beBytes 4 v.b ++ beBytes 4 v.c ++ beBytes 4 v.d ++ beBytes 4 v.e ++ beBytes 4 v.f ++ beBytes 4 v.g ++ beBytes 4 v.h

/-- HMAC-SHA-256 under a key of at most 64 bytes. -/
def hmac (key data : List Byte) : List Byte :=
  let k := padTo 64 key
  sha256 ((k.map fun b => b ^^^ 0x5C#8) ++ sha256 ((k.map fun b => b ^^^ 0x36#8) ++ data))

end Sys2Proof.Machine
end

