-- ==== Sys2Proof/Machine/Objects.lean ====
section
/-! DEFINITION. The dictionary: every object of chapters 14 and 15 with its size, access, default, persistence, takes-effect point and
range (R38 to R41, R416 to R436). Behaviour that depends on the state is in Read.lean and Write.lean. -/

namespace Sys2Proof.Machine

/-- Access codes (R39). -/
inductive Access where
  | ro
  | rw
  | rws
  | wo
  | const
  deriving DecidableEq, Repr, Inhabited

/-- Persistence codes (Tables 14-1 and 15-1). -/
inductive Persist where
  | y
  | yb
  | u
  | ub
  | b
  | n
  | fix
  | ps
  | j
  deriving DecidableEq, Repr, Inhabited

/-- Takes-effect codes (Tables 14-1 and 15-1). -/
inductive Effect where
  | i
  | iPlus
  | l
  | f
  | a
  | h
  | x
  | c
  | s
  | none
  deriving DecidableEq, Repr, Inhabited

/-- Values a write may carry (R38, R11), where no state is involved. -/
inductive Range where
  | any
  | upTo (hi : Nat)
  | between (lo hi : Nat)
  | betweenOr (lo hi alt : Nat)
  | oneOf (vs : List Nat)
  | bits (mask : Nat)
  /-- A signed value of `bytes` bytes between two bounds. -/
  | signed (bytes : Nat) (lo hi : Int)
  /-- Printable characters, then only 0x00 to the end (R38). -/
  | visible (bytes : Nat)
  /-- Seconds and nanoseconds below 10^9 (R351). -/
  | time
  /-- 0, or a multiple of `step` between the bounds (R184). -/
  | zeroOr (lo hi step : Nat)
  deriving DecidableEq, Repr, Inhabited

/-- A family of objects: `count` indices from `base`, `stride` apart, `subs` subindices from `sub`. -/
structure ObjRow where
  base   : Nat
  count  : Nat := 1
  stride : Nat := 1
  sub    : Nat
  subs   : Nat := 1
  size   : Nat
  acc    : Access := .ro
  dflt   : Nat := 0
  per    : Persist := .n
  eff    : Effect := .none
  rng    : Range := .any
  deriving DecidableEq, Repr, Inhabited

/-- A signed number of `bits` bits as it is carried. -/
def ofSigned (bits : Nat) (v : Int) : Nat := (v % (2 ^ bits : Int)).toNat

/-- The signed reading of a number of `bits` bits. -/
def toSigned (bits v : Nat) : Int := if v % 2 ^ bits < 2 ^ (bits - 1) then (v % 2 ^ bits : Nat) else (v % 2 ^ bits : Nat) - (2 ^ bits : Int)

/-- Does a range allow a value? -/
def Range.ok (r : Range) (v : Nat) : Bool :=
  match r with
  | .any => true
  | .upTo hi => decide (v ≤ hi)
  | .between lo hi => decide (lo ≤ v) && decide (v ≤ hi)
  | .betweenOr lo hi alt => (decide (lo ≤ v) && decide (v ≤ hi)) || decide (v = alt)
  | .oneOf vs => vs.contains v
  | .bits m => decide (v &&& m = v)
  | .signed bytes lo hi => decide (lo ≤ toSigned (8 * bytes) v) && decide (toSigned (8 * bytes) v ≤ hi)
  | .visible n =>
    let bs := leBytes n v
    let body := bs.takeWhile fun b => b != 0
    body.all (fun b => decide (0x20 ≤ b.toNat) && decide (b.toNat ≤ 0x7E)) && (bs.drop body.length).all (fun b => b == 0)
  | .time => decide (v / 2 ^ 64 < 1000000000)
  | .zeroOr lo hi step => decide (v = 0) || (decide (lo ≤ v) && decide (v ≤ hi) && decide (v % step = 0))

/-- Objects of index range 0x1000 to 0x1FFF (Tables 14-2 to 14-4). -/
def commRows : List ObjRow :=
  [{ base := 0x1008, sub := 0, size := 12, acc := .const, per := .fix },
   { base := 0x1009, sub := 0, size := 2, acc := .const, per := .fix },
   { base := 0x100A, sub := 0, size := 2, acc := .const, per := .fix },
   { base := 0x100B, sub := 0, size := 1, acc := .const, per := .fix },
   { base := 0x100C, sub := 0, size := 16, acc := .const, per := .fix },
   { base := 0x100D, sub := 0, size := 8, acc := .const, per := .fix },
   { base := 0x100E, sub := 0, size := 4, acc := .const, per := .fix },
   { base := 0x100F, sub := 1, subs := 4, size := 2 },
   { base := 0x1010, sub := 1, size := 4 },
   { base := 0x1010, sub := 2, size := 2 },
   { base := 0x1030, sub := 1, size := 2 },
   { base := 0x1030, sub := 2, size := 2, acc := .rw, dflt := 0xFFFF, per := .u, eff := .i },
   { base := 0x1030, sub := 3, size := 2, acc := .wo, eff := .i }]
  ++
  [{ base := 0x1040, sub := 1, size := 1, acc := .rws, dflt := 1, per := .u, eff := .iPlus, rng := .bits 3 },
   { base := 0x1040, sub := 2, size := 4, acc := .rws, per := .u, eff := .iPlus },
   { base := 0x1040, sub := 3, size := 4, acc := .rws, dflt := 0x00FFFFFF, per := .u, eff := .i },
   { base := 0x1040, sub := 4, size := 2, acc := .rws, dflt := 48672, per := .u, eff := .iPlus, rng := .between 1 65535 },
   { base := 0x1040, sub := 5, size := 4 },
   { base := 0x1041, sub := 1, size := 2, acc := .rws, dflt := 10, per := .u, eff := .i, rng := .between 1 3600 },
   { base := 0x1041, sub := 2, subs := 2, size := 1 },
   { base := 0x1041, sub := 4, subs := 4, size := 4 },
   { base := 0x1042, sub := 1, size := 1 },
   { base := 0x1042, sub := 2, subs := 2, size := 32, acc := .wo, per := .u, eff := .iPlus },
   { base := 0x1042, sub := 4, subs := 2, size := 4 },
   { base := 0x1100, count := 16, sub := 1, size := 1 },
   { base := 0x1100, count := 16, sub := 2, subs := 2, size := 1, dflt := 0xFF },
   { base := 0x1100, count := 16, sub := 4, size := 6 },
   { base := 0x1100, count := 16, sub := 5, subs := 2, size := 4 },
   { base := 0x1100, count := 16, sub := 7, size := 1, acc := .rws, eff := .i, rng := .oneOf [1] }]

/-- Objects of index range 0x2000 to 0x2FFF (Tables 14-5 to 14-9). -/
def deviceRows : List ObjRow :=
  [{ base := 0x2000, sub := 1, size := 16, acc := .rw, per := .u, eff := .i, rng := .visible 16 },
   { base := 0x2010, sub := 1, subs := 2, size := 1 },
   { base := 0x2010, sub := 3, subs := 2, size := 4 },
   { base := 0x2011, sub := 1, subs := 2, size := 1 },
   { base := 0x2012, sub := 1, subs := 2, size := 1 },
   { base := 0x2013, sub := 1, size := 2 },
   { base := 0x2013, sub := 2, size := 1 },
   { base := 0x2014, sub := 1, size := 2 },
   { base := 0x2014, sub := 2, size := 1 },
   { base := 0x2014, sub := 3, size := 1, acc := .rws, eff := .l, rng := .between 1 5 },
   { base := 0x2014, sub := 4, size := 1, acc := .wo, eff := .l, rng := .oneOf [1] },
   { base := 0x2014, sub := 5, size := 4 },
   { base := 0x2015, sub := 1, subs := 3, size := 1 },
   { base := 0x2015, sub := 4, size := 4 },
   { base := 0x2016, sub := 1, size := 1 },
   { base := 0x2016, sub := 2, subs := 7, size := 2 },
   { base := 0x2016, sub := 9, size := 1 }]
  ++
  [{ base := 0x2020, sub := 1, size := 2 },
   { base := 0x2020, sub := 2, size := 1 },
   { base := 0x2020, sub := 3, size := 2 },
   { base := 0x2020, sub := 4, size := 4 },
   { base := 0x2020, sub := 5, size := 1 },
   { base := 0x2021, sub := 1, subs := 48, size := 2 },
   { base := 0x2022, sub := 1, subs := 8, size := 2 },
   { base := 0x2023, sub := 1, subs := 4, size := 2, per := .b },
   { base := 0x2023, sub := 5, size := 1, acc := .rws, dflt := 0xFF, eff := .f },
   { base := 0x2024, sub := 1, size := 2, acc := .rw, dflt := 1500, per := .yb, eff := .f, rng := .signed 2 600 1650 },
   { base := 0x2024, sub := 2, size := 2, acc := .rw, dflt := 1600, per := .yb, eff := .f, rng := .signed 2 700 1690 },
   { base := 0x2024, sub := 3, size := 2 },
   { base := 0x2025, sub := 1, size := 2, acc := .rw, dflt := 65136, per := .y, eff := .i },
   { base := 0x2025, sub := 2, size := 2, acc := .rw, dflt := 1250, per := .y, eff := .i },
   { base := 0x2025, sub := 3, size := 2, acc := .rw, dflt := 65136, per := .y, eff := .i },
   { base := 0x2025, sub := 4, size := 2, acc := .rw, dflt := 1550, per := .y, eff := .i },
   { base := 0x2025, sub := 5, size := 1, acc := .rw, eff := .i, rng := .upTo 1 },
   { base := 0x2025, sub := 6, size := 1 }]
  ++
  [{ base := 0x2030, sub := 1, subs := 4, size := 2, acc := .rw, dflt := 50, per := .yb, eff := .f, rng := .between 5 200 },
   { base := 0x2030, sub := 5, subs := 4, size := 1, acc := .rw, per := .yb, eff := .f, rng := .upTo 1 },
   { base := 0x2031, sub := 1, subs := 4, size := 1, acc := .wo, eff := .f, rng := .between 1 3 },
   { base := 0x2031, sub := 5, size := 4 },
   { base := 0x2031, sub := 6, subs := 4, size := 1 },
   { base := 0x2032, sub := 1, size := 2, acc := .rw, dflt := 100, per := .y, eff := .a, rng := .between 10 1000 },
   { base := 0x2032, sub := 2, size := 1, acc := .rw, per := .y, eff := .h, rng := .upTo 1 },
   { base := 0x2032, sub := 3, size := 2, acc := .wo, eff := .i, rng := .between 1 0xFFFF },
   { base := 0x2032, sub := 4, size := 2, acc := .wo, eff := .i },
   { base := 0x2032, sub := 5, size := 1, acc := .wo, eff := .i, rng := .oneOf [1] },
   { base := 0x2032, sub := 6, subs := 2, size := 1 },
   { base := 0x2032, sub := 8, size := 4 },
   { base := 0x2032, sub := 9, subs := 2, size := 1 }]
  ++
  [{ base := 0x2040, sub := 1, size := 1, acc := .rw, per := .y, eff := .l, rng := .upTo 3 },
   { base := 0x2040, sub := 2, size := 1, acc := .rw, per := .y, eff := .l, rng := .bits 3 },
   { base := 0x2040, sub := 3, size := 2, acc := .rw, dflt := 100, per := .y, eff := .i, rng := .between 10 500 },
   { base := 0x2040, sub := 4, size := 2, acc := .rw, dflt := 100, per := .y, eff := .i, rng := .between 10 1000 },
   { base := 0x2040, sub := 5, size := 2, acc := .rw, per := .y, eff := .l, rng := .upTo 2000 },
   { base := 0x2040, sub := 6, size := 1 },
   { base := 0x2040, sub := 7, subs := 2, size := 4 },
   { base := 0x2041, sub := 1, size := 2, acc := .rw, dflt := 5000, per := .y, eff := .l, rng := .between 4000 7000 },
   { base := 0x2041, sub := 2, size := 1, acc := .rw, dflt := 1, per := .y, eff := .l, rng := .upTo 3 },
   { base := 0x2041, sub := 3, size := 2, acc := .rw, dflt := 0x0800, per := .y, eff := .l, rng := .between 0x0100 0x4000 },
   { base := 0x2041, sub := 4, size := 2, acc := .rw, dflt := 0x0100, per := .y, eff := .l, rng := .between 0x0010 0x0800 },
   { base := 0x2041, sub := 5, size := 2, acc := .rw, dflt := 0x0200, per := .y, eff := .l, rng := .between 0x0040 0x2000 },
   { base := 0x2041, sub := 6, size := 1, acc := .rw, eff := .i, rng := .upTo 1 },
   { base := 0x2041, sub := 7, size := 2, acc := .rw, dflt := 2000, per := .y, eff := .i, rng := .upTo 10000 },
   { base := 0x2041, sub := 8, size := 1, acc := .rw, per := .y, eff := .i, rng := .upTo 1 },
   { base := 0x2041, sub := 9, size := 1 },
   { base := 0x2041, sub := 0x0A, subs := 2, size := 2 },
   { base := 0x2041, sub := 0x0C, size := 4 },
   { base := 0x2041, sub := 0x0D, size := 1 },
   { base := 0x2041, sub := 0x0E, size := 4 }]
  ++
  [{ base := 0x2042, sub := 1, size := 8 },
   { base := 0x2042, sub := 2, size := 4 },
   { base := 0x2042, sub := 3, size := 1, acc := .wo, eff := .i, rng := .oneOf [1] },
   { base := 0x2042, sub := 4, subs := 2, size := 8 },
   { base := 0x2042, sub := 6, size := 4 },
   { base := 0x2042, sub := 7, size := 8 },
   { base := 0x2042, sub := 8, size := 8, acc := .rws, eff := .l },
   { base := 0x2044, sub := 1, size := 1, acc := .rw, eff := .i, rng := .upTo 0x2F },
   { base := 0x2044, sub := 2, size := 2, acc := .rw, eff := .i },
   { base := 0x2044, sub := 3, size := 2, acc := .rw, dflt := 100, eff := .i, rng := .between 25 10000 },
   { base := 0x2044, sub := 4, size := 2, acc := .rw, dflt := 1024, eff := .i, rng := .between 1 4096 },
   { base := 0x2044, sub := 5, size := 1, acc := .wo, eff := .i, rng := .between 1 2 },
   { base := 0x2044, sub := 6, size := 1 },
   { base := 0x2044, sub := 7, size := 8 },
   { base := 0x2044, sub := 8, size := 2 },
   { base := 0x2044, sub := 9, size := 1 },
   { base := 0x2045, sub := 1, size := 2 },
   { base := 0x2045, sub := 2, size := 2, acc := .rw, eff := .i },
   { base := 0x2045, sub := 3, size := 2 }]

/-- A family of 48 lane objects at offset `g` of each lane block (R428). -/
def laneRow (g sub size : Nat) (acc : Access := .ro) (dflt : Nat := 0) (per : Persist := .n) (eff : Effect := .none) (rng : Range := .any) : ObjRow :=
  { base := 0x3000 + g, count := 48, stride := 16, sub := sub, size := size, acc := acc, dflt := dflt, per := per, eff := eff, rng := rng }

/-- Lane objects (Table 15-2). -/
def laneRows : List ObjRow :=
  [laneRow 0 1 1 .rw 0 .n .f (.upTo 2),
   laneRow 0 2 2, laneRow 0 3 4, laneRow 0 4 4, laneRow 0 5 2,
   laneRow 1 1 1 .rw 0xFF .yb .f (.betweenOr 0 15 0xFF),
   laneRow 1 2 1 .rw 0 .yb .f (.upTo 1),
   laneRow 1 3 1 .rw 1 .yb .f (.upTo 5),
   laneRow 2 1 1 .rw 1 .yb .f (.upTo 3),
   laneRow 2 2 1 .rw 0 .yb .f (.upTo 1),
   laneRow 3 1 1 .rw 0 .yb .f (.upTo 6),
   laneRow 3 2 1 .rw 0xFE .yb .f (.oneOf ([0, 1, 2, 3, 4, 5, 6, 7, 8, 9, 10, 11, 12, 13, 14, 15, 0xFE, 0xFF])),
   laneRow 3 3 4 .rw 0xFFFFFFFF .yb .f (.betweenOr 0 10000000 0xFFFFFFFF),
   laneRow 3 4 2 .rw 1000 .yb .f (.between 10 60000),
   laneRow 3 5 2 .rw 1000 .yb .f (.upTo 1000),
   laneRow 3 6 4 .rw 500000 .yb .f (.upTo 10000000),
   laneRow 3 7 2, laneRow 3 8 4, laneRow 3 9 4, laneRow 3 0xA 2]
  ++
  [laneRow 4 1 2 .rw 0 .yb .f,
   laneRow 4 2 1 .rw 3 .yb .f (.upTo 15),
   laneRow 4 3 4 .rw 50000 .yb .f (.between 1000 10000000),
   laneRow 4 4 1 .rw 1 .yb .f (.upTo 1),
   laneRow 4 5 1 .rw 1 .yb .f (.bits 1),
   laneRow 4 6 2 .rw 1000 .yb .f (.between 10 60000),
   laneRow 4 7 1 .rw 3 .yb .f (.upTo 15),
   laneRow 4 8 2 .rw 0 .yb .f,
   laneRow 4 9 2 .rw 0 .yb .f (.zeroOr 2 3000 1),
   laneRow 4 0xA 2 .rw 0 .yb .f (.zeroOr 50 20000 10),
   laneRow 4 0xB 2 .rw 10 .yb .f (.between 1 1000),
   laneRow 4 0xC 1 .rw 0 .yb .f (.upTo 1),
   laneRow 4 0xD 4 .rw 0 .yb .f (.betweenOr 100 80000 0),
   laneRow 4 0xE 4 .rw 60000 .yb .f (.between 100 3600000),
   laneRow 4 0xF 2 .rw 400 .yb .f (.between 10 1500),
   laneRow 4 0x10 2, laneRow 4 0x11 1, laneRow 4 0x12 1, laneRow 4 0x13 4, laneRow 4 0x14 2]
  ++
  [laneRow 4 0x15 4, laneRow 4 0x16 4, laneRow 4 0x17 4, laneRow 4 0x18 4,
   laneRow 4 0x19 1 .rws 0 .n .f (.oneOf [1]),
   laneRow 4 0x1A 1 .wo 0 .n .f (.oneOf [1]),
   laneRow 4 0x1B 4, laneRow 4 0x1C 4, laneRow 4 0x1D 2, laneRow 4 0x1E 4, laneRow 4 0x1F 4, laneRow 4 0x20 4,
   laneRow 5 1 2 .rw 1500 .yb .f (.signed 2 600 1740),
   laneRow 5 2 1 .rw 0 .y .i (.upTo 15),
   laneRow 5 3 2, laneRow 5 4 2, laneRow 5 5 4,
   laneRow 6 1 1 .rw 0 .yb .f (.upTo 2),
   laneRow 6 2 1 .rw 0 .yb .f (.upTo 2),
   laneRow 6 3 1 .wo 0 .n .f (.between 1 3),
   laneRow 6 4 1,
   laneRow 7 1 2 .rw 0 .n .s,
   laneRow 7 2 1 .rw 0 .n .s (.upTo 1),
   laneRow 7 3 2 .rw 0 .n .s,
   laneRow 7 4 1 .wo 0 .n .i (.oneOf [0, 1, 2, 0xFF]),
   laneRow 7 5 1,
   laneRow 7 6 1 .rw 0 .yb .f (.upTo 1),
   laneRow 7 7 4, laneRow 7 8 1]

/-- Lane map, channels and profile slots (Tables 15-3 and 15-4). -/
def mapRows : List ObjRow :=
  [{ base := 0x3400, sub := 1, subs := 48, size := 2, acc := .rws, eff := .c },
   { base := 0x3401, sub := 1, size := 1, acc := .rws, eff := .l, rng := .oneOf [1] },
   { base := 0x3401, sub := 2, subs := 2, size := 1 },
   { base := 0x3402, sub := 1, subs := 48, size := 2, per := .y },
   { base := 0x3410, count := 48, sub := 1, size := 1, acc := .const, per := .fix },
   { base := 0x3410, count := 48, sub := 2, size := 1 },
   { base := 0x3410, count := 48, sub := 3, subs := 2, size := 4 },
   { base := 0x3410, count := 48, sub := 5, size := 1 },
   { base := 0x3800, count := 6, sub := 1, subs := 2, size := 1, acc := .const, per := .fix },
   { base := 0x3800, count := 6, sub := 3, size := 8, acc := .const, per := .fix },
   { base := 0x3800, count := 6, sub := 4, subs := 16, size := 2, acc := .const, per := .fix },
   { base := 0x3806, count := 10, sub := 1, size := 1, acc := .rw, per := .y, eff := .i },
   { base := 0x3806, count := 10, sub := 2, size := 1, acc := .rw, per := .y, eff := .i },
   { base := 0x3806, count := 10, sub := 3, size := 8, acc := .rw, per := .y, eff := .i, rng := .visible 8 },
   { base := 0x3806, count := 10, sub := 4, subs := 8, size := 2, acc := .rw, dflt := 100, per := .y, eff := .i },
   { base := 0x3806, count := 10, sub := 0xC, subs := 8, size := 2, acc := .rw, per := .y, eff := .i },
   { base := 0x3800, count := 16, sub := 0x14, size := 1 }]

/-- Time objects (Table 14-10). -/
def timeRows : List ObjRow :=
  [{ base := 0x4000, sub := 1, size := 12 },
   { base := 0x4000, sub := 2, size := 12, acc := .rws, eff := .i, rng := .time },
   { base := 0x4000, sub := 3, size := 4, acc := .rws, eff := .i, rng := .signed 4 (-999999999) 999999999 },
   { base := 0x4000, sub := 4, size := 4, acc := .rw, dflt := 0x04000000, eff := .i },
   { base := 0x4000, sub := 5, size := 1, acc := .rws, eff := .i, rng := .upTo 1 },
   { base := 0x4000, sub := 6, size := 1 },
   { base := 0x4000, sub := 7, size := 4 },
   { base := 0x4000, sub := 8, size := 4, acc := .rw, dflt := 4000, per := .y, eff := .i, rng := .upTo 60000 },
   { base := 0x4000, sub := 9, size := 4 },
   { base := 0x4000, sub := 0xA, size := 1 },
   { base := 0x4001, sub := 1, size := 8 },
   { base := 0x4001, sub := 2, size := 12 },
   { base := 0x4001, sub := 3, subs := 2, size := 4 },
   { base := 0x4002, sub := 1, size := 2, acc := .rw, dflt := 512, per := .y, eff := .x, rng := .between 1 4096 },
   { base := 0x4002, sub := 2, size := 2, acc := .rw, dflt := 51, per := .y, eff := .x, rng := .upTo 4096 },
   { base := 0x4002, sub := 3, size := 4, acc := .rw, dflt := 100, per := .y, eff := .x, rng := .between 10 100000 },
   { base := 0x4002, sub := 4, size := 4, acc := .rw, dflt := 1000000, per := .y, eff := .x, rng := .between 10000 1000000000 },
   { base := 0x4002, sub := 5, subs := 2, size := 4 }]
  ++
  [{ base := 0x4003, sub := 1, size := 1, acc := .rw, per := .y, eff := .i, rng := .upTo 1 },
   { base := 0x4003, sub := 2, size := 4, acc := .rw, dflt := 60, per := .y, eff := .i, rng := .upTo 86400 },
   { base := 0x4003, sub := 3, size := 4 },
   { base := 0x4004, sub := 1, size := 1, acc := .rw, dflt := 1, per := .u, eff := .i, rng := .upTo 2 },
   { base := 0x4004, sub := 2, size := 1, acc := .rw, per := .y, eff := .i, rng := .upTo 127 },
   { base := 0x4004, sub := 3, size := 1, acc := .rw, dflt := 0xFF, per := .y, eff := .i, rng := .betweenOr 0 127 0xFF },
   { base := 0x4004, sub := 4, size := 1, acc := .rw, dflt := 248, per := .u, eff := .i, rng := .upTo 254 },
   { base := 0x4004, sub := 5, size := 1, acc := .rw, dflt := 248, per := .u, eff := .i },
   { base := 0x4004, sub := 6, size := 1, acc := .rw, dflt := 2, per := .y, eff := .i, rng := .upTo 5 },
   { base := 0x4004, sub := 7, subs := 2, size := 1, acc := .rw, dflt := 3, per := .y, eff := .i, rng := .between 2 10 },
   { base := 0x4004, sub := 9, subs := 2, size := 2, acc := .rw, dflt := 50, per := .u, eff := .i, rng := .upTo 10000 },
   { base := 0x4004, sub := 0xB, subs := 2, size := 1, acc := .rw, per := .u, eff := .i, rng := .upTo 1 },
   { base := 0x4004, sub := 0xD, subs := 2, size := 8 },
   { base := 0x4004, sub := 0xF, subs := 2, size := 4 },
   { base := 0x4004, sub := 0x11, size := 1 },
   { base := 0x4005, sub := 1, size := 1, acc := .rw, per := .u, eff := .i, rng := .upTo 3 },
   { base := 0x4005, sub := 2, size := 4, acc := .rw, per := .u, eff := .i, rng := .upTo 999999999 },
   { base := 0x4005, sub := 3, size := 4, acc := .rw, dflt := 100000, per := .u, eff := .i, rng := .between 1 500000 },
   { base := 0x4005, sub := 4, size := 4, acc := .rw, dflt := 10000, per := .u, eff := .i, rng := .between 100 100000000 },
   { base := 0x4005, sub := 5, size := 12 },
   { base := 0x4005, sub := 6, size := 8 },
   { base := 0x4005, sub := 7, size := 4 },
   { base := 0x4006, sub := 1, subs := 4, size := 4 }]

/-- Network and queue objects (Table 14-11). -/
def netRows : List ObjRow :=
  [{ base := 0x4400, sub := 1, size := 6, acc := .const, per := .fix },
   { base := 0x4400, sub := 2, size := 1, acc := .rw, dflt := 1, per := .u, eff := .i, rng := .upTo 1 },
   { base := 0x4400, sub := 3, size := 2, acc := .rw, dflt := 300, per := .u, eff := .i, rng := .upTo 3600 },
   { base := 0x4400, sub := 4, size := 1 },
   { base := 0x4400, sub := 5, size := 2, acc := .rw, per := .u, eff := .i, rng := .upTo 4094 },
   { base := 0x4400, sub := 6, size := 1, acc := .rw, dflt := 0xF0, per := .u, eff := .i },
   { base := 0x4400, sub := 7, size := 1, acc := .rw, per := .u, eff := .i, rng := .upTo 7 },
   { base := 0x4400, sub := 8, size := 1, acc := .rw, per := .u, eff := .i, rng := .bits 3 },
   { base := 0x4400, sub := 9, subs := 8, size := 6, acc := .rw, per := .u, eff := .i },
   { base := 0x4401, count := 2, sub := 1, size := 1, acc := .rw, dflt := 1, per := .u, eff := .i, rng := .upTo 1 },
   { base := 0x4401, count := 2, sub := 2, size := 1, acc := .rw, per := .u, eff := .i },
   { base := 0x4401, count := 2, sub := 3, size := 1, acc := .rw, dflt := 1, per := .u, eff := .i, rng := .between 1 8 },
   { base := 0x4401, count := 2, sub := 4, size := 1, acc := .rw, dflt := 8, per := .u, eff := .i, rng := .between 1 255 },
   { base := 0x4401, count := 2, sub := 5, size := 1, acc := .rw, dflt := 32, per := .u, eff := .i, rng := .between 1 255 },
   { base := 0x4401, count := 2, sub := 6, size := 1, acc := .rw, per := .u, eff := .i, rng := .upTo 15 },
   { base := 0x4401, count := 2, sub := 7, size := 2, acc := .rw, dflt := 10, per := .u, eff := .i, rng := .between 1 1000 },
   { base := 0x4401, count := 2, sub := 8, size := 1 },
   { base := 0x4401, count := 2, sub := 9, subs := 6, size := 4 }]
  ++
  [{ base := 0x4410, count := 3, sub := 1, size := 2 },
   { base := 0x4413, count := 2, sub := 1, size := 2, acc := .rw, eff := .i },
   { base := 0x4415, count := 2, sub := 1, size := 2 },
   { base := 0x4410, sub := 2, size := 2 },
   { base := 0x4411, count := 2, sub := 2, size := 2, acc := .rw, eff := .i },
   { base := 0x4413, count := 2, sub := 2, size := 2 },
   { base := 0x4415, count := 2, sub := 2, size := 2, acc := .rw, eff := .i },
   { base := 0x4410, count := 7, sub := 3, size := 2 },
   { base := 0x4412, sub := 4, size := 1, acc := .rw, eff := .i, rng := .oneOf [0] },
   { base := 0x4415, count := 2, sub := 4, size := 1, acc := .rw, eff := .i, rng := .oneOf [0] },
   { base := 0x4412, sub := 5, size := 4 },
   { base := 0x4415, count := 2, sub := 5, size := 4 },
   { base := 0x4415, sub := 6, size := 2 }]

/-- Collector objects (Table 15-5). -/
def collectorRows : List ObjRow :=
  [{ base := 0x5000, sub := 1, size := 2, acc := .rws, dflt := 100, per := .y, eff := .i, rng := .between 1 1000 },
   { base := 0x5000, sub := 2, size := 2, acc := .rw, dflt := 1000, per := .y, eff := .i, rng := .between 200 10000 },
   { base := 0x5000, sub := 3, subs := 2, size := 1, acc := .rw, per := .y, eff := .i, rng := .upTo 1 },
   { base := 0x5000, sub := 5, size := 1, acc := .rw, dflt := 2, per := .y, eff := .i, rng := .between 1 3 },
   { base := 0x5000, sub := 6, size := 1, acc := .rw, eff := .i, rng := .upTo 1 },
   { base := 0x5000, sub := 7, size := 1 },
   { base := 0x5001, sub := 1, subs := 3, size := 8 },
   { base := 0x5002, sub := 1, subs := 2, size := 4 },
   { base := 0x5002, sub := 3, size := 4, acc := .rw, eff := .i },
   { base := 0x5003, sub := 1, subs := 5, size := 1 },
   { base := 0x5003, sub := 6, size := 8 },
   { base := 0x5003, sub := 7, size := 4 },
   { base := 0x5003, sub := 8, size := 2 },
   { base := 0x5003, sub := 9, size := 1, acc := .wo, eff := .i, rng := .oneOf [1] },
   { base := 0x5004, sub := 1, size := 1, acc := .wo, eff := .i, rng := .upTo 0x5F },
   { base := 0x5004, sub := 2, size := 1, acc := .wo, eff := .i, rng := .oneOf [1] },
   { base := 0x5004, sub := 3, size := 1 },
   { base := 0x5004, sub := 4, size := 4 },
   { base := 0x5004, sub := 5, size := 1 },
   { base := 0x5005, sub := 1, size := 1, acc := .wo, eff := .i, rng := .upTo 0x5F },
   { base := 0x5006, sub := 1, size := 1 },
   { base := 0x5006, sub := 2, size := 8 },
   { base := 0x5006, sub := 3, size := 1 },
   { base := 0x5006, sub := 4, size := 4 },
   { base := 0x5006, sub := 5, size := 1 },
   { base := 0x5006, sub := 6, size := 4 }]
  ++
  [{ base := 0x5010, count := 64, sub := 1, size := 1, acc := .const, per := .fix },
   { base := 0x5010, count := 64, sub := 2, size := 1, acc := .rws, per := .y, eff := .i, rng := .upTo 3 },
   { base := 0x5010, count := 64, sub := 3, size := 1, acc := .const, per := .fix },
   { base := 0x5010, count := 64, sub := 8, size := 1 },
   { base := 0x5050, count := 32, sub := 1, size := 1, acc := .rw, per := .y, eff := .i, rng := .upTo 3 },
   { base := 0x5010, count := 96, sub := 4, subs := 3, size := 1 },
   { base := 0x5010, count := 96, sub := 7, size := 4 },
   { base := 0x5080, sub := 1, size := 2, acc := .rws, eff := .i },
   { base := 0x5080, sub := 2, size := 1 },
   { base := 0x5080, sub := 3, size := 4, acc := .rws, eff := .i }]

/-- Team objects (Table 15-6). -/
def teamRows : List ObjRow :=
  [{ base := 0x6000, sub := 1, size := 1, acc := .rws, per := .u, eff := .l, rng := .upTo 1 },
   { base := 0x6000, sub := 2, size := 4, acc := .rws, per := .y, eff := .l },
   { base := 0x6000, sub := 3, size := 1, acc := .rws, per := .u, eff := .l, rng := .upTo 7 },
   { base := 0x6000, sub := 4, size := 1, acc := .rws, dflt := 2, per := .y, eff := .l, rng := .between 1 8 },
   { base := 0x6000, sub := 5, size := 1, acc := .rws, dflt := 128, per := .u, eff := .l },
   { base := 0x6000, sub := 6, size := 1, acc := .rws, per := .y, eff := .l, rng := .upTo 1 },
   { base := 0x6000, sub := 7, size := 2, acc := .rws, dflt := 100, per := .y, eff := .l, rng := .between 20 1000 },
   { base := 0x6000, sub := 8, size := 2, acc := .rws, dflt := 0x1000, per := .y, eff := .l, rng := .between 0x100 0x7000 },
   { base := 0x6000, sub := 9, size := 4, acc := .rws, dflt := 10000, per := .y, eff := .l, rng := .between 100 1000000 },
   { base := 0x6001, sub := 1, subs := 4, size := 1 },
   { base := 0x6001, sub := 5, size := 4 },
   { base := 0x6001, sub := 6, size := 1 },
   { base := 0x6001, sub := 7, size := 2 },
   { base := 0x6001, sub := 8, subs := 4, size := 4 },
   { base := 0x6003, sub := 1, subs := 4, size := 4, acc := .rws, per := .y, eff := .l, rng := .betweenOr 100 1000000 0 },
   { base := 0x6003, sub := 5, subs := 4, size := 4 },
   { base := 0x6004, sub := 1, subs := 48, size := 1, acc := .rw, dflt := 0xFF, per := .y, eff := .i, rng := .betweenOr 0 3 0xFF },
   { base := 0x6005, sub := 1, subs := 48, size := 4, acc := .rw, per := .y, eff := .i, rng := .upTo 200000 },
   { base := 0x6010, count := 8, sub := 1, size := 1 },
   { base := 0x6010, count := 8, sub := 2, size := 6 },
   { base := 0x6010, count := 8, sub := 3, size := 2 },
   { base := 0x6010, count := 8, sub := 4, subs := 3, size := 4 },
   { base := 0x6010, count := 8, sub := 7, size := 1 }]

/-- Service objects (Table 15-7). -/
def serviceRows : List ObjRow :=
  [{ base := 0x7000, sub := 1, size := 1, acc := .wo, eff := .i, rng := .oneOf [1] },
   { base := 0x7000, sub := 2, size := 2, acc := .rw, dflt := 1000, per := .y, eff := .i, rng := .upTo 60000 },
   { base := 0x7000, sub := 3, size := 1 },
   { base := 0x7000, sub := 4, subs := 2, size := 4 },
   { base := 0x7001, sub := 1, size := 4, acc := .const, per := .fix },
   { base := 0x7001, sub := 2, subs := 3, size := 4 },
   { base := 0x7001, sub := 5, size := 4, acc := .rw, eff := .i },
   { base := 0x7001, sub := 6, size := 64, per := .j },
   { base := 0x7001, sub := 7, size := 2, acc := .rw, dflt := 0xFFFF, per := .y, eff := .i },
   { base := 0x7001, sub := 8, size := 1, acc := .rws, eff := .i, rng := .oneOf [1] },
   { base := 0x7002, sub := 1, size := 1, per := .ps },
   { base := 0x7002, sub := 2, size := 4, per := .ps },
   { base := 0x7002, sub := 3, subs := 2, size := 1, per := .ps },
   { base := 0x7002, sub := 5, subs := 2, size := 4, per := .ps },
   { base := 0x7002, sub := 7, size := 32768, acc := .rws, per := .ps, eff := .i },
   { base := 0x7002, sub := 8, size := 1, acc := .rws, eff := .i, rng := .between 1 4 },
   { base := 0x7002, sub := 9, size := 4, acc := .const, per := .fix },
   { base := 0x7003, sub := 1, subs := 4, size := 1 },
   { base := 0x7003, sub := 5, subs := 4, size := 1, acc := .rws, eff := .l, rng := .between 1 5 },
   { base := 0x7003, sub := 9, size := 1, per := .u },
   { base := 0x7003, sub := 0xA, size := 4 },
   { base := 0x7004, sub := 1, subs := 48, size := 1, acc := .rws, per := .ub, eff := .f, rng := .upTo 1 },
   { base := 0x7005, sub := 1, size := 1, acc := .rws, eff := .i, rng := .upTo 0x2F },
   { base := 0x7005, sub := 2, size := 2, acc := .rws, dflt := 0xFFFF, eff := .i },
   { base := 0x7005, sub := 3, size := 1, acc := .rws, eff := .l, rng := .oneOf [1] },
   { base := 0x7005, sub := 4, size := 1 }]

/-- The whole dictionary, in ascending order of range. -/
def objRows : List ObjRow :=
  commRows ++ deviceRows ++ laneRows ++ mapRows ++ timeRows ++ netRows ++ collectorRows ++ teamRows ++ serviceRows

/-- Does a row hold an index? -/
def ObjRow.hasIndex (r : ObjRow) (idx : Nat) : Bool :=
  decide (r.base ≤ idx) && decide ((idx - r.base) % r.stride = 0) && decide ((idx - r.base) / r.stride < r.count)

/-- Does a row hold an object? -/
def ObjRow.has (r : ObjRow) (idx sub : Nat) : Bool :=
  r.hasIndex idx && decide (r.sub ≤ sub) && decide (sub < r.sub + r.subs)

/-- Key of an object in a value store: ascending index, then subindex. -/
def objKey (idx sub : Nat) : Nat := idx * 256 + sub

/-- Written values, by key, ascending. -/
abbrev Values := List (Nat × Nat)

/-- The value under a key, when one has been written. -/
def Values.get? (vs : Values) (k : Nat) : Option Nat := (vs.find? fun e => e.1 == k).map Prod.snd

/-- Write a value, keeping the keys in ascending order and each once. -/
def Values.put (vs : Values) (k v : Nat) : Values :=
  match vs with
  | [] => [(k, v)]
  | (k', v') :: rest =>
    if k < k' then (k, v) :: (k', v') :: rest
    else if k = k' then (k, v) :: rest
    else (k', v') :: Values.put rest k v

/-- Forget a value. -/
def Values.drop (vs : Values) (k : Nat) : Values := vs.filter fun e => e.1 != k

end Sys2Proof.Machine
end

