-- ==== Sys2Proof/Machine/RunState.lean ====
section
/-! DEFINITION. What the runtime keeps in SRAM (chapters 08, 09, 13, 16, 17): sessions, the serial watchdog, lane schedules, shedding
groups, team state, the store and journal work, bank service and migration. A runtime restart clears it but for what its rules keep. -/

namespace Sys2Proof.Machine

/-! ## Sessions -/

/-- What a session is bound to (R395). Addresses are kept as numbers in network order. -/
inductive Endpoint where
  | spi
  | raw (mac : Nat)
  | udp (ip port : Nat)
  deriving DecidableEq, Repr, Inhabited

/-- Where a network response goes (Table 13-1): the client's MAC address, the tag of its request, its endpoint,
and the receive time of the request. -/
structure NetPath where
  mac      : Nat
  tag      : Option Nat := none
  endpoint : Endpoint
  arrival  : Nat := 0
  deriving DecidableEq, Repr, Inhabited

/-- Where a request came from and what its response must copy: the session, the request's header (empty for a write row,
which stands for a write accepted from that session), and the path back when it came over the network. -/
structure Origin where
  session : Nat := 0xFF
  header  : List Byte := []
  path    : Option NetPath := none
  arrival : Nat := 0
  deriving DecidableEq, Repr, Inhabited

/-- State of a session (Table 13-12). -/
inductive SessionMode where
  | free
  | waiting
  | opened
  deriving DecidableEq, Repr, Inhabited

/-- What follows a response once it has been sent (R401, R404): values that then come into force as (index, subindex, value), a store write,
and sessions that close. -/
structure After where
  puts   : List (Nat × Nat × Nat) := []
  save   : Bool := false
  closes : List Nat := []
  deriving DecidableEq, Repr, Inhabited

/-- One of the last four requests of a session with its response, none while it is being carried out, whether that response has been
sent, and where it goes (R405, R406). -/
structure Served where
  seq     : Nat
  counter : Nat
  reply   : Option (List Byte)
  sent    : Bool := false
  path    : Option NetPath := none
  then_   : After := {}
  deriving DecidableEq, Repr, Inhabited

/-- A segmented write in progress (R409). -/
structure SegWrite where
  idx   : Nat
  sub   : Nat
  total : Nat
  data  : List Byte
  last  : Nat
  deriving DecidableEq, Repr, Inhabited

/-- One session (R395 to R409). -/
structure Session where
  mode     : SessionMode := .free
  role     : Role := .observer
  endpoint : Endpoint := .spi
  client   : List Byte := []
  device   : List Byte := []
  counter  : Nat := 0
  failures : Nat := 0
  openedAt : Nat := 0
  lastUsed : Nat := 0
  served   : Word32 := 0
  history  : List Served := []
  reading  : Option (Nat × List Byte) := none
  writing  : Option SegWrite := none
  segLost  : Bool := false
  deriving DecidableEq, Repr, Inhabited

/-- A request waiting for banks to acknowledge its commands (R41): the banks and command numbers still open. -/
structure Waiting where
  origin : Origin
  open_  : List (Nat × Nat)
  deriving DecidableEq, Repr, Inhabited

/-! ## Serial watchdog -/

/-- Watchdog states (R237, Table 08-2). -/
inductive DogMode where
  | disarmed
  | awaiting
  | armed
  | forced
  deriving DecidableEq, Repr, Inhabited

/-- The serial watchdog (R237 to R244). Times in ns of the model's clock. -/
structure Watchdog where
  mode     : DogMode := .disarmed
  token    : Nat := 0
  windowAt : Nat := 0
  period   : Nat := 100
  deadline : Nat := 0
  misses   : Nat := 0
  owner    : Nat := 0xFF
  lastKind : Nat := 0
  deriving DecidableEq, Repr, Inhabited

/-! ## Schedules and synchronous sensing -/

/-- The schedule of a lane (R264 to R269). `status` is bits [2:0] of (B + 7).05; `target` is the target as lap count and phase while
armed, `at_` its time in ns of the model's clock once resolved or governed. -/
structure Schedule where
  status   : Nat := 0
  late     : Bool := false
  unlocked : Bool := false
  cmd      : Drive := .off
  byLap    : Bool := false
  lap      : Nat := 0
  phase    : Nat := 0
  at_      : Option Nat := none
  atStep   : Bool := false
  banks    : List Nat := []
  governed : Bool := false
  proposal : Nat := 0
  deriving DecidableEq, Repr, Inhabited

/-- Synchronous current of a lane (R270, R271). -/
structure SyncSense where
  current : Nat := 0
  valid   : Bool := false
  disturbed : Bool := false
  stepped : Bool := false
  /-- The window that was reported last: its lap, and whether it was the second (R270). -/
  reported : Option (Nat × Bool) := none
  deriving DecidableEq, Repr, Inhabited

/-! ## Team -/

/-- Team states (Table 16-7), the unit's own and those of its member entries. -/
inductive TeamMode where
  | none
  | forming
  | joining
  | member
  | pacer
  | outOfAgreement
  | refused
  | lost
  | away
  deriving DecidableEq, Repr, Inhabited

/-- What this unit knows of one member (R443, Tables 15-6 and 16-3). -/
structure Member where
  mode      : TeamMode := .none
  mac       : Nat := 0
  version   : Nat := 0
  hash      : Nat := 0
  offset    : Int := 0
  refId     : Nat := 0
  timeState : Nat := 0
  limitHit  : Bool := false
  /-- When it was last heard, while it counts as present; and when it was last heard at all (0x6010 + m .06). -/
  heardAt   : Option Nat := none
  lastAt    : Option Nat := none
  awayAt    : Nat := 0
  rank      : Nat := 0xFF
  sees      : Nat := 0xFF
  lastIntent : Nat := 0
  reserved  : List Nat := [0, 0, 0, 0]
  onCurrent : List Nat := [0, 0, 0, 0]
  fails     : Nat := 0
  passes    : Nat := 0
  badTime   : Bool := false
  diffs     : Nat := 0
  badState  : Bool := false
  deriving DecidableEq, Repr, Inhabited

/-- Sequence check of a source MAC address (R441). -/
structure SeqCheck where
  mac   : Nat
  epoch : Nat
  seq   : Nat
  deriving DecidableEq, Repr, Inhabited

/-- A proposal in the pacer's queue (R461): target in ns of domain P, order of arrival, deferrals so far. -/
structure Proposal where
  member   : Nat
  id       : Nat
  lane     : Nat
  cmd      : Nat
  budget   : Nat
  current  : Nat
  target   : Nat
  arrival  : Nat
  deferred : Nat := 0
  deriving DecidableEq, Repr, Inhabited

/-- One entry of an intent (Table 16-2) and whether it has been undone. -/
structure IntentEntry where
  member   : Nat
  lane     : Nat
  cmd      : Nat
  budget   : Nat
  proposal : Nat
  current  : Nat
  live     : Bool := true
  deriving DecidableEq, Repr, Inhabited

/-- An intent a unit has received or published (R462). -/
structure Intent where
  seq       : Nat
  target    : Nat
  lapNs     : Nat
  entries   : List IntentEntry
  committed : Bool := false
  /-- This unit published it. -/
  mine      : Bool := false
  /-- It is being put together and not yet sent. -/
  fresh     : Bool := false
  /-- One of its entries has been undone through CANCEL; the unit counts that once (R464). -/
  cut       : Bool := false
  /-- The pacer of a team at runtime 3.1 or below would have cancelled one of its entries, and sends no COMMIT (R464). -/
  barred    : Bool := false
  deriving DecidableEq, Repr, Inhabited

/-- The team state of this unit (chapter 16). -/
structure Team where
  mode       : TeamMode := .none
  pacer      : Nat := 0xFF
  epoch      : Nat := 0
  seq        : Nat := 0
  members    : List Member := List.replicate 8 {}
  checks     : List SeqCheck := []
  windowAt   : Nat := 0
  claimBy    : Option Nat := none
  winner     : Nat := 0xFF
  excluded   : List Nat := []
  joinAt     : Nat := 0
  statusAt   : Nat := 0
  reserved   : List Nat := [0, 0, 0, 0]
  lastIntent : Nat := 0
  nextIntent : Nat := 0
  nextProp   : Nat := 0
  proposals  : List Proposal := []
  arrivals   : Nat := 0
  intents    : List Intent := []
  timeFails  : Nat := 0
  timePasses : Nat := 0
  stateDiffs : Nat := 0
  badHash    : Bool := false
  badTime    : Bool := false
  badState   : Bool := false
  raised     : List (Nat × Nat) := []
  lastRef    : Nat := 0
  seen       : Word32 := 0
  undone     : Word32 := 0
  missing    : Word32 := 0
  joins      : Word32 := 0
  deriving DecidableEq, Repr, Inhabited

/-! ## Store, journal and service operations -/

/-- A reset or standby request, activation or revert waiting for its lap boundary, or under way. -/
inductive Planned where
  | restart
  | hubReset
  | portReset (n : Nat)
  | wholeReset
  | standby
  | activate
  | revert
  deriving DecidableEq, Repr, Inhabited

/-- A planned stop under way (R22, R94, Table 17-11): first the requests taken are answered and MRAM is brought up to date, then (`announced`) the
restart hold, or for standby fail-safe, is sent to the banks. `frames` counts the frames per bank that carried the hold and `acked`
the banks that reported it; `open_` are the fail-safe commands still open. -/
structure Stop where
  kind      : Planned
  announced : Bool := false
  frames    : List Nat := [0, 0, 0, 0]
  acked     : List Bool := [false, false, false, false]
  since     : Option Nat := none
  open_     : List (Nat × Nat) := []
  deriving DecidableEq, Repr, Inhabited

/-- Bank service states (Table 15-9). -/
inductive ServiceMode where
  | inService
  | isolating
  | isolated
  | resetting
  | retrimming
  | retired
  deriving DecidableEq, Repr, Inhabited

/-- Commit results (Table 04-10) are kept as their codes; a migration's progress (Table 17-14). -/
structure Migration where
  result  : Nat := 0
  lane    : Nat := 0
  target  : Nat := 0xFFFF
  channel : Nat := 0
  grow    : Bool := false
  step    : Nat := 0
  open_   : List (Nat × Nat) := []
  deriving DecidableEq, Repr, Inhabited

/-- A journal record waiting in the SRAM shadow (R216, R475). -/
structure JournalEntry where
  seconds : Nat
  nanos   : Nat
  cls     : Nat
  code    : Nat
  payload : List Byte
  deriving DecidableEq, Repr, Inhabited

/-- The configuration store as the runtime works on it (R472 to R474): `source` is the copy that holds the newest completed write (2 none) and
`newest` its sequence number. A write in progress has a target copy, an image of values with its sequence number, version and hash, and
`mirror` says that it is the rewrite of R92. -/
structure StoreWork where
  dirty     : Bool := false
  changed   : Bool := false
  lastWrite : Nat := 0
  writing   : Bool := false
  again     : Bool := false
  deferred  : Bool := false
  badVerify : Bool := false
  rewrite   : List Nat := []
  writes    : Word32 := 0
  newest    : Nat := 0
  source    : Nat := 2
  target    : Nat := 0
  mirror    : Bool := false
  image     : Values := []
  imageSeq  : Nat := 0
  imageVersion : Nat := 0
  imageHash : Nat := 0
  deriving DecidableEq, Repr, Inhabited

/-- What had been accepted when the last lap boundary came, to act from it on (R41): values, planned operations, and whether a map commit, a bank
service request or a migration waited. -/
structure Boundary where
  values    : Values := []
  planned   : List Planned := []
  commit    : Bool := false
  service   : Bool := false
  migration : Bool := false
  deriving DecidableEq, Repr, Inhabited

/-- Runtime state. -/
structure Run where
  ready     : Bool := false
  readyAt   : Nat := 0
  accepted  : Values := []
  inForce   : Values := []
  sessions  : List Session := List.replicate 16 {}
  waiting   : List Waiting := []
  /-- Responses held for lack of room in Q1 (R393), oldest first. -/
  held      : List (List Byte) := []
  reclaimed : Word32 := 0
  badTags   : Word32 := 0
  badQ0     : Word32 := 0
  badNet    : Word32 := 0
  ipId      : Nat := 0
  dog       : Watchdog := {}
  schedules : List Schedule := List.replicate 48 {}
  sync      : List SyncSense := List.replicate 48 {}
  commitWait : Bool := false
  commitResult : Nat := 0
  commitLane : Nat := 0xFF
  planned   : List Planned := []
  boundary  : Boundary := {}
  /-- The bank link cycle in which a schedule was last resolved, and how many were in it (Table 09-5). -/
  resolvedIn : Nat × Nat := (0, 0)
  stop      : Option Stop := none
  /-- Groups shed per bank in their order, each with its shedding priority and its lanes, and when the next group of the bank may be shed or
  restored (R211, R212). -/
  shed      : List (List (Nat × List Nat)) := List.replicate 4 []
  shedDue   : List Nat := List.replicate 4 0
  service   : List ServiceMode := List.replicate 4 .inService
  serviceReq : Option (Nat × Nat) := none
  serviceOps : Word32 := 0
  migration : Migration := {}
  team      : Team := {}
  store     : StoreWork := {}
  shadow    : List JournalEntry := []
  /-- Records of the shadow that the flush in progress has still to write, before the configuration (R216). -/
  flushLeft : Nat := 0
  lost      : Word32 := 0
  cursor    : Nat := 0
  /-- A journal clear accepted while MRAM could not be written, carried out with its record (R479). -/
  clearDue  : Bool := false
  slotState : List Nat := [0, 0]
  snapCycle : List Nat := List.replicate 48 0
  snaps     : List (List Nat) := List.replicate 48 [0, 0, 0, 0, 0]
  snapWait  : List (Nat × Nat × List (Nat × Nat)) := []
  deriving DecidableEq, Repr, Inhabited

end Sys2Proof.Machine
end

