-- ==== Sys2Proof/Machine/HubState.lean ====
section
/-! DEFINITION. The hub die as a whole, its MRAM, the supplies and the lands (chapters 02, 03, 17). -/

namespace Sys2Proof.Machine

/-- Where the hub stands in its start (Table 03-6), or what stops it. -/
inductive HubPhase where
  /-- VCORE absent. -/
  | unpowered
  /-- Oscillator start and synthesiser settling, with the hub held in reset. -/
  | settling
  /-- The reference clock has stopped (R80). -/
  | noClock
  /-- Hub reset with the synthesiser locked, before step 4. -/
  | held
  /-- The ROM check or the self-test failed (R88). -/
  | failed
  /-- A runtime restart or an exit from standby, before the outcome of steps 5 and 6 (R81, R87). -/
  | restarting
  /-- Steps 4 to 9 done: banks are claimed, dictionary ready is due. -/
  | claiming
  /-- Dictionary ready has been reached. -/
  | running
  /-- The runtime is carrying out standby entry or stands in standby (R95). -/
  | standby
  /-- Exit from standby: the synthesiser settles (R96). -/
  | waking
  deriving DecidableEq, Repr, Inhabited

/-- A command on the link of a bank until the bank acknowledges it (R22); `source` is the escalation source it serves, 0xFF none. -/
structure LinkReq where
  cmd    : LinkCmd
  first  : Option Nat := none
  source : Nat := 0xFF
  deriving DecidableEq, Repr

/-- The hub's end of one bank link. -/
structure Link where
  queue    : List LinkReq := []
  nextId   : Nat := 0
  sentIn   : Option Nat := none
  msgAcks  : List Nat := []
  /-- The count of discards in the bank's last frame; none where the hub has had no frame to compare with (R21). -/
  reported : Option Nat := none
  discards : List Nat := []
  /-- What the last uplink frame of a bank that is not claimed told of it. -/
  heard    : Option BankCore := none
  deriving DecidableEq, Repr, Inhabited

/-- A received frame that the runtime has consumed and not yet acted on (R376). -/
inductive NetItem where
  | phoden (path : NetPath) (data : List Byte)
  | arp (frame : List Byte)
  | icmp (frame : List Byte)
  | team (mac : Nat) (data : List Byte)
  deriving DecidableEq, Repr, Inhabited

/-- The hub die. A hub reset replaces all of it but what `State.hubReset` keeps; a runtime restart replaces `run`. -/
structure Hub where
  phase       : HubPhase := .unpowered
  cause       : Nat := 1
  startAt     : Nat := 0
  failures    : Nat := 0
  stepsAt     : Nat := 0
  tier        : Nat := 50
  synth       : Nat := 0
  calTemp     : Int := 250
  temp        : Int := 250
  windowCode  : Nat := 0
  /-- A flush of the shadow is in progress (R218). -/
  flushing    : Bool := false
  calibrations : Word32 := 0
  tierChanges : Word32 := 0
  strapValue  : Nat := 0
  strapStatus : Nat := 0
  startReport : Nat := 0
  startCause  : Nat := 0
  duration    : Nat := 0
  copySel     : Nat := 2
  statusA     : Nat := 2
  statusB     : Nat := 2
  copySeq     : Nat := 0
  shadowFlag  : Bool := false
  pending     : Word16 := 0
  gap         : Word16 := 0
  chgperm     : Bool := false
  /-- Since when the hub has found every condition of CHGPERM met for a return (R220), and whether it has found one failed while CHGPERM was high. -/
  permFrom    : Option Nat := none
  permLost    : Bool := false
  dogMisses   : Word32 := 0
  lap         : Lap := {}
  capture     : Capture := {}
  collector   : Collector := {}
  time        : TimeDomains := {}
  net         : Net := {}
  links       : List Link := List.replicate 4 {}
  views       : List (Option BankCore) := List.replicate 4 none
  revisions   : List Nat := List.replicate 4 0
  inbox       : List NetItem := []
  /-- Items of consumed Q5 entries, by entry, that an unread entry for the host holds back (R376). -/
  q5Held      : List (Nat × NetItem) := []
  /-- Per sensor of each bank, since when it has agreed with its comparison sensors (R205). -/
  agreeSince  : List (Option Nat) := List.replicate 56 none
  run         : Run := {}
  spiBad      : Bool := false
  romOk       : Bool := true
  selfOk      : Bool := true
  /-- Code of the patch event that the next dictionary ready records (Table 17-11, step 7), 0 none. -/
  patchDue    : Nat := 0
  /-- The SPI port found SCK high when CSN last fell: mode 3, else mode 0 (R58). -/
  spiMode3    : Bool := false
  /-- A WAKE edge that came while standby entry was in progress (R96). -/
  wakeDue     : Bool := false
  /-- Status and fields of the last response, as a write row leaves them. -/
  lastReply   : List Byte := []
  /-- What SDO shifted out in the last SPI transaction: the status byte, then the data (R392). -/
  spiOut      : List Byte := []
  deriving DecidableEq, Repr, Inhabited

/-- A configuration copy in MRAM (R470): what its header says and the values of its payload. -/
structure ConfigCopy where
  blank     : Bool := true
  malformed : Bool := false
  committed : Bool := false
  crcBad    : Bool := false
  seq       : Nat := 0
  version   : Nat := 0
  hash      : Nat := 0
  values    : Values := []
  deriving DecidableEq, Repr, Inhabited

/-- A record in a journal slot (Table 17-5). -/
structure JournalRec where
  number : Nat
  entry  : JournalEntry
  deriving DecidableEq, Repr, Inhabited

/-- An index block (Table 17-7), and whether it is valid. -/
structure IndexBlock where
  valid  : Bool := false
  seq    : Nat := 0
  newest : Nat := 0
  slot   : Nat := 0
  oldest : Nat := 0
  deriving DecidableEq, Repr, Inhabited

/-- The MRAM less the patch slots' bytes (R468): both configuration copies, the journal (records held, oldest first, and the
number that follows the newest) and its index blocks. -/
structure Mram where
  copyA    : ConfigCopy := {}
  copyB    : ConfigCopy := {}
  records  : List JournalRec := []
  next     : Nat := 0
  slot     : Nat := 2559
  index0   : IndexBlock := {}
  index1   : IndexBlock := {}
  deriving DecidableEq, Repr, Inhabited

/-- Supplies of the hub die and their readings in mV (R72, R98). -/
structure Supplies where
  vcore   : Bool := false
  vio     : Bool := false
  vphy    : Bool := false
  vcoreMv : Nat := 0
  vioMv   : Nat := 0
  vphyMv  : Nat := 0
  deriving DecidableEq, Repr, Inhabited

/-- Levels of the input lands (R69): IN00 to IN15, WAKE, TEST, ZXA, ZXB, and PPS where it is an input. -/
structure Lands where
  inputs : Word16 := 0
  wake   : Bool := false
  /-- When WAKE was sensed to rise, until an exit from standby takes that edge (R62). -/
  wakeAt : Option Nat := none
  test   : Bool := false
  pps    : Bool := false
  zxa    : Bool := false
  zxb    : Bool := false
  deriving DecidableEq, Repr, Inhabited

end Sys2Proof.Machine
end

