-- ==== Sys2Proof/Machine/State.lean ====
section
/-! DEFINITION. The state of the block, its faults and refusals, and the state after reset. -/

namespace Sys2Proof.Machine

/-- The state: the waiting commands, the model's clock in ns, the count of free values drawn, the runtime version of the ROM, supplies,
lands, MRAM, the four banks, the hub, the transmit and receive buffers of the queues (R369) and the bytes of the patch slots (R468). -/
structure State where
  pending   : List Instr
  now       : Nat
  free      : Nat
  rtVersion : Nat
  pwr       : Supplies
  lands     : Lands
  mram      : Mram
  banks     : List Bank
  hub       : Hub
  bufs      : List Host.Cell
  patches   : List Host.Cell
  deriving DecidableEq, Repr

/-- Faults of a command: none. The spec describes an effect for every command of the table, and every address a command
names is checked by the rules of the command itself (R410), so no meaning stops. -/
inductive Fault where
  deriving DecidableEq, Repr

/-- Refusals of a command. -/
inductive Refusal where
  /-- Raised by Dispatch.lean alone, for a command that has no meaning yet. Safe: the run stops. -/
  | notModelled (mnemonic : String)
  deriving DecidableEq, Repr

/-- A channel's store entry as the factory leaves it: the defaults of Table 15-2 with the class defaults of its class (R193). -/
def factoryEntry (p : Nat) : ChanCfg := { prot := { steady := steadyDefault (classAt p), budget := budgetMax (classAt p) } }

/-- A bank as the factory leaves it. -/
def factoryBank : Bank := { core := { chans := (List.range 12).map fun p => { cfg := factoryEntry p } } }

/-- The machine before any supply has come up (R72, R49): every supply absent, the hub unpowered, MRAM blank (Table 17-1), every
bank-local store at its factory values, no command waiting. -/
def State.reset : State :=
  { pending := [], now := 0, free := 0, rtVersion := 0x0302, pwr := {}, lands := {}, mram := {}
    banks := List.replicate 4 factoryBank, hub := {}, bufs := [], patches := [] }

end Sys2Proof.Machine
end

