-- ==== Sys2Proof/Machine/Ops.lean ====
section
/-! DEFINITION. The named operations over memory (buffers and patch slots) and over the parts of the state. -/

namespace Sys2Proof.Machine

/-! ## Memory: cells in canonical form -/

/-- What an unlisted byte of a transmit or receive buffer reads as (DESIGN CHOICE, log 3), and of a patch slot (Table 17-1). -/
def bufBlank : Byte := 0#8
def slotBlank : Byte := 0xFF#8

/-- The byte at an address: `d` where no cell lists it. -/
def readCell (d : Byte) (m : List Host.Cell) (a : Nat) : Byte :=
  match m.find? fun c => c.1 == a with
  | some c => c.2
  | none => d

/-- Store a byte: addresses stay rising, and a byte equal to what an unlisted address reads as leaves no cell. -/
def writeCell (d : Byte) : List Host.Cell → Nat → Byte → List Host.Cell
  | [], a, v => if v = d then [] else [(a, v)]
  | (a', v') :: rest, a, v =>
    if a < a' then (if v = d then (a', v') :: rest else (a, v) :: (a', v') :: rest)
    else if a = a' then (if v = d then rest else (a, v) :: rest)
    else (a', v') :: writeCell d rest a v

/-- `n` bytes from an address. -/
def readCells (d : Byte) (m : List Host.Cell) (a n : Nat) : List Byte := (List.range n).map fun i => readCell d m (a + i)

/-- Store bytes from an address up. -/
def writeCells (d : Byte) (m : List Host.Cell) (a : Nat) : List Byte → List Host.Cell
  | [] => m
  | v :: vs => writeCells d (writeCell d m a v) (a + 1) vs

/-- Addresses strictly rising from above `lo`, and no cell equal to what an unlisted address reads as. -/
def cellsWfFrom (d : Byte) : Option Nat → List Host.Cell → Bool
  | _, [] => true
  | lo, (a, v) :: rest => (match lo with | none => true | some b => decide (b < a)) && v != d && cellsWfFrom d (some a) rest

/-- The canonical form of one memory. -/
def cellsWf (d : Byte) (m : List Host.Cell) : Bool := cellsWfFrom d none m

/-- Both memories of the block are in canonical form. -/
def Memory.wf (s : State) : Bool := cellsWf bufBlank s.bufs && cellsWf slotBlank s.patches

/-! ## Buffers (R369) and patch slots (R468) -/

def bufSize : Nat := 1536

/-- First address of a transmit buffer (0 to 47) or of a receive buffer (0 to 63). -/
def txBase (i : Nat) : Nat := i * bufSize
def rxBase (i : Nat) : Nat := (48 + i) * bufSize

def slotSize : Nat := 32768
def slotBase (i : Nat) : Nat := i * slotSize

def State.readBuf (s : State) (a n : Nat) : List Byte := readCells bufBlank s.bufs a n
def State.writeBuf (s : State) (a : Nat) (data : List Byte) : State := { s with bufs := writeCells bufBlank s.bufs a data }

/-- The bytes of a transmit buffer that a frame of `n` bytes takes. -/
def State.txData (s : State) (i n : Nat) : List Byte := s.readBuf (txBase i) n

def State.readSlot (s : State) (i a n : Nat) : List Byte := readCells slotBlank s.patches (slotBase i + a) n
def State.writeSlot (s : State) (i a : Nat) (data : List Byte) : State :=
  { s with patches := writeCells slotBlank s.patches (slotBase i + a) data }

/-- Erase a slot to 0xFF (R483): no cell of it is left. -/
def State.eraseSlot (s : State) (i : Nat) : State :=
  { s with patches := s.patches.filter fun c => !(decide (slotBase i ≤ c.1) && decide (c.1 < slotBase i + slotSize)) }

/-! ## Parts of the state -/

/-- Bank b (0 to 3). -/
def State.bank (s : State) (b : Nat) : Bank := s.banks.getD b {}

/-- Change one bank. -/
def State.onBank (s : State) (b : Nat) (f : Bank → Bank) : State := { s with banks := editAt s.banks b f }

/-- Change every bank, with its number. -/
def State.onBanks (s : State) (f : Nat → Bank → Bank) : State := { s with banks := mapFrom f 0 s.banks }

/-- Change the hub. -/
def State.onHub (s : State) (f : Hub → Hub) : State := { s with hub := f s.hub }

/-- Change the bank of a physical channel: `f` gets the bank number, the model's clock and the position. -/
def State.onChan (s : State) (ch : Nat) (f : Bank → Nat → Nat → Nat → Bank) : State :=
  s.onBank (ch / 12) fun x => f x (ch / 12) s.now (ch % 12)

/-- The channel's logic. -/
def State.chan (s : State) (ch : Nat) : Chan := (s.bank (ch / 12)).core.chan (ch % 12)

/-- Draw a fresh free bit (log 2). -/
def State.drawBit (s : State) : State × Bool := ({ s with free := s.free + 1 }, Config.freeBit s.free)

/-- Draw `n` bytes of the entropy source (R400, R440). -/
def State.drawBytes (s : State) (n : Nat) : State × List Byte :=
  ({ s with free := s.free + n }, (List.range n).map fun i => Config.entropyByte (s.free + i))

/-! ## The hub's links (R20 to R22) -/

def Hub.link (h : Hub) (b : Nat) : Link := h.links.getD b {}
def Hub.onLink (h : Hub) (b : Nat) (f : Link → Link) : Hub := { h with links := editAt h.links b f }

/-- Change what the runtime keeps. -/
def Hub.onRun (h : Hub) (f : Run → Run) : Hub := { h with run := f h.run }

/-- A bank is present to the hub: it has been claimed and its supply has not been lost. -/
def Hub.present (h : Hub) (b : Nat) : Bool := (h.views.getD b none).isSome

/-- What the hub last heard of a bank. -/
def Hub.view (h : Hub) (b : Nat) : Option BankCore := h.views.getD b none

/-- What the hub last heard of a physical channel. -/
def Hub.viewChan (h : Hub) (ch : Nat) : Option Chan := (h.view (ch / 12)).map fun c => c.chan (ch % 12)

/-- The cycle of the bank link now (R20). -/
def State.cycle (s : State) : Nat := s.now / cycleTime

/-- What a command sets, for commands of which only the latest counts: its kind and position (R42). -/
def BankCmd.target : BankCmd → Option (Nat × Nat)
  | .setNormal p _ => some (0, p)
  | .setPattern p _ => some (1, p)
  | .setIo p _ => some (2, p)
  | .setLoad p _ => some (3, p)
  | .setProt p _ => some (4, p)
  | .setWarn p _ => some (5, p)
  | .setSync p _ => some (6, p)
  | .setRetired p _ => some (7, p)
  | .setHoldTime _ => some (8, 0)
  | .setGlideExit _ => some (9, 0)
  | .setLevels _ _ => some (10, 0)
  | _ => none

/-- A request that has not been sent takes over the content of a later one for the same target: only the later one acts (R42). -/
def LinkReq.superseded (r : LinkReq) (tag : Option Nat) (resolved : Bool) (cmd : BankCmd) : LinkReq :=
  if r.first.isNone && !r.cmd.resolved && !resolved && cmd.target.isSome && decide (r.cmd.cmd.target = cmd.target) then
    { r with cmd := { r.cmd with tag := tag, cmd := cmd } }
  else r

/-- Queue a command on a link; the answer is its number. -/
def Link.push (l : Link) (lane : Nat) (tag : Option Nat) (resolved : Bool) (source : Nat) (cmd : BankCmd) : Link × Nat :=
  ({ l with
      nextId := l.nextId + 1
      queue := (l.queue.map fun r => r.superseded tag resolved cmd)
        ++ [{ cmd := { id := l.nextId, lane := lane, tag := tag, resolved := resolved, cmd := cmd }, source := source }] },
   l.nextId)

/-- A command for a bank, not yet numbered. -/
structure Order where
  bank     : Nat
  lane     : Nat := 0
  tag      : Option Nat := none
  resolved : Bool := false
  source   : Nat := 0xFF
  cmd      : BankCmd
  deriving DecidableEq, Repr

/-- An announced stop is under way: the runtime sends no new bank command (R22). -/
def Hub.stopping (h : Hub) : Bool := match h.run.stop with | some x => x.announced | none => false

/-- No planned stop is under way, so that the runtime may command banks of its own accord (R22). Commands of requests taken before the stop still go,
since those requests are answered (Table 17-11; DESIGN CHOICE, log 85). -/
def Hub.free (h : Hub) : Bool := h.run.stop.isNone

/-- Queue orders to the banks that are present; the answer names the commands queued. -/
def Hub.order (h : Hub) : List Order → Hub × List (Nat × Nat)
  | [] => (h, [])
  | o :: os =>
    if h.present o.bank && !h.stopping then
      let (l, id) := (h.link o.bank).push o.lane o.tag o.resolved o.source o.cmd
      let (h, ids) := Hub.order (h.onLink o.bank fun _ => l) os
      (h, (o.bank, id) :: ids)
    else Hub.order h os

/-- Is a command still on a bank's link? -/
def Hub.onItsWay (h : Hub) (id : Nat × Nat) : Bool := (h.link id.1).queue.any fun r => r.cmd.id == id.2

end Sys2Proof.Machine
end

