-- ==== Sys2Proof/Machine/Operands.lean ====
section
/-! DEFINITION. Operands of commands as the state gives them: dictionary values and their defaults (R42, R420), the lane map (R120),
the settings of blocks as they are in force, and a lane's settings as a bank's store entry holds them (R109, R144, R193). -/

namespace Sys2Proof.Machine

/-! ## Dictionary values -/

/-- The value most recently accepted (R42), with the default to use where none was written. -/
def Hub.val (h : Hub) (idx sub dflt : Nat) : Nat := (h.run.accepted.get? (objKey idx sub)).getD dflt

/-- The value in force (R41), with the default to use where none was written. -/
def Hub.act (h : Hub) (idx sub dflt : Nat) : Nat := (h.run.inForce.get? (objKey idx sub)).getD dflt

/-- First index of lane n's block and offset g (R116). -/
def laneIdx (n g : Nat) : Nat := 0x3000 + 16 * n + g

/-- An accepted lane value. -/
def Hub.lane (h : Hub) (n g sub dflt : Nat) : Nat := h.val (laneIdx n g) sub dflt

/-! ## Lane map (R27, R120) -/

/-- Map entry in force of a lane (0x3402). -/
def Hub.entry (h : Hub) (n : Nat) : Nat := h.val 0x3402 (n + 1) (0xFF00 + n)

/-- Staged map entry of a lane (0x3400). -/
def Hub.staged (h : Hub) (n : Nat) : Nat := h.val 0x3400 (n + 1) (h.entry n)

/-- Channels of a map entry, first channel first. -/
def entryChans (e : Nat) : List Nat :=
  if e % 256 = 0xFF then [] else if e / 256 = 0xFF then [e % 256] else [e % 256, e / 256]

/-- Is an entry one of Table 04-8? -/
def entryOk (e : Nat) : Bool :=
  decide (e = 0xFFFF) || (decide (e % 256 ≤ 47) && (decide (e / 256 = 0xFF) || (decide (e / 256 ≤ 47) && decide (e % 256 < e / 256))))

/-- Channels of a lane under the map in force. -/
def Hub.chansOf (h : Hub) (n : Nat) : List Nat := entryChans (h.entry n)

/-- Banks that carry a channel of a list, each once. -/
def banksOf (chans : List Nat) : List Nat := (List.range 4).filter fun b => chans.any fun c => c / 12 == b

/-- The lane that owns a channel (0x3410 + k .02). -/
def Hub.owner (h : Hub) (ch : Nat) : Option Nat := (List.range 48).find? fun n => (h.chansOf n).contains ch

/-- Class that gives a lane its class defaults (R428). -/
def Hub.laneClass (h : Hub) (n : Nat) : ChClass := classOf ((h.chansOf n).headD n)

/-- A lane's command object (B.01). -/
def driveOf (v : Nat) : Drive := match v with | 0 => .off | 1 => .on | _ => .follow
def driveCode : Drive → Nat
  | .off => 0
  | .on => 1
  | .follow => 2
def Hub.command (h : Hub) (n : Nat) : Drive := driveOf (h.lane n 0 1 0)

/-- The default of an object (R420, R428); `strap` is the strap value of R68. -/
def Hub.default (h : Hub) (r : ObjRow) (idx sub : Nat) : Nat :=
  if idx = 0x4401 ∧ sub = 2 ∨ idx = 0x4402 ∧ sub = 2 ∨ idx = 0x6000 ∧ sub = 3 then h.strapValue
  else if idx = 0x3400 then h.entry (sub - 1)
  else if idx = 0x3402 then 0xFF00 + (sub - 1)
  else if 0x3000 ≤ idx ∧ idx < 0x3300 ∧ idx % 16 = 4 ∧ sub = 1 then steadyDefault (h.laneClass ((idx - 0x3000) / 16))
  else if 0x3000 ≤ idx ∧ idx < 0x3300 ∧ idx % 16 = 4 ∧ sub = 8 then budgetMax (h.laneClass ((idx - 0x3000) / 16))
  else if 0x5010 ≤ idx ∧ idx < 0x5050 ∧ sub = 2 then defaultCeiling (idx - 0x5010)
  else if 0x5050 ≤ idx ∧ idx < 0x5070 ∧ sub = 1 then defaultSeverity (idx - 0x5010)
  else if 0x3806 ≤ idx ∧ idx < 0x3810 ∧ sub = 3 then
    text 8 "USER" + (0x30 + (idx - 0x3800) / 10) * 2 ^ 32 + (0x30 + (idx - 0x3800) % 10) * 2 ^ 40
  else r.dflt

/-! ## Settings in force -/

/-- Lap tracker settings (Table 09-7). -/
def Hub.lapCfg (h : Hub) : LapCfg :=
  { vote := h.act 0x2040 1 0, polarity := h.act 0x2040 2 0, filterUs := h.act 0x2040 3 100, agreeUs := h.act 0x2040 4 100
    delayUs := h.act 0x2040 5 0, nominal := h.act 0x2041 1 5000, gain := h.act 0x2041 2 1, gate := h.act 0x2041 3 0x0800
    lock := h.act 0x2041 4 0x0100, dist := h.act 0x2041 5 0x0200, expected := decide (h.act 0x2041 6 0 = 1)
    holdMs := h.act 0x2041 7 2000, step := decide (h.act 0x2041 8 0 = 1) }

/-- Collector settings (Table 10-11, R289, R290), in force from dictionary ready (R281). -/
def Hub.collCfg (h : Hub) : CollectorCfg :=
  if !h.collector.handed then {}
  else
  { graceMs := h.act 0x5000 1 100, pulseUs := h.act 0x5000 2 1000, corrected := decide (h.act 0x5000 3 0 = 1)
    static := decide (h.act 0x5000 4 0 = 1), threshold := h.act 0x5000 5 2, level := decide (h.act 0x5000 6 0 = 1)
    severities := (List.range 32).map fun i => h.act (0x5050 + i) 1 (defaultSeverity (0x40 + i))
    ceilings := (List.range 64).map fun i => h.act (0x5010 + i) 2 (defaultCeiling i) }

/-- Servo constants (R323). -/
def Hub.servoCfg (h : Hub) : ServoCfg :=
  { kp := h.act 0x4002 1 512, ki := h.act 0x4002 2 51, lockNs := h.act 0x4002 3 100, stepNs := h.act 0x4002 4 1000000 }

/-- Time settings (Table 11-8). -/
def Hub.timeCfg (h : Hub) : TimeCfg :=
  { servo := h.servoCfg, hostMs := h.act 0x4000 8 4000, baton := decide (h.act 0x4003 1 0 = 1), holdLimit := h.act 0x4003 2 60
    inst := h.act 0x4004 1 1, secondOn := decide (h.act 0x4004 3 0xFF ≠ 0xFF), prio1 := h.act 0x4004 4 248, prio2 := h.act 0x4004 5 248
    syncCode := h.act 0x4004 6 2, syncCount := h.act 0x4004 7 3, announceS := h.act 0x4004 8 3
    static0 := h.act 0x4004 9 50, static1 := h.act 0x4004 0xA 50, mode0 := h.act 0x4004 0xB 0, mode1 := h.act 0x4004 0xC 0
    ppsMode := h.act 0x4005 1 0, ppsOffset := h.act 0x4005 2 0, ppsWidth := h.act 0x4005 3 100000, ppsWindow := h.act 0x4005 4 10000 }

/-- Loss mode in force: that of the team while the unit is a member (R334, R432). -/
def Hub.baton (h : Hub) : Bool := decide ((if h.val 0x6000 1 0 = 1 then h.act 0x6000 6 0 else h.act 0x4003 1 0) = 1)

/-- Settings of a port (Table 12-1). -/
def Hub.portCfg (h : Hub) (n : Nat) : PortCfg :=
  { enabled := decide (h.act (0x4401 + n) 1 1 = 1), nodeId := h.act (0x4401 + n) 2 h.strapValue, idCount := h.act (0x4401 + n) 3 1
    nodeCount := h.act (0x4401 + n) 4 8, timer := h.act (0x4401 + n) 5 32, burst := h.act (0x4401 + n) 6 0, errors := h.act (0x4401 + n) 7 10 }

/-- The own MAC address, as a number in network order (R6). -/
def ownMac : Nat := Config.factoryValue 0x4400 1 % 2 ^ 48

/-- Destination of team frames (R440). -/
def teamMac : Nat := 0x034B5A000010

/-- A MAC address or other octets of six bytes kept as a value, read in network order. -/
def netOrder (n v : Nat) : Nat := beNat (leBytes n v)

/-- Network settings (Table 12-10). -/
def Hub.netCfg (h : Hub) : NetCfg :=
  { port0 := h.portCfg 0, port1 := h.portCfg 1, bridge := decide (h.act 0x4400 2 1 = 1), ageing := h.act 0x4400 3 300, vid := h.act 0x4400 5 0
    highMap := h.act 0x4400 6 0xF0, pcp := h.act 0x4400 7 0, delivery := h.act 0x4400 8 0
    filter := (List.range 8).map fun i => netOrder 6 (h.act 0x4400 (9 + i) 0)
    ownMac := ownMac, runtimeGroups := if h.val 0x6000 1 0 = 1 then [teamMac] else [] }

/-- Transports enabled, the own IPv4 address, mask (network order) and UDP port (Table 13-11). -/
def Hub.rawOn (h : Hub) : Bool := (h.act 0x1040 1 1).testBit 0
def Hub.udpOn (h : Hub) : Bool := (h.act 0x1040 1 1).testBit 1
def Hub.ip (h : Hub) : Nat := netOrder 4 (h.act 0x1040 2 0)
def Hub.mask (h : Hub) : Nat := netOrder 4 (h.act 0x1040 3 0x00FFFFFF)
def Hub.udpPort (h : Hub) : Nat := h.act 0x1040 4 48672

/-- A key, none while its slot is blank (R401). -/
def Hub.key (h : Hub) (r : Role) : Option (List Byte) :=
  match r with
  | .observer => none
  | .operator => (h.run.accepted.get? (objKey 0x1042 2)).map (leBytes 32)
  | .service => (h.run.accepted.get? (objKey 0x1042 3)).map (leBytes 32)

/-- Minimum lead of Q3 launches in ns (Table 11-7) and of schedules and captures (Table 09-5), by tier. -/
def Hub.q3Lead (h : Hub) : Nat := if h.tier = 200 then 30000 else if h.tier = 120 then 50000 else 100000
def Hub.lapLead (h : Hub) : Nat := if h.tier = 200 then 200000 else if h.tier = 120 then 250000 else 400000

/-! ## A lane's settings as a store entry -/

/-- Percent and duration tables of the factory profiles (Table 05-3). -/
def factoryProfile (s : Nat) : List (Nat × Nat) :=
  match s with
  | 0 => [(800, 20), (600, 50), (400, 100), (250, 200), (150, 400)]
  | 1 => [(400, 200), (300, 1000), (200, 3000), (150, 5000)]
  | 2 => [(300, 2000), (250, 8000), (200, 20000), (150, 30000)]
  | 3 => [(200, 500), (150, 1000)]
  | 4 => [(200, 100), (150, 2000)]
  | 5 => [(150, 10)]
  | _ => []

def factoryName (s : Nat) : String :=
  match s with | 0 => "LAMP" | 1 => "MOTOR" | 2 => "HEATER" | 3 => "COIL" | 4 => "PRECHG" | _ => "LED"

/-- The slot a lane's selection names, if any (R145). -/
def selectedSlot (loadType selection : Nat) : Option Nat :=
  if selection = 0xFF then none
  else if selection = 0xFE then (if loadType = 0 then none else some (loadType - 1))
  else some selection

/-- Re-arm time of a lane in microseconds (R145, Table 05-1). -/
def rearmTime (loadType rearm : Nat) : Nat :=
  if rearm = 0xFFFFFFFF then
    (match loadType with | 1 => 200000 | 2 => 500000 | 3 => 5000000 | 4 => 20000 | 5 => 1000000 | _ => 0)
  else rearm

/-- Steps of a slot: whether they are in mA, and the pairs of limit and duration within its step count. -/
def Hub.profile (h : Hub) (s : Nat) : Bool × List (Nat × Nat) :=
  if s < 6 then (false, factoryProfile s)
  else (decide (h.act (0x3800 + s) 2 0 = 1),
        (List.range (h.act (0x3800 + s) 1 0)).map fun i => (h.act (0x3800 + s) (4 + i) 100, h.act (0x3800 + s) (0xC + i) 0))

/-- Steady limit of a channel of a lane, brought into the class range (R162, R193). -/
def Hub.steady (h : Hub) (n ch : Nat) : Nat :=
  max (steadyMin (classOf ch)) (min (steadyMax (classOf ch)) (h.lane n 4 1 (steadyDefault (h.laneClass n))))

/-- One resolved step limit in mA and whether it was capped (R144). -/
def resolveStep (cl : ChClass) (milliamps : Bool) (steady limit : Nat) : Nat × Bool :=
  let v := if milliamps then limit else roundDiv (limit * steady) 100
  (min v (steadyMax cl), decide (steadyMax cl < v))

/-- The slot a lane selects. -/
def Hub.slotOf (h : Hub) (n : Nat) : Option Nat := selectedSlot (h.lane n 3 1 0) (h.lane n 3 2 0xFE)

/-- Resolved step table of a channel, with whether a step was capped (R144). -/
def Hub.resolve (h : Hub) (n ch : Nat) : List (Nat × Nat) × Bool :=
  match h.slotOf n with
  | none => ([], false)
  | some s =>
    let (ma, steps) := h.profile s
    let out := steps.map fun x => (resolveStep (classOf ch) ma (h.steady n ch) x.1, x.2)
    (out.map fun x => (x.1.1, x.2), out.any fun x => x.1.2)

def Hub.patternCfg (h : Hub) (n : Nat) : PatternCfg := { failSafe := driveOf (h.lane n 6 1 0), glide := driveOf (h.lane n 6 2 0) }

def Hub.ioCfg (h : Hub) (n : Nat) : IoCfg :=
  let sel := h.lane n 1 1 0xFF
  { route := if sel = 0xFF then none else some sel, inverted := decide (h.lane n 1 2 0 = 1), filter := h.lane n 1 3 1
    slew := h.lane n 2 1 1, led := decide (h.lane n 2 2 0 = 1) }

def Hub.loadCfg (h : Hub) (n ch : Nat) : LoadCfg :=
  let t := h.lane n 3 1 0
  { loadType := t, selection := h.lane n 3 2 0xFE, steps := (h.resolve n ch).1, rearm := rearmTime t (h.lane n 3 3 0xFFFFFFFF)
    rampRate := h.lane n 3 4 1000, rampTarget := h.lane n 3 5 1000, rampHold := h.lane n 3 6 500000 }

def Hub.protCfg (h : Hub) (n ch : Nat) : ProtCfg :=
  let object := h.lane n 4 1 (steadyDefault (h.laneClass n))
  { steady := h.steady n ch, adjusted := decide (h.steady n ch ≠ object), retries := h.lane n 4 2 3, backoffBase := h.lane n 4 3 50000
    doubling := decide (h.lane n 4 4 1 = 1), retrySprint := (h.lane n 4 5 1).testBit 0, healthy := h.lane n 4 6 1000, lockAt := h.lane n 4 7 3
    budget := min (budgetMax (classOf ch)) (h.lane n 4 8 (budgetMax (h.laneClass n))), openStd := h.lane n 4 9 0, openLed := h.lane n 4 0xA 0
    openFilter := h.lane n 4 0xB 10, offCheck := decide (h.lane n 4 0xC 0 = 1), wireI := h.lane n 4 0xD 0, wireTau := h.lane n 4 0xE 60000
    wireRise := h.lane n 4 0xF 400, share := max 1 (h.chansOf n).length }

def Hub.warnLevel (h : Hub) (n : Nat) : Int := toSigned 16 (h.lane n 5 1 1500)
def Hub.senseSync (h : Hub) (n : Nat) : Bool := decide (h.lane n 7 6 0 = 1)
def Hub.retiredChan (h : Hub) (ch : Nat) : Bool := decide (h.val 0x7004 (ch + 1) 0 = 1)

/-- The store entry a channel ought to hold: the settings of the lane that owns it, or OFF patterns and no route (R124). Lock flags
and the retired flag are those given. -/
def Hub.chanCfg (h : Hub) (ch : Nat) (old : ChanCfg) : ChanCfg :=
  match h.owner ch with
  | some n =>
    { old with pattern := h.patternCfg n, io := h.ioCfg n, load := h.loadCfg n ch, prot := h.protCfg n ch, warnLevel := h.warnLevel n
               senseSync := h.senseSync n, retired := h.retiredChan ch }
  | none => { old with pattern := {}, io := { old.io with route := none }, retired := h.retiredChan ch }

/-- The cycle origin for which a command to several banks is tagged (R128): the one after the cycle in which all their frames start. -/
def State.tagFor (s : State) (banks : List Nat) : Nat :=
  let c := s.cycle
  let sent := banks.any fun b => (s.hub.link b).sentIn == some c
  (if sent then c + 2 else c + 1) * cycleTime

end Sys2Proof.Machine
end

