-- ==== Sys2Proof/Machine/Flags.lean ====
section
/-! DEFINITION. Status words: lane status (Table 04-6), channel status (Table 04-7), sprint state (Table 05-8), protection status
(Table 06-8), thermal status (Table 07-5), pattern status and bank pattern state (Tables 08-4, 08-5), port status (Table 12-10), ERRN and
CHGPERM status. What a bank holds is taken from the last uplink frame the hub accepted. -/

namespace Sys2Proof.Machine

/-- A number whose bit i is the i-th flag. -/
def bits : List Bool → Nat
  | [] => 0
  | b :: bs => (if b then 1 else 0) + 2 * bits bs

/-- What the hub last heard of the channels of a lane, with the bank core and the position of each. A channel whose bank is absent has none: where an
object takes its value from the first mapped channel (Table 05-8), it is the first of which there is one, and 0 with none (DESIGN CHOICE, log 86). -/
def Hub.seen (h : Hub) (n : Nat) : List (BankCore × Nat × Chan) :=
  (h.chansOf n).filterMap fun ch => (h.view (ch / 12)).map fun c => (c, ch % 12, c.chan (ch % 12))

/-- Does a channel report that it is on? One whose bank is absent is off. -/
def Hub.chanOn (h : Hub) (ch : Nat) : Bool := match h.viewChan ch with | some x => x.io.on | none => false

/-- A flag set if it is set for any mapped channel. -/
def Hub.anySeen (h : Hub) (n : Nat) (f : BankCore → Nat → Chan → Bool) : Bool := (h.seen n).any fun x => f x.1 x.2.1 x.2.2

/-- The larger of the mapped channels' values. -/
def Hub.maxSeen (h : Hub) (n : Nat) (f : Chan → Nat) : Nat := ((h.seen n).map fun x => f x.2.2).foldl max 0

/-- The sum of the mapped channels' values. -/
def Hub.sumSeen (h : Hub) (n : Nat) (f : Chan → Nat) : Nat := ((h.seen n).map fun x => f x.2.2).sum

/-- One channel of a pair cannot carry the load while the other can (R126). -/
def Hub.cannot (h : Hub) (ch : Nat) : Bool :=
  match h.view (ch / 12) with
  | none => true
  | some c => let x := c.chan (ch % 12); c.heldOff x || x.cfg.retired || c.isolated

/-- A lane is degraded (R126). -/
def Hub.degraded (h : Hub) (n : Nat) : Bool :=
  match h.chansOf n with
  | [a, b] => decide (h.command n ≠ .off) && (h.cannot a != h.cannot b)
  | _ => false

/-- Does a link still carry a command of a lane? -/
def Hub.commandPending (h : Hub) (n : Nat) : Bool :=
  h.links.any fun l => l.queue.any fun r =>
    r.cmd.lane == n && (match r.cmd.cmd with | .setNormal _ _ => !r.cmd.resolved | _ => false)

/-- The LED sense range is in effect on a lane, as its channels show; with no bank to show it, the accepted setting (R107, DESIGN CHOICE, log 86). -/
def Hub.ledInEffect (h : Hub) (n : Nat) : Bool :=
  if (h.seen n).isEmpty then decide (h.lane n 2 2 0 = 1) else h.anySeen n fun _ _ x => x.cfg.io.led

/-- Is a report of a channel at sense full scale (R105, R107)? -/
def Chan.atFullScale (ch : Chan) (p : Nat) : Bool :=
  ch.sense.fullScale || decide (fullScale (classAt p) ch.cfg.io.led ≤ ch.sense.current)

/-- Lane status word, B.02. Its source field is that of the channels whose banks are present, 0 with none: Table 04-6 gives 0 for a vacant lane only
(DESIGN CHOICE, log 86). -/
def Hub.laneStatus (h : Hub) (n : Nat) : Nat :=
  let chans := h.chansOf n
  let seen := h.seen n
  let src := (seen.map fun x => x.1.sourceOf x.2.2).foldl (fun m v => if m = 0 then v else min m v) 0
  src + 8 * bits
    [ !chans.isEmpty && chans.all h.chanOn,
      chans.any h.chanOn && !chans.all h.chanOn,
      h.degraded n,
      !chans.isEmpty && seen.isEmpty,
      h.anySeen n fun _ _ x => x.sense.starved,
      h.anySeen n fun _ p x => x.atFullScale p,
      h.ledInEffect n,
      h.commandPending n ]

/-- A channel's report in mA, and in microamperes in the LED range (R105, R107). -/
def Chan.reportUa (ch : Chan) (p : Nat) : Nat := min (fullScale (classAt p) ch.cfg.io.led) (if ch.sense.fullScale then fullScale (classAt p) ch.cfg.io.led else ch.sense.current)
def Chan.reportMa (ch : Chan) (p : Nat) : Nat := roundDiv (ch.reportUa p) 1000

/-- Measured current of a lane in mA (B.03) and in microamperes (B.04). -/
def Hub.laneUa (h : Hub) (n : Nat) : Nat := ((h.seen n).map fun x => x.2.2.reportUa x.2.1).sum
def Hub.laneCurrent (h : Hub) (n : Nat) : Nat :=
  if h.ledInEffect n then roundDiv (h.laneUa n) 1000 else ((h.seen n).map fun x => x.2.2.reportMa x.2.1).sum
def Hub.laneLed (h : Hub) (n : Nat) : Nat := if h.ledInEffect n then h.laneUa n else 0xFFFFFFFF

/-- A bank is isolated, retired or in a service operation (R488). -/
def Hub.outOfService (h : Hub) (b : Nat) : Bool := decide (h.run.service.getD b .inService ≠ .inService)

/-- Channel status, 0x3410 + k .05. -/
def Hub.chanStatus (h : Hub) (ch : Nat) : Nat :=
  match h.view (ch / 12) with
  | none => 2 + 64 * bits [h.retiredChan ch || h.outOfService (ch / 12)]
  | some c =>
    let x := c.chan (ch % 12)
    bits [x.io.on, false, x.sense.starved, x.cfg.io.led, c.heldOff x || x.limited, x.locked,
          x.cfg.retired || c.isolated || h.outOfService (ch / 12)]

/-- Sprint state, (B + 3).07: window, stall and hold of the first mapped channel; the others of any. -/
def Hub.sprintState (h : Hub) (n : Nat) : Nat :=
  match h.seen n with
  | [] => 0
  | (_, _, x) :: _ =>
    (if x.window.step = 0 then 0 else if x.window.suspended then 0xF else x.window.step % 16)
    + 16 * bits
      [ h.anySeen n fun _ _ y => y.window.frozen,
        x.ramp.regulating,
        h.anySeen n fun _ _ y => y.ramp.stalled,
        x.ramp.holdTimer.isSome,
        (h.chansOf n).any fun ch => (h.resolve n ch).2,
        h.anySeen n fun _ _ y => y.ramp.aboveRef,
        h.anySeen n fun _ _ y => y.ramp.expired ]

/-- Protection status, (B + 4).10. -/
def Hub.protStatus (h : Hub) (n : Nat) : Nat :=
  bits
    [ h.anySeen n fun _ _ x => x.trip.overload,
      h.anySeen n fun _ _ x => x.trip.shortCct,
      h.anySeen n fun _ _ x => x.trip.backoff.isSome,
      h.anySeen n fun _ _ x => x.trip.latchedAt.isSome,
      h.anySeen n fun _ _ x => x.locked,
      h.anySeen n fun _ _ x => x.cfg.lockClamp,
      h.anySeen n fun _ _ x => x.cfg.lockLatch,
      h.anySeen n fun _ _ x => x.sense.openOn,
      h.anySeen n fun _ _ x => x.sense.openOff,
      h.anySeen n fun _ _ x => x.clampWarns,
      h.anySeen n fun _ _ x => x.wireWarns,
      h.anySeen n fun _ _ x => x.trip.wireHold,
      h.anySeen n fun _ _ x => x.sense.stale,
      h.anySeen n fun c p x => x.cfg.prot.adjusted || c.derated p ]

/-- Thermal status, (B + 5).03. -/
def Hub.thermalStatus (h : Hub) (n : Nat) : Nat :=
  bits
    [ h.anySeen n fun _ _ x => x.thermal.warned,
      h.anySeen n fun _ _ x => x.thermal.shutdown,
      h.anySeen n fun _ _ x => x.thermal.latchedAt.isSome,
      h.anySeen n fun _ _ x => x.thermal.shedBy != 0,
      h.anySeen n fun c p _ => (c.sensor p).broken.isSome,
      h.anySeen n fun c p _ => c.derated p,
      h.anySeen n fun c _ _ => decide (c.thermal = .tripped) ]

/-- Lane temperature, (B + 5).04: the highest reading or substitute of the mapped channels, 0x8000 while a bank of them has no bank temperature. -/
def Hub.laneTemp (h : Hub) (n : Nat) : Nat :=
  if h.anySeen n fun c _ _ => c.temperature.isNone then 0x8000
  else match highest ((h.seen n).filterMap fun x => x.1.channelTemp x.2.1) with
  | some t => ofSigned 16 t
  | none => 0x8000

/-- Pattern status, (B + 6).04. -/
def Hub.patternStatus (h : Hub) (n : Nat) : Nat :=
  bits [h.anySeen n fun _ _ x => x.io.c, h.anySeen n fun _ _ x => x.io.w, h.anySeen n fun _ _ x => x.io.x,
        h.anySeen n fun c _ _ => c.glideOn]

/-- One bank's byte of 0x2031.05. -/
def Hub.bankPattern (h : Hub) (b : Nat) : Nat :=
  match h.view b with
  | none => 0x80
  | some c =>
    bits [c.chans.all fun x => x.io.c, c.chans.any Chan.inFailSafe,
          decide (c.limpOwn = .asserted) || decide (c.limpShared = .asserted), c.escGlide, c.holdExpired, c.restartHold, c.storeFailed]

/-- Code of a last fail-safe cause. -/
def causeCode : FailSafeCause → Nat
  | .none => 0
  | .bankStart => 1
  | .holdExpiry => 2
  | .restartHoldExpiry => 3
  | .storeCheck => 4
  | .command => 5
  | .watchdog => 6
  | .escalation => 7
  | .glideExit => 8

/-- Code of a thermal state (Table 07-2). -/
def thermalCode : ThermalState → Nat
  | .normal => 0
  | .warning => 1
  | .shedding => 2
  | .tripped => 3

/-- A sensor's reading as its object shows it. -/
def Hub.sensorValue (h : Hub) (b s : Nat) : Nat :=
  match h.view b with
  | none => 0x8000
  | some c => if (c.sensor s).circuit then 0x8000 else ofSigned 16 (c.sensor s).reading

/-- MRAM window state of a hub temperature (R215, 0x2020.02): open, closed hot, closed cold. -/
def windowOf (temp : Int) : Nat := if 1300 < temp then 1 else if temp < -400 then 2 else 0

/-- The runtime serves requests. -/
def Hub.serving (h : Hub) : Bool := decide (h.phase = .running) && h.run.ready

/-- The runtime takes new requests: it serves, and no planned stop is under way (R413, Table 17-11). -/
def Hub.taking (h : Hub) : Bool := h.serving && h.run.stop.isNone

/-- ERRN is driven low: the start-up hold from hub reset to dictionary ready (R57, R90), then the collector (R293). -/
def State.errnLow (s : State) : Bool :=
  s.pwr.vio && (!s.hub.collector.handed || s.hub.collector.errnLow s.hub.collCfg s.now)

/-- IRQN is driven low (R35): released during hub reset and standby (R57, R95), undriven without VIO. -/
def State.irqnLow (s : State) : Bool :=
  s.pwr.vio && decide (s.hub.phase = .running ∨ s.hub.phase = .claiming ∨ s.hub.phase = .restarting)
    && decide (s.hub.pending.toNat &&& s.hub.act 0x1030 2 0xFFFF ≠ 0)

/-- ERRN status, 0x5000.07. -/
def State.errnStatus (s : State) : Nat :=
  let c := s.hub.collector
  let g := s.hub.collCfg
  bits [s.errnLow, (match c.pulseTo with | some t => decide (s.now < t) | none => false), g.level, c.staticLow g, c.fatal, !c.handed]

/-- A temperature lies in a window narrowed by `m` at each end. -/
def inWindow (lo hi t m : Int) : Bool := decide (lo + m ≤ t) && decide (t ≤ hi - m)

/-- The conditions of CHGPERM (R219), with the windows narrowed by `m` for a return (R220). -/
def State.permParts (s : State) (m : Int) : List Bool :=
  let h := s.hub
  let w (sub d : Nat) : Int := toSigned 16 (h.act 0x2025 sub d)
  [ decide (h.act 0x2025 5 0 = 1),
    inWindow (w 1 65136) (w 2 1250) h.temp m,
    (h.views.filterMap id).all fun c =>
      (match c.temperature with | some t => inWindow (w 3 65136) (w 4 1550) t m | none => false)
        && decide (c.thermal ≠ .shedding) && decide (c.thermal ≠ .tripped),
    !h.collector.fatal,
    s.pwr.vio && s.pwr.vcore && h.collector.handed && decide (h.phase = .running ∨ h.phase = .claiming ∨ h.phase = .restarting)
      && (match h.run.stop with | some x => decide (x.kind ≠ .standby) | none => true) ]

def State.permAll (s : State) (m : Int) : Bool := (s.permParts m).all id

/-- CHGPERM status, 0x2025.06. -/
def State.permStatus (s : State) : Nat :=
  bits ([s.hub.chgperm] ++ s.permParts (if s.hub.chgperm then 0 else 50) ++ [!s.hub.chgperm && s.permAll 50])

/-- Port status (Table 12-10). -/
def State.portStatus (s : State) (n : Nat) : Nat :=
  let p := s.hub.net.port n
  let c := s.hub.portCfg n
  bits [p.running, p.linkDown, p.running && c.plca && !p.beaconLost, c.coordinator, p.beaconLost, !s.pwr.vphy, p.inReset]

/-- Code of a tracker state (Table 09-1). -/
def lapCode : LapMode → Nat
  | .off => 0
  | .acquiring => 1
  | .relocking => 2
  | .locked => 3
  | .coasting => 4

/-- Code of a capture status. -/
def captureCode : CaptureMode → Nat
  | .idle => 0
  | .armed => 1
  | .running => 2
  | .complete => 3
  | .truncated => 4
  | .aborted => 5

/-- Code of a team state (Table 16-7). -/
def teamCode : TeamMode → Nat
  | .none => 0
  | .forming => 1
  | .joining => 2
  | .member => 3
  | .pacer => 4
  | .outOfAgreement => 5
  | .refused => 6
  | .lost => 7
  | .away => 8

def teamOf : Nat → TeamMode
  | 1 => .forming
  | 2 => .joining
  | 3 => .member
  | 4 => .pacer
  | 5 => .outOfAgreement
  | 6 => .refused
  | 7 => .lost
  | 8 => .away
  | _ => .none

/-- Code of a watchdog state (Table 08-2). -/
def dogCode : DogMode → Nat
  | .disarmed => 0
  | .awaiting => 1
  | .armed => 2
  | .forced => 3

/-- Code of a bank service state (Table 15-9). -/
def serviceCode : ServiceMode → Nat
  | .inService => 0
  | .isolating => 1
  | .isolated => 2
  | .resetting => 3
  | .retrimming => 4
  | .retired => 5

def roleCode : Role → Nat
  | .observer => 0
  | .operator => 1
  | .service => 2

end Sys2Proof.Machine
end

