-- ==== Sys2Proof/Machine/Read.lean ====
section
/-! DEFINITION. What a read of a dictionary object returns (R40, R42, R416 to R436): existence, the values the device measures or
computes, and the configuration and team hashes (R422, R431). Values are numbers whose bytes are carried least significant first. -/

namespace Sys2Proof.Machine

/-! ## Existence -/

/-- Objects a version of the runtime does not have (R194, R243, R304). -/
def absentIn (version idx sub : Nat) : Bool :=
  decide (version ≤ 0x0301) &&
    ((decide (0x3000 ≤ idx) && decide (idx < 0x3300) && decide (idx % 16 = 4) && decide (0x1A ≤ sub) && decide (sub ≤ 0x20))
      || (decide (idx = 0x5004) && (decide (sub = 2) || decide (sub = 5))) || (decide (idx = 0x2032) && decide (sub = 2)))

/-- An index of a reserved source does not exist (R285). -/
def reservedIndex (idx : Nat) : Bool := decide (0x5010 ≤ idx) && decide (idx < 0x5070) && reservedSource (idx - 0x5010)

/-- Does the index exist? -/
def indexExists (idx : Nat) : Bool := (objRows.any fun r => r.hasIndex idx) && !reservedIndex idx

/-- The row of an object, none where it does not exist. -/
def rowOf (version idx sub : Nat) : Option ObjRow :=
  if reservedIndex idx || absentIn version idx sub then none else objRows.find? fun r => r.has idx sub

/-! ## Hashes -/

/-- Is an object counted in the configuration hash (Y and YB)? -/
def ObjRow.counted (r : ObjRow) : Bool := decide (r.per = .y ∨ r.per = .yb)

/-- Indices that hold counted objects, ascending. -/
def countedIndices : List Nat :=
  [0x2024, 0x2025, 0x2030, 0x2032, 0x2040, 0x2041]
  ++ (List.range 48).flatMap (fun n => (List.range 8).map fun g => laneIdx n g)
  ++ [0x3402] ++ (List.range 10).map (fun s => 0x3806 + s)
  ++ [0x4000, 0x4002, 0x4003, 0x4004, 0x5000] ++ (List.range 96).map (fun s => 0x5010 + s)
  ++ [0x6000, 0x6003, 0x6004, 0x6005, 0x7000, 0x7001]

/-- A ceiling counts only where it can be written: it is fixed for corrected and fatal sources (Table 15-5). -/
def ceilingFixed (idx sub : Nat) : Bool :=
  decide (0x5010 ≤ idx) && decide (idx < 0x5050) && decide (sub = 2) && decide (sourceClass (idx - 0x5010) ≠ 1)

/-- The counted objects as (index, subindex, size, row), ascending. -/
def countedObjects (version : Nat) : List (Nat × Nat × ObjRow) :=
  countedIndices.flatMap fun idx =>
    let rows := objRows.filter fun r => r.counted && r.hasIndex idx
    if reservedIndex idx then [] else (List.range 0x31).filterMap fun sub =>
      if absentIn version idx sub || ceilingFixed idx sub then none
      else (rows.find? fun r => r.has idx sub).map fun r => (idx, sub, r)

/-- What one object contributes to a hash (R422). -/
def Hub.hashEntry (h : Hub) (x : Nat × Nat × ObjRow) : List Byte :=
  leBytes 2 x.1 ++ leBytes 1 x.2.1 ++ leBytes x.2.2.size (h.val x.1 x.2.1 (h.default x.2.2 x.1 x.2.1))

/-- Configuration hash, 0x1010.01, and the number of objects counted. -/
def State.configHash (s : State) : Nat := crc32c ((countedObjects s.rtVersion).flatMap s.hub.hashEntry)
def State.configCount (s : State) : Nat := (countedObjects s.rtVersion).length

/-- Team configuration objects (R430) in ascending order. -/
def teamObjects : List (Nat × Nat) :=
  [(0x6000, 2), (0x6000, 4), (0x6000, 6), (0x6000, 7), (0x6000, 8), (0x6000, 9), (0x6003, 1), (0x6003, 2), (0x6003, 3), (0x6003, 4)]

/-- Team hash, 0x6001.05 (R431). -/
def Hub.teamHash (h : Hub) : Nat :=
  crc32c (teamObjects.flatMap fun x =>
    match rowOf 0x0302 x.1 x.2 with
    | some r => h.hashEntry (x.1, x.2, r)
    | none => [])

/-! ## Computed values -/

/-- Domain P time as OCTETS(12) (R351). -/
def timeOctets (ps : Nat) : Nat := ps / pSecond + ps % pSecond / pUnit * 2 ^ 64

/-- Sequence and state of what the hub knows of the patch slots. -/
def State.slotIdentity (s : State) (i : Nat) : Nat :=
  if s.hub.run.slotState.getD i 0 = 0 then 0 else leNat (s.readSlot i 8 4)

/-- The active slot, if any (0x7002.01), and the idle one (R433). -/
def Hub.activeSlot (h : Hub) : Option Nat := (List.range 2).find? fun i => h.run.slotState.getD i 0 == 4
def Hub.idleSlot (h : Hub) : Nat := match h.activeSlot with | some 0 => 1 | _ => 0

/-- The bytes of a journal record (Table 17-5). -/
def JournalRec.bytes (r : JournalRec) : List Byte :=
  let body := leBytes 4 r.number ++ leBytes 4 r.entry.seconds ++ leBytes 4 r.entry.nanos ++ [BitVec.ofNat 8 r.entry.cls, BitVec.ofNat 8 r.entry.code]
    ++ leBytes 2 r.entry.payload.length ++ padTo 40 r.entry.payload
  body ++ leBytes 4 (crc32c body) ++ leBytes 4 0x5A3CC3A7

/-- Oldest and newest record numbers (R436). -/
def Mram.oldest (m : Mram) : Nat := (m.next + 2 ^ 32 - m.records.length) % 2 ^ 32
def Mram.newest (m : Mram) : Nat := (m.next + 2 ^ 32 - 1) % 2 ^ 32

/-- Milliseconds since a moment. -/
def msSince (t now : Nat) : Nat := (now - t) / 1000000

/-- Endpoint octets of a session (Table 13-12), as a value. -/
def Session.endpointValue (x : Session) : Nat :=
  if x.mode = .free then 0
  else match x.endpoint with
    | .spi => 0
    | .raw mac => leNat (beBytes 6 mac)
    | .udp ip port => leNat (beBytes 4 ip ++ beBytes 2 port)

/-- Identity objects (Table 14-2). -/
def State.identity (s : State) (idx sub : Nat) : Option Nat :=
  match idx with
  | 0x1008 => some (if Config.gradeG1 then text 12 "KZ4810-G1" else text 12 "KZ4810-G0")
  | 0x1009 => some (text 2 "B1")
  | 0x100A => some s.rtVersion
  | 0x100B => some (if Config.gradeG1 then 1 else 0)
  | 0x100C => some (leNat (padTo 16 ((Config.factoryBytes 0x100C 0).take 16)))
  | 0x100D => some (leNat (padTo 8 ((Config.factoryBytes 0x100D 0).take 8)))
  | 0x100E => some (Config.romCrc % 2 ^ 32)
  | 0x100F => some (s.hub.revisions.getD (sub - 1) 0)
  | 0x1010 => some (if sub = 1 then s.configHash else s.configCount)
  | 0x1030 => if sub = 1 then some s.hub.pending.toNat else none
  | _ => none

/-- Sessions and transports (Tables 13-11, 13-12); `k` is the session that reads. -/
def State.sessionValue (s : State) (k idx sub : Nat) : Option Nat :=
  let r := s.hub.run
  if 0x1100 ≤ idx ∧ idx < 0x1110 then
    let x := r.sessions.getD (idx - 0x1100) {}
    match sub with
    | 1 => some (match x.mode with | .free => 0 | .waiting => 1 | .opened => 2)
    | 2 => some (if x.mode = .free then 0xFF else roleCode x.role)
    | 3 => some (if x.mode = .free then 0xFF else match x.endpoint with | .spi => 0 | .raw _ => 1 | .udp _ _ => 2)
    | 4 => some x.endpointValue
    | 5 => some (if x.mode = .free then 0 else msSince x.lastUsed s.now % 2 ^ 32)
    | 6 => some (if x.mode = .free then 0 else x.served.toNat)
    | _ => some 0
  else match idx, sub with
    | 0x1040, 5 => some r.badNet.toNat
    | 0x1041, 2 => some (k % 256)
    | 0x1041, 3 => some (r.sessions.filter fun x => decide (x.mode ≠ .free)).length
    | 0x1041, 4 => some r.reclaimed.toNat
    | 0x1041, 5 => some r.badTags.toNat
    | 0x1041, 6 => some s.hub.net.spiBad.toNat
    | 0x1041, 7 => some r.badQ0.toNat
    | 0x1042, 1 => some (bits [(s.hub.key .operator).isSome, (s.hub.key .service).isSome])
    | 0x1042, 4 => some (match s.hub.key .operator with | some key => leNat ((hmac key (ascii "KZCHECK")).take 4) | none => 0)
    | 0x1042, 5 => some (match s.hub.key .service with | some key => leNat ((hmac key (ascii "KZCHECK")).take 4) | none => 0)
    | _, _ => none

/-- Clock, lands, start-up and supplies (Table 14-6). -/
def State.deviceValue (s : State) (idx sub : Nat) : Option Nat :=
  let h := s.hub
  let perBank (f : BankCore → Bool) : List Bool := h.views.map fun v => match v with | some c => f c | none => false
  match idx, sub with
  | 0x2010, 1 => some h.tier
  | 0x2010, 2 => some h.synth
  | 0x2010, 3 => some h.calibrations.toNat
  | 0x2010, 4 => some h.tierChanges.toNat
  | 0x2011, 1 => some h.strapValue
  | 0x2011, 2 => some h.strapStatus
  | 0x2012, 1 => some (bits (perBank (fun c => decide (c.limpOwn = .asserted)) ++ perBank fun c => decide (c.limpShared = .asserted)))
  | 0x2012, 2 => some (bits (perBank (fun c => decide (c.limpOwn = .outOfWindow)) ++ perBank fun c => decide (c.limpShared = .outOfWindow)))
  | 0x2013, 1 => some (if s.pwr.vio then s.lands.inputs.toNat else 0)
  | 0x2013, 2 => some (if s.pwr.vio then bits [s.lands.wake, s.lands.test, s.lands.zxa, s.lands.zxb, s.lands.pps && decide (h.act 0x4005 1 0 ≠ 1)] else 0)
  | 0x2014, 1 => some h.startReport
  | 0x2014, 2 => some h.startCause
  | 0x2014, 3 => some 0
  | 0x2014, 5 => some h.duration
  | 0x2015, 1 => some h.copySel
  | 0x2015, 2 => some h.statusA
  | 0x2015, 3 => some h.statusB
  | 0x2015, 4 => some h.copySeq
  | 0x2016, 1 => some (bits ([s.pwr.vio, s.pwr.vphy, false, false] ++ s.banks.map fun x => x.core.running))
  | 0x2016, 2 => some s.pwr.vcoreMv
  | 0x2016, 3 => some s.pwr.vioMv
  | 0x2016, 4 => some s.pwr.vphyMv
  | 0x2016, 9 => some (bits (perBank fun c => c.overvoltage))
  | 0x2016, b => some (match h.view (b - 5) with | some c => c.supply | none => 0)
  | _, _ => none

/-- Thermal, pattern and watchdog objects (Tables 14-7, 14-8). -/
def State.thermalValue (s : State) (idx sub : Nat) : Option Nat :=
  let h := s.hub
  match idx, sub with
  | 0x2020, 1 => some (ofSigned 16 h.temp)
  | 0x2020, 2 => some h.windowCode
  | 0x2020, 3 => some h.run.shadow.length
  | 0x2020, 4 => some h.run.lost.toNat
  | 0x2020, 5 => some (bits [h.shadowFlag, h.run.store.deferred])
  | 0x2021, n => some (h.sensorValue ((n - 1) / 12) ((n - 1) % 12))
  | 0x2022, n => some (h.sensorValue ((n - 1) / 2) (12 + (n - 1) % 2))
  | 0x2023, 5 => some 0xFF
  | 0x2023, n => some (match h.view (n - 1) with | some c => bits (c.sensors.map fun x => x.broken.isSome) | none => 0)
  | 0x2024, 3 => some ((List.range 4).map fun b => (match h.view b with | some c => thermalCode c.thermal | none => 0xF) * 16 ^ b).sum
  | 0x2025, 6 => some s.permStatus
  | 0x2031, 5 => some ((List.range 4).map fun b => h.bankPattern b * 256 ^ b).sum
  | 0x2031, n => if 6 ≤ n then some (match h.view (n - 6) with | some c => causeCode c.lastCause | none => 0) else none
  | 0x2032, 6 => some (dogCode h.run.dog.mode)
  | 0x2032, 7 => some h.run.dog.misses
  | 0x2032, 8 => some h.dogMisses.toNat
  | 0x2032, 9 => some h.run.dog.owner
  | 0x2032, 0xA => some h.run.dog.lastKind
  | _, _ => none

/-- Lap tracker and capture objects (Table 14-9). -/
def State.lapValue (s : State) (idx sub : Nat) : Option Nat :=
  let l := s.hub.lap
  let c := s.hub.capture
  match idx, sub with
  | 0x2040, 6 => some (bits [l.zxa.failed, l.zxb.failed, l.zxa.used, l.zxb.used, l.zxa.fallLast, l.zxb.fallLast])
  | 0x2040, 7 => some l.rejected.toNat
  | 0x2040, 8 => some l.disagreed.toNat
  | 0x2041, 9 => some (lapCode l.mode)
  | 0x2041, 0xA => some (if l.mode = .locked then (roundRat (100000000000 / l.period)).toNat else 0)
  | 0x2041, 0xB => some (ofSigned 16 l.error)
  | 0x2041, 0xC => some l.entries.toNat
  | 0x2041, 0xD => some l.source
  | 0x2041, 0xE => some l.disturbedLaps.toNat
  | 0x2042, 1 => some (l.position s.now)
  | 0x2042, 2 => some (roundRat l.length).toNat
  | 0x2042, 4 => some l.snapPos
  | 0x2042, 5 => some l.snapSec
  | 0x2042, 6 => some l.snapNs
  | 0x2042, 7 => some l.snapS
  | 0x2044, 6 => some (captureCode c.mode)
  | 0x2044, 7 => some c.startPos
  | 0x2044, 8 => some c.written
  | 0x2044, 9 => some c.number
  | 0x2045, 1 => some c.writeIdx
  | 0x2045, 2 => some c.readIdx
  | 0x2045, 3 => some c.count
  | _, _ => none

/-- Lane objects that the device reports (Table 15-2): group g of lane n. They are refreshed from uplink frames (R159, R195), so that values in time
are those of the frame's start. Of a pair, the window count 0x09 and the reference 0x0A are those of the first mapped channel, and 0x0A reads 0 while
no ramp regulates (DESIGN CHOICE, log 86). -/
def State.laneValue (s : State) (n g sub : Nat) : Option Nat :=
  let h := s.hub
  match g, sub with
  | 0, 2 => some (h.laneStatus n)
  | 0, 3 => some (h.laneCurrent n)
  | 0, 4 => some (h.laneLed n)
  | 0, 5 => some (h.entry n)
  | 3, 7 => some (h.sprintState n)
  | 3, 8 => some (match h.seen n with | (c, _, x) :: _ => x.window.freezeTotal.value c.sentAt / 1000 | [] => 0)
  | 3, 9 => some (match h.seen n with | (_, _, x) :: _ => x.window.started.toNat | [] => 0)
  | 3, 0xA => some (match h.seen n with
      | (c, _, x) :: _ => if x.ramp.regulating ∧ c.supply ≠ 0 then x.ramp.referenceAt x.cfg.load.rampRate c.supply c.sentAt / (c.supply * 1000) else 0
      | [] => 0)
  | 4, 0x10 => some (h.protStatus n)
  | 4, 0x11 => some (h.maxSeen n fun x => x.trip.retryCount)
  | 4, 0x12 => some (h.maxSeen n fun x => x.trip.latchCount)
  | 4, 0x13 => some (h.maxSeen n fun x => x.clamp.energy / 1000)
  | 4, 0x14 => some (h.maxSeen n fun x => x.reportRise)
  | 4, 0x15 => some (((h.seen n).map fun x => x.2.2.offsetAge x.1.sentAt / 1000000).foldl max 0)
  | 4, 0x16 => some (h.sumSeen n (fun x => x.clamp.total / 1000) % 2 ^ 32)
  | 4, 0x17 => some (h.sumSeen n (fun x => x.clamp.events.toNat) % 2 ^ 32)
  | 4, 0x18 => some (h.sumSeen n (fun x => x.trip.trips.toNat) % 2 ^ 32)
  | 4, 0x19 => some 0
  | 4, 0x1B => some (h.run.snapCycle.getD n 0)
  | 4, k => if 0x1C ≤ k then some ((h.run.snaps.getD n []).getD (k - 0x1C) 0) else none
  | 5, 3 => some (h.thermalStatus n)
  | 5, 4 => some (h.laneTemp n)
  | 5, 5 => some (h.sumSeen n (fun x => x.thermal.shutdowns.toNat) % 2 ^ 32)
  | 6, 4 => some (h.patternStatus n)
  | 7, 5 => some (let x := h.run.schedules.getD n {}; x.status + 8 * bits [x.late, x.unlocked])
  | 7, 7 => some (h.run.sync.getD n {}).current
  | 7, 8 => some (let x := h.run.sync.getD n {}; bits [x.valid, x.disturbed, x.stepped])
  | _, _ => none

/-- Map, channel and profile objects that are not plain values (Tables 15-3, 15-4). -/
def State.mapValue (s : State) (idx sub : Nat) : Option Nat :=
  let h := s.hub
  if 0x3410 ≤ idx ∧ idx < 0x3440 then
    let ch := idx - 0x3410
    match sub with
    | 1 => some (match classOf ch with | .h => 0 | .m => 1 | .l => 2)
    | 2 => some ((h.owner ch).getD 0xFF)
    | 3 => some (match h.viewChan ch with | some x => x.reportMa (ch % 12) | none => 0)
    | 4 => some (match h.viewChan ch with | some x => if x.cfg.io.led then x.reportUa (ch % 12) else 0xFFFFFFFF | none => 0xFFFFFFFF)
    | _ => some (h.chanStatus ch)
  else if 0x3800 ≤ idx ∧ idx < 0x3810 then
    let slot := idx - 0x3800
    if sub = 0x14 then some ((List.range 48).filter fun n => h.slotOf n == some slot).length
    else if slot < 6 then
      match sub with
      | 1 => some (factoryProfile slot).length
      | 2 => some 0
      | 3 => some (text 8 (factoryName slot))
      | _ => some (if sub < 0xC then ((factoryProfile slot).getD (sub - 4) (100, 0)).1 else ((factoryProfile slot).getD (sub - 0xC) (100, 0)).2)
    else none
  else match idx, sub with
    | 0x3401, 1 => some 0
    | 0x3401, 2 => some h.run.commitResult
    | 0x3401, 3 => some h.run.commitLane
    | _, _ => none

/-- Time objects (Table 14-10). -/
def State.timeValue (s : State) (idx sub : Nat) : Option Nat :=
  let h := s.hub
  let t := h.time
  let c := h.timeCfg
  match idx, sub with
  | 0x4000, 1 => some (timeOctets t.p)
  | 0x4000, 4 => some t.increment
  | 0x4000, 5 => some (if t.hostOwned then 1 else 0)
  | 0x4000, 6 => some (pStateCode t.state)
  | 0x4000, 7 => some t.short
  | 0x4000, 9 => some t.sets.toNat
  | 0x4000, 0xA => some (bits [t.timeSet, t.hostStale, decide (h.synth = 2)])
  | 0x4001, 1 => some t.s
  | 0x4001, 2 => some (timeOctets (t.derived % (pModulus : Int)).toNat)
  | 0x4001, 3 => some (ofSigned 32 t.rate)
  | 0x4001, 4 => some (ofSigned 32 t.deltaMean)
  | 0x4002, 5 => some (ofSigned 32 t.servo.offset)
  | 0x4002, 6 => some (ofSigned 32 (roundRat (t.servo.rate * 1000000000)))
  | 0x4003, 3 => some (match t.lostAt with | some x => msSince x s.now % 2 ^ 32 | none => 0)
  | 0x4004, 0xD => some (leNat (beBytes 8 ((t.first.grandmaster.getD 0) % 2 ^ 64)))
  | 0x4004, 0xE => some (leNat (beBytes 8 ((t.second.grandmaster.getD 0) % 2 ^ 64)))
  | 0x4004, 0xF => some (t.path0.inUse c.mode0 c.static0)
  | 0x4004, 0x10 => some (t.path1.inUse c.mode1 c.static1)
  | 0x4004, 0x11 => some (bits [t.capable, t.capable && (t.ownMaster false ownMac || (c.secondOn && t.ownMaster true ownMac)),
      t.path0.onStatic && decide (c.mode0 = 0), t.path1.onStatic && decide (c.mode1 = 0)])
  | 0x4005, 5 => some (timeOctets t.pps.capP)
  | 0x4005, 6 => some t.pps.capS
  | 0x4005, 7 => some t.pps.captures.toNat
  | 0x4006, 1 => some h.q3Lead
  | 0x4006, 2 => some t.onTime.toNat
  | 0x4006, 3 => some t.late.toNat
  | 0x4006, 4 => some t.dropped.toNat
  | _, _ => none

/-- Size of a ring (Table 01-11). -/
def ringSize (q : Nat) : Nat := match q with | 0 => 32 | 1 => 32 | 2 => 64 | 3 => 16 | 4 => 32 | 5 => 64 | _ => 16

/-- Producer and consumer index of a queue. -/
def Net.indices (n : Net) (q : Nat) : Nat × Nat :=
  match q with
  | 0 => (n.q0.prod, n.q0.cons)
  | 1 => (n.q1.prod, n.q1.cons)
  | 2 => (n.q2.prod, n.q2.cons)
  | 3 => (n.q3.prod, n.q3.cons)
  | 4 => (n.q4.prod, n.q4.cons)
  | 5 => (n.q5.prod, n.q5.cons)
  | _ => (n.q6.prod, n.q6.cons)

/-- Network and queue objects (Table 14-11). -/
def State.netValue (s : State) (idx sub : Nat) : Option Nat :=
  let n := s.hub.net
  if 0x4401 ≤ idx ∧ idx ≤ 0x4402 then
    let p := n.port (idx - 0x4401)
    match sub with
    | 8 => some (s.portStatus (idx - 0x4401))
    | 9 => some p.sent.toNat
    | 0xA => some p.received.toNat
    | 0xB => some p.rxErrors.toNat
    | 0xC => some p.aborts.toNat
    | 0xD => some p.dropped.toNat
    | 0xE => some p.flushed.toNat
    | _ => none
  else if 0x4410 ≤ idx ∧ idx ≤ 0x4416 then
    let q := idx - 0x4410
    let (prod, cons) := n.indices q
    let ring := match q with | 2 => n.q2 | 5 => n.q5 | _ => n.q6
    match sub with
    | 1 => some prod
    | 2 => some cons
    | 3 => some (inUse prod cons (ringSize q))
    | 4 => some (if ring.overflow then 1 else 0)
    | 5 => some ring.lost.toNat
    | _ => some n.classify
  else match idx, sub with
    | 0x4400, 1 => some (leNat (beBytes 6 ownMac))
    | 0x4400, 4 => some n.learned.length
    | _, _ => none

/-- Lanes that carry X by escalation, as a word: those of a step 1, and those with a channel of a bank at step 2 (R311). -/
def Hub.lanesX (h : Hub) : Nat :=
  let sc := h.collector.scopes
  bits ((List.range 48).map fun n => sc.contains (.lane n) || (h.chansOf n).any fun ch => sc.contains (.bank (ch / 12)))

/-- The grace timer or further interval that expires next (0x5006.05, .06). -/
def Collector.nextGrace (c : Collector) : Option (Nat × Nat) :=
  (mapFrom (fun i (x : SourceRec) => (i, x.graceAt)) 0 c.sources).foldl (fun best x =>
    match x.2, best with
    | some t, some (_, bt) => if t < bt then some (x.1, t) else best
    | some t, none => some (x.1, t)
    | none, _ => best) none

/-- Collector objects (Table 15-5). -/
def State.collectorValue (s : State) (idx sub : Nat) : Option Nat :=
  let c := s.hub.collector
  let r := c.record
  if 0x5010 ≤ idx ∧ idx < 0x5070 then
    let i := idx - 0x5010
    let x := c.source i
    match sub with
    | 1 => if i < 0x40 then some (sourceClass i) else none
    | 3 => some (startStep i true)
    | 4 => some x.kind
    | 5 => some x.address
    | 6 => some x.origin
    | 7 => some x.errors.toNat
    | 8 => some x.step
    | _ => if i < 0x40 ∧ sourceClass i ≠ 1 then some (defaultCeiling i) else none
  else match idx, sub with
    | 0x5000, 7 => some s.errnStatus
    | 0x5001, 1 => some c.status.toNat
    | 0x5001, 2 => some c.cause.toNat
    | 0x5001, 3 => some c.acked.toNat
    | 0x5002, 1 => some c.sticky.toNat
    | 0x5002, 2 => some (c.causeD ||| c.force).toNat
    | 0x5002, 3 => some c.force.toNat
    | 0x5003, 1 => some (bits [r.valid, r.overflow, r.injected])
    | 0x5003, 2 => some r.source
    | 0x5003, 3 => some r.kind
    | 0x5003, 4 => some r.address
    | 0x5003, 5 => some r.origin
    | 0x5003, 6 => some r.seconds
    | 0x5003, 7 => some r.nanos
    | 0x5003, 8 => some r.later
    | 0x5004, 3 => some c.refused
    | 0x5004, 4 => some c.refusals.toNat
    | 0x5004, 5 => some c.standing
    | 0x5006, 1 => some c.highestStep
    | 0x5006, 2 => some s.hub.lanesX
    | 0x5006, 3 => some (bits ((List.range 4).map fun b => c.scopes.contains (.bank b)))
    | 0x5006, 4 => some c.steps.toNat
    | 0x5006, 5 => some (match c.nextGrace with | some (i, _) => i | none => 0xFF)
    | 0x5006, 6 => some (match c.nextGrace with | some (_, t) => (t - s.now) / 1000000 | none => 0)
    | 0x5080, 1 => some 0
    | 0x5080, 2 => some (if c.testMode then 1 else 0)
    | 0x5080, 3 => some 0
    | _, _ => none

/-- Own member number and the unit's own entry (R430, R443). -/
def Hub.ownNumber (h : Hub) : Nat := h.act 0x6000 3 h.strapValue

/-- The time reference identity a unit reports (Table 16-3); through a loss it keeps the one from before (R453). -/
def Hub.refIdentity (h : Hub) : Nat :=
  match h.time.state with
  | .lockedPps => 2 ^ 64 - 1
  | .holdover => h.run.team.lastRef
  | .baton => h.run.team.lastRef
  | _ => (h.time.first.grandmaster.getD 0) % 2 ^ 64

/-- A member entry as this unit sees it: for its own number, the unit itself (R443). -/
def State.memberValue (s : State) (m sub : Nat) : Nat :=
  let h := s.hub
  let t := h.run.team
  let x := t.members.getD m {}
  let own := decide (m = h.ownNumber)
  match sub with
  | 1 => if own then teamCode t.mode else teamCode x.mode
  | 2 => leNat (beBytes 6 (if own then ownMac else x.mac))
  | 3 => if own then s.rtVersion else x.version
  | 4 => if own then h.teamHash else x.hash
  | 5 => if own then 0 else if x.lastAt.isNone then 0
         else if x.refId = h.refIdentity then ofSigned 32 (x.offset - h.time.servo.offset) else 0x80000000
  | 6 => if own then 0 else match x.lastAt with | some a => min 0xFFFFFFFF (msSince a s.now) | none => 0xFFFFFFFF
  | _ => if own then h.act 0x6000 5 128 else x.rank

/-- Does member m count as present and a member (bit m of 0x6001.03)? -/
def State.memberPresent (s : State) (m : Nat) : Bool :=
  let c := s.memberValue m 1
  decide (3 ≤ c) && decide (c ≤ 5)

/-- Team objects (Table 15-6). -/
def State.teamValue (s : State) (idx sub : Nat) : Option Nat :=
  let h := s.hub
  let t := h.run.team
  if 0x6010 ≤ idx then some (s.memberValue (idx - 0x6010) sub)
  else match idx, sub with
    | 0x6001, 1 => some (teamCode t.mode)
    | 0x6001, 2 => some t.pacer
    | 0x6001, 3 => some (bits ((List.range 8).map s.memberPresent))
    | 0x6001, 4 => some (bits ((List.range 8).map fun m =>
        s.memberPresent m && decide (s.memberValue m 1 ≠ 5)))
    | 0x6001, 5 => some h.teamHash
    | 0x6001, 6 => some (bits ([1, 2, 3, 4].map fun k => t.raised.any fun x => x.1 == k))
    | 0x6001, 7 => some (if t.mode = .none then 0 else
        ((List.range 8).filter fun m => s.memberPresent m).foldl (fun v m => min v (s.memberValue m 3)) s.rtVersion)
    | 0x6001, 8 => some t.seen.toNat
    | 0x6001, 9 => some t.undone.toNat
    | 0x6001, 0xA => some t.missing.toNat
    | 0x6001, 0xB => some t.joins.toNat
    | 0x6003, n => if 5 ≤ n then some (t.reserved.getD (n - 5) 0) else none
    | _, _ => none

/-- Service objects (Table 15-7) but for the two long ones. -/
def State.serviceValue (s : State) (idx sub : Nat) : Option Nat :=
  let h := s.hub
  let r := h.run
  match idx, sub with
  | 0x7000, 3 => some (bits [r.store.dirty, r.store.writing, r.store.deferred, r.store.badVerify])
  | 0x7000, 4 => some r.store.writes.toNat
  | 0x7000, 5 => some r.store.newest
  | 0x7001, 1 => some 2560
  | 0x7001, 2 => some s.mram.records.length
  | 0x7001, 3 => some s.mram.oldest
  | 0x7001, 4 => some s.mram.newest
  | 0x7001, 5 => some r.cursor
  | 0x7001, 8 => some 0
  | 0x7002, 1 => some (h.activeSlot.getD 0xFF)
  | 0x7002, 2 => some (match h.activeSlot with | some i => s.slotIdentity i | none => 0)
  | 0x7002, 3 => some (r.slotState.getD 0 0)
  | 0x7002, 4 => some (r.slotState.getD 1 0)
  | 0x7002, 5 => some (s.slotIdentity 0)
  | 0x7002, 6 => some (s.slotIdentity 1)
  | 0x7002, 8 => some 0
  | 0x7002, 9 => some (Config.factoryValue 0x7002 9 % 2 ^ 32)
  | 0x7003, n =>
    if n ≤ 4 then some (if (h.view (n - 1)).isNone ∧ r.service.getD (n - 1) .inService ≠ .resetting then 0xF else serviceCode (r.service.getD (n - 1) .inService))
    else if n ≤ 8 then some 0
    else if n = 0xA then some r.serviceOps.toNat else none
  | 0x7005, 3 => some 0
  | 0x7005, 4 => some r.migration.result
  | _, _ => none

/-- What an object reads as, where the device reports it. -/
def State.computed (s : State) (k idx sub : Nat) : Option Nat :=
  if idx < 0x1040 then s.identity idx sub
  else if idx < 0x2000 then s.sessionValue k idx sub
  else if idx < 0x2020 then s.deviceValue idx sub
  else if idx < 0x2040 then s.thermalValue idx sub
  else if idx < 0x3000 then s.lapValue idx sub
  else if idx < 0x3300 then s.laneValue ((idx - 0x3000) / 16) (idx % 16) sub
  else if idx < 0x4000 then s.mapValue idx sub
  else if idx < 0x4400 then s.timeValue idx sub
  else if idx < 0x5000 then s.netValue idx sub
  else if idx < 0x6000 then s.collectorValue idx sub
  else if idx < 0x7000 then s.teamValue idx sub
  else s.serviceValue idx sub

/-- The value of an object of up to 32 bytes, as session k reads it. -/
def State.value (s : State) (k : Nat) (r : ObjRow) (idx sub : Nat) : Nat :=
  match s.computed k idx sub with
  | some v => v % 256 ^ r.size
  | none => s.hub.val idx sub (s.hub.default r idx sub)

/-- The bytes of an object, the two long ones among them: the record at the cursor (R436) and the idle slot (R433). -/
def State.objectBytes (s : State) (k : Nat) (r : ObjRow) (idx sub : Nat) : Option (List Byte) :=
  if idx = 0x7001 ∧ sub = 6 then
    (s.mram.records.find? fun x => x.number == s.hub.run.cursor).map JournalRec.bytes
  else if idx = 0x7002 ∧ sub = 7 then some (s.readSlot s.hub.idleSlot 0 slotSize)
  else some (leBytes r.size (s.value k r idx sub))

/-- Word 3 of a Q2 record: the value of the object its rule names (R371, R518). -/
def State.eventWord (s : State) (idx sub : Nat) : Nat :=
  match rowOf s.rtVersion idx sub with
  | some r => s.value 0xFF r idx sub % 2 ^ 32
  | none => 0

end Sys2Proof.Machine
end

