-- ==== Sys2Proof/Machine/Notify.lean ====
section
/-! DEFINITION. Hub reset (R81), what an interrupted MRAM write leaves (R480), and how reports travel: fault messages of the hub to the
collector (R282), events to the interrupt block and Q2 (R35, R371 to R373), journal records to the shadow (R216, R475). -/

namespace Sys2Proof.Machine

/-! ## MRAM -/

/-- The copy the store writes (0 is A, 1 is B). -/
def Mram.copy (m : Mram) (i : Nat) : ConfigCopy := if i = 0 then m.copyA else m.copyB
def Mram.setCopy (m : Mram) (i : Nat) (c : ConfigCopy) : Mram := if i = 0 then { m with copyA := c } else { m with copyB := c }

/-- A complete copy of an image under a sequence number. -/
def freshCopy (version seq hash : Nat) (image : Values) : ConfigCopy :=
  { blank := false, committed := true, seq := seq, version := version, hash := hash, values := image }

/-- The index block with the newer sequence: 0 or 1 (R478). -/
def Mram.newerIndex (m : Mram) : Nat :=
  let ahead := (m.index1.seq + 2 ^ 32 - m.index0.seq) % 2 ^ 32
  if !m.index0.valid then 1 else if m.index1.valid && decide (1 ≤ ahead) && decide (ahead < 2 ^ 31) then 1 else 0

/-- The index block with the older sequence is rewritten under the next sequence (R477). -/
def Mram.writeIndex (m : Mram) : Mram :=
  let newer := m.newerIndex
  let seq := (((if newer = 1 then m.index1 else m.index0).seq) + 1) % 2 ^ 32
  let block : IndexBlock := { valid := true, seq := seq, newest := m.newest, slot := m.slot, oldest := m.oldest }
  if newer = 1 then { m with index0 := block } else { m with index1 := block }

/-- One more record, into the slot that follows the newest; the oldest is replaced once all slots hold records (R475). -/
def Mram.addRecord (m : Mram) (e : JournalEntry) : Mram :=
  { m with
    records := (if m.records.length < 2560 then m.records else m.records.drop 1) ++ [({ number := m.next, entry := e } : JournalRec)]
    next := (m.next + 1) % 2 ^ 32, slot := (m.slot + 1) % 2560 }

/-- A record with its index block (R477). -/
def Mram.append (m : Mram) (e : JournalEntry) : Mram := (m.addRecord e).writeIndex

/-- The journal is cleared: the oldest record number is the newest plus 1 (R479). -/
def Mram.clearJournal (m : Mram) : Mram := Mram.writeIndex { m with records := [] }

/-- What a VCORE collapse at a step of a configuration write leaves in the target copy (Table 17-8). -/
def Mram.tornCopy (m : Mram) (w : StoreWork) (step : Nat) (landed : Bool) : Mram :=
  let old := m.copy w.target
  if step = 0 then m
  else if step = 1 ∧ ¬ landed then m
  else if step = 1 ∨ step = 2 ∨ (step = 3 ∧ ¬ landed) then m.setCopy w.target { old with blank := false, committed := false }
  else m.setCopy w.target (freshCopy w.imageVersion w.imageSeq w.imageHash w.image)

/-- An index block cut short in its rewriting is not valid; the other one stands (R477, R478; DEDUCED, log 99). -/
def Mram.tornIndex (m : Mram) : Mram :=
  if m.newerIndex = 1 then { m with index0 := { m.index0 with valid := false } } else { m with index1 := { m.index1 with valid := false } }

/-- What a VCORE collapse at a step of a journal write leaves (Table 17-8): from the commit word on the record is there, whether or not an index block names
it (R478). -/
def Mram.tornRecord (m : Mram) (e : JournalEntry) (step : Nat) (landed : Bool) : Mram :=
  if step = 0 ∨ (step = 1 ∧ ¬ landed) then m
  else if step = 4 ∧ landed then m.append e
  else if step = 4 then (m.addRecord e).tornIndex
  else if step = 3 ∧ landed then m.addRecord e
  else { m with records := if m.records.length < 2560 then m.records else m.records.drop 1 }

/-- The MRAM after a stop of the runtime in the midst of the write in progress, if there is one. -/
def State.tornMram (s : State) (step : Nat) (landed : Bool) : Mram :=
  let w := s.hub.run.store
  if w.writing then s.mram.tornCopy w step landed
  else match s.hub.run.shadow with
    | e :: _ => if s.hub.windowCode = 0 then s.mram.tornRecord e step landed else s.mram
    | [] => s.mram

/-! ## Hub reset -/

/-- What a hub reset leaves of a capture: one armed or running is aborted (R274). -/
def Capture.cut (c : Capture) : Capture := { ({} : Capture) with mode := if c.mode = .armed ∨ c.mode = .running then .aborted else .idle }

/-- The hub enters reset with a cause (R81, R83): everything on the die restarts; MRAM and the banks are kept. Of causes that act
together, the lowest is reported. The synthesiser counts as locked, so that steps 2 and 3 are skipped (R87), wherever it is not stopped: also during a
calibration, which goes on (DESIGN CHOICE, log 83). -/
def State.hubReset (s : State) (cause : Nat) : State :=
  let h := s.hub
  let again := decide (h.phase = .held ∨ h.phase = .settling ∨ h.phase = .noClock)
  let clockOk := decide (h.phase ≠ .noClock)
  { s with hub := { ({} : Hub) with
      phase := if !s.pwr.vcore then .unpowered else if !clockOk then .noClock else if h.synth = 0 then .settling else .held
      cause := if again then min h.cause cause else cause
      capture := h.capture.cut, tier := h.tier, synth := h.synth, calTemp := h.calTemp, temp := h.temp, romOk := h.romOk, selfOk := h.selfOk } }

/-- A hub reset other than by a VCORE collapse: the spec does not say where it leaves an MRAM write in progress, so two
free bits decide (log 4). -/
def State.hubResetFree (s : State) (cause : Nat) : State :=
  let (s, a) := s.drawBit
  let (s, b) := s.drawBit
  { s with mram := s.tornMram (if a then 4 else 1) b }.hubReset cause

/-! ## Reports -/

/-- The runtime runs: between the start steps and a stop. -/
def Hub.runtimeOn (h : Hub) : Bool := decide (h.phase = .running ∨ h.phase = .claiming)

/-- The hub serves the queues: out of reset and not in standby (R382, Table 12-8). -/
def Hub.serves (h : Hub) : Bool := decide (h.phase = .running ∨ h.phase = .claiming ∨ h.phase = .failed ∨ h.phase = .restarting)

/-- The hub is out of reset (R281). -/
def Hub.outOfReset (h : Hub) : Bool := h.serves || decide (h.phase = .standby ∨ h.phase = .waking)

/-- Set a pending bit (R35). -/
def Hub.setPending (h : Hub) (n : Nat) : Hub := { h with pending := putBit h.pending n true }

/-- Room of the shadow: 8 KiB of records of 64 bytes (R216). -/
def shadowRoom : Nat := 128

/-- Payload of the classes whose block knows only the change: measured frequency, last offset (Table 17-6). -/
def State.journalPayload (s : State) (cls : Nat) (payload : List Byte) : List Byte :=
  if cls = 0xB then leBytes 2 ((s.lapValue 0x2041 0xA).getD 0)
  else if cls = 0xC then leBytes 4 (ofSigned 32 s.hub.time.servo.offset)
  else payload

/-- Is a record of the class written under the mask (R476)? A journal clear record always is. -/
def Hub.journals (h : Hub) (cls code : Nat) : Bool :=
  decide (cls = 0) || decide (cls = 0xF) || (decide (cls = 8) && decide (code = 4)) || (h.act 0x7001 7 0xFFFF).testBit cls

/-- One Q2 record of an event, while the runtime serves; before that, the event is only counted for the restart gap (R372). -/
def State.record (s : State) (n type w2 w3 : Nat) : State × Bool :=
  let h := s.hub.setPending n
  if s.hub.serving then
    let (net, lost) := h.net.record h.time.short n type w2 w3
    ({ s with hub := { h with net := net } }, lost)
  else ({ s with hub := { h with gap := putBit h.gap n true } }, false)

/-- Deal with one report. `depth` bounds the reports that a report itself gives rise to. -/
def State.handle : Nat → State → Notice → State
  | 0, s, _ => s
  | d + 1, s, n =>
    let h := s.hub
    match n with
    | .fault source kind address =>
      if h.outOfReset then
        let (c, more) := h.collector.raise h.collCfg source kind address s.now h.time.seconds h.time.nanos
        more.foldl (State.handle d) { s with hub := { h with collector := c } }
      else s
    | .gone source => if h.outOfReset then { s with hub := { h with collector := h.collector.raiseGone source } } else s
    | .event e idx sub =>
      let (s, lost) := s.record e 2 (idx % 2 ^ 16 + sub % 256 * 2 ^ 16) (s.eventWord idx sub)
      if lost then State.handle d s (.fault 0x4A 1 0xFF) else s
    | .faultEvent e m =>
      let word3 := if m.source < 0x40 then sourceClass m.source else h.collCfg.severity m.source + 4
      let (s, lost) := s.record e 1 m.word word3
      if lost ∧ m.source ≠ 0x4A then State.handle d s (.fault 0x4A 1 0xFF) else s
    | .journal cls code payload =>
      if h.runtimeOn && h.journals cls code then
        let entry : JournalEntry :=
          { seconds := h.time.seconds % 2 ^ 32, nanos := h.time.nanos, cls := cls, code := code, payload := s.journalPayload cls payload }
        if h.run.shadow.length < shadowRoom then
          { s with hub := { h with run := { h.run with shadow := h.run.shadow ++ [entry] } } }
        else State.handle d { s with hub := { h with run := { h.run with lost := h.run.lost + 1 } } } (.fault 0x4E 2 0xFF)
      else s
    | .resetHub cause => s.hubResetFree cause

/-- Deal with reports in order. -/
def State.notify (s : State) (ns : List Notice) : State := ns.foldl (State.handle 6) s

/-- A hub block acts: its new value is stored by `f`, its reports are dealt with. -/
def State.after (s : State) (f : Hub → Hub) (ns : List Notice) : State := (s.onHub f).notify ns

end Sys2Proof.Machine
end

