-- ==== Sys2Proof/Machine/StoreOps.lean ====
section
/-! DEFINITION. The configuration store and the journal as the runtime writes them (R92, R216 to R218, R471 to R475). -/

namespace Sys2Proof.Machine

/-- Is an object kept in the configuration store (Y, YB, U and UB of Tables 14-1 and 15-1)? -/
def ObjRow.stored (r : ObjRow) : Bool := decide (r.per = .y ∨ r.per = .yb ∨ r.per = .u ∨ r.per = .ub)

def Hub.onStore (h : Hub) (f : StoreWork → StoreWork) : Hub := h.onRun fun r => { r with store := f r.store }

/-- A change that the configuration store will hold (R472). -/
def Hub.touch (h : Hub) (now : Nat) : Hub := h.onStore fun w => { w with dirty := true, changed := true, lastWrite := now }

/-- Set an accepted value, and where it acts at once the value in force (R41, R42). -/
def Hub.put (h : Hub) (idx sub v : Nat) (acts : Bool) : Hub :=
  h.onRun fun r => { r with accepted := r.accepted.put (objKey idx sub) v, inForce := if acts then r.inForce.put (objKey idx sub) v else r.inForce }

/-- The values a copy holds (R471): those written of objects persisted in the store. -/
def State.storeImage (s : State) : Values :=
  s.hub.run.accepted.filter fun e => match rowOf s.rtVersion (e.1 / 256) (e.1 % 256) with | some r => r.stored | none => false

/-- A flush has records to write yet, which come before the configuration (R216). -/
def Hub.flushesRecords (h : Hub) : Bool := h.flushing && decide (0 < h.run.flushLeft)

/-- A case of R472 arises: a write begins, follows the one in progress, or waits for the MRAM window or for the records of a flush. -/
def State.storeSave (s : State) : State :=
  let w := s.hub.run.store
  if s.hub.windowCode ≠ 0 ∨ s.hub.flushesRecords then s.onHub fun h => h.onStore fun w => { w with deferred := true }
  else if w.writing then s.onHub fun h => h.onStore fun w => { w with again := true }
  else s.onHub fun h => h.onStore fun w =>
    { w with writing := true, again := false, deferred := false, mirror := false, changed := false
             target := if w.source = 0 then 1 else 0
             image := s.storeImage, imageSeq := if w.source = 2 then 1 else (w.newest + 1) % 2 ^ 32
             imageVersion := s.rtVersion, imageHash := s.configHash }

/-- The next item that is due once no write is in progress: a further or deferred write, or a copy to rewrite from the selected one (R92). -/
def State.storeNext (s : State) : State :=
  let w := s.hub.run.store
  if s.hub.windowCode ≠ 0 || w.writing || s.hub.flushesRecords then s
  else if w.deferred || w.again then s.storeSave
  else match w.rewrite with
    | [] => s
    | i :: rest =>
      let src := s.mram.copy (1 - i)
      s.onHub fun h => h.onStore fun w =>
        { w with writing := true, mirror := true, target := i, rewrite := rest, image := src.values, imageSeq := src.seq
                 imageVersion := src.version, imageHash := src.hash }

/-- A flush of the shadow is complete: a flush record is written (R218; none by Runtime 3.1 and earlier). -/
def State.flushDone (s : State) : State :=
  let h := s.hub
  if h.flushing && decide (h.windowCode = 0) && !h.flushesRecords && !h.run.store.deferred && !h.run.store.writing then
    (s.onHub fun h => { h with flushing := false }).notify (if 0x0302 ≤ s.rtVersion then [.journal 0xF 2 (leBytes 2 s.hub.run.shadow.length)] else [])
  else s

/-- Read-back at step 4 of a configuration write (R473, R474) or of a rewrite (R92). -/
def State.storeDone (s : State) (verified : Bool) : State :=
  let w := s.hub.run.store
  if !w.writing then s
  else
    let copy : ConfigCopy := { freshCopy w.imageVersion w.imageSeq w.imageHash w.image with crcBad := !verified }
    let s : State := { s with mram := s.mram.setCopy w.target copy }
    if !verified then
      (s.onHub fun h => h.onStore fun w => { w with badVerify := true, imageSeq := (w.imageSeq + 1) % 2 ^ 32 }).notify [.fault 0x4D 3 w.target]
    else if w.mirror then
      let s := s.onHub fun h =>
        { (h.onStore fun w => { w with writing := false, badVerify := false }) with
          statusA := if w.target = 0 then 6 else h.statusA, statusB := if w.target = 1 then 6 else h.statusB }
      s.storeNext
    else
      let s := s.onHub fun h => h.onStore fun w =>
        { w with writing := false, dirty := w.changed, badVerify := false, writes := w.writes + 1, newest := w.imageSeq, source := w.target
                 rewrite := w.rewrite.filter (· != w.target) }
      (s.notify [.journal 4 w.target (leBytes 4 w.imageSeq ++ leBytes 4 w.imageHash)]).storeNext

/-- The oldest waiting record goes into the journal while the window is open and no other item is being written (R475). A flush record ends
the report of writes possibly lost (R218). -/
def State.journalWrite (s : State) : State :=
  match s.hub.run.shadow with
  | [] => s
  | e :: rest =>
    if s.hub.windowCode ≠ 0 || s.hub.run.store.writing || !s.hub.runtimeOn then s
    else
      let clears := s.hub.run.clearDue && decide (e.cls = 8) && decide (e.code = 4)
      let s : State := { s with mram := (if clears then s.mram.clearJournal else s.mram).append e }
      let s := s.onHub fun h =>
        { (h.onRun fun r => { r with shadow := rest, flushLeft := r.flushLeft - 1, clearDue := r.clearDue && !clears, cursor := if clears then s.mram.oldest else r.cursor }) with shadowFlag := h.shadowFlag && !(decide (e.cls = 0xF) && decide (e.code = 2)) }
      s.storeNext.flushDone

end Sys2Proof.Machine
end

