-- ==== Sys2Proof/Machine/Reply.lean ====
section
/-! DEFINITION. Sessions as the runtime holds them and the way of a response: its header and tag (R388, R398), its order within a session
(R405), Q1 with its hold (R393), and frames on the network (Table 13-1, R386, R387). -/

namespace Sys2Proof.Machine

/-! ## Sessions -/

def Hub.session (h : Hub) (n : Nat) : Session := h.run.sessions.getD n {}



def Hub.onSession (h : Hub) (n : Nat) (f : Session → Session) : Hub := h.onRun fun r => { r with sessions := editAt r.sessions n f }

/-- A session closes (R403): its transfers are discarded, requests that still wait are no longer answered, and a serial watchdog it owns
stays armed without an owner (R244). -/
def Hub.closeSession (h : Hub) (n : Nat) : Hub :=
  (h.onSession n fun _ => {}).onRun fun r =>
    { r with waiting := r.waiting.filter fun w => !(w.origin.session == n && !w.origin.header.isEmpty)
             dog := if r.dog.owner = n then { r.dog with owner := 0xFF } else r.dog }

def Hub.closeSessions (h : Hub) (ns : List Nat) : Hub := ns.foldl Hub.closeSession h

/-- Sessions that satisfy a condition. -/
def Hub.sessionsWith (h : Hub) (f : Session → Bool) : List Nat := (List.range 16).filter fun n =>
  decide ((h.session n).mode ≠ .free) && f (h.session n)

/-- A session holds at least a role. -/
def Session.may (x : Session) (r : Role) : Bool := decide (roleCode r ≤ roleCode x.role)

/-- Requests and responses of the session are tagged (R398). -/
def Session.tagged (x : Session) : Bool := decide (x.mode ≠ .free) && decide (x.role ≠ .observer)

/-- The tag of a request or response of a session (R398). -/
def Hub.tagOf (h : Hub) (x : Session) (header body : List Byte) : List Byte :=
  (hmac ((h.key x.role).getD []) (x.device ++ x.client ++ header ++ body)).take 8

/-! ## The inbox -/

/-- Kinds of item; the runtime takes the items of each kind in their order. -/
def NetItem.isPhoden : NetItem → Bool
  | .phoden _ _ => true
  | _ => false
def NetItem.isTeam : NetItem → Bool
  | .team _ _ => true
  | _ => false
def NetItem.isArp : NetItem → Bool
  | .arp _ => true
  | _ => false
def NetItem.isIcmp : NetItem → Bool
  | .icmp _ => true
  | _ => false

/-- Items whose Q5 entries the consumer index has passed go to the inbox: an unread entry for the host holds back all that come after it (R376).
That they are classified meanwhile is log 103 (DEDUCED). -/
def Hub.releaseQ5 (h : Hub) : Hub :=
  let behind (e : Nat × NetItem) : Bool := decide (inUse e.1 h.net.q5.cons 64 < inUse h.net.classify h.net.q5.cons 64)
  { h with inbox := h.inbox ++ (h.q5Held.filter fun e => !behind e).map Prod.snd, q5Held := h.q5Held.filter behind }

/-- Take the oldest item of a kind out of the inbox. -/
def Hub.takeItem (h : Hub) (f : NetItem → Bool) : Hub := { h with inbox := h.inbox.eraseP f }

/-! ## Frames of the runtime -/

/-- Sum of the 16-bit words of a run of bytes in network order, an odd last byte padded. -/
def words16 : List Byte → Nat
  | [] => 0
  | [a] => a.toNat * 256
  | a :: b :: rest => a.toNat * 256 + b.toNat + words16 rest

/-- Internet checksum: the complement of the sum with carries folded in. -/
def inetSum (data : List Byte) : Nat :=
  let s := words16 data
  let f := s % 65536 + s / 65536
  let f := f % 65536 + f / 65536
  0xFFFF - (f % 65536 + f / 65536) % 65536

/-- An IPv4 packet as the runtime sends it: no options, DF set, TTL 64 (R386). -/
def ipv4Packet (ident proto src dst : Nat) (payload : List Byte) : List Byte :=
  let head (sum : Nat) : List Byte := [0x45#8, 0#8] ++ beBytes 2 (20 + payload.length) ++ beBytes 2 ident ++ [0x40#8, 0#8, 64#8, BitVec.ofNat 8 proto]
    ++ beBytes 2 sum ++ beBytes 4 src ++ beBytes 4 dst
  head (inetSum (head 0)) ++ payload

/-- A UDP datagram with its computed checksum, carried as 0xFFFF where it computes to 0. -/
def udpDatagram (src dst sport dport : Nat) (payload : List Byte) : List Byte :=
  let len := 8 + payload.length
  let sum := inetSum (beBytes 4 src ++ beBytes 4 dst ++ [0#8, 17#8] ++ beBytes 2 len ++ beBytes 2 sport ++ beBytes 2 dport ++ beBytes 2 len
    ++ [0#8, 0#8] ++ payload)
  beBytes 2 sport ++ beBytes 2 dport ++ beBytes 2 len ++ beBytes 2 (if sum = 0 then 0xFFFF else sum) ++ payload

/-- An Ethernet frame of the runtime, padded to 60 bytes before the FCS. -/
def etherFrame (dst : Nat) (tag : Option Nat) (etherType : Nat) (payload : List Byte) : List Byte :=
  padTo 60 (beBytes 6 dst ++ beBytes 6 ownMac ++ (match tag with | some t => [0x81#8, 0#8] ++ beBytes 2 t | none => []) ++ beBytes 2 etherType ++ payload)

/-- Send a frame of the runtime to the ports that switch lookup gives for its destination, class 1 (R362, R365). -/
def Hub.sendFrame (h : Hub) (dst : Nat) (frame : List Byte) : Hub :=
  { h with net := (h.net.lookup2 h.netCfg dst).foldl (fun n i => n.send i frame) h.net }

/-- Send an IPv4 payload to a MAC address, with the next identification. -/
def Hub.sendIp (h : Hub) (mac proto dst : Nat) (payload : List Byte) : Hub :=
  (h.onRun fun r => { r with ipId := (r.ipId + 1) % 65536 }).sendFrame mac
    (etherFrame mac none 0x0800 (ipv4Packet h.run.ipId proto h.ip dst payload))

/-- Send a Phoden response over the network (Table 13-1). -/
def Hub.sendNet (h : Hub) (p : NetPath) (data : List Byte) : Hub :=
  match p.endpoint with
  | .spi => h
  | .raw _ => h.sendFrame p.mac (etherFrame p.mac p.tag 0x88B5 data)
  | .udp ip port => h.sendIp p.mac 17 ip (udpDatagram h.ip ip h.udpPort port data)

/-! ## Q1 -/

/-- Capacity of Q0 and Q1 (R367). -/
def hostRoom : Nat := 31

/-- Post an entry into Q1. -/
def Net.postQ1 (n : Net) (now : Nat) (data : List Byte) : Net :=
  { n with q1 := { n.q1 with prod := (n.q1.prod + 1) % 32
                             entries := n.q1.entries ++ [{ payload := padTo 60 data, length := data.length, at_ := now }] } }

/-- Post a response into Q1, or hold it where Q1 is full, raising source 0x4B each time a hold begins (R393). -/
def State.post (s : State) (data : List Byte) : State :=
  if s.hub.run.held.isEmpty && decide (s.hub.net.q1.entries.length < hostRoom) then
    s.onHub fun h => { h with net := h.net.postQ1 s.now data }
  else
    let s' := s.onHub fun h => h.onRun fun r => { r with held := r.held ++ [data] }
    if s.hub.run.held.isEmpty then s'.notify [.fault 0x4B 2 0xFF] else s'

/-- Send a response where its request came from. -/
def State.sendTo (s : State) (path : Option NetPath) (data : List Byte) : State :=
  match path with
  | none => s.post data
  | some p => s.onHub fun h => h.sendNet p data

/-! ## Responses -/

/-- Responses of a session that can go out now: those ready before the first that is not (R405). -/
def readyReplies : List Served → List (Served × List Byte)
  | [] => []
  | x :: xs =>
    if x.sent then readyReplies xs
    else match x.reply with
    | none => []
    | some r => (x, r) :: readyReplies xs

/-- Mark them sent. -/
def markSent : List Served → List Served
  | [] => []
  | x :: xs => if x.sent then x :: markSent xs else if x.reply.isNone then x :: xs else { x with sent := true } :: markSent xs

/-- What follows a response that has been sent (R401, R404). -/
def State.doAfter (s : State) (a : After) : State :=
  let s := s.onHub fun h => a.puts.foldl (fun h p => (h.put p.1 p.2.1 p.2.2 true).touch s.now) h
  let s := if a.save then s.storeSave else s
  s.onHub fun h => h.closeSessions a.closes

/-- Send the responses of a session that are ready. -/
def State.flush (s : State) (n : Nat) : State :=
  let out := readyReplies (s.hub.session n).history
  if out.isEmpty then s
  else
    let s' := s.onHub fun h => h.onSession n fun x =>
      { x with history := markSent x.history, served := x.served + BitVec.ofNat 32 out.length, lastUsed := s.now }
    out.foldl (fun s r => (s.sendTo r.1.path r.2).doAfter r.1.then_) s'

/-- The tagged bit of a header. -/
def headerTagged (header : List Byte) : Bool := (header.getD 1 0#8).getLsbD 5

/-- Header of a response (R388). -/
def responseHeader (request : List Byte) (len : Nat) : List Byte :=
  request.take 1 ++ [if headerTagged request then 0x31#8 else 0x11#8] ++ slice request 2 4 ++ leBytes 2 len ++ slice request 8 4

/-- Status and response fields as a body (R389): an abort has no further fields. -/
def responseBody (status : Nat) (fields : List Byte) : List Byte := leBytes 2 status ++ [0#8, 0#8] ++ (if status = 0 then fields else [])

/-- A whole response. Where a request is tagged and names no tagged session, the spec gives no key for the tag of its response: eight free
bytes (log 5). -/
def State.build (s : State) (o : Origin) (body : List Byte) : State × List Byte :=
  let header := responseHeader o.header body.length
  let x := s.hub.session o.session
  if !headerTagged o.header then (s, header ++ body)
  else if x.tagged then (s, header ++ body ++ s.hub.tagOf x header body)
  else
    let (s, t) := s.drawBytes 8
    (s, header ++ body ++ t)

/-- Answer at once: a session-less request, or one that is refused before it is taken. -/
def State.answerNow (s : State) (o : Origin) (status : Nat) (fields : List Byte) (after : After := {}) : State :=
  let body := responseBody status fields
  let s := s.onHub fun h => { h with lastReply := body }
  let (s, data) := s.build o body
  (s.sendTo o.path data).doAfter after

/-- Sequence number and message counter of a header. -/
def headerSeq (header : List Byte) : Nat := leField header 4 2
def headerCounter (header : List Byte) : Nat := leField header 8 4

/-- Answer a request that has been carried out or refused. A write row has no header: its status and fields stand in `lastReply`. -/
def State.respond (s : State) (o : Origin) (status : Nat) (fields : List Byte := []) (after : After := {}) : State :=
  if o.header.isEmpty then (s.onHub fun h => { h with lastReply := responseBody status fields }).doAfter after
  else if o.session = 0xFF then s.answerNow o status fields after
  else
    let body := responseBody status fields
    let (s, data) := s.build o body
    let s := s.onHub fun h => { (h.onSession o.session fun x =>
      { x with history := x.history.map fun e => if e.seq = headerSeq o.header ∧ e.reply.isNone then { e with reply := some data, then_ := after } else e })
      with lastReply := body }
    s.flush o.session

/-- What a write did: the state, its abort code (0 where it was accepted), the bank commands its response waits for, and what follows the
response. -/
structure Written where
  state  : State
  status : Nat := 0
  ids    : List (Nat × Nat) := []
  then_  : After := {}

/-- Accepted, refused, or to be answered when banks have acknowledged. -/
def State.accept (s : State) : Written := { state := s }
def State.deny (s : State) (code : Nat) : Written := { state := s, status := code }
def State.await (s : State) (ids : List (Nat × Nat)) : Written := { state := s, ids := ids }

/-- Send link commands for a write; with no bank to command, the write is answered at once. -/
def State.command (s : State) (orders : List Order) : Written :=
  let (h, ids) := s.hub.order orders
  State.await { s with hub := h } ids

/-- Finish a write: answer it, or let its answer wait. -/
def Written.finish (w : Written) (o : Origin) : State :=
  if w.status = 0 ∧ w.ids ≠ [] then
    w.state.onHub fun h => h.onRun fun r => { r with waiting := r.waiting ++ [{ origin := o, open_ := w.ids }] }
  else w.state.respond o w.status [] w.then_

/-- Bank commands have been acknowledged: the requests that waited for nothing else are answered (R41). -/
def State.answerWaiting (s : State) (done : List (Nat × Nat)) (status : Nat) : State :=
  let left := s.hub.run.waiting.map fun w => { w with open_ := if status = 0 then w.open_.filter fun i => !done.contains i else w.open_ }
  let ended (w : Waiting) : Bool := if status = 0 then w.open_.isEmpty else w.open_.any fun i => done.contains i
  let s' := s.onHub fun h => h.onRun fun r => { r with waiting := left.filter fun w => !ended w }
  (left.filter ended).foldl (fun s w => s.respond w.origin status) s'

end Sys2Proof.Machine
end

