-- ==== Sys2Proof/Machine/ScheduleOps.lean ====
section
/-! DEFINITION. The operations on lane schedules (R264 to R269): targets, resolution into tagged bank commands, and endings. -/

namespace Sys2Proof.Machine

def Hub.schedule (h : Hub) (n : Nat) : Schedule := h.run.schedules.getD n {}
def Hub.onSchedule (h : Hub) (n : Nat) (f : Schedule → Schedule) : Hub := h.onRun fun r => { r with schedules := editAt r.schedules n f }

/-- A waiting map commit changes the lane's entry (R123). -/
def Hub.entryChanges (h : Hub) (n : Nat) : Bool := h.run.commitWait && decide (h.staged n ≠ h.entry n)

/-- The input select of a lane is none (R129, R225). -/
def Hub.noInput (h : Hub) (n : Nat) : Bool := decide (h.lane n 1 1 0xFF = 0xFF)

/-- Abort code of a command to a lane under R27, R129 and R123; 0 where they allow it. -/
def Hub.commandRefusal (h : Hub) (n : Nat) (d : Drive) : Nat :=
  if (h.chansOf n).isEmpty then 0x0308
  else if d = .follow ∧ h.noInput n then 0x0307
  else if d ≠ .off ∧ h.entryChanges n then 0x0307
  else 0

/-- Orders that give every channel of a lane one command. -/
def Hub.laneOrders (h : Hub) (n : Nat) (tag : Option Nat) (resolved : Bool) (cmd : Nat → BankCmd) : List Order :=
  (h.chansOf n).map fun ch => { bank := ch / 12, lane := n, tag := tag, resolved := resolved, cmd := cmd (ch % 12) }

/-- Present banks of a lane. -/
def Hub.laneBanks (h : Hub) (n : Nat) : List Nat := (banksOf (h.chansOf n)).filter h.present

/-- Schedules that the runtime resolves within one bank link cycle (Table 09-5). -/
def Hub.resolveRoom (h : Hub) : Nat := if h.tier = 200 then 24 else if h.tier = 120 then 12 else 4

/-- Has the cycle room for one more? -/
def Hub.mayResolve (h : Hub) (cycle : Nat) : Bool :=
  decide (h.run.resolvedIn.1 ≠ cycle) || decide (h.run.resolvedIn.2 < h.resolveRoom)

/-- Resolve a lane's schedule to a time of the model's clock (R265). -/
def Hub.resolveAt (h : Hub) (n cycle at_ : Nat) : Hub :=
  let x := h.schedule n
  let (h, _) := h.order (h.laneOrders n (some at_) true fun p => .setNormal p x.cmd)
  let h := h.onRun fun r => { r with resolvedIn := (cycle, if r.resolvedIn.1 = cycle then r.resolvedIn.2 + 1 else 1) }
  h.onSchedule n fun x => { x with status := 2, at_ := some at_, banks := h.laneBanks n }

/-- The time of an armed schedule's target under the lap as it stands, none where its phase has been skipped (R269) or its lap has gone by. -/
def Hub.targetTime (h : Hub) (x : Schedule) : Option Nat :=
  let ahead := (x.lap + 2 ^ 48 - h.lap.count) % 2 ^ 48
  if 2 ^ 47 ≤ ahead then none else (h.lap.timeOf ahead x.phase).map fun t => t.ceil.toNat

/-- Drop a lane's schedule (Table 09-3), with source 0x55 kind 2. -/
def Hub.dropSchedule (h : Hub) (n : Nat) : Hub × List Notice :=
  (h.onSchedule n fun x => { x with status := 5, governed := false }, [.fault 0x55 2 n])

/-- Resolve an armed schedule from 2 ms before its target on (R265), in a cycle that has room; one whose phase a step has skipped acts at once, late
(R269). With no bank present to take the command, it is dropped. -/
def Hub.scheduleResolve (h : Hub) (n cycle now : Nat) : Hub × List Notice :=
  let x := h.schedule n
  if x.status ≠ 1 ∨ x.governed ∨ !h.mayResolve cycle then (h, [])
  else if (h.laneBanks n).isEmpty then h.dropSchedule n
  else match h.targetTime x with
  | none => ((h.onSchedule n fun x => { x with late := true }).resolveAt n cycle now, [])
  | some t => if t ≤ now + 2000000 then (h.resolveAt n cycle t, []) else (h, [])

/-- The target of an arming write (R264): lap count and time, none where no acceptable target exists. -/
def Hub.armTarget (h : Hub) (n now : Nat) : Option (Nat × Rat) :=
  let phase := h.lane n 7 1 0
  let from_ : Rat := now + h.lapLead
  if h.lane n 7 2 0 = 0 then h.lap.nextPhase phase from_ 8 0
  else
    let d := (h.lane n 7 3 0 + 65536 - h.lap.count % 65536) % 65536
    if 32767 < d then none
    else match h.lap.timeOf d phase with
      | some t => if from_ ≤ t then some ((h.lap.count + d) % 2 ^ 48, t) else none
      | none => none

/-- A report of a bank that a resolved schedule ran or was dropped (R266, R267): it has ended once every bank has reported. A bank that ran a
schedule cancelled meanwhile has acted first (R268). -/
def Hub.scheduleReport (h : Hub) (bank n : Nat) (ran : Bool) : Hub × List Notice :=
  let x := h.schedule n
  if !x.banks.contains bank then (h, [])
  else if !ran then
    let (h, m) := h.dropSchedule n
    (h.onSchedule n fun x => { x with banks := [] }, m)
  else
    let left := x.banks.filter (· != bank)
    let h := h.onSchedule n fun x => { x with banks := left }
    if !left.isEmpty then (h, [])
    else
      let h := if x.status = 4 then h else h.onRun fun r =>
        { r with accepted := r.accepted.put (objKey (laneIdx n 0) 1) (driveCode x.cmd), inForce := r.inForce.put (objKey (laneIdx n 0) 1) (driveCode x.cmd) }
      (h.onSchedule n fun x => { x with status := 3, governed := false },
       if x.late then [.fault 0x55 1 n] else [])

/-- A resolved schedule acts in a bank, at the moment `tag` of the bank's: later than its target where the command reached the bank after it, and with the
lap then perhaps other than Locked (R267). -/
def Hub.scheduleActs (h : Hub) (n tag : Nat) : Hub :=
  h.onSchedule n fun x => if x.status = 2 then
      { x with unlocked := x.unlocked || decide (h.lap.mode ≠ .locked), late := x.late || (match x.at_ with | some t => decide (t < tag) | none => false) }
    else x

/-- At its execution the command of a resolved schedule would be refused under R129 or R123 (Table 09-3). -/
def Hub.scheduleRefused (h : Hub) (n : Nat) : Bool :=
  decide ((h.schedule n).status = 2) && decide (h.commandRefusal n (h.schedule n).cmd ≠ 0)

end Sys2Proof.Machine
end

