-- ==== Sys2Proof/Machine/TeamOps.lean ====
section
/-! DEFINITION. Teams (chapter 16): frames and their tags (R440 to R442), reservations (R457, R458), election and agreement (R445 to R456),
proposals, intents and their undoing (R460 to R465). -/

namespace Sys2Proof.Machine

def Hub.onTeam (h : Hub) (f : Team → Team) : Hub := h.onRun fun r => { r with team := f r.team }
def Hub.member (h : Hub) (m : Nat) : Member := h.run.team.members.getD m {}
def Hub.onMember (h : Hub) (m : Nat) (f : Member → Member) : Hub := h.onTeam fun t => { t with members := editAt t.members m f }

/-- Member timeout in ns, commit deadline in lap units, budget limits (R430). -/
def Hub.memberTimeout (h : Hub) : Nat := h.act 0x6000 7 100 * 1000000
def Hub.commitLead (h : Hub) : Nat := h.act 0x6000 8 0x1000
def Hub.budgetLimit (h : Hub) (b : Nat) : Nat := h.act 0x6003 (b + 1) 0

/-- The unit is in a team state other than not a member. -/
def Hub.inTeam (h : Hub) : Bool := decide (h.run.team.mode ≠ .none)

/-! ## Reservations -/

/-- Budget of a governed lane, none where the lane is not governed (R457). -/
def Hub.governed (h : Hub) (n : Nat) : Option Nat :=
  let b := h.act 0x6004 (n + 1) 0xFF
  if h.inTeam && decide (b < 4) && decide (h.budgetLimit b ≠ 0) && decide (h.act 0x6005 (n + 1) 0 ≠ 0) then some b else none

/-- The unit's own on-current for a budget (R457). -/
def Hub.onCurrent (h : Hub) (b : Nat) : Nat :=
  (((List.range 48).filter fun n => decide (h.governed n = some b) && decide (h.command n ≠ .off)).map fun n => h.act 0x6005 (n + 1) 0).sum

/-- An entry counts as pending. -/
def pendingOf (is : List Intent) (b : Nat) : Nat :=
  ((is.flatMap Intent.entries).filter fun e => e.live && decide (e.budget = b)).map IntentEntry.current |>.sum

/-- What a unit computes for reserved now of a budget (R458). -/
def Hub.bookings (h : Hub) (b : Nat) : Nat :=
  if h.budgetLimit b = 0 then 0
  else h.onCurrent b + ((h.run.team.members.filter fun x => decide (x.mode ≠ .none)).map fun x => x.onCurrent.getD b 0).sum
    + pendingOf h.run.team.intents b

/-- Carry a change of the bookings into the unit's copy of reserved now (R458). -/
def Hub.rebook (before h : Hub) : Hub :=
  if h.inTeam then
    h.onTeam fun t => { t with reserved := (List.range 4).map fun b => t.reserved.getD b 0 + h.bookings b - before.bookings b }
  else h.onTeam fun t => { t with reserved := [0, 0, 0, 0] }

/-! ## Frames -/

/-- A time field: seconds modulo 2^32 and nanoseconds (R442). -/
def timeField (ns : Nat) : List Byte := leBytes 4 (ns / 1000000000) ++ leBytes 4 (ns % 1000000000)

/-- The time of domain P nearest above the present 2^32 s that a time field names, in ns. -/
def Hub.timeOf (h : Hub) (body : List Byte) (at_ : Nat) : Nat :=
  (h.time.seconds / 2 ^ 32 * 2 ^ 32 + leField body at_ 4) * 1000000000 + leField body (at_ + 4) 4

/-- Header and tag of a team frame (Table 16-1, R441). -/
def Hub.teamPayload (h : Hub) (type : Nat) (body : List Byte) : List Byte :=
  let header := [2#8, 1#8, BitVec.ofNat 8 type, BitVec.ofNat 8 h.ownNumber] ++ leBytes 4 (h.act 0x6000 2 0) ++ leBytes 4 h.run.team.epoch
    ++ leBytes 4 h.run.team.seq ++ leBytes 2 body.length ++ [0#8, 0#8]
  header ++ body ++ (hmac ((h.key .service).getD []) (header ++ body)).take 8

/-- Send a team frame on the ports that run, as port 2 sends to a group address (R439, R440). -/
def Hub.sendTeam (h : Hub) (type : Nat) (body : List Byte) : Hub :=
  if h.net.port0.running || h.net.port1.running then
    (h.sendFrame teamMac (etherFrame teamMac none 0x88B5 (h.teamPayload type body))).onTeam fun t => { t with seq := (t.seq + 1) % 2 ^ 32 }
  else h

/-- Body length that a frame type calls for (R442). -/
def teamLengthOk (type : Nat) (body : List Byte) : Bool :=
  match type with
  | 1 => decide (body.length = 60)
  | 2 => decide (body.length = 12)
  | 3 => decide (body.length = 24)
  | 4 => decide (body.length = 4)
  | 5 => decide (body.length = 20)
  | 6 => decide (body.length = 4)
  | 7 => let n := leField body 16 1; decide (1 ≤ n) && decide (n ≤ 16) && decide (body.length = 20 + 12 * n)
  | 8 => decide (body.length = 4)
  | 9 => decide (body.length = 8)
  | 10 => decide (body.length = 4)
  | _ => false

/-- The header and body of an acceptable team frame from a MAC address (R441), none where it is discarded. -/
def Hub.teamAccept (h : Hub) (mac : Nat) (data : List Byte) : Option (List Byte × List Byte) :=
  let header := data.take 20
  let len := leField data 16 2
  let body := slice data 20 len
  let epoch := leField data 8 4
  let fresh := match h.run.team.checks.find? fun c => c.mac == mac with
    | some c => decide (c.epoch ≠ epoch) || decide (c.seq < leField data 12 4)
    | none => true
  if decide (28 + len ≤ data.length) && decide (data.getD 1 0#8 = 1#8) && decide (leField data 4 4 = h.act 0x6000 2 0)
      && teamLengthOk (leField data 2 1) body && fresh && decide (leField data 3 1 < 8)
      && decide (slice data (20 + len) 8 = (hmac ((h.key .service).getD []) (header ++ body)).take 8) then
    some (header, body)
  else none

/-- Note the sequence of an accepted frame. -/
def Hub.teamHeard (h : Hub) (mac : Nat) (header : List Byte) : Hub :=
  h.onTeam fun t => { t with checks := { mac := mac, epoch := leField header 8 4, seq := leField header 12 4 } :: t.checks.filter fun c => c.mac != mac }

/-! ## Own figures -/

/-- Does a unit with these figures qualify for time (R453)? -/
def timeQualifies (state : Nat) (offset : Int) (limitHit : Bool) (limit : Nat) : Bool :=
  if state = 3 ∨ state = 4 ∨ state = 7 then decide (2 * offset.natAbs ≤ limit)
  else decide (state = 5 ∨ state = 6) && !limitHit

def Hub.ownQualifies (h : Hub) : Bool := timeQualifies (pStateCode h.time.state) h.time.servo.offset h.time.limitHit (h.act 0x6000 9 10000)
def Hub.memberQualifies (h : Hub) (m : Nat) : Bool :=
  let x := h.member m
  timeQualifies x.timeState x.offset x.limitHit (h.act 0x6000 9 10000)

/-- STATUS body (Table 16-3). -/
def State.statusBody (s : State) : List Byte :=
  let h := s.hub
  let t := h.run.team
  leBytes 1 (teamCode t.mode) ++ leBytes 1 (h.act 0x6000 5 128) ++ leBytes 1 t.pacer ++ leBytes 1 (bits ((List.range 8).map s.memberPresent))
    ++ leBytes 2 s.rtVersion ++ leBytes 1 (pStateCode h.time.state) ++ leBytes 1 (if h.time.limitHit then 1 else 0) ++ leBytes 4 h.teamHash
    ++ beBytes 8 h.refIdentity ++ leBytes 4 (ofSigned 32 h.time.servo.offset) ++ leBytes 4 t.lastIntent
    ++ (List.range 4).flatMap (fun b => leBytes 4 (t.reserved.getD b 0)) ++ (List.range 4).flatMap (fun b => leBytes 4 (h.onCurrent b))

/-! ## Presence, election and agreement -/

/-- Units heard within the member timeout, by number. -/
def Hub.heardUnits (h : Hub) (now : Nat) : List Nat := (List.range 8).filter fun m =>
  decide (m ≠ h.ownNumber) && (match (h.member m).heardAt with | some t => decide (now < t + h.memberTimeout) | none => false)

/-- A present unit with another MAC address, or this unit, holds the member number (R448). -/
def Hub.numberTaken (h : Hub) (mac num now : Nat) : Bool :=
  decide (num = h.ownNumber) || ((h.heardUnits now).contains num && decide ((h.member num).mode ≠ .none) && decide ((h.member num).mac ≠ mac))

/-- Election key (R445): rank, number, MAC address. -/
def electionKey (rank number mac : Nat) : Nat := (rank * 256 + number) * 2 ^ 48 + mac
def Hub.keyOf (h : Hub) (m : Nat) : Nat :=
  if m = h.ownNumber then electionKey (h.act 0x6000 5 128) m ownMac else electionKey (h.member m).rank m (h.member m).mac

/-- Team hash of a unit. -/
def Hub.hashOf (h : Hub) (m : Nat) : Nat := if m = h.ownNumber then h.teamHash else (h.member m).hash

/-- The one of a list with the lowest key. -/
def lowestBy (key : Nat → Nat) : List Nat → Option Nat
  | [] => none
  | a :: as => match lowestBy key as with
    | some b => if key b < key a then some b else some a
    | none => some a

/-- Reference hash (R451): that of the largest number of present units; a tie goes to the tied unit with the lowest key. -/
def Hub.refHash (h : Hub) (now : Nat) : Nat :=
  let units := h.ownNumber :: h.heardUnits now
  let count (m : Nat) : Nat := (units.filter fun u => decide (h.hashOf u = h.hashOf m)).length
  let most := (units.map count).foldl max 0
  match lowestBy h.keyOf (units.filter fun m => decide (count m = most)) with
  | some m => h.hashOf m
  | none => h.teamHash

/-- Eligible units among those present (R446). -/
def Hub.eligible (h : Hub) (now : Nat) : List Nat :=
  let units := h.ownNumber :: h.heardUnits now
  let ref := h.refHash now
  let qualifies (m : Nat) : Bool := if m = h.ownNumber then h.ownQualifies else h.memberQualifies m
  let some_ := units.any qualifies
  units.filter fun m => decide (h.hashOf m = ref) && (qualifies m || !some_)

/-- Frames that a unit sends of itself. -/
def State.joinBody (s : State) : List Byte :=
  leBytes 1 (s.hub.act 0x6000 5 128) ++ [0#8, 0#8, 0#8] ++ leBytes 2 s.rtVersion ++ [0#8, 0#8] ++ leBytes 4 s.hub.teamHash

/-- Send JOIN and enter joining. -/
def State.join (s : State) (pacer : Nat) : State :=
  s.onHub fun h => (h.sendTeam 2 s.joinBody).onTeam fun t => { t with mode := .joining, pacer := pacer, joinAt := s.now, claimBy := none, excluded := [] }

/-- Enter forming with a new formation window (R445). -/
def State.form (s : State) : State :=
  s.onHub fun h => h.onTeam fun t => { t with mode := .forming, pacer := 0xFF, windowAt := s.now, claimBy := none, excluded := [], proposals := [] }

/-! ## Intents and proposals -/

/-- Lap units of an intent's lap in ns. -/
def lapUnits (lapNs units : Nat) : Nat := units * lapNs / 65536

/-- Drop the schedule of an own proposal (Table 16-6). -/
def Hub.dropProposal (h : Hub) (lane : Nat) : Hub × List Notice :=
  if (h.schedule lane).governed then h.dropSchedule lane else (h, [])

/-- Change the entries of intents. -/
def Hub.onIntents (h : Hub) (f : Intent → Intent) : Hub := h.onTeam fun t => { t with intents := t.intents.map f }

/-- Release entries of an uncommitted intent. -/
def Intent.release (i : Intent) (mask : Nat → IntentEntry → Bool) : Intent :=
  if i.committed then i else { i with entries := mapFrom (fun k e => if mask k e then { e with live := false } else e) 0 i.entries }

/-- Mask of the live entries that satisfy a condition. -/
def entryMask (i : Intent) (f : IntentEntry → Bool) : Nat := bits (i.entries.map fun e => e.live && f e)

/-- Lowest runtime version of the team (R452). -/
def State.teamVersion (s : State) : Nat :=
  ((List.range 8).filter s.memberPresent).foldl (fun v m => min v (s.memberValue m 3)) s.rtVersion

/-- Proposers of the live entries of an uncommitted intent that a CANCEL names. -/
def Intent.hit (i : Intent) (f : Intent → Nat → IntentEntry → Bool) : List Nat :=
  if i.committed then [] else (mapFrom (fun k (e : IntentEntry) => if e.live && f i k e then some e.member else none) 0 i.entries).filterMap id

/-- Entries are undone through CANCEL (R464): released, counted and reported once for each intent; an intent with nothing left in it is gone. -/
def Hub.undo (h : Hub) (f : Intent → Nat → IntentEntry → Bool) : Hub × List Notice :=
  let counted := h.run.team.intents.filter fun i => !i.cut && !(i.hit f).isEmpty
  (h.onTeam fun t => { t with
     intents := (t.intents.map fun i => if (i.hit f).isEmpty then i else { i.release (f i) with cut := true }).filter fun i => i.committed || i.entries.any IntentEntry.live
     undone := t.undone + BitVec.ofNat 32 counted.length },
   counted.map fun i => .fault 0x54 1 ((i.hit f).headD 0xFF))

/-- The pacer cancels uncommitted entries with a reason, by one CANCEL per intent. In a team at runtime 3.1 or below it sends none, and does not
commit them: they lapse (R464). -/
def State.cancel (s : State) (reason : Nat) (f : IntentEntry → Bool) : State :=
  let cut (i : Intent) : Bool := i.mine && !i.committed && decide (entryMask i f ≠ 0)
  if s.teamVersion < 0x0302 then s.onHub fun h => h.onIntents fun i => if cut i then { i with barred := true } else i
  else
    let s := (s.hub.run.team.intents.filter cut).foldl (fun s i => s.onHub fun h =>
      h.sendTeam 9 (leBytes 4 i.seq ++ leBytes 2 (entryMask i f) ++ [BitVec.ofNat 8 reason, 0#8])) s
    let (h, n) := s.hub.undo fun i _ e => i.mine && f e
    State.notify { s with hub := h } n

/-- The lane's proposal is an entry of a committed intent. -/
def Hub.committedLane (h : Hub) (n : Nat) : Bool :=
  h.run.team.intents.any fun i => i.committed && i.entries.any fun e =>
    e.live && decide (e.member = h.ownNumber) && decide (e.lane = n) && decide (e.proposal = (h.schedule n).proposal)

/-- Lanes whose governed schedule is armed and not yet committed. -/
def Hub.proposedLanes (h : Hub) : List Nat :=
  (List.range 48).filter fun n => (h.schedule n).governed && decide ((h.schedule n).status = 1) && !h.committedLane n

/-- Defer a proposal by one pacer lap; the eighth deferral drops it with REJECT (R461). -/
def Hub.defer (h : Hub) (p : Proposal) : Hub × List Notice :=
  let lap := h.lap.length.ceil.toNat
  if p.deferred + 1 < 8 then
    (h.onTeam fun t => { t with proposals := t.proposals ++ [{ p with target := p.target + lap, deferred := p.deferred + 1 }] }, [])
  else if p.member = h.ownNumber then h.dropProposal p.lane
  else (h.sendTeam 10 (leBytes 1 p.member ++ [1#8] ++ leBytes 2 p.id), [])

/-- Queue a proposal (R461). One that comes after its publication time is deferred at once. -/
def Hub.queueProposal (h : Hub) (p : Proposal) : Hub × List Notice :=
  let h := h.onTeam fun t => { t with arrivals := t.arrivals + 1 }
  if p.target < h.time.pNs + lapUnits h.lap.length.ceil.toNat 0x8000 then h.defer p
  else (h.onTeam fun t => { t with proposals := t.proposals ++ [p] }, [])

/-- Announce a proposal: queued where this unit is the pacer, unless 32 are queued (the schedule is then dropped), otherwise sent to it
(R460, R461). -/
def State.propose (s : State) (lane : Nat) : State :=
  let h := s.hub
  let x := h.schedule lane
  match h.governed lane, x.at_ with
  | some b, some at_ =>
    let id := h.run.team.nextProp % 65536
    let cur := h.act 0x6005 (lane + 1) 0
    let s := s.onHub fun h => (h.onSchedule lane fun x => { x with governed := true, proposal := id }).onTeam fun t => { t with nextProp := t.nextProp + 1 }
    if h.run.team.mode = .pacer ∧ 32 ≤ h.run.team.proposals.length then
      let (h, n) := s.hub.dropSchedule lane
      State.notify { s with hub := h } n
    else if h.run.team.mode = .pacer then
      let (h, n) := s.hub.queueProposal { member := h.ownNumber, id := id, lane := lane, cmd := driveCode x.cmd, budget := b, current := cur
                                          target := at_, arrival := h.run.team.arrivals }
      State.notify { s with hub := h } n
    else if h.run.team.mode = .member then
      s.onHub fun h => h.sendTeam 5 (leBytes 2 id ++ leBytes 1 lane ++ leBytes 1 (driveCode x.cmd) ++ timeField at_ ++ leBytes 1 b ++ [0#8, 0#8, 0#8] ++ leBytes 4 cur)
    else s
  | _, _ => s

/-- Hold the election of R445: become pacer, or wait one member timeout for the winner's claim. A member that wins has a new pacer, itself: it
treats the former one's intents under R464 and proposes its armed schedules again (R447). -/
def State.elect (s : State) : State × List Notice :=
  let h := s.hub
  match lowestBy h.keyOf ((h.eligible s.now).filter fun m => !h.run.team.excluded.contains m) with
  | none => (s.form, [])
  | some m =>
    if m = h.ownNumber then
      let s := s.onHub fun h => h.onTeam fun t =>
        { t with mode := .pacer, pacer := m, claimBy := none, excluded := [], nextIntent := t.lastIntent + 1, intents := t.intents.filter Intent.committed }
      (s.hub.proposedLanes.foldl State.propose s, if h.run.team.mode = .forming then [] else [.fault 0x52 3 m])
    else (s.onHub fun h => h.onTeam fun t => { t with claimBy := some (s.now + h.memberTimeout), winner := m }, [])

/-- Withdraw a lane's proposal (R464): at the pacer it is removed, with CANCEL where it has been published; a member sends WITHDRAW. -/
def State.withdraw (s : State) (lane : Nat) : State :=
  let h := s.hub
  let x := h.schedule lane
  if !x.governed then s
  else
    let s := s.onHub fun h => h.onSchedule lane fun x => { x with governed := false }
    if h.run.team.mode = .pacer then
      (s.onHub fun h => h.onTeam fun t => { t with proposals := t.proposals.filter fun p => !(p.member == h.ownNumber && p.id == x.proposal) }).cancel 1
        fun e => decide (e.member = h.ownNumber) && decide (e.proposal = x.proposal)
    else s.onHub fun h => h.sendTeam 6 (leBytes 2 x.proposal ++ [0#8, 0#8])

/-- Act on an own entry of a committed intent (R462): resolve its schedule, or drop it where the minimum lead is not left. A link cycle that has no room
leaves it to a later one (R276). -/
def Hub.commitEntry (h : Hub) (i : Intent) (now : Nat) (e : IntentEntry) : Hub × List Notice :=
  let x := h.schedule e.lane
  if !(x.governed && decide (x.proposal = e.proposal) && decide (x.status = 1)) then (h, [])
  else if i.target < h.time.pNs + h.lapLead then h.dropSchedule e.lane
  else if !h.mayResolve (now / cycleTime) then (h, [])
  else
    let late := decide (x.at_ ≠ some i.target)
    ((h.onSchedule e.lane fun x => { x with late := late }).resolveAt e.lane (now / cycleTime) (now + (i.target - h.time.pNs)), [])

/-- Act on the own entries of a committed intent that satisfy `which`. -/
def Hub.actOnCommit (h : Hub) (i : Intent) (now : Nat) (which : IntentEntry → Bool) : Hub × List Notice :=
  (i.entries.filter fun e => e.live && decide (e.member = h.ownNumber) && which e).foldl (fun (acc : Hub × List Notice) e =>
    let (h, n) := acc.1.commitEntry i now e
    (h, acc.2 ++ n)) (h, [])

/-- The schedule of a lane whose intent has been committed and that a full link cycle left over. -/
def Hub.resolveCommitted (h : Hub) (n now : Nat) : Hub × List Notice :=
  (h.run.team.intents.filter Intent.committed).foldl (fun (acc : Hub × List Notice) i =>
    let (h, m) := acc.1.actOnCommit i now fun e => decide (e.lane = n)
    (h, acc.2 ++ m)) (h, [])

/-- A committed intent at its target: its currents move to the on-currents of their proposers (R458), and it is gone. -/
def Hub.intentReached (h : Hub) : Hub :=
  let now := h.time.pNs
  let due := h.run.team.intents.filter fun i => i.committed && decide (i.target ≤ now)
  let h := due.foldl (fun h i => (i.entries.filter IntentEntry.live).foldl (fun (h : Hub) e =>
    if e.member = h.ownNumber then h
    else h.onMember e.member fun x => { x with onCurrent := editAt x.onCurrent e.budget fun c => c + e.current }) h) h
  h.onTeam fun t => { t with intents := t.intents.filter fun i => !(i.committed && decide (i.target ≤ now)) }

/-- Intents that passed their commit deadline uncommitted lapse (R462, R464): released, counted, and the schedules concerned dropped. -/
def Hub.commitMissing (h : Hub) : Hub × List Notice :=
  let now := h.time.pNs
  let late (i : Intent) : Bool := !i.committed && decide (i.target ≤ now + lapUnits i.lapNs h.commitLead)
  let due := h.run.team.intents.filter fun i => late i && i.entries.any IntentEntry.live
  let h := h.onTeam fun t => { t with intents := t.intents.filter fun i => !late i, missing := t.missing + BitVec.ofNat 32 due.length }
  due.foldl (fun (acc : Hub × List Notice) i =>
    let own := i.entries.filter fun e => e.live && decide (e.member = acc.1.ownNumber)
    own.foldl (fun (acc : Hub × List Notice) e =>
      let (h, n) := acc.1.dropProposal e.lane
      (h, acc.2 ++ n)) (acc.1, acc.2 ++ [.fault 0x54 2 (((i.entries.filter IntentEntry.live).map IntentEntry.member).headD 0xFF)])) (h, [])

/-- Insert a proposal in order of target, then of arrival (R461). -/
def insertProposal (p : Proposal) : List Proposal → List Proposal
  | [] => [p]
  | q :: qs => if p.target < q.target ∨ (p.target = q.target ∧ p.arrival < q.arrival) then p :: q :: qs else q :: insertProposal p qs

/-- Put an admitted proposal into the intent being published for its target, or begin one (R461). -/
def Hub.takeProposal (h : Hub) (p : Proposal) : Hub :=
  let entry : IntentEntry := { member := p.member, lane := p.lane, cmd := p.cmd, budget := p.budget, proposal := p.id, current := p.current }
  let open_ (i : Intent) : Bool := i.mine && i.fresh && decide (i.target = p.target) && decide (i.entries.length < 16)
  if h.run.team.intents.any open_ then h.onIntents fun i => if open_ i then { i with entries := i.entries ++ [entry] } else i
  else h.onTeam fun t =>
    { t with intents := t.intents ++ [{ seq := t.nextIntent, target := p.target, lapNs := h.lap.length.ceil.toNat, entries := [entry], mine := true, fresh := true }]
             nextIntent := (t.nextIntent + 1) % 2 ^ 32 }

/-- Body of an INTENT (Table 16-2). -/
def intentBody (i : Intent) : List Byte :=
  leBytes 4 i.seq ++ timeField i.target ++ leBytes 4 i.lapNs ++ leBytes 1 i.entries.length ++ [0#8, 0#8, 0#8]
    ++ i.entries.flatMap fun e => leBytes 1 e.member ++ leBytes 1 e.lane ++ leBytes 1 e.cmd ++ leBytes 1 e.budget ++ leBytes 2 e.proposal ++ [0#8, 0#8] ++ leBytes 4 e.current

/-- The publication time of due proposals (R461): in order of target and arrival each is admitted or deferred, and the intents so formed are
sent. An own intent counts as received when it is published. -/
def Hub.publish (h : Hub) : Hub × List Notice :=
  let now := h.time.pNs
  let half := lapUnits h.lap.length.ceil.toNat 0x8000
  let due := (h.run.team.proposals.filter fun p => decide (p.target ≤ now + half)).foldl (fun l p => insertProposal p l) []
  let h := h.onTeam fun t => { t with proposals := t.proposals.filter fun p => !decide (p.target ≤ now + half) }
  let reserved (g : Hub) (b : Nat) : Nat := h.run.team.reserved.getD b 0 + g.bookings b - h.bookings b
  let (h, n) := due.foldl (fun (acc : Hub × List Notice) p =>
    let held := acc.1.run.team.intents.filter fun i => i.mine
    let joins := held.any fun i => i.fresh && decide (i.target = p.target) && decide (i.entries.length < 16)
    let fits := decide (reserved acc.1 p.budget + p.current ≤ acc.1.budgetLimit p.budget)
    if fits && (joins || decide (held.length < 16)) then (acc.1.takeProposal p, acc.2)
    else let (h, n) := acc.1.defer p; (h, acc.2 ++ n)) (h, [])
  let fresh := h.run.team.intents.filter fun i => i.mine && i.fresh
  let h := fresh.foldl (fun h i => h.sendTeam 7 (intentBody i)) h
  ((h.onIntents fun i => if i.mine then { i with fresh := false } else i).onTeam fun t => { t with seen := t.seen + BitVec.ofNat 32 fresh.length }, n)

/-- The pacer sends the commits that are due (R462) and acts on its own entries. An intent past its commit deadline gets none: no member would act on it. -/
def Hub.sendCommits (h : Hub) (now : Nat) : Hub × List Notice :=
  let due := h.run.team.intents.filter fun i => i.mine && !i.committed && !i.barred
    && decide (i.target ≤ h.time.pNs + lapUnits i.lapNs (h.commitLead + 0x0800)) && decide (h.time.pNs + lapUnits i.lapNs h.commitLead ≤ i.target)
  due.foldl (fun (acc : Hub × List Notice) i =>
    let h := acc.1.sendTeam 8 (leBytes 4 i.seq)
    let h := (h.onIntents fun j => if j.mine && decide (j.seq = i.seq) then { j with committed := true } else j).onTeam fun t => { t with lastIntent := i.seq }
    let (h, n) := h.actOnCommit i now fun _ => true
    (h, acc.2 ++ n)) (h, [])

/-! ## The frame of a team event -/

/-- Kinds of source 0x53 that stand, with their addresses (Table 16-4). -/
def State.disagreements (s : State) : List (Nat × Nat) :=
  let h := s.hub
  let t := h.run.team
  let ref := h.refHash s.now
  let present := (List.range 8).filter fun m => decide (m ≠ h.ownNumber) && s.memberPresent m
  let versions := if (present.any fun m => decide (s.memberValue m 3 ≠ s.rtVersion)) && decide (t.mode = .member ∨ t.mode = .pacer ∨ t.mode = .outOfAgreement) then
      [(2, (lowestBy (fun m => s.memberValue m 3) (h.ownNumber :: present)).getD h.ownNumber)] else []
  if t.mode = .member ∨ t.mode = .outOfAgreement then
    (if t.badHash then [(1, t.pacer)] else []) ++ versions ++ (if t.badTime then [(3, t.pacer)] else []) ++ (if t.badState then [(4, t.pacer)] else [])
  else if t.mode = .pacer then
    (present.filter fun m => decide (h.hashOf m ≠ ref)).map (fun m => (1, m)) ++ versions
      ++ (present.filter fun m => (h.member m).badTime).map (fun m => (3, m)) ++ (present.filter fun m => (h.member m).badState).map (fun m => (4, m))
  else []

/-- Withdraw a lane's proposal, whose schedule ends dropped (R456). -/
def Hub.withdrawDropped (h : Hub) (lane : Nat) : Hub × List Notice :=
  (h.sendTeam 6 (leBytes 2 (h.schedule lane).proposal ++ [0#8, 0#8])).dropSchedule lane

/-- The agreement of a member as it now stands (R451, R453 to R456): out of agreement it withdraws its proposals, and the schedules concerned
are dropped; in agreement again it is a member. A pacer that holds another hash than the reference yields (R446, R447). -/
def State.judge (s : State) : State × List Notice :=
  let ref := s.hub.refHash s.now
  let s := s.onHub fun h => h.onTeam fun t => { t with badHash := decide (t.mode = .member ∨ t.mode = .outOfAgreement) && decide (h.teamHash ≠ ref) }
  let t := s.hub.run.team
  let bad := t.badHash || t.badTime || t.badState
  if t.mode = .member ∧ bad then
    let (h, n) := s.hub.proposedLanes.foldl (fun (acc : Hub × List Notice) n =>
      let (h, m) := acc.1.withdrawDropped n
      (h, acc.2 ++ m)) (s.hub, [])
    let s : State := { s with hub := h }
    (s.onHub fun h => h.onTeam fun t => { t with mode := .outOfAgreement }, n)
  else if t.mode = .outOfAgreement ∧ !bad then (s.onHub fun h => h.onTeam fun t => { t with mode := .member }, [])
  else if t.mode = .pacer ∧ !(s.hub.eligible s.now).contains s.hub.ownNumber then ((s.cancel 3 fun _ => true).form, [])
  else (s, [])

/-- One team event: it acts, the agreement is judged, the reservations are carried over (R458), and changes since the state `old` of the own state,
of member entries (R439) and of the disagreements (R455) are reported. -/
def State.teamSince (old s : State) (f : State → State × List Notice) : State :=
  let (s1, n1) := f s
  let (s2, n2) := s1.judge
  let s3 : State := { s2 with hub := s.hub.rebook s2.hub }
  let own := if old.hub.run.team.mode = s3.hub.run.team.mode then [] else
    [Notice.event 14 0x6001 1, .journal 0xD (teamCode s3.hub.run.team.mode) [BitVec.ofNat 8 s3.hub.ownNumber]]
  let entries := ((List.range 8).filter fun m => old.memberValue m 1 != s3.memberValue m 1 && decide (m ≠ s3.hub.ownNumber)).map fun m => Notice.event 14 (0x6010 + m) 1
  let stand := s3.disagreements
  let raised := s3.hub.run.team.raised
  let s4 := s3.onHub fun h => h.onTeam fun t => { t with raised := stand }
  s4.notify (n1 ++ n2 ++ own ++ entries ++ ((stand.filter fun k => !raised.contains k).map fun k => .fault 0x53 k.1 k.2)
    ++ (if stand.isEmpty && !raised.isEmpty then [.gone 0x53] else []))

/-- A team event with its changes reported since its beginning. -/
def State.team (s : State) (f : State → State × List Notice) : State := s.teamSince s f

end Sys2Proof.Machine
end

