-- ==== Sys2Proof/Machine/LaneWrite.lean ====
section
/-! DEFINITION. What a write to an object of a lane, of the lane map, of a profile slot or of a bank's patterns does (chapters 04 to 09): refusals of
the state (0x0307 to 0x0309), the value accepted, and the commands to the banks. -/

namespace Sys2Proof.Machine

/-- Does an effect code act when the value is accepted? Values of commands and parameters at the bank link or at an event are taken from
the accepted ones. -/
def Effect.acts (e : Effect) : Bool := decide (e = .i ∨ e = .iPlus ∨ e = .f ∨ e = .x)

/-- Accept the value of a plain object. -/
def State.keep (s : State) (r : ObjRow) (idx sub v : Nat) : State :=
  s.onHub fun h => let h := h.put idx sub v r.eff.acts; if r.stored then h.touch s.now else h

/-! ## Degraded lanes (R126) -/

/-- The bank whose channel cannot carry the load of a degraded pair. -/
def Hub.affectedBank (h : Hub) (n : Nat) : Nat := (((h.chansOf n).find? h.cannot).getD 0) / 12

/-- Reports of the lanes that have become degraded or are so no longer, on the event of the affected bank. -/
def Hub.degradedNotices (before after : Hub) : List Notice :=
  ((List.range 48).filter fun n => before.degraded n != after.degraded n).map fun n =>
    .event ((if after.degraded n then after else before).affectedBank n) (laneIdx n 0) 2

/-! ## Lanes -/

/-- Group commands that carry a lane's settings to its channels (R29, R109, R193, R225, R270). -/
def Hub.laneConfig (h : Hub) (n g sub : Nat) : List Order :=
  (h.chansOf n).flatMap fun ch =>
    let o (c : BankCmd) : Order := { bank := ch / 12, lane := n, cmd := c }
    let p := ch % 12
    match g with
    | 1 => [o (.setIo p (h.ioCfg n))]
    | 2 => [o (.setIo p (h.ioCfg n))]
    | 3 => [o (.setLoad p (h.loadCfg n ch))]
    | 4 => o (.setProt p (h.protCfg n ch)) :: (if sub = 1 then [o (.setLoad p (h.loadCfg n ch))] else [])
    | 5 => [o (.setWarn p (h.warnLevel n))]
    | 6 => [o (.setPattern p (h.patternCfg n))]
    | 7 => [o (.setSync p (h.senseSync n))]
    | _ => []

/-- A pattern entry of the lane is FOLLOW. -/
def Hub.followsInPattern (h : Hub) (n : Nat) : Bool := decide (h.lane n 6 1 0 = 2) || decide (h.lane n 6 2 0 = 2)

/-- Classes whose ranges bind a lane's protection values: those of its mapped channels, or of OUTn for a vacant lane (R193). -/
def Hub.laneClasses (h : Hub) (n : Nat) : List ChClass := if (h.chansOf n).isEmpty then [classOf n] else (h.chansOf n).map classOf

/-- Abort code of a write to a configuration object of a lane; 0 where it is accepted (R106, R129, R134, R193, R225). -/
def Hub.laneRefusal (h : Hub) (n g sub v : Nat) : Nat :=
  match g, sub with
  | 1, 1 => if v = 0xFF ∧ (h.command n = .follow ∨ h.followsInPattern n) then 0x0307 else 0
  | 2, 2 => if v = 1 ∧ (h.chansOf n).any (fun ch => decide (classOf ch ≠ .l)) then 0x0307 else 0
  | 3, 1 => if h.command n ≠ .off ∨ (h.chansOf n).any h.chanOn then 0x0307 else 0
  | 4, 1 => if (h.laneClasses n).all fun c => decide (steadyMin c ≤ v) && decide (v ≤ steadyMax c) then 0 else 0x0306
  | 4, 8 => if (h.laneClasses n).all fun c => decide (v ≤ budgetMax c) then 0 else 0x0306
  | 6, 1 => if v = 2 ∧ h.noInput n then 0x0307 else 0
  | 6, 2 => if v = 2 ∧ h.noInput n then 0x0307 else 0
  | _, _ => 0

/-- A bank of a lane is being reset (Table 17-15). -/
def Hub.resettingBank (h : Hub) (n : Nat) : Bool := (banksOf (h.chansOf n)).any fun b => decide (h.run.service.getD b .inService = .resetting)

/-- A command that needs a bank: refused for a vacant lane (R27), and where no bank of the lane is there to take it (Table 13-8). -/
def Hub.needsBank (h : Hub) (n : Nat) : Nat :=
  if (h.chansOf n).isEmpty then 0x0308 else if (h.laneBanks n).isEmpty || h.resettingBank n then 0x0309 else 0

/-- A lane command cancels the lane's schedule (R268): one already resolved is cancelled in the banks with the command. -/
def State.cancelSchedule (s : State) (n : Nat) : State × List Order :=
  let x := s.hub.schedule n
  if x.status = 1 then ((s.withdraw n).onHub fun h => h.onSchedule n fun x => { x with status := 4 }, [])
  else if x.status = 2 then
    (s.onHub fun h => h.onSchedule n fun x => { x with status := 4, governed := false },
     (s.hub.laneBanks n).map fun b => { bank := b, lane := n, cmd := .cancelSchedule n })
  else (s, [])

/-- Tag of a command that several banks are to apply together (R128). -/
def State.tagOf (s : State) (banks : List Nat) : Option Nat := if 1 < banks.length then some (s.tagFor banks) else none

/-- A migration of a lane waits or is in progress (R493). -/
def Hub.migrating (h : Hub) (n : Nat) : Bool :=
  decide (h.run.migration.lane = n) && (decide (h.run.migration.result = 1) || decide (h.run.migration.result = 2))

/-- An activation or revert waits for its lap boundary (R433, R484). -/
def Hub.patchWaits (h : Hub) : Bool := (h.run.boundary.planned ++ h.run.planned).any fun p => decide (p = .activate ∨ p = .revert)

/-- A lane command, B.01 (R129, R130, R459, R493). -/
def State.laneCommand (s : State) (n : Nat) (d : Drive) : Written :=
  let h := s.hub
  if h.commandRefusal n d ≠ 0 then s.deny (h.commandRefusal n d)
  else if h.migrating n then s.deny 0x0307
  else if h.command n = .off ∧ d ≠ .off ∧ (h.governed n).isSome then s.deny 0x0307
  else if h.needsBank n ≠ 0 then s.deny (h.needsBank n)
  else
    let (s, cancels) := s.cancelSchedule n
    let s := s.onHub fun h => h.put (laneIdx n 0) 1 (driveCode d) true
    let s := State.notify { s with hub := h.rebook s.hub } (h.degradedNotices s.hub)
    s.command (cancels ++ s.hub.laneOrders n (s.tagOf (s.hub.laneBanks n)) false fun p => .setNormal p d)

/-- Unlock (R178). -/
def State.laneUnlock (s : State) (n : Nat) : Written :=
  let h := s.hub
  if h.needsBank n ≠ 0 then s.deny (h.needsBank n)
  else if h.command n ≠ .off ∨ (h.chansOf n).any h.chanOn
      ∨ h.anySeen n (fun _ _ x => decide (500 * x.cfg.prot.budget ≤ x.clamp.energy)) then s.deny 0x0307
  else s.command (h.laneOrders n none false .unlock)

/-- Snapshot trigger (R196): every bank captures at the origin of one cycle, and the objects are replaced once all have acknowledged. -/
def State.laneSnapshot (s : State) (n : Nat) : Written :=
  if s.hub.needsBank n ≠ 0 then s.deny (s.hub.needsBank n)
  else
    let tag := s.tagFor (s.hub.laneBanks n)
    let w := s.command ((s.hub.laneBanks n).map fun b => { bank := b, lane := n, tag := some tag, cmd := .snapshot (tag / cycleTime) })
    { w with state := w.state.onHub fun h => h.onRun fun r => { r with snapWait := r.snapWait ++ [(n, tag / cycleTime, w.ids)] } }

/-! ## Fail-safe commands and releases (R228, R231) -/

/-- OFF written to the command objects of lanes, with the orders that carry it. -/
def State.offLanes (s : State) (lanes : List Nat) : State × List Order :=
  lanes.foldl (fun (acc : State × List Order) n =>
    let (s, cancels) := acc.1.cancelSchedule n
    let s := s.onHub fun h => h.put (laneIdx n 0) 1 0 true
    (s, acc.2 ++ cancels ++ s.hub.laneOrders n none false fun p => .setNormal p .off)) (s, [])

/-- Does a channel carry a cause bit, or will it by a command that is still on its way? -/
def Hub.mayCarryCause (h : Hub) (ch : Nat) : Bool :=
  (match h.viewChan ch with | some x => x.inFailSafe | none => false)
    || (h.link (ch / 12)).queue.any fun r => match r.cmd.cmd with
      | .setC p v => v && decide (p = ch % 12)
      | .setW p v => v && decide (p = ch % 12)
      | .setX p v => v && decide (p = ch % 12)
      | _ => false

/-- A fail-safe command or release for physical channels, which changes nothing where none of them carries a cause bit (R231); `lanes` are the lanes that a release to OFF concerns. -/
def State.patternCommand (s : State) (chans lanes : List Nat) (v : Nat) : Written :=
  let h := s.hub
  let setC (c : Bool) : List Order := chans.map fun ch => { bank := ch / 12, lane := (h.owner ch).getD 0xFF, cmd := .setC (ch % 12) c }
  if v = 1 then s.command (setC true)
  else if (banksOf chans).any fun b => !h.present b then s.deny 0x0309
  else if chans.any fun ch => (match h.viewChan ch with | some x => x.io.w || x.io.x | none => false) then s.deny 0x0307
  else if !chans.any h.mayCarryCause then s.accept
  else if v = 2 then s.command (setC false)
  else
    let (s', offs) := s.offLanes lanes
    let s' := State.notify { s' with hub := h.rebook s'.hub } (h.degradedNotices s'.hub)
    s'.command (offs ++ setC false)

/-- The lane's fail-safe and release object, (B + 6).03. -/
def State.lanePattern (s : State) (n v : Nat) : Written :=
  if (s.hub.chansOf n).isEmpty then s.deny 0x0308
  else if v = 1 ∧ (s.hub.laneBanks n).isEmpty then s.deny 0x0309
  else s.patternCommand (s.hub.chansOf n) [n] v

/-- Channels and lanes of a bank. -/
def bankChans (b : Nat) : List Nat := (List.range 12).map fun p => 12 * b + p
def Hub.bankLanes (h : Hub) (b : Nat) : List Nat := (List.range 48).filter fun n => (h.chansOf n).any fun ch => decide (ch / 12 = b)

/-- The bank's fail-safe and release object, 0x2031.01 to .04. -/
def State.bankPatternWrite (s : State) (b v : Nat) : Written :=
  if !s.hub.present b then s.deny 0x0309 else s.patternCommand (bankChans b) (s.hub.bankLanes b) v

/-! ## Schedules (R264) -/

/-- A schedule armed less than 2 ms before its target is resolved at once (R265), if the cycle has room (R276). With no bank present to take the
command, it is dropped. -/
def State.resolveNow (s : State) (n at_ : Nat) : State :=
  if !s.hub.mayResolve s.cycle then s
  else if (s.hub.laneBanks n).isEmpty then
    let (h, m) := s.hub.dropSchedule n
    State.notify { s with hub := h } m
  else { s with hub := s.hub.resolveAt n s.cycle at_ }

/-- A write to the scheduled command, (B + 7).04: a schedule that the lane holds is replaced, and cancelled in the banks where it is resolved. None is armed
while the lane migrates (Table 17-15; DEDUCED, log 100), and none withdrawn that a commit has bound (R465). -/
def State.scheduleWrite (s : State) (n v : Nat) : Written :=
  let h := s.hub
  let x := h.schedule n
  if v = 0xFF then
    if h.committedLane n then s.deny 0x0307
    else if x.status = 1 then State.accept ((s.withdraw n).onHub fun h => h.onSchedule n fun x => { x with status := 4 })
    else if x.status = 2 ∧ x.governed then s.deny 0x0307
    else if x.status = 2 then
      (s.onHub fun h => h.onSchedule n fun x => { x with status := 4 }).command ((h.laneBanks n).map fun b => { bank := b, lane := n, cmd := .cancelSchedule n })
    else s.accept
  else
    let d := driveOf v
    if (h.chansOf n).isEmpty then s.deny 0x0308
    else if h.migrating n then s.deny 0x0307
    else if d = .follow ∧ h.noInput n then s.deny 0x0307
    else match h.armTarget n s.now with
    | none => s.deny 0x0307
    | some (lap, t) =>
      let governed := (h.governed n).isSome && decide (h.command n = .off) && decide (d ≠ .off)
      let far := decide (h.lap.position s.now + 0x18000 ≤ lap * 65536 + h.lane n 7 1 0)
      if governed && !(far && decide (h.run.team.mode = .member ∨ h.run.team.mode = .pacer)) then s.deny 0x0307
      else
        let (s, cancels) := s.cancelSchedule n
        let s : State := { s with hub := (s.hub.order cancels).1 }
        let fresh : Schedule := { status := 1, cmd := d, byLap := decide (h.lane n 7 2 0 = 1), lap := lap, phase := h.lane n 7 1 0
                                  at_ := if governed then some (h.time.pNs + (t.ceil.toNat - s.now)) else none, governed := governed }
        let s := s.onHub fun h => h.onSchedule n fun _ => fresh
        let s := if governed then s.propose n else s
        if !governed && decide (t ≤ s.now + 2000000) then State.accept (s.resolveNow n t.ceil.toNat) else s.accept

/-! ## Shedding priority (R212) -/

/-- Does a shed hold of a bank stand on a channel, or is one on its way? -/
def Hub.mayBeShed (h : Hub) (ch by_ : Nat) : Bool :=
  (match h.viewChan ch with | some x => x.thermal.shedBy.getLsbD by_ | none => false)
    || (h.link (ch / 12)).queue.any fun r => match r.cmd.cmd with
      | .shed p b v => v && decide (p = ch % 12) && decide (b = by_)
      | _ => false

/-- A priority changed to 0 restores at once a lane that was shed with another. -/
def State.shedPriority (s : State) (r : ObjRow) (n v : Nat) : State :=
  let s := s.keep r (laneIdx n 5) 2 v
  if v ≠ 0 then s
  else
    let orders : List Order := (List.range 4).flatMap fun by_ =>
      ((s.hub.chansOf n).filter fun ch => s.hub.mayBeShed ch by_).map fun ch => { bank := ch / 12, lane := n, cmd := .shed (ch % 12) by_ false }
    let (h, _) := s.hub.order orders
    { s with hub := h.onRun fun r => { r with
        shed := r.shed.map fun l => (l.map fun g => (g.1, g.2.filter (· != n))).filter fun g => !g.2.isEmpty } }

/-! ## Lane groups -/

/-- A write to object `sub` of group `g` of lane n. -/
def State.writeLane (s : State) (r : ObjRow) (n g sub v : Nat) : Written :=
  match g, sub with
  | 0, _ => s.laneCommand n (driveOf v)
  | 4, 0x19 => s.laneUnlock n
  | 4, 0x1A => s.laneSnapshot n
  | 5, 2 => State.accept (s.shedPriority r n v)
  | 6, 3 => s.lanePattern n v
  | 7, 4 => s.scheduleWrite n v
  | 7, 1 => State.accept (s.keep r (laneIdx n g) sub v)
  | 7, 2 => State.accept (s.keep r (laneIdx n g) sub v)
  | 7, 3 => State.accept (s.keep r (laneIdx n g) sub v)
  | _, _ =>
    if s.hub.laneRefusal n g sub v ≠ 0 then s.deny (s.hub.laneRefusal n g sub v)
    else
      let s := s.keep r (laneIdx n g) sub v
      s.command (s.hub.laneConfig n g sub)

/-! ## Lane map (R121 to R124) -/

/-- The staged or given entry of every lane. -/
def Hub.stagedMap (h : Hub) : List Nat := (List.range 48).map h.staged

/-- The condition of R122 that a map breaks, as its code, with the lane: of several, which the spec does not rank, the first condition in the order of R122,
and the lowest lane that breaks it (DESIGN CHOICE, log 94). -/
def Hub.mapFault (h : Hub) (m : List Nat) : Option (Nat × Nat) :=
  let lanes := List.range 48
  let e (n : Nat) : Nat := m.getD n 0xFFFF
  let changed (n : Nat) : Bool := decide (e n ≠ h.entry n)
  let find (code : Nat) (f : Nat → Bool) : Option (Nat × Nat) := (lanes.find? f).map fun n => (code, n)
  let isolated (ch : Nat) : Bool := match h.view (ch / 12) with | some c => c.isolated | none => false
  (find 0x10 fun n => match entryChans (e n) with | [a, b] => decide (classOf a ≠ classOf b) | _ => false)
  <|> (find 0x11 fun n => (entryChans (e n)).any fun ch => lanes.any fun k => decide (k ≠ n) && (entryChans (e k)).contains ch)
  <|> (find 0x12 fun n => (entryChans (e n)).any fun ch => h.retiredChan ch || isolated ch)
  <|> (find 0x13 fun n => changed n && (entryChans (e n)).any fun ch => !h.present (ch / 12))
  <|> (find 0x14 fun n => changed n && (decide (h.command n ≠ .off) || (h.chansOf n).any h.chanOn))
  <|> (find 0x15 fun n => decide (h.lane n 2 2 0 = 1) && (entryChans (e n)).any fun ch => decide (classOf ch ≠ .l))

/-- A commit write (R122); one that arrives while an activation or revert waits is refused (R484). -/
def State.commitWrite (s : State) : Written :=
  if s.hub.patchWaits then s.deny 0x0307
  else match s.hub.mapFault s.hub.stagedMap with
  | some (code, n) => (s.onHub fun h => h.onRun fun r => { r with commitResult := code, commitLane := n }).deny 0x0307
  | none => State.accept (s.onHub fun h => h.onRun fun r => { r with commitWait := true, commitResult := 1, commitLane := 0xFF })

/-- Every setting a channel ought to hold, as commands (R124). -/
def Hub.channelConfig (h : Hub) (ch : Nat) : List Order :=
  let o (c : BankCmd) : Order := { bank := ch / 12, lane := (h.owner ch).getD 0xFF, cmd := c }
  let p := ch % 12
  let old := match h.viewChan ch with | some x => x.cfg | none => {}
  let v := h.chanCfg ch old
  if (h.owner ch).isNone then [o (.setPattern p v.pattern), o (.setIo p v.io)]
  else [o (.setPattern p v.pattern), o (.setIo p v.io), o (.setLoad p v.load), o (.setProt p v.prot), o (.setWarn p v.warnLevel), o (.setSync p v.senseSync)]

/-- Put map entries in force with their bank writes; schedules of changed lanes are cancelled (R124, Table 09-3). -/
def State.applyMap (s : State) (m : List Nat) (code : Nat) : State × List Notice × List (Nat × Nat) :=
  let h := s.hub
  let changed := (List.range 48).filter fun n => decide (m.getD n 0xFFFF ≠ h.entry n)
  let chans := (changed.flatMap fun n => h.chansOf n ++ entryChans (m.getD n 0xFFFF)).eraseDups
  let s := changed.foldl (fun (s : State) n =>
    let (s, cancels) := s.cancelSchedule n
    let (h, _) := s.hub.order cancels
    { s with hub := h.put 0x3402 (n + 1) (m.getD n 0xFFFF) true }) s
  let h' := s.hub.touch s.now
  let (h', ids) := h'.order (chans.flatMap h'.channelConfig)
  ({ s with hub := h' }, changed.map fun n => .journal 5 code (leBytes 1 n ++ leBytes 2 (h.entry n) ++ leBytes 2 (m.getD n 0xFFFF)), ids)

/-- A waiting commit at the lap boundary (R122, R124). -/
def State.commitApply (s : State) : State :=
  if !s.hub.run.commitWait then s
  else
    let s := s.onHub fun h => h.onRun fun r => { r with commitWait := false }
    match s.hub.mapFault s.hub.stagedMap with
    | some (code, n) =>
      (s.onHub fun h => h.onRun fun r => { r with commitResult := code, commitLane := n }).notify [.fault 0x4F (code - 0xF) n]
    | none =>
      let (s, notes, _) := s.applyMap s.hub.stagedMap 1
      (s.storeSave.onHub fun h => h.onRun fun r => { r with commitResult := 0, commitLane := 0xFF }).notify notes

/-! ## Profile slots (R142) -/

/-- Is a step limit in the range of a limit unit? -/
def limitInRange (unit v : Nat) : Bool := if unit = 1 then decide (1 ≤ v) && decide (v ≤ 40000) else decide (10 ≤ v) && decide (v ≤ 800)

/-- A write to a user slot that no lane selects (check 1 of R142 is State.dictWrite's), with the further checks in their order. -/
def State.slotWrite (s : State) (r : ObjRow) (slot sub v : Nat) : Written :=
  let h := s.hub
  let idx := 0x3800 + slot
  if sub = 1 ∧ 8 < v then s.deny 0x0306
  else if 4 ≤ sub ∧ sub < 0xC ∧ !limitInRange (h.val idx 2 0) v then s.deny 0x0306
  else if sub = 2 ∧ 1 < v then s.deny 0x0306
  else if sub = 2 ∧ !(List.range 8).all (fun i => limitInRange v (h.val idx (4 + i) 100)) then s.deny 0x0307
  else State.accept (s.keep r idx sub v)

/-- Staged entries, commit and profile slots. -/
def State.writeMap (s : State) (r : ObjRow) (idx sub v : Nat) : Written :=
  if idx = 0x3400 then
    if entryOk v then State.accept (s.onHub fun h => h.put idx sub v false) else s.deny 0x0306
  else if idx = 0x3401 then s.commitWrite
  else s.slotWrite r (idx - 0x3800) sub v

end Sys2Proof.Machine
end

