-- ==== Sys2Proof/Machine/DogOps.lean ====
section
/-! DEFINITION. The serial watchdog (R237 to R244): the token sequence, misses, the forced state, arming, disarming and tokens. -/

namespace Sys2Proof.Machine

/-- The value that follows in the token sequence (R238). -/
def nextToken (v : Nat) : Nat := if v % 2 = 1 then (v / 2) ^^^ 0xB400 else v / 2

def Hub.onDog (h : Hub) (f : Watchdog → Watchdog) : Hub := h.onRun fun r => { r with dog := f r.dog }

/-- Window length in ns. -/
def Watchdog.span (d : Watchdog) : Nat := d.period * 1000000

/-- One command for every channel. -/
def Hub.everyChan (h : Hub) (cmd : Nat → BankCmd) : List Order :=
  (List.range 48).map fun ch => { bank := ch / 12, lane := (h.owner ch).getD 0xFF, cmd := cmd (ch % 12) }

/-- W on every channel of every present bank, while the watchdog is forced and no planned stop keeps the runtime from new commands (R22). -/
def Hub.dogOrders (h : Hub) : List Order := if decide (h.run.dog.mode = .forced) && h.free then h.everyChan fun p => .setW p true else []

/-- Into the forced state (R242, R243): W on every channel of every present bank, and source 0x36. -/
def State.dogForce (s : State) (kind : Nat) : State :=
  let h := s.hub.onDog fun d => { d with mode := .forced }
  let (h, _) := h.order h.dogOrders
  State.notify { s with hub := h } [.fault 0x36 kind s.hub.run.dog.owner, .journal 9 3 (leBytes 1 s.hub.run.dog.owner)]

/-- Count a miss of a kind (R242); the next window starts at `next`. -/
def State.dogMiss (s : State) (kind next : Nat) : State :=
  let s := s.onHub fun h =>
    { h.onDog fun d => { d with misses := d.misses + 1, lastKind := kind, windowAt := next } with dogMisses := h.dogMisses + 1 }
  let s := s.notify [.event 6 0x2032 7]
  if 2 ≤ s.hub.run.dog.misses then s.dogForce 1 else s

/-- Judge every window that ended before `at_` without a token as a late miss (Table 08-3). The second late miss in a row forces, so two
windows are all there can be. -/
def State.dogLate (s : State) (at_ : Nat) : Nat → State
  | 0 => s
  | n + 1 =>
    let d := s.hub.run.dog
    if d.mode = .armed ∧ d.windowAt + d.span < at_ then (s.dogMiss 2 (d.windowAt + d.span)).dogLate at_ n else s

/-- May a session arm (R239)? -/
def Hub.mayArm (h : Hub) (k : Nat) : Bool :=
  let x := h.session k
  let d := h.run.dog
  decide (x.role = .service) ||
    (decide (x.endpoint = .spi) && decide (x.role = .operator)
      && (decide (d.mode = .disarmed) || decide (d.mode = .awaiting) || decide (d.owner = 0xFF) || decide (d.owner = k)))

/-- W becomes C in the present banks at the next arming or disarming (R232), also where the watchdog was forced before a runtime restart;
the cause of source 0x36 is gone. -/
def State.dogRelease (s : State) : State × List Notice :=
  if decide (s.hub.run.dog.mode = .forced) || s.hub.views.any (fun v => match v with | some c => c.chans.any fun x => x.io.w | none => false) then
    let (h, _) := s.hub.order ((List.range 4).map fun b => { bank := b, lane := 0xFF, cmd := .releaseW })
    ({ s with hub := h }, [.gone 0x36])
  else (s, [])

/-- A write of a seed to 0x2032.03 (R239). -/
def State.dogArm (s : State) (o : Origin) (seed : Nat) : Written :=
  if !s.hub.mayArm o.session then s.deny 0x0307
  else
    let before := s.hub.run.dog.mode
    let (s, n) := s.dogRelease
    let s := s.onHub fun h => h.onDog fun d =>
      { d with mode := .armed, token := nextToken seed, windowAt := o.arrival, period := h.val 0x2032 1 100, misses := 0, owner := o.session }
    State.accept (s.notify (n ++ (if before = .armed then [] else [.event 6 0x2032 6]) ++ [.journal 9 2 (leBytes 1 o.session)]))

/-- A write to 0x2032.05 (R239). -/
def State.dogDisarm (s : State) (o : Origin) : Written :=
  let d := s.hub.run.dog
  if (s.hub.session o.session).role ≠ .service ∧ d.owner ≠ o.session then s.deny 0x0307
  else
    let (s, n) := s.dogRelease
    let s := s.onHub fun h => h.onDog fun d => { d with mode := .disarmed, owner := 0xFF }
    State.accept (s.notify (n ++ (if d.mode = .disarmed then [] else [.event 6 0x2032 6]) ++ [.journal 9 0 (leBytes 1 d.owner)]))

/-- A token (R240, R241). -/
def State.dogToken (s : State) (o : Origin) (v : Nat) : Written :=
  let d := s.hub.run.dog
  if d.mode ≠ .armed ∨ d.owner ≠ o.session then s.deny 0x0307
  else
    let s := s.dogLate o.arrival 2
    let d := s.hub.run.dog
    if d.mode ≠ .armed then s.deny 0x0307
    else if o.arrival < d.windowAt + d.span / 4 then (s.dogMiss 1 o.arrival).deny 0x030B
    else if v ≠ d.token then (s.dogMiss 3 o.arrival).deny 0x030B
    else State.accept (s.onHub fun h => h.onDog fun d => { d with token := nextToken d.token, misses := 0, windowAt := o.arrival })

/-- The watchdog's state at dictionary ready (R243, R244). -/
def State.dogBegin (s : State) : State :=
  let auto := decide (0x0302 ≤ s.rtVersion) && decide (s.hub.val 0x2032 2 0 = 1)
  s.onHub fun h => h.onDog fun _ =>
    if auto then { mode := .awaiting, period := h.val 0x2032 1 100, deadline := s.now + 2 * h.val 0x2032 1 100 * 1000000 } else {}

/-- The arm deadline passes (R243): two late misses, and the forced state. -/
def State.dogDeadline (s : State) : State :=
  let d := s.hub.run.dog
  if s.hub.serving && decide (d.mode = .awaiting) && decide (d.deadline ≤ s.now) then
    let miss (s : State) : State := (s.onHub fun h =>
      { h.onDog fun d => { d with misses := d.misses + 1, lastKind := 2 } with dogMisses := h.dogMisses + 1 }).notify [.event 6 0x2032 7]
    (miss (miss s)).dogForce 2
  else s

end Sys2Proof.Machine
end

