-- ==== Sys2Proof/Machine/DeviceWrite.lean ====
section
/-! DEFINITION. What a write to an object of Tables 14-2 to 14-9 does: events, transports, keys, session close (R404, R401), resets and standby
(R94, R98), re-admission (R205), thermal levels and windows (R214, R221), patterns and the watchdog (R229, R236, R239 to R241), lap tracker and
capture (R261, R262, R272, R273). -/

namespace Sys2Proof.Machine

/-! ## Communication -/

/-- Is a session on a network transport? -/
def Session.onRaw (x : Session) : Bool := match x.endpoint with | .raw _ => true | _ => false
def Session.onUdp (x : Session) : Bool := match x.endpoint with | .udp _ _ => true | _ => false

/-- Sessions that a write to a transport object closes: those of each network transport it changes (R404). -/
def Hub.transportCloses (h : Hub) (sub v : Nat) : List Nat :=
  let changes (d : Nat) : Bool := decide (h.val 0x1040 sub d ≠ v)
  match sub with
  | 1 =>
    let old := h.val 0x1040 1 1
    (if old.testBit 0 = v.testBit 0 then [] else h.sessionsWith Session.onRaw) ++ (if old.testBit 1 = v.testBit 1 then [] else h.sessionsWith Session.onUdp)
  | 2 => if changes 0 then h.sessionsWith Session.onUdp else []
  | 4 => if changes 48672 then h.sessionsWith Session.onUdp else []
  | _ => []

/-- A write to a transport object (R404): it acts after the response, and so do the closures. The accepted value reads back at once (R42). -/
def State.transportWrite (s : State) (r : ObjRow) (sub v : Nat) : Written :=
  if r.eff = .iPlus then
    { state := s.onHub fun h => (h.put 0x1040 sub v false).touch s.now
      then_ := { puts := [(0x1040, sub, v)], closes := s.hub.transportCloses sub v } }
  else State.accept (s.keep r 0x1040 sub v)

/-- A key write by a service session over SPI (R401). The new key acts after the response, which every session of the role is closed after;
the store is written at once (R472). -/
def State.keyWritten (s : State) (role : Role) (key : Nat) : Written :=
  let slot := if role = .service then 1 else 0
  { state := s.notify [.journal 8 2 (leBytes 1 slot)]
    then_ := { puts := [(0x1042, 2 + slot, key)], save := true, closes := s.hub.sessionsWith fun x => decide (x.role = role) } }

/-- Objects of 0x1000 to 0x1FFF. -/
def State.writeComm (s : State) (r : ObjRow) (idx sub v : Nat) : Written :=
  if 0x1100 ≤ idx then { state := s, then_ := { closes := [idx - 0x1100] } }
  else if idx = 0x1042 then s.keyWritten (if sub = 3 then .service else .operator) v
  else if idx = 0x1040 then s.transportWrite r sub v
  else if idx = 0x1030 ∧ sub = 3 then State.accept (s.onHub fun h => { h with pending := h.pending &&& ~~~BitVec.ofNat 16 v })
  else State.accept (s.keep r idx sub v)

/-! ## Resets and standby -/

/-- The object that requests a planned operation: of requests through one object only the latest counts (R42). -/
def Planned.object : Planned → Nat
  | .standby => 1
  | .activate => 2
  | .revert => 2
  | _ => 0

/-- Note a request for the next lap boundary. -/
def Hub.plan (h : Hub) (p : Planned) : Hub := h.onRun fun r => { r with planned := (r.planned.filter fun q => decide (q.object ≠ p.object)) ++ [p] }

/-- The reset that a value of 0x2014.03 asks for. -/
def resetOf : Nat → Planned
  | 1 => .restart
  | 2 => .hubReset
  | 3 => .portReset 0
  | 4 => .portReset 1
  | _ => .wholeReset

/-- The SRAM shadow holds a record or a deferred configuration write (R216, R217). -/
def Hub.shadowed (h : Hub) : Bool := !h.run.shadow.isEmpty || h.run.store.deferred

/-- A write to 0x2014 (R94, R98, R217). -/
def State.resetWrite (s : State) (sub v : Nat) : Written :=
  if sub = 3 then
    if v = 1 ∧ s.hub.shadowed then s.deny 0x0307 else State.accept (s.onHub fun h => h.plan (resetOf v))
  else if s.hub.windowCode ≠ 0 then s.deny 0x0307
  else State.accept (s.onHub fun h => h.plan .standby)

/-! ## Temperatures -/

/-- Is a reading within 10.0 K of a value? -/
def near (a : Int) (b : Option Int) : Bool := match b with | some b => decide ((a - b).natAbs ≤ 100) | none => false

/-- Does a sensor agree with both of its comparison sensors (R205)? Without a bank temperature it is judged on condition 3 alone. -/
def BankCore.agrees (b : BankCore) (i : Nat) : Bool :=
  let x := b.sensor i
  !x.condition3 &&
    (b.temperature.isNone ||
      (if i < 12 then near x.reading (b.compared (neighbours i).1) && near x.reading (b.compared (neighbours i).2)
       else near x.reading (b.compared (25 - i)) && near x.reading (median (((b.sensors.take 12).filter fun y => y.broken.isNone).map Sensor.reading))))

/-- Carry since when each sensor of a bank has agreed, at an uplink frame. -/
def Hub.noteAgreement (h : Hub) (b : Nat) (c : BankCore) (now : Nat) : Hub :=
  { h with agreeSince := mapFrom (fun i v =>
      if decide (i / 14 = b) then (if c.agrees (i % 14) then some (v.getD now) else none) else v) 0 h.agreeSince }

/-- A write of bank and sensor to the re-admit object 0x2023.05 (R205): bits [7:4] name the bank, bits [3:0] the sensor. -/
def State.readmitWrite (s : State) (v : Nat) : Written :=
  let b := v / 16
  let i := v % 16
  if 3 < b ∨ 13 < i then s.deny 0x0306
  else match s.hub.view b with
  | none => s.deny 0x0309
  | some c =>
    if (c.sensor i).broken.isNone then s.accept
    else if elapsed (s.hub.agreeSince.getD (14 * b + i) none) 1000000000 s.now then s.command [{ bank := b, cmd := .readmit i }]
    else s.deny 0x0307

/-- A write to the thermal levels 0x2024 (R214). -/
def State.levelWrite (s : State) (r : ObjRow) (sub v : Nat) : Written :=
  let new := toSigned 16 v
  let warn := if sub = 1 then new else toSigned 16 (s.hub.val 0x2024 1 1500)
  let shed := if sub = 2 then new else toSigned 16 (s.hub.val 0x2024 2 1600)
  if shed < warn + 50 then s.deny 0x0306
  else
    let s := s.keep r 0x2024 sub v
    s.command ((List.range 4).map fun b => { bank := b, cmd := .setLevels warn shed })

/-- Are the charge windows in order after a write (R221)? -/
def Hub.windowsOk (h : Hub) (sub v : Nat) : Bool :=
  let w (k d : Nat) : Int := toSigned 16 (if k = sub then v else h.val 0x2025 k d)
  decide (w 1 65136 + 100 ≤ w 2 1250) && decide (w 3 65136 + 100 ≤ w 4 1550) && decide (w 2 1250 ≤ 1300) && decide (w 4 1550 ≤ 1690)

/-- A write to the CHGPERM objects 0x2025 (R219, R221). -/
def State.permitWrite (s : State) (r : ObjRow) (sub v : Nat) : Written :=
  if sub ≤ 4 ∧ !s.hub.windowsOk sub v then s.deny 0x0306 else State.accept (s.keep r 0x2025 sub v)

/-! ## Patterns, hold times and the watchdog -/

/-- A write to the bank hold times and glide exit modes 0x2030 (R229, R236). -/
def State.holdWrite (s : State) (r : ObjRow) (sub v : Nat) : Written :=
  let s := s.keep r 0x2030 sub v
  if sub ≤ 4 then s.command [{ bank := sub - 1, cmd := .setHoldTime v }]
  else s.command [{ bank := sub - 5, cmd := .setGlideExit (decide (v = 1)) }]

/-- A write to the serial watchdog 0x2032. -/
def State.dogWrite (s : State) (r : ObjRow) (o : Origin) (sub v : Nat) : Written :=
  match sub with
  | 3 => s.dogArm o v
  | 4 => s.dogToken o v
  | 5 => s.dogDisarm o
  | _ => State.accept (s.keep r 0x2032 sub v)

/-! ## Lap tracker and capture -/

/-- Capture lap position, domain P and domain S at one instant (R261). -/
def State.lapSnapshot (s : State) : State :=
  s.onHub fun h => { h with lap := { h.lap with
    snapPos := h.lap.position s.now, snapSec := h.time.seconds, snapNs := h.time.nanos, snapS := h.time.s } }

/-- A write to the lap count preset (R262). -/
def State.presetWrite (s : State) (r : ObjRow) (v : Nat) : Written :=
  if v % 65536 ≠ 0 then s.deny 0x0306
  else State.accept ((s.keep r 0x2042 8 v).onHub fun h => { h with lap := { h.lap with preset := some (v / 65536) } })

/-- Arm a capture (R272). -/
def State.armCapture (s : State) : Written :=
  let h := s.hub
  if h.capture.mode = .armed ∨ h.capture.mode = .running then s.deny 0x0307
  else if !h.present (h.val 0x2044 1 0 / 12) then s.deny 0x0309
  else State.accept ((s.onHub fun h => { h with capture := { h.capture with
      mode := .armed, channel := h.val 0x2044 1 0, phase := h.val 0x2044 2 0, interval := h.val 0x2044 3 100, length := h.val 0x2044 4 1024
      armedAt := s.now, leadNs := h.lapLead } }).notify [.event 7 0x2044 6])

/-- A write to the capture control 0x2044.05. -/
def State.captureWrite (s : State) (v : Nat) : Written :=
  if v = 1 then s.armCapture
  else
    let (c, n) := s.hub.capture.abort
    State.accept (s.after (fun h => { h with capture := c }) n)

/-- A write of the Q7 read index (R273). -/
def State.q7Write (s : State) (v : Nat) : Written :=
  let (c, code) := s.hub.capture.advance v
  if code ≠ 0 then s.deny code else State.accept (s.onHub fun h => { h with capture := c })

/-- Objects of 0x2000 to 0x2FFF. -/
def State.writeDevice (s : State) (r : ObjRow) (o : Origin) (idx sub v : Nat) : Written :=
  match idx, sub with
  | 0x2014, _ => s.resetWrite sub v
  | 0x2023, _ => s.readmitWrite v
  | 0x2024, _ => s.levelWrite r sub v
  | 0x2025, _ => s.permitWrite r sub v
  | 0x2030, _ => s.holdWrite r sub v
  | 0x2031, _ => s.bankPatternWrite (sub - 1) v
  | 0x2032, _ => s.dogWrite r o sub v
  | 0x2042, 3 => State.accept s.lapSnapshot
  | 0x2042, 8 => s.presetWrite r v
  | 0x2044, 5 => s.captureWrite v
  | 0x2045, _ => s.q7Write v
  | _, _ => State.accept (s.keep r idx sub v)

end Sys2Proof.Machine
end

