-- ==== Sys2Proof/Machine/PortOps.lean ====
section
/-! DEFINITION. Ports and the Q3 head as the whole hub drives them (R344 to R347, R355, R381), and what a write to an object of Tables 14-10 and
14-11 does: time, servo ownership, gPTP, PPS (chapter 11), the switch, ports and queue indices (chapter 12). -/

namespace Sys2Proof.Machine

/-! ## Ports -/

/-- Serve the Q3 head up to the next launch; every descriptor dropped on the way is counted (R347, 0x4006.04). -/
def State.pumpQ3 (s : State) : State :=
  let h := s.hub
  if !h.serves then s
  else
    let (n, m) := h.net.settleQ3 h.time h.q3Lead s.now (fun c p => h.lap.ahead s.now c p) (fun i => taggedFrame (s.txData i 14)) 16
    s.after (fun h => { h with net := n, time := h.time.countDropped m }) m

/-- The reset of a port is over while VPHY is present; an enabled one starts (R355). With the first port up, the wait for an Announce begins (R332). -/
def State.startPort (s : State) (i : Nat) : State :=
  if !s.pwr.vphy then s
  else if (s.hub.portCfg i).enabled then
    let (n, m) := s.hub.net.startPort i s.now
    let fresh := !(s.hub.net.port0.running || s.hub.net.port1.running)
    let heard (d : GptpDomain) : GptpDomain := if fresh && d.grandmaster.isNone then { d with lastAnnounce := some s.now } else d
    s.after (fun h => { h with net := n, time := { h.time with first := heard h.time.first, second := heard h.time.second } }) m
  else s.onHub fun h => { h with net := h.net.editPort i fun p => { p with inReset := false } }

/-- Stop a port (R381). Grandmasters heard on it are gone (R334). -/
def State.stopPort (s : State) (i : Nat) (inReset : Bool) : State :=
  let h := s.hub
  let (n, t, m) := h.net.stopPort h.time i inReset
  let (t, a) := t.deafen h.timeCfg false i ownMac h.baton s.now
  let (t, b) := t.deafen h.timeCfg true i ownMac h.baton s.now
  (s.after (fun h => { h with net := n, time := t }) (m ++ a ++ b)).pumpQ3

/-! ## Time (R317, R324, R340) -/

/-- A block of the time domains acts; a step across the Q3 head's launch makes it eligible (R347). -/
def State.onTime (s : State) (f : TimeDomains → TimeDomains × List Notice) : State :=
  let (t, n) := f s.hub.time
  s.after (fun h => { h with time := t, net := h.net.crossed h.time.p t.p s.now }) n

/-- Domain P runs free once gPTP is disabled and PPS is no reference (Table 11-2). -/
def TimeDomains.goFree (t : TimeDomains) (c : TimeCfg) : TimeDomains × List Notice :=
  if t.hostOwned || decide (t.state = .unset) || decide (c.inst ≠ 0) || decide (c.ppsMode = 3) then (t, [])
  else
    let (t, a) := t.endLoss
    let (t, b) := TimeDomains.enter { t with servo := t.servo.afresh } .free
    (t, a ++ b)

/-- A domain that is no longer tracked: it has no grandmaster and its source has no cause. The last Sync of the first domain is kept, so that
the loss of its reference follows at the sync receipt timeout (R334). An Announce of what is tracked from here on is waited for. -/
def TimeDomains.forget (t : TimeDomains) (second : Bool) (now : Nat) : TimeDomains × List Notice :=
  let d := t.domain second
  (t.setDomain second { lastSync := if second then none else d.lastSync, intervalNs := d.intervalNs, lastAnnounce := d.lastAnnounce.map fun _ => now },
   if d.anyCause then [.gone (gptpSource second)] else [])

/-- The second domain is disabled or takes another number. -/
def TimeDomains.dropSecond (t : TimeDomains) (now : Nat) : TimeDomains × List Notice :=
  let (t, a) := t.forget true now
  let (t, b) := t.loseSecond now
  (t, a ++ b)

/-- A write to a gPTP object 0x4004. -/
def State.gptpWrite (s : State) (r : ObjRow) (sub v : Nat) : Written :=
  let old := s.hub.val 0x4004 sub r.dflt
  if (sub = 2 ∧ v = s.hub.val 0x4004 3 0xFF) ∨ (sub = 3 ∧ v = s.hub.val 0x4004 2 0) then s.deny 0x0307
  else
    let s := s.keep r 0x4004 sub v
    if old = v then s.accept
    else match sub with
      | 1 =>
        if v ≠ 0 then s.accept
        else State.accept (s.onTime fun t =>
          let (t, a) := t.forget false s.now
          let (t, b) := t.dropSecond s.now
          let (t, c) := t.goFree s.hub.timeCfg
          (t, a ++ b ++ c))
      | 2 => State.accept (s.onTime fun t => t.forget false s.now)
      | 3 => State.accept (s.onTime fun t => t.dropSecond s.now)
      | _ => s.accept

/-- A write of the increment (R316, R324, R325). -/
def State.incrementSet (s : State) (v : Nat) : Written :=
  if v < incrementMin ∨ incrementMax < v then s.deny 0x0306
  else if !s.hub.time.hostOwned then s.deny 0x0307
  else State.accept (s.onTime fun t => ({ t with increment := v, hostWrite := s.now, hostStale := false }, []))

/-- A write of the servo owner (R324). -/
def State.ownerWrite (s : State) (v : Nat) : Written :=
  if decide (v = 1) = s.hub.time.hostOwned then s.accept
  else State.accept (s.onTime fun t => if v = 1 then t.takeServo s.now else t.returnServo)

/-- A write of the PPS mode (R340). -/
def State.ppsWrite (s : State) (r : ObjRow) (v : Nat) : Written :=
  let c := s.hub.timeCfg
  let s := s.keep r 0x4005 1 v
  State.accept (s.onTime fun t =>
    let (t, a) := t.setPpsMode c v s.hub.baton s.now
    let (t, b) := t.goFree s.hub.timeCfg
    (t, a ++ b))

/-- Objects of 0x4000 to 0x43FF. -/
def State.writeTime (s : State) (r : ObjRow) (idx sub v : Nat) : Written :=
  match idx, sub with
  | 0x4000, 2 => if 2 ^ 48 ≤ v % 2 ^ 64 then s.deny 0x0306 else State.accept ((s.keep r idx sub v).onTime fun t => t.set (v % 2 ^ 64) (v / 2 ^ 64))
  | 0x4000, 3 => State.accept ((s.keep r idx sub v).onTime fun t => t.step (toSigned 32 v) false)
  | 0x4000, 4 => s.incrementSet v
  | 0x4000, 5 => s.ownerWrite v
  | 0x4003, 1 => if s.hub.val 0x6000 1 0 = 1 then s.deny 0x0307 else State.accept (s.keep r idx sub v)
  | 0x4004, _ => s.gptpWrite r sub v
  | 0x4005, 1 => s.ppsWrite r v
  | _, _ => State.accept (s.keep r idx sub v)

/-! ## Ports and queues (R355, R356, R367, R376, R383) -/

/-- A PLCA setting after a write: IDs beyond 254 and a coordinator with fewer nodes than IDs are refused (R356). -/
def Hub.plcaOk (h : Hub) (n sub v : Nat) : Bool :=
  let w (k d : Nat) : Nat := if k = sub then v else h.val (0x4401 + n) k d
  let id := w 2 h.strapValue
  decide (id = 0xFF) || (decide (id + w 3 1 - 1 ≤ 254) && (decide (id ≠ 0) || decide (w 3 1 ≤ w 4 8)))

/-- A write to a port object. -/
def State.portWrite (s : State) (r : ObjRow) (n sub v : Nat) : Written :=
  if 2 ≤ sub ∧ sub ≤ 4 ∧ !s.hub.plcaOk n sub v then s.deny 0x0306
  else
    let s := s.keep r (0x4401 + n) sub v
    if sub = 1 then State.accept (if v = 1 then (s.startPort n).pumpQ3 else s.stopPort n false)
    else if sub ≤ 6 then
      let (net, m) := s.hub.net.plcaWritten n s.now
      State.accept (s.after (fun h => { h with net := net }) m)
    else
      let (net, m) := s.hub.net.rateAgain s.hub.netCfg n s.now
      State.accept (s.after (fun h => { h with net := net }) m)

/-- The new producer or consumer index of a queue. -/
def Net.setIndex (n : Net) (q v : Nat) : Net :=
  match q with
  | 1 => { n with q1 := { n.q1 with cons := v, entries := n.q1.entries.drop (inUse v n.q1.cons 32) } }
  | 2 => { n with q2 := { n.q2 with cons := v } }
  | 3 => { n with q3 := { n.q3 with prod := v } }
  | 4 => { n with q4 := { n.q4 with prod := v } }
  | 5 => Net.skipQ5 { n with q5 := { n.q5 with cons := v } } 64
  | _ => { n with q6 := { n.q6 with cons := v } }

/-- Q3 entries accepted with a producer index: those whose lap has begun are resolved from the present lap position (R275). -/
def Hub.acceptQ3 (h : Hub) (v now : Nat) : Net :=
  let from_ := h.net.q3.prod
  let k := inUse v from_ 16
  ((h.net.freshLaps from_ k).setIndex 3 v).resolveFrom h.time h.lap now from_ k

/-- Status of an index write; the consumer index of Q5 may not pass the classify index (R376). -/
def Net.indexStatus (n : Net) (q sub v : Nat) : Nat :=
  let (prod, cons) := n.indices q
  if sub = 1 then producerStatus prod cons (ringSize q) v
  else consumerStatus (if q = 5 then n.classify else prod) cons (ringSize q) v

/-- A write to a queue object. -/
def State.queueWrite (s : State) (q sub v : Nat) : Written :=
  if sub = 4 then
    let clear (r : Ring) : Ring := { r with overflow := false }
    State.accept (s.onHub fun h => { h with net := match q with
      | 2 => { h.net with q2 := clear h.net.q2 }
      | 5 => { h.net with q5 := clear h.net.q5 }
      | _ => { h.net with q6 := clear h.net.q6 } })
  else if s.hub.net.indexStatus q sub v ≠ 0 then s.deny (s.hub.net.indexStatus q sub v)
  else
    State.accept (s.onHub fun h =>
      let h := { h with net := if q = 3 then h.acceptQ3 v s.now else h.net.setIndex q v }
      if q = 5 then h.releaseQ5 else h).pumpQ3

/-- Objects of 0x4400 to 0x4FFF. -/
def State.writeNet (s : State) (r : ObjRow) (idx sub v : Nat) : Written :=
  if 0x4410 ≤ idx then s.queueWrite (idx - 0x4410) sub v
  else if 0x4401 ≤ idx then s.portWrite r (idx - 0x4401) sub v
  else State.accept (s.keep r idx sub v)

end Sys2Proof.Machine
end

