-- ==== Sys2Proof/Machine/FaultWrite.lean ====
section
/-! DEFINITION. Escalation steps as the runtime carries them to the banks and ends them (R297, R301, R232), and what a write to a collector object
of Table 15-5 does (R303 to R310). -/

namespace Sys2Proof.Machine

/-! ## Escalation scopes -/

/-- Channels that a scope covers with X (Table 10-9). -/
def Hub.scopeChans (h : Hub) : Scope → List Nat
  | .lane n => h.chansOf n
  | .bank b => bankChans b
  | .glide => []

/-- Does a standing step cover a channel (R297)? -/
def Hub.covered (h : Hub) (ch : Nat) : Bool := h.collector.scopes.any fun sc => (h.scopeChans sc).contains ch

/-- Does a source stand at step 3 (R235)? -/
def Hub.glideStands (h : Hub) : Bool := h.collector.scopes.contains .glide

/-- Banks that are present. -/
def Hub.presentBanks (h : Hub) : List Nat := (List.range 4).filter h.present

/-- Step and place of a scope, as a journal record gives them (Table 17-6). -/
def Scope.code : Scope → Nat
  | .lane _ => 1
  | .bank _ => 2
  | .glide => 3
def Scope.place : Scope → Nat
  | .lane n => n
  | .bank b => b
  | .glide => 0xFF

/-- The commands that carry a scope to the banks: X on its channels, or the escalation glide flag. -/
def Hub.scopeOrders (h : Hub) (source : Nat) (sc : Scope) : List Order :=
  match sc with
  | .glide => h.presentBanks.map fun b => { bank := b, lane := 0xFF, source := source, cmd := .setEscGlide true }
  | _ => (h.scopeChans sc).map fun ch => { bank := ch / 12, lane := (h.owner ch).getD 0xFF, source := source, cmd := .setX (ch % 12) true }

/-- Steps of a source have ended (R301): X bits that no standing step covers become C, and without a source at step 3 the escalation glide
flag is cleared. -/
def State.releaseScopes (s : State) (source : Nat) (ended : List Scope) : State :=
  if ended.isEmpty then s
  else
    let h := s.hub
    let carries (ch : Nat) : Bool := (ended.flatMap h.scopeChans).contains ch || (match h.viewChan ch with | some x => x.io.x | none => false)
    let chans := (List.range 48).filter fun ch => carries ch && !h.covered ch
    let xs : List Order := chans.map fun ch => { bank := ch / 12, lane := (h.owner ch).getD 0xFF, cmd := .releaseX (ch % 12) }
    let glide : List Order := if ended.contains .glide && !h.glideStands then
        (List.range 4).map fun b => { bank := b, lane := 0xFF, cmd := .setEscGlide false } else []
    let (h, _) := h.order (xs ++ glide)
    State.notify { s with hub := h } (ended.map fun sc => .journal 3 sc.code [BitVec.ofNat 8 source, BitVec.ofNat 8 sc.place])

/-! ## Clearing and acknowledging -/

/-- The journal record of an accepted clear, acknowledge or record clear. -/
def clearNote (code source session : Nat) : Notice := .journal 2 code [BitVec.ofNat 8 source, BitVec.ofNat 8 session]

/-- A clear of one source (R303). -/
def State.clearSource (s : State) (o : Origin) (i : Nat) : Written :=
  let c := s.hub.collector
  if reservedSource i then s.deny 0x0306
  else if c.stands i && c.causeOf i then (s.onHub fun h => { h with collector := c.refuseClear i }).deny 0x030A
  else if !c.stands i then State.accept (s.notify [clearNote 1 i o.session])
  else
    let (c, ended) := c.clearNow i
    let s := s.onHub fun h => { h with collector := c }
    State.accept ((s.releaseScopes i ended).notify [clearNote 1 i o.session])

/-- A clear of every source that can be cleared (R304). -/
def State.clearAllSources (s : State) (o : Origin) : Written :=
  let c := s.hub.collector
  let ends := c.clearable.map fun i => (i, (c.source i).scopes)
  let s := s.onHub fun h => { h with collector := c.clearAll.1 }
  State.accept ((ends.foldl (fun s e => s.releaseScopes e.1 e.2) s).notify [clearNote 1 0xFF o.session])

/-- A clear of the first-error record (R305). -/
def State.clearRecord (s : State) (o : Origin) : Written :=
  let c := s.hub.collector
  let i := c.record.source
  if c.record.valid && c.status.getLsbD i then (s.onHub fun h => { h with collector := c.refuseClear i }).deny 0x030A
  else State.accept ((s.onHub fun h => { h with collector := { c with record := {} } }).notify [clearNote 3 i o.session])

/-- An acknowledge (R306). -/
def State.acknowledge (s : State) (o : Origin) (i : Nat) : Written :=
  if reservedSource i then s.deny 0x0306
  else if i < 0x40 ∧ sourceClass i = 2 ∧ (s.hub.session o.session).role ≠ .service then s.deny 0x0304
  else State.accept ((s.onHub fun h => { h with collector := h.collector.acknowledge i }).notify [clearNote 2 i o.session])

/-! ## Ceilings, force, test mode -/

/-- A write of a ceiling (R296, R301): 0, or a step from the start step to 3, for uncorrected-contained sources only. -/
def State.ceilingWrite (s : State) (r : ObjRow) (i v : Nat) : Written :=
  if sourceClass i ≠ 1 ∨ (v ≠ 0 ∧ v < startStep i true) then s.deny 0x0306
  else
    let old := s.hub.collCfg.ceiling i
    let s := s.keep r (0x5010 + i) 2 v
    State.accept (s.onHub fun h => { h with collector := h.collector.setCeiling h.collCfg i old v s.now })

/-- A write of the force object (R310). -/
def State.forceWrite (s : State) (v : Nat) : Written :=
  if 2 ^ 27 ≤ v then s.deny 0x0306
  else
    let h := s.hub
    let (c, n) := h.collector.setForce h.collCfg (BitVec.ofNat 32 v) s.now h.time.seconds h.time.nanos
    State.accept (s.after (fun h => { h with collector := c }) n)

/-- TEST is sensed (R64); sensed low, it ends factory test mode (R308). -/
def State.senseTest (s : State) (level : Bool) : State :=
  let s : State := { s with lands := { s.lands with test := level } }
  if level then s else s.onHub fun h => { h with collector := { h.collector with testMode := false, keyStage := 0 } }

/-- A write of the factory test key (R308), with TEST as 0x2013.02 reads it. -/
def State.keyStep (s : State) (o : Origin) (v : Nat) : Written :=
  State.accept (s.onHub fun h => { h with collector := h.collector.key v o.session s.now (s.pwr.vio && s.lands.test) })

/-- An injection (R309). -/
def State.inject (s : State) (v : Nat) : Written :=
  let h := s.hub
  if !h.collector.testMode then s.deny 0x0307
  else if !injectable v then s.deny 0x0306
  else
    let (c, n) := h.collector.accept h.collCfg (injectedMsg v) true s.now h.time.seconds h.time.nanos
    State.accept (s.after (fun h => { h with collector := c }) n)

/-- Objects of 0x5000 to 0x5FFF. -/
def State.writeCollector (s : State) (r : ObjRow) (o : Origin) (idx sub v : Nat) : Written :=
  match idx, sub with
  | 0x5002, 3 => s.forceWrite v
  | 0x5003, 9 => s.clearRecord o
  | 0x5004, 1 => s.clearSource o v
  | 0x5004, 2 => s.clearAllSources o
  | 0x5005, 1 => s.acknowledge o v
  | 0x5080, 1 => s.keyStep o v
  | 0x5080, 3 => s.inject v
  | _, 2 => if 0x5010 ≤ idx ∧ idx < 0x5050 then s.ceilingWrite r (idx - 0x5010) v else State.accept (s.keep r idx sub v)
  | _, _ => State.accept (s.keep r idx sub v)

end Sys2Proof.Machine
end

