-- ==== Sys2Proof/Machine/ServiceWrite.lean ====
section
/-! DEFINITION. Patch slots and their trailers (R481 to R483), bank service (R435, R488), channel retirement (R434), migration (R493), and what a
write to a team or service object of Tables 15-6 and 15-7 does. -/

namespace Sys2Proof.Machine

/-! ## Patch slots -/

/-- Offset of the trailer area in a slot (Table 17-10). -/
def trailerAt : Nat := 32704

/-- The trailer of a slot when it is valid: whether it says active, and its activation sequence (R482). -/
def State.trailer (s : State) (i : Nat) : Option (Bool × Nat) :=
  let t := s.readSlot i trailerAt 64
  let state := leField t 4 1
  if leField t 60 4 = 0x5A3CC3A8 ∧ leField t 8 4 = crc32c (t.take 8) ∧ (state = 3 ∨ state = 4) then some (decide (state = 4), leField t 0 4) else none

/-- Write the trailer of a slot. -/
def State.writeTrailer (s : State) (i : Nat) (active : Bool) (seq : Nat) : State :=
  let head := leBytes 4 seq ++ leBytes 1 (if active then 4 else 3) ++ [0#8, 0#8, 0#8]
  s.writeSlot i trailerAt (head ++ leBytes 4 (crc32c head) ++ List.replicate 48 0#8 ++ leBytes 4 0x5A3CC3A8)

/-- Are all bytes 0xFF? -/
def allOnes (data : List Byte) : Bool := data.all fun b => b == 0xFF#8

/-- Code length a slot's header gives, and its code. -/
def State.codeLength (s : State) (i : Nat) : Nat := leNat (s.readSlot i 12 4)
def State.code (s : State) (i : Nat) : List Byte := s.readSlot i 128 (s.codeLength i)

/-- Does a header meet Table 17-9? -/
def State.headerOk (s : State) (i : Nat) : Bool :=
  let h := s.readSlot i 0 64
  decide (h.take 4 = [0x4B#8, 0x5A#8, 0x50#8, 0x31#8]) && decide (leField h 4 2 = s.rtVersion) && decide (leField h 6 2 = 0)
    && decide (leField h 8 4 ≠ 0) && decide (1 ≤ s.codeLength i) && decide (s.codeLength i ≤ 32576)
    && decide (leField h 20 4 = Config.romCrc % 2 ^ 32) && (slice h 24 40).all (fun b => b == 0#8)

/-- Signature and code CRC of a slot, as they are checked at verification and again at start (R482, R483). -/
def State.codeOk (s : State) (i : Nat) : Bool :=
  decide (leNat (s.readSlot i 16 4) = crc32c (s.code i)) && Config.signatureOk (s.readSlot i 0 64 ++ s.code i) (s.readSlot i 64 64)

/-- Verification of a slot (R483). -/
def State.imageOk (s : State) (i : Nat) : Bool :=
  s.headerOk i && s.codeOk i && allOnes (s.readSlot i (128 + s.codeLength i) (slotSize - 128 - s.codeLength i))

/-- Set the state of a slot (Table 15-8). -/
def Hub.setSlot (h : Hub) (i v : Nat) : Hub := h.onRun fun r => { r with slotState := editAt r.slotState i fun _ => v }

/-- A journal record of a patch event (Table 17-6). -/
def State.patchNote (s : State) (code i : Nat) : Notice := .journal 6 code (leBytes 1 i ++ leBytes 4 (leNat (s.readSlot i 8 4)))

/-- Verify the idle slot (R483). -/
def State.verifySlot (s : State) : State :=
  let i := s.hub.idleSlot
  if s.imageOk i then
    let s := (s.writeTrailer i false 0).onHub fun h => h.setSlot i 3
    s.notify [s.patchNote 2 i]
  else
    let s := s.onHub fun h => h.setSlot i 5
    s.notify [.fault 0x50 1 i, s.patchNote 3 i]

/-- May a patch slot be written now: no activation or revert waits (R433), and the MRAM window is open. The spec starts no MRAM write while the window is
closed (R215) and does not say what becomes of a patch write then; it is refused (DESIGN CHOICE, log 93). -/
def Hub.slotsFree (h : Hub) : Bool := !h.patchWaits && decide (h.windowCode = 0)

/-- A write of patch control (R433, R484, R217). -/
def State.patchWrite (s : State) (v : Nat) : Written :=
  let h := s.hub
  if v ≠ 3 ∧ h.patchWaits ∨ v ≠ 2 ∧ v ≠ 3 ∧ !h.slotsFree then s.deny 0x0307
  else match v with
  | 1 => State.accept s.verifySlot
  | 2 =>
    if h.run.slotState.getD h.idleSlot 0 ≠ 3 ∨ h.shadowed ∨ h.run.serviceReq.isSome ∨ h.run.migration.result = 1 ∨ h.run.migration.result = 2
        ∨ h.run.commitWait then s.deny 0x0307
    else State.accept (s.onHub fun h => h.plan .activate)
  | 3 => if h.activeSlot.isNone ∨ h.shadowed then s.deny 0x0307 else State.accept (s.onHub fun h => h.plan .revert)
  | _ => State.accept ((s.eraseSlot h.idleSlot).onHub fun h => h.setSlot h.idleSlot 0)

/-- A whole image for the idle slot has arrived (R433). -/
def State.patchImage (s : State) (data : List Byte) : State :=
  let i := s.hub.idleSlot
  let s := (s.writeSlot i 0 data).onHub fun h => h.setSlot i 2
  s.notify [s.patchNote 1 i]

/-! ## Bank service (R435, R488 to R492) -/

def Hub.serviceOf (h : Hub) (b : Nat) : ServiceMode := h.run.service.getD b .inService
def Hub.setService (h : Hub) (b : Nat) (m : ServiceMode) : Hub := h.onRun fun r => { r with service := editAt r.service b fun _ => m }

/-- Is a request valid in a bank's present state (Table 17-13)? -/
def Hub.serviceValid (h : Hub) (b code : Nat) : Bool :=
  match code, h.serviceOf b with
  | 1, .inService => (h.bankLanes b).all fun n => decide (h.command n = .off) || !(h.chansOf n).all fun ch => decide (ch / 12 = b)
  | 2, .isolated => true
  | 3, .isolated => true
  | 4, .isolated => (h.bankLanes b).isEmpty
  | 5, .isolated => true
  | 5, .retired => true
  | _, _ => false

/-- A bank service request (R435, R484, R488). -/
def State.serviceRequest (s : State) (b v : Nat) : Written :=
  let h := s.hub
  let busy := match h.run.serviceReq with | some (k, _) => decide (k ≠ b) | none => false
  if !h.present b && decide (h.serviceOf b ≠ .resetting) then s.deny 0x0309
  else if !h.serviceValid b v || busy || h.patchWaits then s.deny 0x0307
  else State.accept (s.onHub fun h => h.onRun fun r => { r with serviceReq := some (b, v), serviceOps := r.serviceOps + 1 })

/-- The bank's bit among the retired banks (0x7003.09). -/
def Hub.retiredBank (h : Hub) (b : Nat) : Bool := (h.val 0x7003 9 0).testBit b

/-- A write to a channel entry of 0x7004 (R434, R472). -/
def State.retireWrite (s : State) (r : ObjRow) (ch v : Nat) : Written :=
  let h := s.hub
  if v = 1 ∧ (h.owner ch).isSome ∨ v = 0 ∧ h.retiredBank (ch / 12) then s.deny 0x0307
  else
    let changed := decide (h.val 0x7004 (ch + 1) 0 ≠ v)
    let s := s.keep r 0x7004 (ch + 1) v
    let s := if changed then s.storeSave else s
    s.command [{ bank := ch / 12, lane := 0xFF, cmd := .setRetired (ch % 12) (decide (v = 1)) }]

/-! ## Migration (R493) -/

/-- The channel that a target adds to a single entry (true) or drops from a pair (false). -/
def movedChannel (old target : Nat) : Option (Nat × Bool) :=
  match entryChans old, entryChans target with
  | [c], [a, b] => if a = c then some (b, true) else if b = c then some (a, true) else none
  | [a, b], [c] => if c = a then some (b, false) else if c = b then some (a, false) else none
  | _, _ => none

/-- Is a bank out of the way of a move: the channel in fail-safe, the bank in glide or bank service? -/
def Hub.bankBusy (h : Hub) (ch : Nat) : Bool :=
  decide (h.serviceOf (ch / 12) ≠ .inService) ||
    match h.view (ch / 12) with | some c => c.glideOn || (c.chan (ch % 12)).inFailSafe | none => false

/-- Result code of a migration of a lane to a target; 0 where it may go on (Table 15-10). -/
def Hub.migrationCheck (h : Hub) (lane target : Nat) : Nat :=
  let m := (List.range 48).map fun n => if n = lane then target else h.entry n
  let rules := match h.mapFault m with | some (code, _) => decide (code ≤ 0x13) | none => false
  if !entryOk target || rules then 0x10
  else if (h.chansOf lane).isEmpty then 0x11
  else if (movedChannel (h.entry lane) target).isNone then 0x12
  else if (entryChans target).any h.bankBusy then 0x13
  else 0

/-- A migration start (R435, R493). -/
def State.migrationStart (s : State) : Written :=
  let h := s.hub
  let m := h.run.migration
  let lane := h.val 0x7005 1 0
  let target := h.val 0x7005 2 0xFFFF
  let st := (h.schedule lane).status
  if m.result = 1 ∨ m.result = 2 ∨ st = 1 ∨ st = 2 ∨ h.run.commitWait ∨ h.patchWaits then s.deny 0x0307
  else if h.migrationCheck lane target ≠ 0 then
    (s.onHub fun h => h.onRun fun r => { r with migration := { r.migration with result := h.migrationCheck lane target } }).deny 0x0307
  else
    let (ch, grow) := (movedChannel (h.entry lane) target).getD (0, false)
    State.accept (s.onHub fun h => h.onRun fun r => { r with migration := { result := 1, lane := lane, target := target, channel := ch, grow := grow } })

/-- Channels a migration in progress involves: those of the lane and the one that moves. -/
def Hub.migrationChans (h : Hub) : List Nat :=
  let m := h.run.migration
  if m.result = 2 then m.channel :: h.chansOf m.lane else []

/-- Commands that leave a channel off with OFF patterns and no route (R124). -/
def Hub.emptyOrders (h : Hub) (lane ch : Nat) : List Order :=
  let io := match h.viewChan ch with | some x => x.cfg.io | none => {}
  [{ bank := ch / 12, lane := lane, cmd := .setNormal (ch % 12) .off }, { bank := ch / 12, lane := lane, cmd := .setPattern (ch % 12) {} },
   { bank := ch / 12, lane := lane, cmd := .setIo (ch % 12) { io with route := none } }]

/-- A journal record of a migration (Table 17-6). -/
def Hub.migrationNote (h : Hub) (code : Nat) : Notice :=
  let m := h.run.migration
  .journal 5 code (leBytes 1 m.lane ++ leBytes 2 (h.entry m.lane) ++ leBytes 2 m.target)

/-- A grow is aborted (R495). -/
def State.abortGrow (s : State) : State :=
  let m := s.hub.run.migration
  if m.result = 2 ∧ m.grow then
    let (h, _) := s.hub.order (s.hub.emptyOrders m.lane m.channel)
    State.notify { s with hub := h.onRun fun r => { r with migration := { r.migration with result := 0x14, open_ := [] } } } [s.hub.migrationNote 3]
  else s

/-! ## Journal -/

/-- Clear the journal (R479): records that wait are written first, then the records held are cleared; where MRAM cannot be written now, the
clear is carried out with its record. -/
def State.journalClear (s : State) (o : Origin) : State :=
  let note : List Notice := [.journal 8 4 (leBytes 1 o.session)]
  if s.hub.windowCode ≠ 0 || s.hub.run.store.writing then
    (s.onHub fun h => h.onRun fun r => { r with clearDue := true }).notify note
  else
    let s : State := { s with mram := (s.hub.run.shadow.foldl Mram.append s.mram).clearJournal }
    (s.onHub fun h => h.onRun fun r => { r with shadow := [], flushLeft := 0, cursor := s.mram.oldest }).notify note

/-- A write of the read cursor (R436). -/
def State.cursorWrite (s : State) (v : Nat) : Written :=
  if (v + 2 ^ 32 - s.mram.oldest) % 2 ^ 32 < s.mram.records.length then State.accept (s.onHub fun h => h.onRun fun r => { r with cursor := v })
  else s.deny 0x0306

/-- Objects of 0x7000 to 0x7FFF but for the patch image. -/
def State.writeService (s : State) (r : ObjRow) (o : Origin) (idx sub v : Nat) : Written :=
  match idx, sub with
  | 0x7000, 1 => State.accept (if s.hub.run.store.dirty then s.storeSave else s)
  | 0x7001, 5 => s.cursorWrite v
  | 0x7001, 8 => State.accept (s.journalClear o)
  | 0x7002, 8 => s.patchWrite v
  | 0x7003, _ => s.serviceRequest (sub - 5) v
  | 0x7004, _ => s.retireWrite r (sub - 1) v
  | 0x7005, 2 => if entryOk v then State.accept (s.keep r idx sub v) else s.deny 0x0306
  | 0x7005, 3 => s.migrationStart
  | _, _ => State.accept (s.keep r idx sub v)

/-! ## Team objects (R430, R432, R438) -/

/-- Objects of 0x6000 to 0x6FFF. -/
def State.writeTeam (s : State) (r : ObjRow) (idx sub v : Nat) : Written :=
  let h := s.hub
  if idx = 0x6000 ∧ sub = 1 ∧ v = 1 ∧ (h.val 0x6000 2 0 = 0 ∨ (h.key .service).isNone ∨ s.rtVersion < 0x0301) then s.deny 0x0307
  else if idx = 0x6000 ∧ sub = 2 ∧ v = 0 ∧ h.val 0x6000 1 0 = 1 then s.deny 0x0307
  else
    let s := s.keep r idx sub v
    State.accept { s with hub := h.rebook s.hub }

end Sys2Proof.Machine
end

