-- ==== Sys2Proof/Machine/Write.lean ====
section
/-! DEFINITION. A write of a value to the dictionary (R38 to R42, R407, R411): existence, access, role, length and range in this order, then what the object's
chapter says. Write rows of the table stand for such a write that an open session has sent. -/

namespace Sys2Proof.Machine

/-- Is an object one of the two keys (R401)? -/
def keyObject (idx sub : Nat) : Bool := decide (idx = 0x1042) && (decide (sub = 2) || decide (sub = 3))

/-- Abort code for the access (R39, R401), 0 where the session may write the object. -/
def State.accessCode (s : State) (o : Origin) (r : ObjRow) (idx sub : Nat) : Nat :=
  let x := s.hub.session o.session
  if r.acc = .ro ∨ r.acc = .const ∨ ceilingFixed idx sub then 0x0303
  else if keyObject idx sub && decide (x.endpoint ≠ .spi) then 0x0104
  else if (keyObject idx sub || decide (r.acc = .rws)) && decide (x.role ≠ .service) then 0x0304
  else 0

/-- Abort code for the value (R407, R38), 0 where its length and range are those of the object. -/
def valueCode (r : ObjRow) (data : List Byte) : Nat :=
  if data.length ≠ r.size then 0x0305 else if !r.rng.ok (leNat data) then 0x0306 else 0

/-- Is it a user profile slot that a lane selects? Any write to it is refused before its value is looked at (check 1 of R142). -/
def Hub.slotTaken (h : Hub) (idx : Nat) : Bool :=
  decide (0x3800 ≤ idx) && decide (idx < 0x3810) && (List.range 48).any fun n => h.slotOf n == some (idx - 0x3800)

/-- What an accessible object does with a value of its length and range. -/
def State.store (s : State) (o : Origin) (r : ObjRow) (idx sub : Nat) (data : List Byte) : Written :=
  let v := leNat data
  if idx < 0x2000 then s.writeComm r idx sub v
  else if idx < 0x3000 then s.writeDevice r o idx sub v
  else if idx < 0x3400 then s.writeLane r ((idx - 0x3000) / 16) (idx % 16) sub v
  else if idx < 0x4000 then s.writeMap r idx sub v
  else if idx < 0x4400 then s.writeTime r idx sub v
  else if idx < 0x5000 then s.writeNet r idx sub v
  else if idx < 0x6000 then s.writeCollector r o idx sub v
  else if idx < 0x7000 then s.writeTeam r idx sub v
  else if idx = 0x7002 ∧ sub = 7 then (if s.hub.slotsFree then State.accept (s.patchImage data) else s.deny 0x0307)
  else s.writeService r o idx sub v

/-- Abort code for naming an object at all (R40). -/
def State.nameCode (s : State) (idx sub : Nat) : Nat :=
  if !indexExists idx then 0x0301 else if (rowOf s.rtVersion idx sub).isNone then 0x0302 else 0

/-- A write, by WRITE (`whole`) or as a completed transfer of segments. -/
def State.dictWrite (s : State) (o : Origin) (whole : Bool) (idx sub : Nat) (data : List Byte) : Written :=
  match rowOf s.rtVersion idx sub with
  | none => s.deny (s.nameCode idx sub)
  | some r =>
    if s.accessCode o r idx sub ≠ 0 then s.deny (s.accessCode o r idx sub)
    else if whole && decide (32 < r.size) then s.deny 0x030C
    else if data.length = r.size ∧ s.hub.slotTaken idx then s.deny 0x0307
    else if valueCode r data ≠ 0 then s.deny (valueCode r data)
    else s.store o r idx sub data

/-- May a session write at all: open (R391), and not an observer (Table 13-3)? -/
def Hub.writerCode (h : Hub) (k : Nat) : Nat :=
  let x := h.session k
  if 16 ≤ k ∨ x.mode ≠ .opened then 0x0201 else if x.role = .observer then 0x0205 else 0

/-- A write row: session k, while it is open and not an observer, has sent this write now (R403). -/
def State.writeRow (s : State) (k idx sub : Nat) (data : List Byte) : State :=
  if !s.hub.taking then s
  else
    let o : Origin := { session := k, arrival := s.now }
    if s.hub.writerCode k ≠ 0 then s.respond o (s.hub.writerCode k)
    else
      let s := s.onHub fun h => h.onSession k fun x => { x with lastUsed := s.now }
      (s.dictWrite o true idx sub data).finish o

/-- A write row whose value is a number. A number that the object's bytes cannot hold is no write. -/
def State.writeNum (s : State) (k idx sub v : Nat) : State :=
  match objRows.find? fun r => r.has idx sub with
  | none => s
  | some r => if v < 256 ^ r.size then s.writeRow k idx sub (leBytes r.size v) else s

/-- A write row for an object of lane n, where there is such a lane. -/
def State.writeLaneNum (s : State) (k n g sub v : Nat) : State := if n < 48 then s.writeNum k (laneIdx n g) sub v else s

end Sys2Proof.Machine
end

