-- ==== Sys2Proof/Machine/Service.lean ====
section
/-! DEFINITION. Requests as the runtime takes them: the checks of R391 in their order, repeats (R406), outstanding requests (R405), and the body of
every service of Table 13-3. -/

namespace Sys2Proof.Machine

/-! ## Requests waiting at the front of their queue -/

/-- A request: its bytes, whether its Q0 entry is malformed (R394), its way back and its receive time. -/
structure Request where
  data : List Byte
  bad  : Bool := false
  path : Option NetPath := none
  at_  : Nat := 0
  deriving DecidableEq, Repr

def Request.version (q : Request) : Nat := leField q.data 1 1 % 16
def Request.service (q : Request) : Nat := leField q.data 2 1
def Request.session (q : Request) : Nat := leField q.data 3 1
def Request.seq (q : Request) : Nat := headerSeq q.data
def Request.counter (q : Request) : Nat := headerCounter q.data
def Request.length (q : Request) : Nat := leField q.data 6 2
def Request.header (q : Request) : List Byte := q.data.take 12
def Request.body (q : Request) : List Byte := slice q.data 12 q.length
def Request.tag (q : Request) : List Byte := slice q.data (12 + q.length) 8
def Request.tagged (q : Request) : Bool := headerTagged q.data

/-- Reserved bits and the response bit of byte 1 (Table 13-2). -/
def Request.reserved (q : Request) : Bool := let b := leField q.data 1 1; b.testBit 4 || b.testBit 6 || b.testBit 7

/-- Endpoint a request came from (R395). -/
def Request.endpoint (q : Request) : Endpoint := match q.path with | none => .spi | some p => p.endpoint

/-- Step 1 of R391: protocol identifier, and lengths consistent with the entry or frame; what follows the tag is ignored (R387). -/
def Request.formed (q : Request) : Bool :=
  !q.bad && decide (12 ≤ q.data.length) && decide (q.data.take 1 = [0x01#8]) && decide (12 + q.length + (if q.tagged then 8 else 0) ≤ q.data.length)

/-- Service codes of Table 13-3. -/
def knownService (c : Nat) : Bool := [1, 2, 3, 4, 5, 6, 0x10, 0x11, 0x12, 0x13, 0x20, 0x21, 0x22, 0x23].contains c

/-- The request at the front of Q0, while no response is held (R393) and the runtime takes requests, or the oldest one of the inbox, which has
been taken when its Q5 entry was consumed. -/
def Hub.front (h : Hub) : Transport → Option Request
  | .spi => if !h.run.held.isEmpty || !h.taking then none else match h.net.q0.entries with
    | e :: _ => some { data := e.payload.take e.length, bad := e.bad, at_ := e.at_ }
    | [] => none
  | .net => match h.inbox.find? NetItem.isPhoden with
    | some (.phoden path data) => some { data := data, path := some path, at_ := path.arrival }
    | _ => none

/-- The runtime takes requests in order of arrival (R385). -/
def Hub.turn (h : Hub) (via : Transport) (q : Request) : Bool :=
  match h.front (match via with | .spi => .net | .net => .spi) with
  | some other => decide (q.at_ ≤ other.at_)
  | none => true

/-- The request that can be taken now from a transport. -/
def Hub.request (h : Hub) (via : Transport) : Option Request :=
  if !h.serving then none else match h.front via with
  | some q => if h.turn via q then some q else none
  | none => none

/-- Take the request at the front. -/
def Hub.pop (h : Hub) (via : Transport) : Hub :=
  match via with
  | .spi => { h with net := { h.net with q0 := { h.net.q0 with cons := (h.net.q0.cons + 1) % 32, entries := h.net.q0.entries.drop 1 } } }
  | .net => h.takeItem NetItem.isPhoden

/-- Is the session that a request names bound to its endpoint? -/
def Hub.bound (h : Hub) (q : Request) : Bool :=
  let x := h.session q.session
  decide (q.session < 16) && decide (x.mode ≠ .free) && decide (x.endpoint = q.endpoint)

/-- Where the response of a request goes, and whose it is: no session's where the one it names is not bound to its endpoint. -/
def Hub.origin (h : Hub) (q : Request) : Origin :=
  { session := if h.bound q then q.session else 0xFF, header := q.header, path := q.path, arrival := q.at_ }

/-- A service row takes the request at the front where it is well formed and of its service; a request that step 2 or 3 of R391 refuses is
taken by any service row. -/
def State.serve (s : State) (via : Transport) (c : Nat) (f : Request → Origin → State → State) : State :=
  match s.hub.request via with
  | none => s
  | some q =>
    if !q.formed then s
    else
      let o := s.hub.origin q
      let t := s.onHub fun h => h.pop via
      if q.version ≠ 1 then t.answerNow o 0x0103 []
      else if q.reserved then t.answerNow o 0x0102 []
      else if !knownService q.service then t.answerNow o 0x0101 []
      else if q.service ≠ c then s
      else f q o t

/-- A service without a session, with the length its body must have. -/
def State.serveFree (s : State) (via : Transport) (c len : Nat) (f : Request → Origin → State → State) : State :=
  s.serve via c fun q o s =>
    if q.session ≠ 0xFF ∨ q.tagged then s.answerNow o 0x0102 []
    else if q.body.length ≠ len then s.answerNow o 0x0102 []
    else f q o s

/-! ## Sessions: tags, repeats, outstanding requests -/

/-- The request of a session that a request repeats (R406). -/
def Session.repeated (x : Session) (q : Request) : Option Served :=
  x.history.find? fun e => decide (e.seq = q.seq) && (decide (x.role = .observer) || decide (e.counter = q.counter))

/-- Tag and counter (R398, R399). -/
def Hub.verified (h : Hub) (x : Session) (q : Request) : Bool :=
  if x.tagged then
    q.tagged && decide (q.tag = h.tagOf x q.header q.body) && (decide (x.counter < q.counter) || (x.repeated q).isSome)
  else !q.tagged

/-- A request that fails its tag or counter: discarded and counted; the third in a row closes the session, as does any failed CONFIRM (R396, R399). -/
def State.tagFailure (s : State) (n : Nat) (confirming : Bool) : State :=
  let k := (s.hub.session n).failures + 1
  let s := s.onHub fun h => (h.onRun fun r => { r with badTags := r.badTags + 1 }).onSession n fun x => { x with failures := k }
  let s := if confirming || decide (3 ≤ k) then s.onHub fun h => h.closeSession n else s
  s.notify [.fault 0x51 1 n]

/-- Requests a session may have outstanding (R405). -/
def outstandingMax (version : Nat) : Nat := if version ≤ 0x0301 then 1 else 4

/-- Requests taken and not yet answered. -/
def Session.outstanding (x : Session) : Nat := (x.history.filter fun e => !e.sent).length

/-- A new request is taken: the last four are kept (R406), and its counter is the highest accepted (R399). -/
def Session.takeIn (x : Session) (q : Request) : Session :=
  { x with counter := max x.counter q.counter
           history := (x.history ++ [({ seq := q.seq, counter := q.counter, reply := none, path := q.path } : Served)]).drop (x.history.length - 3) }

/-- A service in a session, with the role it needs and the bodies it admits (steps 4 to 9 of R391). -/
def State.serveIn (s : State) (via : Transport) (c : Nat) (role : Role) (fits : List Byte → Bool) (f : Request → Origin → State → State) : State :=
  s.serve via c fun q o s =>
    let n := q.session
    let x := s.hub.session n
    let confirming := decide (c = 3)
    if !s.hub.bound q || decide (x.mode ≠ (if confirming then .waiting else .opened)) then s.answerNow o 0x0201 []
    else if confirming && decide (x.openedAt + 1000000000 < q.at_) then s.onHub fun h => h.closeSession n
    else if !s.hub.verified x q then s.tagFailure n confirming
    else
      let s := s.onHub fun h => h.onSession n fun x => { x with failures := 0, lastUsed := s.now }
      match x.repeated q with
      | some e => match e.reply with
        | some r => if e.sent then s.sendTo q.path r else s
        | none => s
      | none =>
        if x.history.any fun e => decide (e.seq = q.seq) then s.answerNow o 0x0204 []
        else if outstandingMax s.rtVersion ≤ x.outstanding then s.answerNow o 0x0203 []
        else
          let s := s.onHub fun h => h.onSession n fun x => x.takeIn q
          if !x.may role then s.respond o 0x0205
          else if !fits q.body then s.respond o 0x0102
          else f q o s

/-! ## Session-less services -/

/-- DISCOVER (Table 13-3). -/
def State.answerDiscover (s : State) (o : Origin) : State :=
  let h := s.hub
  let free := ((List.range 16).filter fun n => decide (n ≠ 0) && decide ((h.session n).mode = .free)).length
  s.answerNow o 0 (beBytes 6 ownMac ++ leBytes 12 ((s.identity 0x1008 0).getD 0) ++ leBytes 2 s.rtVersion ++ leBytes 1 h.strapValue ++ leBytes 1 free
    ++ leBytes 1 (h.val 0x1040 1 1) ++ [0#8] ++ leBytes 4 (h.val 0x1040 2 0))

/-- The number an OPEN receives: 0 only over SPI, otherwise the lowest free one (R395). -/
def Hub.freeSession (h : Hub) (via : Transport) : Option Nat :=
  (List.range 16).find? fun n => decide ((h.session n).mode = .free) && (decide (n ≠ 0) || decide (via = .spi))

/-- The longest-idle observer session other than 0 (R397). -/
def Hub.idleObserver (h : Hub) : Option Nat :=
  lowestBy (fun n => (h.session n).lastUsed) ((List.range 16).filter fun n =>
    decide (n ≠ 0) && decide ((h.session n).mode = .opened) && decide ((h.session n).role = .observer))

/-- A session is reclaimed (R403). -/
def State.reclaim (s : State) (n : Nat) : State :=
  (s.onHub fun h => (h.closeSession n).onRun fun r => { r with reclaimed := r.reclaimed + 1 }).notify [.fault 0x51 2 n]

/-- Open session n for a role (R395, R396, R400). -/
def State.openAs (s : State) (q : Request) (o : Origin) (n : Nat) (role : Role) : State :=
  let (s, nonce) := s.drawBytes 8
  let s := s.onHub fun h => h.onSession n fun _ =>
    { mode := if role = .observer then .opened else .waiting, role := role, endpoint := q.endpoint, client := slice q.body 4 8, device := nonce
      openedAt := s.now, lastUsed := s.now }
  s.answerNow o 0 (leBytes 1 n ++ leBytes 1 (roleCode role) ++ leBytes 2 (s.hub.act 0x1041 1 10) ++ nonce)

/-- A role value of an OPEN. -/
def roleOf (v : Nat) : Option Role := match v with | 0 => some .observer | 1 => some .operator | 2 => some .service | _ => none

/-- OPEN (R395 to R397). -/
def State.answerOpen (s : State) (via : Transport) (q : Request) (o : Origin) : State :=
  if leField q.body 1 3 ≠ 0 then s.answerNow o 0x0102 []
  else match roleOf (leField q.body 0 1) with
  | none => s.answerNow o 0x0205 []
  | some role =>
    if role ≠ .observer ∧ (s.hub.key role).isNone then s.answerNow o 0x0206 []
    else match s.hub.freeSession via with
    | some n => s.openAs q o n role
    | none =>
      match (if role = .service then s.hub.idleObserver else none) with
      | some n => (s.reclaim n).openAs q o n role
      | none => (s.answerNow o 0x0202 []).notify [.fault 0x51 3 0xFF]

/-- PROVISION (R401). -/
def State.answerProvision (s : State) (via : Transport) (q : Request) (o : Origin) : State :=
  let slot := leField q.body 0 1
  let role : Role := if slot = 1 then .service else .operator
  if via = .net then s.answerNow o 0x0104 []
  else if leField q.body 1 3 ≠ 0 then s.answerNow o 0x0102 []
  else if 1 < slot then s.answerNow o 0x0306 []
  else if (s.hub.key role).isSome then s.answerNow o 0x0207 []
  else
    let s := s.notify [.journal 8 1 (leBytes 1 slot)]
    s.answerNow o 0 [] { puts := [(0x1042, 2 + slot, leNat (slice q.body 4 32))], save := true, closes := s.hub.sessionsWith fun x => decide (x.role = role) }

/-! ## Session services -/

/-- CONFIRM opens the pending session (R396); a service session is recorded in the journal. -/
def State.answerConfirm (s : State) (q : Request) (o : Origin) : State :=
  let s := s.onHub fun h => h.onSession q.session fun x => { x with mode := .opened }
  let s := if (s.hub.session q.session).role = .service then s.notify [.journal 8 3 (leBytes 1 q.session)] else s
  s.respond o 0

/-- CLOSE (R403). -/
def State.answerClose (s : State) (q : Request) (o : Origin) : State := s.respond o 0 [] { closes := [q.session] }

/-- Abort code of a read of an object (R39, R40). -/
def State.readCode (s : State) (idx sub : Nat) : Nat :=
  match rowOf s.rtVersion idx sub with
  | none => s.nameCode idx sub
  | some r => if r.acc = .wo then 0x0303 else 0

/-- READ (R407). -/
def State.answerRead (s : State) (q : Request) (o : Origin) : State :=
  let idx := leField q.body 0 2
  let sub := leField q.body 2 1
  if leField q.body 3 1 ≠ 0 then s.respond o 0x0102
  else if s.readCode idx sub ≠ 0 then s.respond o (s.readCode idx sub)
  else match rowOf s.rtVersion idx sub with
  | none => s.respond o 0x0302
  | some r =>
    if 32 < r.size then s.respond o 0x030C
    else s.respond o 0 (leBytes 2 r.size ++ [0#8, 0#8] ++ leBytes r.size (s.value q.session r idx sub))

/-- WRITE (R407). -/
def State.answerWrite (s : State) (q : Request) (o : Origin) : State :=
  let n := leField q.body 4 2
  if leField q.body 3 1 ≠ 0 ∨ leField q.body 6 2 ≠ 0 ∨ 32 < n ∨ q.body.length ≠ 8 + n then s.respond o 0x0102
  else (s.dictWrite o true (leField q.body 0 2) (leField q.body 2 1) (slice q.body 8 n)).finish o

/-- Data bytes per SEGMENT READ or WRITE, and per queue or buffer access (Table 13-4). -/
def segmentMax (via : Transport) : Nat := match via with | .spi => 24 | .net => 1024
def blockMax (via : Transport) : Nat := match via with | .spi => 32 | .net => 1024

/-- One segment of a held value (R408). -/
def State.giveSegment (s : State) (o : Origin) (via : Transport) (data : List Byte) (at_ most : Nat) : State :=
  let part := slice data at_ (min most (segmentMax via))
  s.respond o 0 (leBytes 4 data.length ++ leBytes 4 at_ ++ leBytes 2 part.length ++ [0#8, 0#8] ++ part)

/-- SEGMENT READ (R408). -/
def State.answerSegmentRead (s : State) (via : Transport) (q : Request) (o : Origin) : State :=
  let idx := leField q.body 0 2
  let sub := leField q.body 2 1
  let at_ := leField q.body 4 4
  let most := leField q.body 8 2
  if leField q.body 3 1 ≠ 0 ∨ leField q.body 10 2 ≠ 0 then s.respond o 0x0102
  else if s.readCode idx sub ≠ 0 then s.respond o (s.readCode idx sub)
  else if at_ = 0 then
    match (rowOf s.rtVersion idx sub).bind fun r => s.objectBytes q.session r idx sub with
    | none => s.respond o 0x0307
    | some data => (s.onHub fun h => h.onSession q.session fun x => { x with reading := some (objKey idx sub, data) }).giveSegment o via data 0 most
  else match (s.hub.session q.session).reading with
  | some (k, data) => if k = objKey idx sub ∧ at_ ≤ data.length then s.giveSegment o via data at_ most else s.respond o 0x0401
  | none => s.respond o 0x0401

/-- A segment of a transfer that is accepted so far (R409): the value is written whole with the last one. -/
def State.takeSegment (s : State) (o : Origin) (n idx sub total : Nat) (data : List Byte) : State :=
  if total < data.length then (s.onHub fun h => h.onSession n fun x => { x with writing := none }).respond o 0x0401
  else if data.length = total then
    ((s.onHub fun h => h.onSession n fun x => { x with writing := none }).dictWrite o false idx sub data).finish o
  else
    (s.onHub fun h => h.onSession n fun x => { x with writing := some { idx := idx, sub := sub, total := total, data := data, last := s.now } }).respond o 0

/-- Is an object the patch image? -/
def isPatch (idx sub : Nat) : Bool := decide (idx = 0x7002) && decide (sub = 7)

/-- SEGMENT WRITE (R409, R433). -/
def State.answerSegmentWrite (s : State) (via : Transport) (q : Request) (o : Origin) : State :=
  let idx := leField q.body 0 2
  let sub := leField q.body 2 1
  let total := leField q.body 4 4
  let at_ := leField q.body 8 4
  let n := leField q.body 12 2
  let part := slice q.body 16 n
  let x := s.hub.session q.session
  let lost := x.segLost || (match x.writing with | some w => decide (w.last + 1000000000 < q.at_) | none => false)
  if leField q.body 3 1 ≠ 0 ∨ leField q.body 14 2 ≠ 0 ∨ segmentMax via < n ∨ q.body.length ≠ 16 + n then s.respond o 0x0102
  else if lost then (s.onHub fun h => h.onSession q.session fun x => { x with writing := none, segLost := false }).respond o 0x0403
  else match rowOf s.rtVersion idx sub with
  | none => s.respond o (s.nameCode idx sub)
  | some r =>
    if s.accessCode o r idx sub ≠ 0 then s.respond o (s.accessCode o r idx sub)
    else if isPatch idx sub && s.hub.patchWaits then s.respond o 0x0307
    else if at_ = 0 then
      if total ≠ r.size then s.respond o 0x0402
      else (if isPatch idx sub then s.onHub fun h => h.setSlot h.idleSlot 1 else s).takeSegment o q.session idx sub total part
    else match x.writing with
    | some w =>
      if w.idx = idx ∧ w.sub = sub ∧ w.total = total ∧ at_ = w.data.length then s.takeSegment o q.session idx sub total (w.data ++ part)
      else (s.onHub fun h => h.onSession q.session fun x => { x with writing := none }).respond o 0x0401
    | none => s.respond o 0x0401

/-- Entries of a queue that can be read: entry bytes and ring size (R410, Table 12-3). -/
def queueShape (k : Nat) : Option (Nat × Nat) :=
  match k with
  | 2 => some (16, 64) | 3 => some (16, 16) | 4 => some (16, 32) | 5 => some (16, 64) | 6 => some (8, 16) | 7 => some (4, 4096)
  | _ => none

/-- Entry i of a queue. -/
def Hub.queueEntry (h : Hub) (k i : Nat) : Nat :=
  match k with
  | 2 => h.net.q2.slots.getD i 0
  | 3 => h.net.q3.slots.getD i 0
  | 4 => h.net.q4.slots.getD i 0
  | 5 => h.net.q5.slots.getD i 0
  | 6 => h.net.q6.slots.getD i 0
  | _ => (h.capture.ring.find? fun e => e.1 == i).elim 0 fun e => e.2.toNat

/-- QUEUE READ (R410). -/
def State.answerQueueRead (s : State) (via : Transport) (q : Request) (o : Origin) : State :=
  let first := leField q.body 2 2
  let n := leField q.body 4 2
  if leField q.body 1 1 ≠ 0 ∨ leField q.body 6 2 ≠ 0 then s.respond o 0x0102
  else match queueShape (leField q.body 0 1) with
  | none => s.respond o 0x0501
  | some (size, ring) =>
    if ring ≤ first ∨ ring < n then s.respond o 0x0501
    else if blockMax via < n * size then s.respond o 0x0102
    else s.respond o 0 (leBytes 2 n ++ [0#8, 0#8]
      ++ (List.range n).flatMap fun i => leBytes size (s.hub.queueEntry (leField q.body 0 1) ((first + i) % ring)))

/-- Write entries into Q3 or Q4 from the entry `at_` on, without moving an index. -/
def Net.writeEntries (n : Net) (k at_ : Nat) (entries : List Nat) : Net :=
  let fill (ring : Nat) (slots : List Nat) : List Nat := (mapFrom (fun i v => (i, v)) 0 entries).foldl (fun l e => editAt l ((at_ + e.1) % ring) fun _ => e.2) slots
  if k = 3 then { n with q3 := { n.q3 with slots := fill 16 n.q3.slots } } else { n with q4 := { n.q4 with slots := fill 32 n.q4.slots } }

/-- QUEUE WRITE (R410). -/
def State.answerQueueWrite (s : State) (via : Transport) (q : Request) (o : Origin) : State :=
  let k := leField q.body 0 1
  let first := leField q.body 2 2
  let n := leField q.body 4 2
  let ring := if k = 3 then 16 else 32
  if leField q.body 1 1 ≠ 0 ∨ leField q.body 6 2 ≠ 0 then s.respond o 0x0102
  else if k ≠ 3 ∧ k ≠ 4 then s.respond o 0x0501
  else if blockMax via < n * 16 ∨ q.body.length ≠ 8 + n * 16 then s.respond o 0x0102
  else if ring ≤ first ∨ ring < n then s.respond o 0x0501
  else
    (s.onHub fun h => { h with net := h.net.writeEntries k first ((List.range n).map fun i => leField q.body (8 + 16 * i) 16) }).respond o 0

/-- Address of a buffer access, none where it lies outside the buffers (R369, R410). -/
def bufferAt (kind i at_ n : Nat) : Option Nat :=
  if bufSize < at_ + n then none
  else if kind = 0 ∧ i < 48 then some (txBase i + at_)
  else if kind = 1 ∧ i < 64 then some (rxBase i + at_)
  else none

/-- BUFFER READ (R410). -/
def State.answerBufferRead (s : State) (via : Transport) (q : Request) (o : Origin) : State :=
  let n := leField q.body 4 2
  if leField q.body 6 2 ≠ 0 ∨ blockMax via < n then s.respond o 0x0102
  else match bufferAt (leField q.body 0 1) (leField q.body 1 1) (leField q.body 2 2) n with
  | none => s.respond o 0x0501
  | some a => s.respond o 0 (leBytes 2 n ++ [0#8, 0#8] ++ s.readBuf a n)

/-- BUFFER WRITE, to a transmit buffer (R410). -/
def State.answerBufferWrite (s : State) (via : Transport) (q : Request) (o : Origin) : State :=
  let n := leField q.body 4 2
  if leField q.body 6 2 ≠ 0 ∨ blockMax via < n ∨ q.body.length ≠ 8 + n then s.respond o 0x0102
  else if leField q.body 0 1 ≠ 0 then s.respond o 0x0501
  else match bufferAt 0 (leField q.body 1 1) (leField q.body 2 2) n with
  | none => s.respond o 0x0501
  | some a => (s.writeBuf a (slice q.body 8 n)).respond o 0

end Sys2Proof.Machine
end

