-- ==== Sys2Proof/Machine/Session.lean ====
section
/-! DEFINITION. The meanings of the SPI transactions, of the services and of the session timers (chapter 13). -/

namespace Sys2Proof.Machine

/-! ## SPI (R392 to R394) -/

/-- The SPI port works: VIO is present, and the hub is out of reset and not in standby (R89, R95, R97). -/
def State.spiOn (s : State) : Bool := s.pwr.vio && s.hub.serves

/-- Q0 is full with 31 entries in use. -/
def Hub.q0Full (h : Hub) : Bool := decide (hostRoom ≤ h.net.q0.entries.length)

/-- The status byte (Table 13-6). -/
def State.spiStatusByte (s : State) : Byte :=
  let h := s.hub
  BitVec.ofNat 8 (bits [h.collector.handed, !h.net.q1.entries.isEmpty, h.q0Full, s.irqnLow, h.spiBad, !h.run.held.isEmpty])

/-- One transaction: the level of SCK as CSN fell, which sets the mode (R58), what SDO shifted out, and whether it was discarded and counted in 0x1041.06. -/
def State.spiTransaction (s : State) (sck : Bool) (out : List Byte) (discarded : Bool) : State :=
  s.onHub fun h => { h with spiMode3 := sck, spiOut := s.spiStatusByte :: out, spiBad := discarded
                            net := if discarded then { h.net with spiBad := h.net.spiBad + 1 } else h.net }

/-- The Q0 entry that 64 bytes spell (R370, R394). -/
def q0Entry (data : List Byte) (now : Nat) : HostEntry :=
  let n := leField data 0 2
  { payload := slice data 4 60, length := n, bad := decide (n < 12) || decide (60 < n) || decide (leField data 2 2 ≠ 0), at_ := now }

/-- WRITE_Q0 (R392, R393). -/
def execSpiWriteQ0 (sck : Bool) (data : List Byte) (s : State) : Host.Outcome State Fault Refusal :=
  .next <|
    if !s.spiOn then s
    else if s.hub.q0Full then (s.spiTransaction sck [] true).notify [.fault 0x4B 1 0xFF]
    else if data.length < 64 then s.spiTransaction sck [] true
    else (s.spiTransaction sck [] false).onHub fun h =>
      { h with net := { h.net with q0 := { h.net.q0 with prod := (h.net.q0.prod + 1) % 32, entries := h.net.q0.entries ++ [q0Entry data s.now] } } }

/-- The 64 bytes of a Q1 entry (R370). -/
def q1Bytes : List HostEntry → List Byte
  | [] => List.replicate 64 0#8
  | e :: _ => leBytes 2 e.length ++ [0#8, 0#8] ++ padTo 60 (e.payload.take 60)

/-- READ_Q1 (R392): the entry at the consumer index is shifted out; clocked whole, it is consumed. -/
def execSpiReadQ1 (sck : Bool) (clocked : Nat) (s : State) : Host.Outcome State Fault Refusal :=
  .next <|
    if !s.spiOn then s
    else
      let q := s.hub.net.q1
      let out := padTo clocked ((q1Bytes q.entries).take clocked)
      if clocked < 64 then s.spiTransaction sck out true
      else (s.spiTransaction sck out false).onHub fun h =>
        if q.entries.isEmpty then h
        else { h with net := { h.net with q1 := { h.net.q1 with cons := (h.net.q1.cons + 1) % 32, entries := h.net.q1.entries.drop 1 } } }

/-- STATUS (R392). -/
def execSpiStatus (sck : Bool) (s : State) : Host.Outcome State Fault Refusal :=
  .next <|
    if !s.spiOn then s
    else
      let h := s.hub
      s.spiTransaction sck (leBytes 1 h.net.q0.entries.length ++ leBytes 1 h.net.q1.entries.length ++ leBytes 2 h.pending.toNat ++ leBytes 1 h.net.q0.prod
        ++ leBytes 1 h.net.q1.cons ++ leBytes 2 h.net.spiBad.toNat) false

/-- A transaction with an unknown command byte or cut short (R392). -/
def execSpiTransactionDiscard (sck : Bool) (s : State) : Host.Outcome State Fault Refusal :=
  .next (if s.spiOn then s.spiTransaction sck [] true else s)

/-- A request that fails step 1 is discarded and counted (R391, R394). -/
def execRequestDiscard (via : Transport) (s : State) : Host.Outcome State Fault Refusal :=
  .next <| match s.hub.request via with
    | some q =>
      if q.formed then s
      else s.onHub fun h => (h.pop via).onRun fun r => match via with
        | .spi => { r with badQ0 := r.badQ0 + 1 }
        | .net => { r with badNet := r.badNet + 1 }
    | none => s

/-- Is a response one of session n (Table 13-2)? -/
def ofSession (n : Nat) (data : List Byte) : Bool := decide (leField data 3 1 = n)

/-- Responses that were held are sent: their sessions are idle from now on (R403). -/
def Run.heldSent (r : Run) (out : List (List Byte)) (now : Nat) : Run :=
  { r with held := r.held.drop out.length
           sessions := mapFrom (fun i x => if decide (x.mode ≠ .free) && out.any (ofSession i) then { x with lastUsed := now } else x) 0 r.sessions }

/-- Held responses enter Q1 as far as it has room (R393). -/
def execResponsePostResume (s : State) : Host.Outcome State Fault Refusal :=
  .next <|
    let h := s.hub
    let out := h.run.held.take (hostRoom - h.net.q1.entries.length)
    if h.serving then
      s.onHub fun h => { (h.onRun fun r => r.heldSent out s.now) with net := out.foldl (fun n d => n.postQ1 s.now d) h.net }
    else s

/-! ## Services (Table 13-3) -/

/-- No body. -/
def emptyBody (body : List Byte) : Bool := body.isEmpty

/-- DISCOVER. -/
def execDiscover (via : Transport) (s : State) : Host.Outcome State Fault Refusal :=
  .next (s.serveFree via 0x01 0 fun _ o s => s.answerDiscover o)

/-- OPEN. -/
def execOpenSession (via : Transport) (s : State) : Host.Outcome State Fault Refusal :=
  .next (s.serveFree via 0x02 12 fun q o s => s.answerOpen via q o)

/-- CONFIRM. -/
def execConfirm (via : Transport) (s : State) : Host.Outcome State Fault Refusal :=
  .next (s.serveIn via 0x03 .observer emptyBody fun q o s => s.answerConfirm q o)

/-- CLOSE. -/
def execClose (via : Transport) (s : State) : Host.Outcome State Fault Refusal :=
  .next (s.serveIn via 0x04 .observer emptyBody fun q o s => s.answerClose q o)

/-- KEEPALIVE. -/
def execKeepalive (via : Transport) (s : State) : Host.Outcome State Fault Refusal :=
  .next (s.serveIn via 0x05 .observer emptyBody fun _ o s => s.respond o 0)

/-- PROVISION. -/
def execProvision (via : Transport) (s : State) : Host.Outcome State Fault Refusal :=
  .next (s.serveFree via 0x06 36 fun q o s => s.answerProvision via q o)

/-- READ. -/
def execRead (via : Transport) (s : State) : Host.Outcome State Fault Refusal :=
  .next (s.serveIn via 0x10 .observer (fun b => decide (b.length = 4)) fun q o s => s.answerRead q o)

/-- WRITE. -/
def execWrite (via : Transport) (s : State) : Host.Outcome State Fault Refusal :=
  .next (s.serveIn via 0x11 .operator (fun b => decide (8 ≤ b.length)) fun q o s => s.answerWrite q o)

/-- SEGMENT READ. -/
def execSegmentRead (via : Transport) (s : State) : Host.Outcome State Fault Refusal :=
  .next (s.serveIn via 0x12 .observer (fun b => decide (b.length = 12)) fun q o s => s.answerSegmentRead via q o)

/-- SEGMENT WRITE. -/
def execSegmentWrite (via : Transport) (s : State) : Host.Outcome State Fault Refusal :=
  .next (s.serveIn via 0x13 .operator (fun b => decide (16 ≤ b.length)) fun q o s => s.answerSegmentWrite via q o)

/-- QUEUE READ. -/
def execQueueRead (via : Transport) (s : State) : Host.Outcome State Fault Refusal :=
  .next (s.serveIn via 0x20 .observer (fun b => decide (b.length = 8)) fun q o s => s.answerQueueRead via q o)

/-- QUEUE WRITE. -/
def execQueueWrite (via : Transport) (s : State) : Host.Outcome State Fault Refusal :=
  .next (s.serveIn via 0x21 .operator (fun b => decide (8 ≤ b.length)) fun q o s => s.answerQueueWrite via q o)

/-- BUFFER READ. -/
def execBufferRead (via : Transport) (s : State) : Host.Outcome State Fault Refusal :=
  .next (s.serveIn via 0x22 .observer (fun b => decide (b.length = 8)) fun q o s => s.answerBufferRead via q o)

/-- BUFFER WRITE. -/
def execBufferWrite (via : Transport) (s : State) : Host.Outcome State Fault Refusal :=
  .next (s.serveIn via 0x23 .operator (fun b => decide (8 ≤ b.length)) fun q o s => s.answerBufferWrite via q o)

/-! ## Timers and objects of sessions -/

/-- A pending session without its CONFIRM for 1 s closes without a response (R396). -/
def execConfirmTimeout (n : Nat) (s : State) : Host.Outcome State Fault Refusal :=
  .next <|
    let x := s.hub.session n
    if s.hub.serving && decide (n < 16) && decide (x.mode = .waiting) && decide (x.openedAt + 1000000000 ≤ s.now) then s.onHub fun h => h.closeSession n else s

/-- A session idle beyond the session timeout is reclaimed (R403); one with a request unanswered or its response held is not idle (Table 13-10). -/
def execSessionReclaim (n : Nat) (s : State) : Host.Outcome State Fault Refusal :=
  .next <|
    let x := s.hub.session n
    if s.hub.serving && decide (n < 16) && decide (x.mode ≠ .free) && decide (x.outstanding = 0) && !s.hub.run.held.any (ofSession n)
        && decide (x.lastUsed + s.hub.act 0x1041 1 10 * 1000000000 < s.now) then s.reclaim n
    else s

/-- 1 000 ms without a segment discard a segmented write (R409). -/
def execSegmentTimeout (n : Nat) (s : State) : Host.Outcome State Fault Refusal :=
  .next <| match (s.hub.session n).writing with
    | some w =>
      if s.hub.serving && decide (w.last + 1000000000 ≤ s.now) then s.onHub fun h => h.onSession n fun x => { x with writing := none, segLost := true } else s
    | none => s

/-- A write of the per-session close object (R397, 0x1100 + n .07). -/
def execSessionCloseObject (k n : Nat) (s : State) : Host.Outcome State Fault Refusal :=
  .next (if n < 16 then s.writeNum k (0x1100 + n) 7 1 else s)

/-- A write of a key (R401). -/
def execKeyWrite (k : Nat) (role : Role) (key : List Byte) (s : State) : Host.Outcome State Fault Refusal :=
  .next <| match role with
    | .observer => s
    | .operator => s.writeRow k 0x1042 2 key
    | .service => s.writeRow k 0x1042 3 key

/-- A write of a transport object (R404). -/
def execTransportConfigWrite (k sub : Nat) (value : List Byte) (s : State) : Host.Outcome State Fault Refusal :=
  .next (s.writeRow k 0x1040 sub value)

/-- A write to an object without a row of its own (R41). -/
def execRegisterWrite (k idx sub : Nat) (value : List Byte) (s : State) : Host.Outcome State Fault Refusal :=
  .next (s.writeRow k idx sub value)

end Sys2Proof.Machine
end

