-- ==== Sys2Proof/Machine/Network.lean ====
section
/-! DEFINITION. The meanings of the network events (chapter 12, R385, R386): Q3 and Q4, frames on the ports, and what the runtime makes of Q5. -/

namespace Sys2Proof.Machine

/-- The hub clock is the reference: a calibration is in progress (R79, R379). -/
def Hub.calibrating (h : Hub) : Bool := decide (h.synth = 2)

/-- A block of the ports and queues acts while the hub serves them, and the Q3 head is brought up to date. -/
def State.onNet (s : State) (f : Net → Net × List Notice) : State :=
  if !s.hub.serves then s
  else
    let (n, m) := f s.hub.net
    (s.after (fun h => { h with net := n }) m).pumpQ3

/-- As `onNet`, where the launch counts of domain P change as well. -/
def State.onNetTime (s : State) (f : Net → TimeDomains → Net × TimeDomains × List Notice) : State :=
  if !s.hub.serves then s
  else
    let (n, t, m) := f s.hub.net s.hub.time
    (s.after (fun h => { h with net := n, time := t }) m).pumpQ3

/-! ## Q3 and Q4 (R346, R374) -/

/-- Q3_LAUNCH_ELIGIBLE. -/
def execQ3LaunchEligible (s : State) : Host.Outcome State Fault Refusal :=
  .next (s.onNet fun n => (n.launch s.hub.time s.now s.hub.calibrating, []))

/-- MEDIUM_WAIT_TIMEOUT. -/
def execMediumWaitTimeout (s : State) : Host.Outcome State Fault Refusal :=
  .next (s.onNetTime fun n t => n.mediumTimeout t s.now)

/-- Q4_HANDOVER. -/
def execQ4Handover (s : State) : Host.Outcome State Fault Refusal :=
  .next (s.onNet fun n => n.handover s.hub.netCfg fun i => s.txData i 20)

/-! ## Frames on a port (R348, R357 to R365) -/

/-- TRANSMIT_OPPORTUNITY: under PLCA, that of node ID `id`. -/
def execTransmitOpportunity (n id : Nat) (s : State) : Host.Outcome State Fault Refusal :=
  .next (if n < 2 then s.onNet fun x => (x.opportunity s.hub.netCfg n id s.now s.hub.time.p s.hub.calibrating, []) else s)

/-- TRANSMIT_ABORT. -/
def execTransmitAbort (n : Nat) (s : State) : Host.Outcome State Fault Refusal :=
  .next (if n < 2 then s.onNetTime fun x t => x.abortFrame t n s.now else s)

/-- FRAME_TRANSMIT_END. -/
def execFrameTransmitEnd (n : Nat) (s : State) : Host.Outcome State Fault Refusal :=
  .next (if n < 2 then s.onNetTime fun x t => x.frameEnd t n s.now t.p s.hub.calibrating else s)

/-- BEACON_LOST. -/
def execBeaconLost (n : Nat) (s : State) : Host.Outcome State Fault Refusal :=
  .next (if n < 2 then s.onNet fun x => x.beaconLost s.hub.netCfg n s.now else s)

/-- BEACON_SEEN. -/
def execBeaconSeen (n : Nat) (s : State) : Host.Outcome State Fault Refusal :=
  .next (if n < 2 then s.onNet fun x => x.beaconSeen s.hub.netCfg n s.now else s)

/-- RECEIVE_ERROR_RATE_CLEAR. -/
def execReceiveErrorRateClear (n : Nat) (s : State) : Host.Outcome State Fault Refusal :=
  .next (if n < 2 then s.onNet fun x => x.rateAgain s.hub.netCfg n s.now else s)

/-- FRAME_INGRESS: `frame` has its FCS; a frame for port 2 is stored in the receive buffer of its Q5 entry. -/
def execFrameIngress (n : Nat) (frame : List Byte) (lineError : Bool) (s : State) : Host.Outcome State Fault Refusal :=
  .next <|
    if n < 2 ∧ s.hub.serves then
      let (net, mine, m) := s.hub.net.ingress s.hub.netCfg n s.now s.hub.time.short frame lineError s.hub.lap.disturbed s.hub.calibrating
      let s : State := match mine with
        | some (i, data) => s.writeBuf (rxBase i) data
        | none => s
      (s.after (fun h => { h with net := net }) m).pumpQ3
    else s

/-- LEARN_ENTRY_AGE_OUT. -/
def execLearnEntryAgeOut (mac : Nat) (s : State) : Host.Outcome State Fault Refusal :=
  .next (s.onNet fun n => (n.ageOut s.hub.netCfg mac s.now, []))

/-! ## Q5 classification (R376, R385, R386, R441) -/

/-- Parts of a received frame: source, destination, tag control where tagged, EtherType, payload. -/
structure RxFrame where
  dst     : Nat
  src     : Nat
  tag     : Option Nat
  type    : Nat
  payload : List Byte

/-- A frame from its bytes without the FCS. -/
def rxFrame (data : List Byte) : RxFrame :=
  if taggedFrame data then
    { dst := netNat data 0 6, src := netNat data 6 6, tag := some (netNat data 14 2), type := netNat data 16 2, payload := data.drop 18 }
  else { dst := netNat data 0 6, src := netNat data 6 6, tag := none, type := netNat data 12 2, payload := data.drop 14 }

/-- A Phoden request names DISCOVER. -/
def isDiscover (data : List Byte) : Bool := decide (leField data 2 1 = 0x01)

/-- The tag of a raw response: VID and PCP of the request's (Table 13-1). -/
def answerTag (tci : Nat) : Nat := tci % 4096 + tci / 8192 * 8192

/-- A valid IPv4 packet without options and fragments (R386): protocol, source, destination, payload. -/
def ipv4Parts (data : List Byte) : Option (Nat × Nat × Nat × List Byte) :=
  let total := netNat data 2 2
  if 20 ≤ data.length ∧ netNat data 0 1 = 0x45 ∧ 20 ≤ total ∧ total ≤ data.length ∧ netNat data 6 2 % 0x4000 = 0 ∧ inetSum (data.take 20) = 0 then
    some (netNat data 9 1, netNat data 12 4, netNat data 16 4, slice data 20 (total - 20))
  else none

/-- The payload of a UDP datagram to a port, with its source port (R385, R386). -/
def udpParts (src dst port : Nat) (data : List Byte) : Option (Nat × List Byte) :=
  let len := netNat data 4 2
  let sum := inetSum (beBytes 4 src ++ beBytes 4 dst ++ [0#8, 17#8] ++ beBytes 2 len ++ data.take len)
  if 8 ≤ len ∧ len ≤ data.length ∧ netNat data 2 2 = port ∧ (netNat data 6 2 = 0 ∨ sum = 0) then some (netNat data 0 2, slice data 8 (len - 8)) else none

/-- Broadcast addresses that DISCOVER may be sent to (Table 13-1). -/
def Hub.ipBroadcast (h : Hub) (ip : Nat) : Bool :=
  decide (ip = 0xFFFFFFFF) || decide (ip = (h.ip &&& h.mask) + (0xFFFFFFFF - h.mask))

/-- What a raw Ethernet frame of EtherType 0x88B5 is to the runtime. -/
def Hub.rawItem (h : Hub) (f : RxFrame) (arrival : Nat) : Option NetItem :=
  if netNat f.payload 0 1 = 0x01 then
    if h.rawOn && (decide (f.dst = ownMac) || (decide (f.dst = broadcastMac) && isDiscover f.payload)) then
      some (.phoden { mac := f.src, tag := f.tag.map answerTag, endpoint := .raw f.src, arrival := arrival } f.payload)
    else none
  else if netNat f.payload 0 1 = 0x02 && f.tag.isNone && decide (f.dst = teamMac) && decide (h.val 0x6000 1 0 = 1)
      && (h.teamAccept f.src f.payload).isSome then some (.team f.src f.payload)
  else none

/-- What an IPv4 packet is to the runtime. -/
def Hub.ipItem (h : Hub) (f : RxFrame) (arrival : Nat) (data : List Byte) : Option NetItem :=
  match ipv4Parts f.payload with
  | none => none
  | some (17, src, dst, body) =>
    match udpParts src dst h.udpPort body with
    | some (port, req) =>
      if h.udpOn && (decide (dst = h.ip) || (h.ipBroadcast dst && isDiscover req)) then
        some (.phoden { mac := f.src, endpoint := .udp src port, arrival := arrival } req)
      else none
    | none => none
  | some (1, _, dst, body) =>
    if dst = h.ip ∧ netNat body 0 2 = 0x0800 ∧ 8 ≤ body.length ∧ body.length ≤ 1480 then some (.icmp data) else none
  | _ => none

/-- The item that the runtime consumes a frame as, none where it is not the runtime's. -/
def Hub.itemOf (h : Hub) (data : List Byte) (arrival : Nat) : Option NetItem :=
  let f := rxFrame data
  if f.type = 0x88B5 then h.rawItem f arrival
  else if h.ip = 0 ∨ !(decide (f.dst = ownMac) || decide (f.dst = broadcastMac)) then none
  else if f.type = 0x0800 then h.ipItem f arrival data
  else if f.type = 0x0806 ∧ f.payload.take 8 = [0#8, 1#8, 8#8, 0#8, 6#8, 4#8, 0#8, 1#8] ∧ netNat f.payload 24 4 = h.ip then some (.arp data)
  else none

/-- Frames of EtherType 0x88B5 of another protocol, and team frames that R441 does not accept, are discarded whatever the host asks for. -/
def rawForeign (data : List Byte) : Bool :=
  let f := rxFrame data
  decide (f.type = 0x88B5) && decide (netNat f.payload 0 1 ≠ 0x01)

/-- Q5_CLASSIFY: the next entry is consumed, for the host, or discarded. What is consumed reaches the inbox when no unread entry is before it. -/
def execQ5Classify (s : State) : Host.Outcome State Fault Refusal :=
  .next <|
    let n := s.hub.net
    if !s.hub.taking || decide (n.classify = n.q5.prod) then s
    else
      let data := s.readBuf (rxBase n.classify) (field (n.q5.slots.getD n.classify 0) 32 16)
      let item := s.hub.itemOf data (n.q5At.getD n.classify 0)
      let d := if item.isSome then 1 else if !rawForeign data && hostWants s.hub.netCfg (netNat data 0 6) then 2 else 3
      let (n, m) := n.classifyAs d
      s.after (fun h =>
        let h := Hub.releaseQ5 { h with net := n, q5Held := h.q5Held ++ (item.map fun x => (s.hub.net.classify, x)).toList }
        match item with
        | some (.team mac frame) => h.teamHeard mac (frame.take 20)
        | _ => h) m

/-! ## ARP and ICMP (R386) -/

/-- ARP_REQUEST: the reply goes to the source MAC address of the request. -/
def execArpRequest (s : State) : Host.Outcome State Fault Refusal :=
  .next <| match s.hub.inbox.find? NetItem.isArp with
    | some (.arp data) =>
      if s.hub.serving then
        let f := rxFrame data
        s.onHub fun h => (h.takeItem NetItem.isArp).sendFrame f.src (etherFrame f.src none 0x0806
          ([0#8, 1#8, 8#8, 0#8, 6#8, 4#8, 0#8, 2#8] ++ beBytes 6 ownMac ++ beBytes 4 h.ip ++ slice f.payload 8 10))
      else s
    | _ => s

/-- ICMP_ECHO: the data of the request come back. -/
def execIcmpEcho (s : State) : Host.Outcome State Fault Refusal :=
  .next <| match s.hub.inbox.find? NetItem.isIcmp with
    | some (.icmp data) =>
      let f := rxFrame data
      match ipv4Parts f.payload with
      | some (_, src, _, body) =>
        if s.hub.serving then
          let echo (sum : Nat) : List Byte := [0#8, 0#8] ++ beBytes 2 sum ++ body.drop 4
          s.onHub fun h => (h.takeItem NetItem.isIcmp).sendIp f.src 1 src (echo (inetSum (echo 0)))
        else s
      | none => s
    | _ => s

end Sys2Proof.Machine
end

