-- ==== Sys2Proof/Machine/Clock.lean ====
section
/-! DEFINITION. The meanings of the events of the time domains, of gPTP and of PPS (chapter 11). -/

namespace Sys2Proof.Machine

/-- A time event while the runtime runs, or for what hub hardware does (R382) while the hub serves. -/
def State.clockTick (s : State) (runs : Bool) (f : TimeDomains → TimeDomains × List Notice) : State :=
  if (if runs then s.hub.runtimeOn else s.hub.serves) then (s.onTime f).pumpQ3 else s

/-- The grandmaster of a domain is this unit (R331). -/
def Hub.ownMaster (h : Hub) (second : Bool) : Bool := h.time.ownMaster second ownMac

/-- Is a port up and its gPTP instance on? -/
def Hub.gptpPort (h : Hub) (n : Nat) : Bool := decide (n < 2) && (h.net.port n).running && decide (h.timeCfg.inst ≠ 0)

/-! ## Host servo, reference samples (R323 to R328) -/

/-- HOST_SERVO_TIMEOUT (R325). -/
def execHostServoTimeout (s : State) : Host.Outcome State Fault Refusal :=
  .next <| s.clockTick true fun t =>
    if t.hostOwned && !t.hostStale && decide (s.hub.timeCfg.hostMs ≠ 0) && decide (t.hostWrite + s.hub.timeCfg.hostMs * 1000000 ≤ s.now) then
      ({ t with hostStale := true }, [.event 10 0x4000 0x0A])
    else (t, [])

/-- GPTP_SYNC_RX: `origin` is the time in ns that Follow_Up gives, with the corrections of both messages. -/
def execGptpSyncRx (n origin interval : Nat) (s : State) : Host.Outcome State Fault Refusal :=
  .next (if s.hub.gptpPort n then s.clockTick true fun t => t.syncFirst s.hub.timeCfg n origin interval s.now else s)

/-- SECOND_DOMAIN_SAMPLE. -/
def execSecondDomainSample (n origin interval : Nat) (s : State) : Host.Outcome State Fault Refusal :=
  .next (if s.hub.gptpPort n then s.clockTick true fun t => t.syncSecond s.hub.timeCfg n origin interval s.now else s)

/-- GPTP_ANNOUNCE_RX. -/
def execGptpAnnounceRx (n : Nat) (second : Bool) (vector steps : Nat) (s : State) : Host.Outcome State Fault Refusal :=
  .next <|
    if s.hub.gptpPort n && (!second || s.hub.timeCfg.secondOn) then
      s.clockTick true fun t => t.announce s.hub.timeCfg second { vector := vector, steps := steps, port := n, heardAt := s.now } ownMac s.now
    else s

/-! ## Loss (R329, R334, R335) -/

/-- SYNC_RECEIPT_TIMEOUT. -/
def execSyncReceiptTimeout (second : Bool) (s : State) : Host.Outcome State Fault Refusal :=
  .next (s.clockTick true fun t => t.syncLost s.hub.timeCfg second s.hub.baton ownMac s.now)

/-- ANNOUNCE_RECEIPT_TIMEOUT. -/
def execAnnounceReceiptTimeout (second : Bool) (s : State) : Host.Outcome State Fault Refusal :=
  .next (s.clockTick true fun t => t.announceLost s.hub.timeCfg second s.hub.baton ownMac s.now)

/-- HOLDOVER_LIMIT. -/
def execHoldoverLimit (s : State) : Host.Outcome State Fault Refusal :=
  .next (s.clockTick true fun t => t.holdLimitReached s.hub.timeCfg s.now)

/-! ## PPS (R340, R341) -/

/-- PPS_EDGE_CAPTURE. -/
def execPpsEdgeCapture (low : Nat) (s : State) : Host.Outcome State Fault Refusal :=
  .next (if s.pwr.vio then s.clockTick false fun t => t.ppsEdge s.hub.timeCfg low s.now else s)

/-- PPS_MISSING. -/
def execPpsMissing (s : State) : Host.Outcome State Fault Refusal :=
  .next (s.clockTick true fun t => t.ppsMissing s.hub.timeCfg s.hub.baton s.now)

/-- PPS_OUTPUT_RISE: the land is driven from VIO (R60). -/
def execPpsOutputRise (s : State) : Host.Outcome State Fault Refusal :=
  .next (if s.pwr.vio then s.clockTick false fun t => (t.ppsRise s.hub.timeCfg, []) else s)

/-- PPS_OUTPUT_FALL. -/
def execPpsOutputFall (s : State) : Host.Outcome State Fault Refusal :=
  .next (s.clockTick false fun t => (t.ppsFall s.hub.timeCfg, []))

/-! ## gPTP messages sent (R12, R326, R328 to R331)

Their fields are those of IEEE 802.1AS, which the spec cites and does not reproduce (PRESUMED, log 57), in network byte order (R12). -/

/-- Domain number of a domain. -/
def Hub.domainNumber (h : Hub) (second : Bool) : Nat := if second then h.act 0x4004 3 0xFF else h.act 0x4004 2 0

/-- A gPTP frame: the header with its type, total length, domain number, flags, correction in ns, source port and sequence number, then the body. -/
def gptpFrame (type domain flags correction port seq control : Nat) (interval : Int) (body : List Byte) : List Byte :=
  etherFrame gptpMac none 0x88F7
    (beBytes 1 (0x10 + type) ++ [2#8] ++ beBytes 2 (34 + body.length) ++ beBytes 1 domain ++ [0#8] ++ beBytes 2 flags ++ beBytes 8 (correction * 2 ^ 16)
      ++ [0#8, 0#8, 0#8, 0#8] ++ beBytes 8 ownMac ++ beBytes 2 (port + 1) ++ beBytes 2 seq ++ beBytes 1 control ++ beBytes 1 (ofSigned 8 interval) ++ body)

/-- The kinds of message that a port numbers and times by itself: Sync of a domain, Announce of a domain, peer delay. -/
def syncKind (second : Bool) : Nat := if second then 1 else 0
def announceKind (second : Bool) : Nat := if second then 3 else 2
def delayKind : Nat := 4

/-- When a port last sent a message of a kind, and the number of its next one. -/
def TimeDomains.sent (t : TimeDomains) (n k : Nat) : Option Nat := t.sentAt.getD (5 * n + k) none
def TimeDomains.seqOf (t : TimeDomains) (n k : Nat) : Nat := t.seqs.getD (5 * n + k) 0

/-- A message of a kind may be sent: none has been, or the interval has passed since (R329). -/
def TimeDomains.maySend (t : TimeDomains) (n k interval now : Nat) : Bool :=
  match t.sent n k with | none => true | some x => decide (x + interval ≤ now)

/-- A message of a kind has been sent. -/
def TimeDomains.noteSent (t : TimeDomains) (n k now : Nat) : TimeDomains :=
  { t with seqs := editAt t.seqs (5 * n + k) fun v => (v + 1) % 2 ^ 16, sentAt := editAt t.sentAt (5 * n + k) fun _ => some now }

/-- The Sync interval in ns (R329). -/
def TimeCfg.syncNs (c : TimeCfg) : Nat := 31250000 * 2 ^ c.syncCode

/-- Queue a gPTP frame on a port, and note its kind as sent. -/
def Hub.sendGptp (h : Hub) (n k now : Nat) (frames : List (List Byte)) : Hub :=
  { h with net := frames.foldl (fun net f => net.sendGptp n f) h.net, time := h.time.noteSent n k now }

/-- A port sends Sync: the unit is grandmaster, or a relay that takes time from the other port. -/
def Hub.sendsSync (h : Hub) (n : Nat) (second : Bool) : Bool :=
  let d := h.time.domain second
  h.gptpPort n && (h.ownMaster second || (decide (h.timeCfg.inst = 2) && d.grandmaster.isSome && d.slavePort == some (1 - n)))

/-- Origin time and correction of a Sync that a port sends: as grandmaster its own time, as a relay the origin received, with the path delay of the slave port
and the residence since then (R326). -/
def Hub.syncContent (h : Hub) (n : Nat) (second : Bool) : Nat × Nat :=
  let d := h.time.domain second
  if h.ownMaster second then (h.time.pNs, 0) else (d.origin, h.time.pathDelay h.timeCfg (1 - n) + 4 * ((h.time.s + 2 ^ 64 - d.originS) % 2 ^ 64))

/-- A two-step Sync and its Follow_Up. -/
def Hub.syncFrames (h : Hub) (n : Nat) (second : Bool) : List (List Byte) :=
  let seq := h.time.seqOf n (syncKind second)
  let (origin, correction) := h.syncContent n second
  let interval : Int := (h.timeCfg.syncCode : Int) - 5
  [gptpFrame 0 (h.domainNumber second) 0x0200 0 n seq 0 interval (List.replicate 10 0#8),
   gptpFrame 8 (h.domainNumber second) (Config.gptpField 8 0) correction n seq 2 interval
     (beBytes 6 (origin / 1000000000) ++ beBytes 4 (origin % 1000000000) ++ beBytes 32 (Config.gptpField 8 1))]

/-- GPTP_SYNC_SEND: Sync and its Follow_Up wait in class 3 (R365), at most once per Sync interval. -/
def execGptpSyncSend (n : Nat) (second : Bool) (s : State) : Host.Outcome State Fault Refusal :=
  .next <|
    if s.hub.runtimeOn && s.hub.sendsSync n second && s.hub.time.maySend n (syncKind second) s.hub.timeCfg.syncNs s.now then
      s.onHub fun h => h.sendGptp n (syncKind second) s.now (h.syncFrames n second)
    else s

/-- The vector and steps that a port announces on a domain: the unit's own, with priority1 of R331; a relay passes that of a better grandmaster on to the port
on which it does not hear it (DEDUCED, log 98). -/
def Hub.announceContent (h : Hub) (n : Nat) (second : Bool) : Nat × Nat :=
  let d := h.time.domain second
  let heard := d.candidates.find? fun x => d.grandmaster == some x.vector && decide (x.port ≠ n)
  match if h.timeCfg.inst = 2 ∧ !h.ownMaster second then heard else none with
  | some x => (x.vector, x.steps + 1)
  | none => (h.time.ownVector h.timeCfg ownMac, 0)

/-- An Announce. -/
def Hub.announceFrame (h : Hub) (n : Nat) (second : Bool) : List Byte :=
  let (vector, steps) := h.announceContent n second
  gptpFrame 0xB (h.domainNumber second) (Config.gptpField 0xB 0) 0 n (h.time.seqOf n (announceKind second)) 5 0
    (List.replicate 10 0#8 ++ beBytes 2 (Config.gptpField 0xB 1) ++ [0#8] ++ beBytes 14 vector ++ beBytes 2 steps
      ++ beBytes 1 (Config.gptpField 0xB 2) ++ beBytes 2 8 ++ beBytes 2 8 ++ beBytes 8 ownMac)

/-- The grandmaster of a domain is chosen anew; where the unit itself was it and is so no longer, none may be left (R331, R332). -/
def State.selectMaster (s : State) (second : Bool) : State :=
  s.clockTick true fun t =>
    let had := (t.domain second).grandmaster.isSome
    let (t, a) := t.selectMaster s.hub.timeCfg second ownMac s.now
    let (t, b) := if had && (t.domain second).grandmaster.isNone then t.masterLost s.hub.timeCfg second s.hub.baton s.now else (t, [])
    (t, a ++ b)

/-- GPTP_ANNOUNCE_SEND: once per second the grandmaster of each domain is selected, and the port announces (R329). -/
def execGptpAnnounceSend (n : Nat) (s : State) : Host.Outcome State Fault Refusal :=
  .next <|
    if s.hub.runtimeOn && s.hub.gptpPort n && s.hub.time.maySend n (announceKind false) 1000000000 s.now then
      let s := s.selectMaster false
      let s := s.onHub fun h => h.sendGptp n (announceKind false) s.now [h.announceFrame n false]
      if s.hub.timeCfg.secondOn then
        let s := s.selectMaster true
        s.onHub fun h => h.sendGptp n (announceKind true) s.now [h.announceFrame n true]
      else s
    else s

/-- GPTP_PDELAY_EXCHANGE (R328): once per second a port asks for the path delay (R329); `responders` have answered, with `delay` measured. -/
def execGptpPdelayExchange (n responders delay : Nat) (s : State) : Host.Outcome State Fault Refusal :=
  .next <|
    if s.hub.runtimeOn && s.hub.gptpPort n && s.hub.time.maySend n delayKind 1000000000 s.now then
      let request := gptpFrame 2 0 (Config.gptpField 2 0) 0 n (s.hub.time.seqOf n delayKind) 5 0 (List.replicate 20 0#8)
      let c := s.hub.timeCfg
      let (p, fell) := (if n = 0 then s.hub.time.path0 else s.hub.time.path1).exchange (decide ((if n = 0 then c.mode0 else c.mode1) = 0)) responders delay
      (s.onHub fun h => h.sendGptp n delayKind s.now [request]).clockTick true fun t =>
        (if n = 0 then { t with path0 := p } else { t with path1 := p }, if fell then [.event 10 0x4004 0x11] else [])
    else s

end Sys2Proof.Machine
end

