-- ==== Sys2Proof/Machine/Laps.lean ====
section
/-! DEFINITION. The meanings of the events of the lap tracker, of lane schedules in the hub, of synchronous sensing, of the waveform capture and of the serial
watchdog's timers (chapters 08 and 09). -/

namespace Sys2Proof.Machine

/-- The lap tracker acts while the hub serves; it stands still in standby (R95). -/
def State.onLap (s : State) (f : Lap → LapCfg → Lap × List Notice) : State :=
  if s.hub.serves then
    let (l, n) := f s.hub.lap s.hub.lapCfg
    s.after (fun h => { h with lap := l }) n
  else s

/-! ## Crossings and origins (R248 to R262) -/

/-- ZX_EDGE_ACCEPT: the level has held since `at_`, at least for the level filter time. Without VIO both lands read low (R51), which is accepted in the same way. -/
def execZxEdgeAccept (input : Nat) (level : Bool) (at_ : Nat) (s : State) : Host.Outcome State Fault Refusal :=
  .next <|
    if (s.pwr.vio || !level) && decide (input < 2) && decide (at_ + 1000 * s.hub.lapCfg.filterUs ≤ s.now) then
      let lands := if input = 0 then { s.lands with zxa := level } else { s.lands with zxb := level }
      State.onLap { s with lands := lands } fun l c => (l.zxEdge c input level at_, [])
    else s

/-- VOTED_CROSSING. -/
def execVotedCrossing (s : State) : Host.Outcome State Fault Refusal := .next (s.onLap fun l c => l.crossing c s.now)

/-- MISSING_CROSSING. -/
def execMissingCrossing (s : State) : Host.Outcome State Fault Refusal := .next (s.onLap fun l c => l.missing c s.now)

/-- A preset moves the targets of armed schedules with the count, and the lap numbers they were armed with (R262). -/
def Hub.rebaseSchedules (h : Hub) (shift : Nat) : Hub :=
  (List.range 48).foldl (fun h n =>
    let x := h.schedule n
    if x.status ≠ 1 then h
    else
      let h := h.onSchedule n fun x => { x with lap := (x.lap + shift) % 2 ^ 48 }
      if x.byLap then h.put (laneIdx n 7) 3 ((h.lane n 7 3 0 + shift) % 2 ^ 16) true else h) h

/-- What has been accepted by the lap boundary is what acts from it on (R41): values, planned operations, a map commit, a bank service request and a migration
that wait. Requests of an earlier boundary that still wait stay with it. -/
def State.noteBoundary (s : State) : State :=
  let due := s.hub.run.accepted.filter fun e => match rowOf s.rtVersion (e.1 / 256) (e.1 % 256) with | some r => decide (r.eff = .l) | none => false
  s.onHub fun h => h.onRun fun r => { r with
    planned := []
    boundary := { values := due, planned := r.boundary.planned ++ r.planned, commit := r.commitWait, service := r.serviceReq.isSome
                  migration := decide (r.migration.result = 1) } }

/-- LAP_ORIGIN: the count goes on, launches that name this lap are resolved (R275), and a preset rebases the armed schedules. -/
def execLapOrigin (s : State) : Host.Outcome State Fault Refusal :=
  .next <|
    let old := s.hub.lap
    if s.hub.serves && decide (old.nextOrigin ≤ s.now) then
      let s := s.onLap fun l c => l.origin c s.now
      let shift := (s.hub.lap.count + 2 ^ 49 - (old.count + 1)) % 2 ^ 48
      let s := if old.preset.isSome then s.onHub fun h => h.rebaseSchedules shift else s
      (s.onHub fun h => { h with net := h.net.resolveLap h.time h.lap s.now }).noteBoundary.pumpQ3
    else s

/-! ## Schedules and synchronous sensing (R265, R270, R271) -/

/-- SCHEDULE_RESOLVE. -/
def execScheduleResolve (lane : Nat) (s : State) : Host.Outcome State Fault Refusal :=
  .next <|
    if s.hub.serving && s.hub.free && decide (lane < 48) then
      let (h, m) := if (s.hub.schedule lane).governed then s.hub.resolveCommitted lane s.now else s.hub.scheduleResolve lane s.cycle s.now
      State.notify { s with hub := h } m
    else s

/-- The outcome of a half-lap window (R271): `currents` in mA and the percentage of unblanked samples, per mapped channel. -/
def SyncSense.window (x : SyncSense) (currents unblanked : List Nat) (disturbed stepped : Bool) : SyncSense :=
  if !stepped && !unblanked.isEmpty && unblanked.all (fun u => decide (50 ≤ u)) then
    { current := currents.sum, valid := true, disturbed := disturbed, stepped := false }
  else { x with valid := false, disturbed := disturbed, stepped := stepped }

/-- SYNC_WINDOW_END: the half-lap window that has ended last is reported, once, from the lane's banks (R270). -/
def execSyncWindowEnd (lane : Nat) (currents unblanked : List Nat) (s : State) : Host.Outcome State Fault Refusal :=
  .next <|
    let n := (s.hub.chansOf lane).length
    match s.hub.lap.window s.now with
    | some (lap, second, disturbed, stepped) =>
      if s.hub.serving && decide (lane < 48) && s.hub.senseSync lane && decide (currents.length = n) && decide (unblanked.length = n)
          && (banksOf (s.hub.chansOf lane)).all s.hub.present && decide ((s.hub.run.sync.getD lane {}).reported ≠ some (lap, second)) then
        s.onHub fun h => h.onRun fun r => { r with
          sync := editAt r.sync lane fun x => { x.window currents unblanked disturbed stepped with reported := some (lap, second) } }
      else s
    | none => s

/-! ## Waveform capture (R272, R273) -/

/-- CAPTURE_START. -/
def execCaptureStart (s : State) : Host.Outcome State Fault Refusal :=
  .next <|
    let c := s.hub.capture
    match s.hub.lap.timeOf 0 c.phase with
    | some t =>
      if s.hub.serves && decide (c.mode = .armed) && decide ((c.armedAt + c.leadNs : Nat) ≤ t) && decide (t ≤ s.now) then
        s.after (fun h => { h with capture := { c with
          mode := .running, number := (c.number + 1) % 2 ^ 32, startPos := h.lap.position s.now, startAt := s.now, written := 0 } }) [.event 7 0x2044 6]
      else s
    | none => s

/-- Unit of a Q7 entry in microamperes (Table 09-4). -/
def q7Unit (cl : ChClass) (led : Bool) : Nat := if led then 10 else match cl with | .h => 10000 | .m => 4000 | .l => 1000

/-- CAPTURE_SAMPLE: the mean of one interval, 0 while the channel is off. -/
def execCaptureSample (mean : Nat) (blanked limited : Bool) (s : State) : Host.Outcome State Fault Refusal :=
  .next <|
    let c := s.hub.capture
    let x := s.chan c.channel
    let v := if x.io.on then roundDiv mean (q7Unit (classOf c.channel) x.cfg.io.led) else 0
    if s.hub.serves && decide (c.startAt + (c.written + 1) * c.interval * 1000 ≤ s.now) then
      let (c, n) := c.sample v blanked limited s.hub.lap.disturbed
      s.after (fun h => { h with capture := c }) n
    else s

/-! ## Serial watchdog (R241, R243) -/

/-- WATCHDOG_LATE_MISS. -/
def execWatchdogLateMiss (s : State) : Host.Outcome State Fault Refusal :=
  .next (if s.hub.serving then s.dogLate s.now 2 else s)

/-- ARM_DEADLINE_EXPIRY. -/
def execArmDeadlineExpiry (s : State) : Host.Outcome State Fault Refusal := .next s.dogDeadline

end Sys2Proof.Machine
end

