-- ==== Sys2Proof/Machine/Faults.lean ====
section
/-! DEFINITION. The meanings of the events of the fault collector (chapter 10), of shedding, of the MRAM window and of CHGPERM (chapter 07). -/

namespace Sys2Proof.Machine

/-! ## Acceptance (R289, R290) -/

/-- The collector acts while the hub is out of reset, also in standby (R281, R95). -/
def State.onCollector (s : State) (f : Collector → CollectorCfg → Collector × List Notice) : State :=
  if s.hub.outOfReset then
    let (c, n) := f s.hub.collector s.hub.collCfg
    s.after (fun h => { h with collector := c }) n
  else s

/-- A message of state 1 that reaches the collector. -/
def State.acceptError (s : State) (source kind origin address : Nat) : State :=
  s.onCollector fun c g => (c.stamp origin).1.accept g
    { source := source, kind := kind, origin := origin, address := address, seq := (c.stamp origin).2, error := true }
    false s.now s.hub.time.seconds s.hub.time.nanos

/-- FAULT_ERROR_ACCEPT_S. -/
def execFaultErrorAcceptS (source kind origin address : Nat) (s : State) : Host.Outcome State Fault Refusal :=
  .next (if source < 0x40 then s.acceptError source kind origin address else s)

/-- FAULT_ERROR_ACCEPT_D. -/
def execFaultErrorAcceptD (source kind origin address : Nat) (s : State) : Host.Outcome State Fault Refusal :=
  .next (if 0x40 ≤ source then s.acceptError source kind origin address else s)

/-- FAULT_STATE0_ACCEPT. -/
def execFaultState0Accept (source : Nat) (s : State) : Host.Outcome State Fault Refusal :=
  .next (s.onCollector fun c _ => (if source < 0x60 ∧ !reservedSource source then c.raiseGone source else c, []))

/-- ERRN_PULSE_END. -/
def execErrnPulseEnd (s : State) : Host.Outcome State Fault Refusal := .next (s.onCollector fun c _ => (c.pulseEnd s.now, []))

/-! ## Grace and escalation (R297 to R299) -/

/-- Apply a step of a source: to the banks by the runtime, and recorded by the collector. -/
def State.takeStep (s : State) (source step : Nat) : State :=
  let h := s.hub
  let sc := stepScope source step (h.owner (h.collector.source source).address)
  let laneBanks := match sc with | .lane n => h.laneBanks n | _ => []
  let (c, n) := h.collector.applyStep h.collCfg source step sc ((sc.banks laneBanks h.presentBanks).filter h.present) s.now
  let (h, _) := h.order (h.scopeOrders source sc)
  State.after { s with hub := h } (fun h => { h with collector := c }) n

/-- The timer of a source runs out: the step that falls due is taken while the runtime serves, and noted while it does not, or while a planned stop keeps
it from new bank commands (R22), for the next dictionary ready or the end of the stop. A fault whose ceiling allows no further step is left. -/
def State.escalate (s : State) (source : Nat) : State :=
  let c := s.hub.collector
  let x := c.source source
  if !s.hub.outOfReset || !elapsed x.graceAt 0 s.now then s
  else match c.stepDue s.hub.collCfg source ((s.hub.owner x.address).isSome) s.now with
    | none => s.onHub fun h => { h with collector := c.edit source fun x => { x with graceAt := none } }
    | some k =>
      if s.hub.serving && s.hub.free then s.takeStep source k
      else s.onHub fun h => { h with collector := c.edit source fun x => { x with due := some k } }

/-- Sources whose step fell due while it could not be taken, in the order of their expiries (R299). -/
def Collector.dueSources (c : Collector) : List Nat :=
  let due := (List.range 96).filter fun i => (c.source i).due.isSome
  let at_ (i : Nat) : Nat := (c.source i).graceAt.getD 0
  due.foldl (fun l i => (l.takeWhile fun j => decide (at_ j ≤ at_ i)) ++ i :: l.dropWhile fun j => decide (at_ j ≤ at_ i)) []

/-- The steps that fell due are taken. -/
def State.takeDue (s : State) : State :=
  s.hub.collector.dueSources.foldl (fun (s : State) i => match (s.hub.collector.source i).due with | some k => s.takeStep i k | none => s) s

/-- GRACE_EXPIRY. -/
def execGraceExpiry (source : Nat) (s : State) : Host.Outcome State Fault Refusal :=
  .next (if (s.hub.collector.source source).step = 0 then s.escalate source else s)

/-- ESCALATION_STEP. -/
def execEscalationStep (source : Nat) (s : State) : Host.Outcome State Fault Refusal :=
  .next (if (s.hub.collector.source source).step = 0 then s else s.escalate source)

/-- STEP_CONFIRM_TIMEOUT. -/
def execStepConfirmTimeout (s : State) : Host.Outcome State Fault Refusal :=
  .next (if s.hub.serving && s.hub.collector.overdueRequest s.now then s.hubResetFree 0x0A else s)

/-- FACTORY_TEST_EXIT: TEST is sensed low (R308). -/
def execFactoryTestExit (s : State) : Host.Outcome State Fault Refusal := .next (s.senseTest false)

/-! ## A bank that stops or starts over (R97, R205, R266, R274, R495) -/

/-- Channels of every bank in view that satisfy a condition. -/
def Hub.chansWith (h : Hub) (f : Chan → Bool) : List Nat := (List.range 48).filter fun ch => match h.viewChan ch with | some x => f x | none => false

/-- The pre-warnings by their kinds of source 0x57, and whether any stands (R181, R188). -/
def warningKinds : List (Nat × (Chan → Bool)) := [(1, Chan.clampWarns), (2, Chan.wireWarns)]
def Hub.warns (h : Hub) : Bool := warningKinds.any fun k => !(h.chansWith k.2).isEmpty

/-- Pre-warnings that have appeared or gone. -/
def prewarnings (before after : Hub) : List Notice :=
  (warningKinds.flatMap fun k => ((after.chansWith k.2).filter fun ch => !(before.chansWith k.2).contains ch).map fun ch => .fault 0x57 k.1 ch)
    ++ (if before.warns && !after.warns then [.gone 0x57] else [])

/-- The hub holds nothing of a bank any more: its report, the claim, the agreement of its sensors. -/
def Hub.forgetBank (h : Hub) (b : Nat) : Hub :=
  { (h.onLink b fun l => { l with heard := none }) with
    views := editAt h.views b fun _ => none
    agreeSince := mapFrom (fun i v => if i / 14 = b then none else v) 0 h.agreeSince }

/-- Schedules that the bank held resolved are dropped with it (Table 09-3; DEDUCED, log 96). -/
def State.dropSchedulesOf (s : State) (b : Nat) : State :=
  ((List.range 48).filter fun n => decide ((s.hub.schedule n).status = 2) && (s.hub.schedule n).banks.contains b).foldl (fun (s : State) n =>
    let (h, m) := s.hub.scheduleReport b n false
    State.notify { s with hub := s.hub.rebook h } m) s

/-- A bank is lost to the hub, or starts over: what hangs on it ends, a grow, a capture and its resolved schedules among it. -/
def State.bankGone (s : State) (b : Nat) : State :=
  let before := s.hub
  let s := s.onHub fun h => h.forgetBank b
  let s := if s.hub.migrationChans.any (fun ch => decide (ch / 12 = b)) then s.abortGrow else s
  let (c, n) := if s.hub.capture.channel / 12 = b then s.hub.capture.abort else (s.hub.capture, [])
  let s := (s.after (fun h => { h with capture := c }) n).dropSchedulesOf b
  s.notify (prewarnings before s.hub ++ before.degradedNotices s.hub)

/-! ## Shedding (R211, R212) -/

/-- Priority of a lane; 0 is never shed. -/
def Hub.shedPrio (h : Hub) (n : Nat) : Nat := h.lane n 5 2 0

/-- Lanes of a bank that it has not shed and may shed. -/
def Hub.shedCandidates (h : Hub) (b : Nat) : List Nat :=
  (h.bankLanes b).filter fun n => decide (0 < h.shedPrio n) && !((h.run.shed.getD b []).any fun g => g.2.contains n)

/-- Commands that set or end the shed hold of a bank on lanes, on every channel they have. -/
def Hub.shedOrders (h : Hub) (b : Nat) (lanes : List Nat) (v : Bool) : List Order :=
  lanes.flatMap fun n => (h.chansOf n).map fun ch => { bank := ch / 12, lane := n, cmd := .shed (ch % 12) b v }

/-- The journal record of a group shed or restored (Table 17-6). -/
def Hub.shedNote (h : Hub) (b prio : Nat) : Notice :=
  .journal 0xA (match h.view b with | some c => thermalCode c.thermal | none => 0) [BitVec.ofNat 8 b, BitVec.ofNat 8 prio]

/-- When the next group of a bank may be shed or restored. -/
def Hub.setShedDue (h : Hub) (b t : Nat) : Hub := h.onRun fun r => { r with shedDue := editAt r.shedDue b fun _ => t }

/-- SHED_GROUP: every lane of the lowest priority among the candidates. -/
def execShedGroup (b : Nat) (s : State) : Host.Outcome State Fault Refusal :=
  .next <|
    let h := s.hub
    let lanes := h.shedCandidates b
    match h.view b, lanes.map h.shedPrio with
    | some c, p :: ps =>
      if h.serving && h.free && decide (c.thermal = .shedding) && decide (h.run.shedDue.getD b 0 ≤ s.now) then
        let prio := ps.foldl min p
        let group := lanes.filter fun n => decide (h.shedPrio n = prio)
        let (h, _) := h.order (h.shedOrders b group true)
        let h := (h.onRun fun r => { r with shed := editAt r.shed b fun l => l ++ [(prio, group)] }).setShedDue b (s.now + 1000000000)
        State.notify { s with hub := h } [.fault 0x56 1 b, h.shedNote b prio]
      else s
    | _, _ => s

/-- RESTORE_GROUP: the group shed last. -/
def execRestoreGroup (b : Nat) (s : State) : Host.Outcome State Fault Refusal :=
  .next <|
    let h := s.hub
    match h.view b, (h.run.shed.getD b []).getLast? with
    | some c, some (prio, group) =>
      if h.serving && h.free && elapsed c.coolFrom 10000000000 s.now && decide (h.run.shedDue.getD b 0 ≤ s.now) then
        let (h, _) := h.order (h.shedOrders b group false)
        let h := (h.onRun fun r => { r with shed := editAt r.shed b List.dropLast }).setShedDue b (s.now + 1000000000)
        State.notify { s with hub := h } [.event 4 (laneIdx (group.headD 0) 5) 3, h.shedNote b prio]
      else s
    | _, _ => s

/-! ## MRAM window (R215 to R218) -/

/-- The hub's own temperature is measured; a rise through 127.0 degrees leaves a deferral marker (R218; none by Runtime 3.1 and earlier). -/
def State.hubTemp (s : State) (temp : Int) : State :=
  s.after (fun h => { h with temp := temp })
    (if decide (s.hub.temp < 1270) && decide (1270 ≤ temp) && decide (0x0302 ≤ s.rtVersion) then
       [.journal 0xF 1 (leBytes 2 s.hub.run.shadow.length)] else [])

/-- MRAM_WINDOW_CLOSE. -/
def execMramWindowClose (temp : Int) (s : State) : Host.Outcome State Fault Refusal :=
  .next <|
    if s.hub.serves && decide (s.hub.windowCode = 0) && decide (windowOf temp ≠ 0) then
      (s.hubTemp temp).after (fun h => { h with windowCode := windowOf temp, flushing := false }) [.fault 0x35 (windowOf temp) 0xFF]
    else s

/-- A flush begins (R216): the records that wait now are its own, and what arrives from here on queues behind it. -/
def Hub.beginFlush (h : Hub) : Hub := { h.onRun fun r => { r with flushLeft := r.shadow.length } with flushing := h.shadowed }

/-- MRAM_WINDOW_OPEN: the flush begins; records are written first, then the configuration. -/
def execMramWindowOpen (temp : Int) (held : Nat) (s : State) : Host.Outcome State Fault Refusal :=
  .next <|
    if s.hub.serves && decide (s.hub.windowCode ≠ 0) && decide (-380 ≤ temp) && decide (temp ≤ 1270) && decide (1000000000 ≤ held) then
      let s := (s.hubTemp temp).after (fun h => { h.beginFlush with windowCode := 0 }) [.event 12 0x2020 2, .gone 0x35]
      if s.hub.runtimeOn then s.storeNext else s
    else s

/-- DEFERRAL_MARKER: the hub temperature rises through 127.0 degrees. -/
def execDeferralMarker (temp : Int) (s : State) : Host.Outcome State Fault Refusal :=
  .next (if s.hub.serves && decide (s.hub.temp < 1270) && decide (1270 ≤ temp) then s.hubTemp temp else s)

/-! ## CHGPERM (R219, R220) -/

/-- The permit is withdrawn. -/
def Hub.dropPermit (h : Hub) : Hub := { h with chgperm := false, permFrom := none, permLost := false }

/-- The conditions of CHGPERM are looked at: since when all of them have held for a return, and whether one has failed while it was high (R220). -/
def State.notePermit (s : State) : State :=
  s.onHub fun h => { h with permFrom := if s.permAll 50 then some (h.permFrom.getD s.now) else none
                            permLost := h.chgperm && (h.permLost || !s.permAll 0) }

/-- CHGPERM_LOW: a condition has failed, also one that holds again by now. -/
def execChgpermLow (s : State) : Host.Outcome State Fault Refusal :=
  .next (if s.hub.chgperm && (s.hub.permLost || !s.permAll 0) then s.onHub Hub.dropPermit else s)

/-- CHGPERM_HIGH: all conditions have held for 1 s, by the command's own time and as the hub has looked at them. -/
def execChgpermHigh (held : Nat) (s : State) : Host.Outcome State Fault Refusal :=
  .next <|
    if !s.hub.chgperm && s.permAll 50 && decide (1000000000 ≤ held) && elapsed s.hub.permFrom 1000000000 s.now then
      s.onHub fun h => { h with chgperm := true, permLost := false }
    else s

/-! ## What the hub measures of its surroundings (R69, R98, R222) -/

/-- The levels of the hub lands, while VIO is present. -/
def State.senseLands (s : State) (r : HubReadings) : State :=
  State.senseTest { s with lands := { s.lands with
    wake := r.wake, wakeAt := if !r.wake then none else if s.lands.wake then s.lands.wakeAt else some s.now
    pps := r.pps, zxa := r.zxa, zxb := r.zxb } } r.test

/-- Readings that refresh the supplies, the lands and the hub temperature (DESIGN CHOICE, log 89: they come with DOWNLINK_FRAME_SEND). -/
def State.sense (s : State) (r : HubReadings) : State :=
  let mv (on : Bool) (v : Nat) : Nat := if on then v else 0
  let s : State := { s with pwr := { s.pwr with vcoreMv := mv s.pwr.vcore r.vcore, vioMv := mv s.pwr.vio r.vio, vphyMv := mv s.pwr.vphy r.vphy } }
  let s := if s.pwr.vio then s.senseLands r else s
  (if s.hub.serves then s.hubTemp r.temp else s).notePermit

end Sys2Proof.Machine
end

