-- ==== Sys2Proof/Machine/Start.lean ====
section
/-! DEFINITION. Supplies, clocks and resets, and the start of the hub up to the bank claim (chapters 02, 03, 17): the meanings of their events. -/

namespace Sys2Proof.Machine

/-! ## Steps 7 to 9 of a start (R91, R92, R478, R482) -/

/-- Status code of a configuration copy before selection; 0 where it is valid (R91, Table 03-9). Of several faults, which the spec does not rank, blank
comes first, then the header, the commit word and the CRC (DESIGN CHOICE, log 90). -/
def ConfigCopy.code (c : ConfigCopy) : Nat :=
  if c.blank then 2 else if c.malformed then 5 else if !c.committed then 3 else if c.crcBad then 4 else 0

/-- One sequence number is newer than another (R91). -/
def seqNewer (x y : Nat) : Bool := let d := (x + 2 ^ 32 - y) % 2 ^ 32; decide (1 ≤ d) && decide (d < 2 ^ 31)

/-- Selection of a copy (R91): 0 A, 1 B, 2 factory defaults. Two valid copies exactly 2^31 apart are newer neither way: `either` decides. -/
def Mram.select (m : Mram) (either : Bool) : Nat :=
  match m.copyA.code, m.copyB.code with
  | 0, 0 =>
    if m.copyA.seq = m.copyB.seq then 0
    else if seqNewer m.copyA.seq m.copyB.seq then 0
    else if seqNewer m.copyB.seq m.copyA.seq then 1
    else if either then 0 else 1
  | 0, _ => 0
  | _, 0 => 1
  | _, _ => 2

/-- Copies to rewrite from the selected one (R92). -/
def Mram.toRewrite (m : Mram) (sel version : Nat) : List Nat :=
  if sel = 2 ∨ version < 0x0302 then []
  else
    let a := m.copy sel
    let b := m.copy (1 - sel)
    if b.code = 0 ∧ a.seq = b.seq ∧ a.values = b.values then [] else [1 - sel]

/-- A deferral marker without a flush record after it (R218). -/
def Mram.unflushed (m : Mram) : Bool :=
  m.records.foldl (fun b r => if r.entry.cls = 0xF then decide (r.entry.code = 1) else b) false

/-- States of the slots as their contents say (R482), and the slot whose trailer is to say verified, if any. -/
def State.slotStates (s : State) : List Nat × Option Nat :=
  let st (i : Nat) : Nat := match s.trailer i with
    | some (true, _) => 4
    | some (false, _) => 3
    | none => if allOnes (s.readSlot i 0 64) then 0 else 2
  match s.trailer 0, s.trailer 1 with
  | some (true, a), some (true, b) => if seqNewer b a then ([3, 4], some 0) else ([4, 3], some 1)
  | _, _ => ([st 0, st 1], none)

/-- Values of objects that hub hardware holds through a runtime restart though no store keeps them (R220, R37). -/
def Hub.hardValues (h : Hub) : Values :=
  h.run.accepted.filter fun e => [0x2025 * 256 + 5, 0x2041 * 256 + 6, 0x2044 * 256 + 1, 0x2044 * 256 + 2, 0x2044 * 256 + 3, 0x2044 * 256 + 4,
    0x5000 * 256 + 6].contains e.1

/-- The runtime starts (steps 7 to 9 of Table 03-6): a fresh runtime with the selected configuration, its banks still to be claimed. The trailer of a slot
that R482 demotes is written while the MRAM window is open (R215); else the state alone says so, until a later start. -/
def State.startRuntime (s : State) : State :=
  let (s, either) := s.drawBit
  let (s, epoch) := s.drawBytes 4
  let m := s.mram
  let sel := m.select either
  let status (i : Nat) : Nat := if (m.copy i).code ≠ 0 then (m.copy i).code else if sel = i then 0 else 1
  let bad := (List.range 2).filter fun i => decide (3 ≤ (m.copy i).code)
  let rebuilt := !m.index0.valid && !m.index1.valid && !m.records.isEmpty
  let (slots, demote) := s.slotStates
  let s : State := if rebuilt && decide (s.hub.windowCode = 0) then { s with mram := m.writeIndex } else s
  let s : State := match if s.hub.windowCode = 0 then demote else none with
    | some i => s.writeTrailer i false (match s.trailer i with | some (_, q) => q | none => 0)
    | none => s
  let broken := (List.range 2).find? fun i => slots.getD i 0 == 4 && !s.codeOk i
  let slots := match broken with | some i => editAt slots i fun _ => 6 | none => slots
  let values := if sel = 2 then [] else (m.copy sel).values
  let s := s.onHub fun h =>
    let accepted := h.hardValues.foldl (fun (v : Values) e => Values.put v e.1 e.2) values
    { h with
      phase := .claiming, stepsAt := s.now, failures := 0
      startReport := bits [decide (sel = 2), !bad.isEmpty, broken.isSome, rebuilt]
      copySel := sel, statusA := status 0, statusB := status 1, copySeq := if sel = 2 then 0 else (m.copy sel).seq
      shadowFlag := decide (0x0302 ≤ s.rtVersion) && m.unflushed, flushing := false
      links := h.links.map fun l => { nextId := l.nextId, sentIn := l.sentIn, reported := l.reported, discards := l.discards }
      views := List.replicate 4 none, inbox := [], agreeSince := List.replicate 56 none
      run := { ({} : Run) with
        accepted := accepted, inForce := accepted, slotState := slots, cursor := m.oldest
        store := { ({} : StoreWork) with source := sel, newest := if sel = 2 then 0 else (m.copy sel).seq, rewrite := m.toRewrite sel s.rtVersion }
        team := { ({} : Team) with epoch := leNat epoch } } }
  s.notify (bad.map (fun i => .fault 0x4D 1 i) ++ (if sel = 2 ∧ !bad.isEmpty then [.fault 0x4D 2 0xFF] else []) ++ (if s.hub.shadowFlag then [.fault 0x4E 3 0xFF] else [])
    ++ (if rebuilt then [.fault 0x4E 1 0xFF] else [])
    ++ match broken with | some i => [.fault 0x50 2 i, s.patchNote 6 i] | none => [])

/-! ## Supplies (Table 03-7) -/

/-- The clock tier of a VCORE voltage (Table 01-2). -/
def tierOf (mv : Nat) : Nat := if mv < 1050 then 50 else if mv < 1200 then 120 else 200

/-- The report of a supply that returns (R518); a loss is reported by its fault source (R371). -/
def supplyEvent : Notice := .event 5 0x2016 1

/-- Reports of VIO or VPHY returned; source 0x34 has no cause left once both are there (R284). -/
def State.reportSupply (s : State) : State :=
  if s.hub.outOfReset then s.notify (supplyEvent :: if s.pwr.vio && s.pwr.vphy then [.gone 0x34] else []) else s

/-- A supply has stood above a rising threshold, or below a falling one, for the filter time of its monitor (R74, Table 03-2). -/
def risen (threshold filter mv held : Nat) : Bool := decide (threshold ≤ mv) && decide (filter ≤ held)
def fallen (threshold filter mv held : Nat) : Bool := decide (mv ≤ threshold) && decide (filter ≤ held)

/-- VCORE_PRESENT: oscillator start and settling (Table 03-6). -/
def execVcorePresent (mv held : Nat) (s : State) : Host.Outcome State Fault Refusal :=
  .next <|
    if !s.pwr.vcore && risen 880 1000 mv held then
      { s with pwr := { s.pwr with vcore := true, vcoreMv := mv }, hub := { ({} : Hub) with phase := .settling, cause := 1 } }
    else s

/-- VCORE_ABSENT: `step` and `landed` say where an MRAM write in progress stood (Table 17-8). -/
def execVcoreAbsent (mv held step : Nat) (landed : Bool) (s : State) : Host.Outcome State Fault Refusal :=
  .next <|
    if s.pwr.vcore && fallen 880 1000 mv held then
      State.hubReset { s with mram := s.tornMram step landed, pwr := { s.pwr with vcore := false, vcoreMv := 0 }, hub := { s.hub with synth := 0 } } 1
    else s

/-- The lands of the pin section without VIO: PPS is not driven (R49), CHGPERM is low, and TEST reads low (R51, R308). -/
def Hub.landsLow (h : Hub) : Hub :=
  { h.dropPermit with
    time := { h.time with pps := { h.time.pps with high := false } }
    collector := { h.collector with testMode := false, keyStage := 0 } }

/-- VIO_ABSENT (R51, R52, R97). -/
def execVioAbsent (mv held : Nat) (s : State) : Host.Outcome State Fault Refusal :=
  .next <|
    if s.pwr.vio && fallen 1700 5000 mv held then
      let s : State := { s with pwr := { s.pwr with vio := false, vioMv := 0 }, lands := {} }
      let s := s.onBanks fun b x => x.setInputValid b s.now false
      s.after Hub.landsLow [.fault 0x34 1 0xFF]
    else s

/-- VIO_PRESENT. -/
def execVioPresent (mv held : Nat) (s : State) : Host.Outcome State Fault Refusal :=
  .next <|
    if !s.pwr.vio && risen 1680 5000 mv held then
      (State.onBanks { s with pwr := { s.pwr with vio := true, vioMv := mv } } fun b x => x.setInputValid b s.now true).reportSupply
    else s

/-- VPHY_ABSENT: both ports are reset (R381). -/
def execVphyAbsent (mv held : Nat) (s : State) : Host.Outcome State Fault Refusal :=
  .next <|
    if s.pwr.vphy && fallen 2880 5000 mv held then
      let s : State := { s with pwr := { s.pwr with vphy := false, vphyMv := 0 } }
      ((s.notify [.fault 0x34 2 0xFF]).stopPort 0 true).stopPort 1 true
    else s

/-- Ports start once the runtime has reported dictionary ready (R89, R355). -/
def State.startPorts (s : State) : State := if s.hub.serves && s.hub.collector.handed then ((s.startPort 0).startPort 1).pumpQ3 else s

/-- VPHY_PRESENT. -/
def execVphyPresent (mv held : Nat) (s : State) : Host.Outcome State Fault Refusal :=
  .next <|
    if !s.pwr.vphy && risen 2880 5000 mv held then
      let s := State.startPorts { s with pwr := { s.pwr with vphy := true, vphyMv := mv } }
      if s.hub.outOfReset then (s.reportSupply).notify ((List.range 2).filterMap fun i => if (s.hub.net.port i).running then none else some (portEvent i))
      else s
    else s

/-- VSUP_PRESENT: the end of Table 03-5, with what the bank has found on its way (DESIGN CHOICE, log 91): until then the bank drives nothing. After a bank
reset no threshold is crossed, and the supply is there. -/
def execVsupPresent (b mv held : Nat) (storeOk : Bool) (own shared : Nat) (s : State) : Host.Outcome State Fault Refusal :=
  .next <|
    let x := (s.bank b).core
    if x.running || !(x.starting || risen 4250 20000 mv held) then s
    else s.onBank b fun y => y.startUp b s.now { storeOk := storeOk, supply := mv, own := own, shared := shared, version := s.rtVersion }

/-- VSUP_ABSENT: the bank stops; the hub marks it absent, reports it on E5 and on the bank's event (R97), ends a capture on it (R274) and keeps its
cause bits (R291). -/
def execVsupAbsent (b mv held : Nat) (s : State) : Host.Outcome State Fault Refusal :=
  .next <|
    let x := (s.bank b).core
    if (x.running || x.starting) && fallen 4150 20000 mv held then
      let s := s.onBank b fun y => y.powerOff s.now
      if s.hub.serves then (s.bankGone b).notify [.fault (12 * b + 7) 1 0xFF] else s.onHub fun h => h.forgetBank b
    else s

/-- VSUP_OVERVOLTAGE_WARNING (R76). -/
def execVsupOvervoltageWarning (b mv held : Nat) (s : State) : Host.Outcome State Fault Refusal :=
  .next (s.onBank b fun x => x.overvoltageOn b s.now mv held)

/-- VSUP_OVERVOLTAGE_CLEAR. -/
def execVsupOvervoltageClear (b mv : Nat) (s : State) : Host.Outcome State Fault Refusal :=
  .next (s.onBank b fun x => x.overvoltageOff b s.now mv)

/-! ## Clock tier and synthesiser (R78 to R80) -/

/-- A tier change while the hub runs. A lowered tier is source 0x58; where its severity keeps that from a record, as by default (R287), the object
record of R518 reports it on E5, since every change is reported (DEDUCED, log 6). -/
def State.setTier (s : State) (mv : Nat) : State :=
  let t := tierOf mv
  let lowered := decide (t < s.hub.tier)
  let object : List Notice := if lowered && decide (1 ≤ s.hub.collCfg.severity 0x58) then [] else [.event 5 0x2010 1]
  State.after { s with pwr := { s.pwr with vcoreMv := mv } } (fun h => { h with tier := t, tierChanges := h.tierChanges + 1 })
    (object ++ if lowered then [.fault 0x58 1 t] else [])

/-- TIER_LOWER: VCORE has stayed below the tier's lower boundary for 1 microsecond. -/
def execTierLower (mv held : Nat) (s : State) : Host.Outcome State Fault Refusal :=
  .next (if s.hub.serves && s.pwr.vcore && decide (tierOf mv < s.hub.tier) && decide (1000 ≤ held) then s.setTier mv else s)

/-- TIER_RAISE: VCORE has stayed within the higher tier's range for 1 ms. -/
def execTierRaise (mv held : Nat) (s : State) : Host.Outcome State Fault Refusal :=
  .next (if s.hub.serves && s.pwr.vcore && decide (s.hub.tier < tierOf mv) && decide (1000000 ≤ held) then s.setTier mv else s)

/-- The tracker starts over at an exit from standby, and a change of its state is reported (R252). -/
def State.lapBegin (s : State) : State :=
  let old := s.hub.lap.mode
  let new := s.hub.lap.again s.hub.lapCfg s.now
  s.after (fun h => { h with lap := new }) (if old = new.mode then [] else [.event 7 0x2041 0x09, .journal 0xB (lapCode new.mode) []])

/-- The exit from standby comes to its runtime restart (R96, R322, Table 12-8): domain P is loaded, the lap tracker starts, the Q3 head is taken up and the
ports run again. -/
def State.wakeUp (s : State) : State :=
  let (t, n) := s.hub.time.wake s.now
  let s := s.after (fun h => { h with time := t, net := { h.net with gapTo := t.p }, phase := .restarting, cause := 7, startAt := s.now }) n
  let s := s.lapBegin
  let (net, m) := s.hub.net.wakeQ3 s.now
  (s.after (fun h => { h with net := net, time := h.time.countDropped m }) m).startPorts

/-- SYNTH_LOCK: at a hub start the tier is adopted and step 4 is due; at an exit from standby the runtime restart is due, and a tier that is another one
than before is a tier change (R78). -/
def execSynthLock (mv : Nat) (s : State) : Host.Outcome State Fault Refusal :=
  .next <|
    match s.hub.phase with
    | .settling => State.onHub { s with pwr := { s.pwr with vcoreMv := mv } } fun h => { h with tier := tierOf mv, synth := 1, phase := .held }
    | .waking =>
      let s := s.onHub fun h => { h with synth := 1 }
      (if tierOf mv = s.hub.tier then s else s.setTier mv).wakeUp
    | _ => s

/-- CALIBRATION_START: the temperature has moved by more than 30 K. -/
def execCalibrationStart (temp : Int) (s : State) : Host.Outcome State Fault Refusal :=
  .next <|
    let h := s.hub
    if h.serves && decide (h.synth = 1) && decide (300 < (temp - h.calTemp).natAbs) then
      s.after (fun h => { h with synth := 2, temp := temp, calTemp := temp, calibrations := h.calibrations + 1 }) [.fault 0x58 2 h.tier]
    else s

/-- CALIBRATION_END. -/
def execCalibrationEnd (s : State) : Host.Outcome State Fault Refusal :=
  .next (if s.hub.synth = 2 then s.onHub fun h => { h with synth := 1 } else s)

/-- REFERENCE_CLOCK_LOSS: no edge for 4 microseconds; into hub reset, until the reference has run again for 1 ms. -/
def execReferenceClockLoss (silent : Nat) (s : State) : Host.Outcome State Fault Refusal :=
  .next <|
    if s.pwr.vcore && decide (s.hub.phase ≠ .noClock) && decide (4000 ≤ silent) then (s.hubResetFree 9).onHub fun h => { h with phase := .noClock, synth := 0 } else s

/-- REFERENCE_CLOCK_RESTORED. -/
def execReferenceClockRestored (running : Nat) (s : State) : Host.Outcome State Fault Refusal :=
  .next (if s.hub.phase = .noClock ∧ 1000000 ≤ running then s.onHub fun h => { h with phase := .settling } else s)

/-! ## Resets and release (R63, R82, R87, R88) -/

/-- RUNTIME_WATCHDOG_EXPIRY: the runtime has not restarted its watchdog for 20 ms, which lie after the start of the runtime. -/
def execRuntimeWatchdogExpiry (silent : Nat) (s : State) : Host.Outcome State Fault Refusal :=
  .next (if s.hub.runtimeOn && decide (20000000 ≤ silent) && decide (s.hub.stepsAt + silent ≤ s.now) then s.hubResetFree 8 else s)

/-- RSTN_RESET: a pulse of 1 to 10 microseconds resets the hub or is ignored, as a free bit says (log 2). -/
def execRstnReset (width : Nat) (s : State) : Host.Outcome State Fault Refusal :=
  .next <|
    if !(s.pwr.vio && s.pwr.vcore) || decide (width < 1000) then s
    else if 10000 ≤ width then s.hubResetFree 2
    else
      let (s, acts) := s.drawBit
      if acts then s.hubResetFree 2 else s

/-- Majority of three samples of one bit. -/
def majority (l : List Nat) (i : Nat) : Bool := decide (2 ≤ (l.filter fun v => v.testBit i).length)

/-- Strap value and strap status of three samples (R66). -/
def straps (vio : Bool) (l : List Nat) : Nat × Nat :=
  if vio then
    (bits [majority l 0, majority l 1, majority l 2],
     2 * bits [(List.range 3).any fun i => decide (l.any (fun v => v.testBit i) ≠ l.all fun v => v.testBit i)])
  else (0, 1)

/-- Steps 5 to 9 with the outcome of the two checks (R87, R88). A failure stops the start, with ERRN low. -/
def State.startSteps (s : State) (romOk selfOk : Bool) : State :=
  let s := s.onHub fun h => { h with romOk := romOk, selfOk := selfOk }
  if romOk && selfOk then s.startRuntime
  else s.onHub fun h => { h with phase := .failed, failures := h.failures + 1, stepsAt := s.now, collector := { h.collector with handed := false } }

/-- Steps 4 to 9 of a hub start: the straps are sampled (R66), the MRAM window is judged from the first temperature (R215), and the tracker starts. -/
def State.hubStart (s : State) (samples : List Nat) (romOk selfOk : Bool) (temp : Int) : State :=
  let (v, st) := straps s.pwr.vio (samples.take 3)
  let s := (s.onHub fun h => { h with strapValue := v, strapStatus := st, startAt := s.now, temp := temp, calTemp := temp
                                      windowCode := windowOf temp }).startSteps romOk selfOk
  if romOk && selfOk then s.onHub fun h => { h with lap := Lap.begin h.lapCfg s.now } else s

/-- Banks without VSUPx whose source the collector does not hold a cause of. -/
def State.lostSupplies (s : State) : List Notice :=
  ((List.range 4).filter fun b => !(s.bank b).core.running && !(s.bank b).core.starting && !s.hub.collector.cause.getLsbD (12 * b + 7)).map
    fun b => .fault (12 * b + 7) 1 0xFF

/-- Causes of the hub's level sources that stand as the hub leaves reset: the collector, cleared with the reset, learns of each (R284, R291;
DEDUCED, log 7), and what the strap sampling reports (Table 10-6). -/
def State.standingCauses (s : State) : List Notice :=
  (if s.hub.strapStatus = 0 then [] else [.fault 0x5A s.hub.strapStatus 0xFF])
    ++ (if s.pwr.vio then [] else [.fault 0x34 1 0xFF]) ++ (if s.pwr.vphy then [] else [.fault 0x34 2 0xFF])
    ++ s.lostSupplies
    ++ (if s.hub.windowCode = 0 then [] else [.fault 0x35 s.hub.windowCode 0xFF])

/-- HUB_RESET_RELEASE: `samples` are the three samples of the strap lands. For a runtime restart it brings the outcome of steps 5 and 6 alone, at the
hub's present temperature (DESIGN CHOICE, log 92). -/
def execHubResetRelease (samples : List Nat) (romOk selfOk : Bool) (temp : Int) (s : State) : Host.Outcome State Fault Refusal :=
  .next <|
    match s.hub.phase with
    | .held => let s := s.hubStart samples romOk selfOk temp; s.notify s.standingCauses
    | .restarting => let s := s.startSteps romOk selfOk; s.notify s.lostSupplies
    | _ => s

/-- START_RETRY: from step 4 again, 100 ms after a failure, up to three in a row. -/
def execStartRetry (samples : List Nat) (romOk selfOk : Bool) (temp : Int) (s : State) : Host.Outcome State Fault Refusal :=
  .next <|
    if s.hub.phase = .failed ∧ s.hub.failures < 3 ∧ s.hub.stepsAt + 100000000 ≤ s.now then s.hubStart samples romOk selfOk temp else s

end Sys2Proof.Machine
end

