-- ==== Sys2Proof/Machine/Stop.lean ====
section
/-! DEFINITION. Planned stops of the runtime (R22, R94 to R96, Table 13-10, Table 17-11, R485): draining, the announced restart hold, restart and
standby; with the meanings of the events that carry them on, and of the store's and the journal's own (R472 to R475). -/

namespace Sys2Proof.Machine

/-! ## The stop -/

/-- Does a stop of this kind send the announced restart hold? -/
def Planned.holds (k : Planned) : Bool := decide (k = .restart ∨ k = .activate ∨ k = .revert)

/-- Does it write a trailer (step 5 of Table 17-11)? -/
def Planned.turns (k : Planned) : Bool := decide (k = .activate ∨ k = .revert)

/-- No bank command is on its way (R22). -/
def Hub.linksIdle (h : Hub) : Bool := h.links.all fun l => l.queue.isEmpty

/-- Requests taken are answered, no bank command is on its way (R22), and MRAM is up to date (step 3 of Table 17-11, R94), with its window open where
trailers are to be written (R215). -/
def State.drained (s : State) (k : Planned) : Bool :=
  let h := s.hub
  let r := h.run
  r.waiting.isEmpty && r.held.isEmpty && !h.inbox.any NetItem.isPhoden && h.linksIdle && (!k.turns || decide (h.windowCode = 0))
    && !r.store.dirty && !r.store.writing && !h.shadowed

/-- Write the trailers of an activation: the idle slot active under the next activation sequence, then the other verified; or of a revert. -/
def State.turnSlots (s : State) (k : Planned) : State :=
  let old := s.hub.activeSlot
  let seq := match old with | some i => (match s.trailer i with | some (_, q) => (q + 1) % 2 ^ 32 | none => 1) | none => 1
  let demote (s : State) : State := match old with
    | some i => s.writeTrailer i false (match s.trailer i with | some (_, q) => q | none => 0)
    | none => s
  match k with
  | .activate => demote (s.writeTrailer s.hub.idleSlot true seq)
  | .revert => demote s
  | _ => s

/-- Steps 5 and 6 of Table 17-11: the runtime restarts with its cause, from step 5 of Table 03-6 on (R87). Hub hardware goes on. -/
def State.restart (s : State) (k : Planned) : State :=
  (s.turnSlots k).onHub fun h =>
    { h with phase := .restarting, cause := if k = .activate then 6 else 5, startAt := s.now
             patchDue := match k with | .activate => 4 | .revert => 5 | _ => 0 }

/-- The last step of standby entry (R94, R95): sessions closed, ports, links, domain P and synthesiser stopped. -/
def State.sleep (s : State) : State :=
  let stopped := (List.range 2).filterMap fun i => if (s.hub.net.port i).running then some (portEvent i) else none
  s.after (fun h =>
    let h := h.closeSessions (List.range 16)
    { h.dropPermit.onRun fun r => { r with stop := none } with
      phase := if h.wakeDue then .waking else .standby, synth := 0, wakeDue := false
      time := h.time.sleep
      net := { h.net with port0 := h.net.port0.sleep, port1 := h.net.port1.sleep, gapFrom := h.time.p
                          q4Held := inUse h.net.q4.prod h.net.q4.cons 32 } }) stopped

/-- The announcement goes out: the restart hold in the frames that follow, or for standby C on every channel of every present bank. -/
def State.announce (s : State) (x : Stop) : State :=
  let (h, ids) := if x.kind.holds then (s.hub, []) else s.hub.order (s.hub.everyChan fun p => .setC p true)
  { s with hub := h.onRun fun r => { r with stop := some { x with announced := true, since := some s.now, open_ := ids } } }

/-- Has every present bank had the hold in two consecutive frames and acknowledged it? -/
def Hub.holdTaken (h : Hub) (x : Stop) : Bool := h.presentBanks.all fun b => decide (2 ≤ x.frames.getD b 0) && x.acked.getD b false

/-- A stop is abandoned (R485): ordinary frames again, requests are taken again, and what the stop held back is ordered now: steps that fell due, and W. -/
def State.abandonStop (s : State) (k : Planned) : State :=
  let s := (s.onHub fun h => h.onRun fun r => { r with stop := none }).takeDue
  let s : State := { s with hub := (s.hub.order s.hub.dogOrders).1 }
  match k with
  | .activate => s.notify [.fault 0x50 3 s.hub.idleSlot, s.patchNote 7 s.hub.idleSlot]
  | .revert => s.notify [.fault 0x50 3 (s.hub.activeSlot.getD 0xFF), s.patchNote 7 (s.hub.activeSlot.getD 0)]
  | _ => s

/-- What an announced stop waits for has come about, and it ends: every present bank has taken the hold, and the commands that were on their way are
acknowledged (R22). An activation or revert that finds the MRAM window closed meanwhile can write no trailer (R215) and is abandoned (DESIGN CHOICE, log 88). -/
def State.endStop (s : State) : State :=
  match s.hub.run.stop with
  | none => s
  | some x =>
    if !x.announced then s
    else if x.kind.holds then
      if !(s.hub.holdTaken x && s.hub.linksIdle) then s
      else if x.kind.turns && decide (s.hub.windowCode ≠ 0) then s.abandonStop x.kind
      else s.restart x.kind
    else if x.open_.any s.hub.onItsWay then s else s.sleep

/-- Carry a stop on as far as it goes: a dirty store is written; once all is drained the stop is announced. -/
def State.advanceStop (s : State) : State :=
  match s.hub.run.stop with
  | none => s
  | some x =>
    if x.announced then s.endStop
    else if s.drained x.kind then (s.announce x).endStop
    else if s.hub.run.store.dirty && !s.hub.run.store.writing then s.storeSave
    else s

/-- A stop begins at the lap boundary (R94, Table 17-11): no new request is taken; a team member sends LEAVE (R450); standby entry takes the charge
permit away (R220). -/
def State.beginStop (s : State) (k : Planned) : State :=
  let s := s.onHub fun h => h.onRun fun r => { r with stop := some { kind := k } }
  let s :=
    if k.holds then (if s.hub.inTeam then s.onHub fun h => h.sendTeam 4 [1#8, 0#8, 0#8, 0#8] else s)
    else s.onHub fun h => (h.put 0x2025 5 0 true).dropPermit
  s.advanceStop

/-- A planned operation comes to its lap boundary (R94, R98). Resets of the hub and of the whole device are not announced; a reset of the whole device
resets every bank that runs at the same instant (Table 03-3). -/
def State.execute (s : State) (k : Planned) : State :=
  match k with
  | .portReset n => ((s.stopPort n true).startPort n).pumpQ3
  | .hubReset => s.hubResetFree 3
  | .wholeReset =>
    (s.onBanks fun _ x => if x.core.running then x.reset s.now else x).hubResetFree 4
  | k => s.beginStop k

/-- The planned operations of the lap boundary, in the order of their requests. Once one has stopped the runtime, or begun to, the rest are dropped: the spec
does not rank operations accepted for one boundary (DESIGN CHOICE, log 95). -/
def State.executePlanned (s : State) : State :=
  let due := s.hub.run.boundary.planned
  due.foldl (fun (s : State) k => if s.hub.serving && s.hub.free then s.execute k else s)
    (s.onHub fun h => h.onRun fun r => { r with boundary := { r.boundary with planned := [] } })

/-! ## The events -/

/-- RESTART_HOLD_ACK_TIMEOUT. The spec states the abandonment for activation and revert; a plain restart is abandoned alike (DEDUCED, log 8). -/
def execRestartHoldAckTimeout (s : State) : Host.Outcome State Fault Refusal :=
  .next <|
    match s.hub.run.stop with
    | some x =>
      if s.hub.serving && x.announced && x.kind.holds && elapsed x.since 1000000 s.now && !s.hub.holdTaken x then s.abandonStop x.kind else s
    | none => s

/-- Is there a rising edge of WAKE that no exit has taken, with the level high for `held` since (R62)? The level was last sensed low, or its rise was sensed
within that time. -/
def Lands.wakes (l : Lands) (now held : Nat) : Bool :=
  decide (50000 ≤ held) && (!l.wake || (match l.wakeAt with | some t => decide (now ≤ t + held) | none => false))

/-- WAKE_EXIT_STANDBY: a rising edge with the level then held for `held` (R62). -/
def execWakeExitStandby (held : Nat) (s : State) : Host.Outcome State Fault Refusal :=
  .next <|
    if !s.pwr.vio || !s.lands.wakes s.now held then s
    else
      let s : State := { s with lands := { s.lands with wake := true, wakeAt := none } }
      match s.hub.phase, s.hub.run.stop with
      | .standby, _ => s.onHub fun h => { h with phase := .waking }
      | _, some x => if x.kind = .standby then s.onHub fun h => { h with wakeDue := true } else s
      | _, none => s

/-- SAVE_DELAY_EXPIRY (R472). While a write is in progress, a case has arisen only where something was written since it began: another write follows. -/
def execSaveDelayExpiry (s : State) : Host.Outcome State Fault Refusal :=
  .next <|
    let w := s.hub.run.store
    if s.hub.serving && w.dirty && (!w.writing || w.changed) && decide (w.lastWrite + s.hub.act 0x7000 2 1000 * 1000000 ≤ s.now) then s.storeSave else s

/-- STORE_WRITE_COMPLETE: `verified` says whether the read-back matched. -/
def execStoreWriteComplete (verified : Bool) (s : State) : Host.Outcome State Fault Refusal :=
  .next (if s.hub.runtimeOn then ((s.storeDone verified).flushDone).advanceStop else s)

/-- JOURNAL_RECORD_WRITE. -/
def execJournalRecordWrite (s : State) : Host.Outcome State Fault Refusal :=
  .next (if s.hub.runtimeOn then s.journalWrite.advanceStop else s)

end Sys2Proof.Machine
end

