-- ==== Sys2Proof/Machine/BankService.lean ====
section
/-! DEFINITION. Bank service (R488 to R492), migration (R493 to R495) and teams (R438, R449, R464) at the lap boundary, and the meanings of
LAP_BOUNDARY_APPLY and RETRIM_COMPLETE. -/

namespace Sys2Proof.Machine

/-! ## Bank service -/

/-- A journal record of bank service (Table 17-6): the code, the bank and its new state. -/
def Hub.serviceNote (h : Hub) (code b : Nat) : Notice := .journal 7 code [BitVec.ofNat 8 b, BitVec.ofNat 8 (serviceCode (h.serviceOf b))]

/-- A request has ended: the bank stands in `m`. -/
def State.serviceEnd (s : State) (b code : Nat) (m : ServiceMode) (faults : List Notice) : State :=
  let s := s.onHub fun h => (h.setService b m).onRun fun r => { r with serviceReq := none }
  s.notify (faults ++ [s.hub.serviceNote code b])

/-- Is the bank in the midst of a service operation? -/
def ServiceMode.underway (m : ServiceMode) : Bool := decide (m = .isolating ∨ m = .resetting ∨ m = .retrimming)

/-- Isolation (R489): armed schedules on the bank's lanes are cancelled; the bank itself drops the resolved ones. -/
def State.isolate (s : State) (b : Nat) : State :=
  let s := (s.hub.bankLanes b).foldl (fun (s : State) n =>
    if (s.hub.schedule n).status = 1 then (s.withdraw n).onHub fun h => h.onSchedule n fun x => { x with status := 4 } else s) s
  let (h, _) := (s.hub.setService b .isolating).order [{ bank := b, lane := 0xFF, cmd := .setIsolated true }]
  { s with hub := h }

/-- The 0x7004 entries of a bank's channels, its bit in 0x7003.09, and the commands that carry them (R492). -/
def State.retireBank (s : State) (b : Nat) (v : Bool) : State × List Order :=
  let code := if v then 1 else 0
  let s := s.onHub fun h => (bankChans b).foldl (fun h ch => h.put 0x7004 (ch + 1) code true) h
  let old := s.hub.val 0x7003 9 0
  let s := s.onHub fun h => (h.put 0x7003 9 (if v then old ||| 2 ^ b else old - (if old.testBit b then 2 ^ b else 0)) true).touch s.now
  (s.storeSave, (bankChans b).map fun ch => { bank := b, lane := 0xFF, cmd := .setRetired (ch % 12) v })

/-- Return to service (R492): the isolation flag is cleared and, in the same frame, C is set on every channel. -/
def State.returnBank (s : State) (b : Nat) : State :=
  let (s, orders) := if s.hub.serviceOf b = .retired then s.retireBank b false else (s.storeSave, [])
  let (h, _) := s.hub.order (orders ++ [{ bank := b, lane := 0xFF, cmd := .setIsolated false }]
    ++ (List.range 12).map fun p => { bank := b, lane := 0xFF, cmd := .setC p true })
  State.serviceEnd { s with hub := h } b 5 .inService []

/-- A waiting bank service request at the lap boundary (R488): checked again, then begun. -/
def State.serviceApply (s : State) : State :=
  match s.hub.run.serviceReq with
  | none => s
  | some (b, code) =>
    if (s.hub.serviceOf b).underway then s
    else if !s.hub.present b || !s.hub.serviceValid b code then s.serviceEnd b code (s.hub.serviceOf b) []
    else match code with
    | 1 => s.isolate b
    | 2 =>
      let (h, _) := (s.hub.setService b .resetting).order [{ bank := b, lane := 0xFF, cmd := .resetBank }]
      { s with hub := h }
    | 3 =>
      let (h, _) := (s.hub.setService b .retrimming).order [{ bank := b, lane := 0xFF, cmd := .retrim }]
      { s with hub := h }
    | 4 =>
      let (s, orders) := s.retireBank b true
      let (h, _) := s.hub.order orders
      State.serviceEnd { s with hub := h } b 4 .retired [.fault 0x59 2 b]
    | _ => s.returnBank b

/-! ## Migration (R493, R494) -/

/-- Migration bookkeeping. -/
def Hub.onMigration (h : Hub) (f : Migration → Migration) : Hub := h.onRun fun r => { r with migration := f r.migration }

/-- Step 1 of Table 17-14 at the lap boundary, after the second check. -/
def State.migrationBegin (s : State) : State :=
  let m := s.hub.run.migration
  if m.result ≠ 1 then s
  else
    let code := s.hub.migrationCheck m.lane m.target
    if code ≠ 0 then s.onHub fun h => h.onMigration fun m => { m with result := code }
    else
      let d := m.channel
      let orders : List Order :=
        if m.grow then
          (s.hub.put 0x3402 (m.lane + 1) m.target true).channelConfig d
            ++ (if s.hub.command m.lane = .follow then [{ bank := d / 12, lane := m.lane, cmd := .setNormal (d % 12) .follow }] else [])
        else s.hub.emptyOrders m.lane d
      let (h, ids) := s.hub.order orders
      { s with hub := h.onMigration fun m => { m with result := 2, step := 1, open_ := ids } }

/-- Step 3: the target becomes the map in force, and lanes may stand degraded by it or no longer so (R126). -/
def State.migrationEnd (s : State) : State :=
  let before := s.hub
  let m := s.hub.run.migration
  let (s, notes, _) := s.applyMap ((List.range 48).map fun n => if n = m.lane then m.target else s.hub.entry n) 2
  let s := s.storeSave.onHub fun h => h.onMigration fun m => { m with result := 0, open_ := [] }
  s.notify (.fault 0x59 3 m.lane :: notes ++ before.degradedNotices s.hub)

/-- Each step waits for the acknowledgement of the step before it, and for the end of a planned stop, which keeps the runtime from new bank commands
(R22); a command that was given up counts for a shrink, which always completes. -/
def State.migrationNext (s : State) : State :=
  let m := s.hub.run.migration
  if m.result ≠ 2 ∨ !s.hub.free ∨ m.open_.any s.hub.onItsWay then s
  else if m.step = 1 ∧ m.grow ∧ s.hub.command m.lane = .on then
    let d := m.channel
    let (h, ids) := s.hub.order [{ bank := d / 12, lane := m.lane, tag := some (s.tagFor [d / 12]), cmd := .setNormal (d % 12) .on }]
    { s with hub := h.onMigration fun m => { m with step := 2, open_ := ids } }
  else s.migrationEnd

/-! ## Teams -/

/-- A unit leaves its team (R449): its uncommitted proposals are withdrawn, and their schedules stay armed as ordinary ones. -/
def State.leaveTeam (s : State) : State :=
  let s := s.hub.proposedLanes.foldl State.withdraw s
  s.onHub fun h => (h.sendTeam 4 [0#8, 0#8, 0#8, 0#8]).onTeam fun t =>
    { t with mode := .none, pacer := 0xFF, members := List.replicate 8 {}, proposals := [], intents := t.intents.filter Intent.committed, claimBy := none, badHash := false
             badTime := false, badState := false }

/-- Entries of a budget that the pacer has published and not committed, newest first. -/
def Hub.cancellable (h : Hub) (b : Nat) : List (Intent × IntentEntry) :=
  ((h.run.team.intents.filter fun i => i.mine && !i.committed && !i.barred).flatMap fun i =>
    (i.entries.filter fun e => e.live && decide (e.budget = b)).map fun e => (i, e)).reverse

/-- The first entries of a list whose currents together make up an excess. -/
def shedEntries (excess : Nat) : List (Intent × IntentEntry) → List (Intent × IntentEntry)
  | [] => []
  | e :: rest => if excess = 0 then [] else e :: shedEntries (excess - e.2.current) rest

/-- The pacer, after a budget was lowered: published, uncommitted entries that no longer fit are cancelled and their proposals deferred (R464); in
a team at runtime 3.1 or below they lapse. -/
def State.refit (s : State) (b : Nat) : State × List Notice :=
  let barred := pendingOf (s.hub.run.team.intents.filter Intent.barred) b
  let cut := shedEntries (s.hub.bookings b - barred - s.hub.budgetLimit b) (s.hub.cancellable b)
  let s := s.cancel 2 fun x => cut.any fun c => decide (x.member = c.2.member) && decide (x.proposal = c.2.proposal)
  if s.teamVersion < 0x0302 then (s, [])
  else
    let (h, n) := cut.foldl (fun (acc : Hub × List Notice) c =>
      let (h, n) := acc.1.defer { member := c.2.member, id := c.2.proposal, lane := c.2.lane, cmd := c.2.cmd, budget := b, current := c.2.current
                                  target := c.1.target, arrival := s.hub.run.team.arrivals }
      (h, acc.2 ++ n)) (s.hub, [])
    ({ s with hub := h }, n)

/-- Every budget whose limit is lower than it was before (Table 16-6), in turn. -/
def State.refits (before : Hub) (s : State) : State × List Notice :=
  ((List.range 4).filter fun b => decide (s.hub.budgetLimit b < before.budgetLimit b)).foldl (fun (acc : State × List Notice) b =>
    let (s, n) := acc.1.refit b
    (s, acc.2 ++ n)) (s, [])

/-- Team objects at the lap boundary, `before` being the hub with the settings it had until then. -/
def State.teamApply (before : Hub) (s : State) : State :=
  let on := decide (s.hub.act 0x6000 1 0 = 1)
  if on && !s.hub.inTeam then s.team fun s => (s.form, [])
  else if !on && s.hub.inTeam then s.team fun s => (s.leaveTeam, [])
  else if s.hub.run.team.mode = .pacer then
    s.team (State.refits before)
  else s

/-! ## The lap boundary (R41, R263) -/

/-- The values that had been accepted when the lap boundary came (R41) come into force; the reservations follow them (R457, R458). -/
def State.boundaryValues (s : State) : State :=
  s.onHub fun h => h.rebook (h.onRun fun r => { r with inForce := r.boundary.values.foldl (fun v e => Values.put v e.1 e.2) r.inForce })

/-- What the boundary brings beside values: teams, then the map commit, bank service request and migration that waited when it came. While a planned stop is
under way nothing of it begins (R22): it waits for the next boundary, should the stop be abandoned. -/
def State.boundaryWork (before : Hub) (s : State) : State :=
  if !s.hub.free then s
  else
    let b := s.hub.run.boundary
    let s := s.teamApply before
    let s := if b.commit then s.commitApply else s
    let s := if b.service then s.serviceApply else s
    if b.migration then s.migrationBegin else s

/-- LAP_BOUNDARY_APPLY: settings, teams, map commit, bank service, migration, then resets and standby. -/
def execLapBoundaryApply (s : State) : Host.Outcome State Fault Refusal :=
  .next <|
    if s.hub.serving && s.hub.lap.boundaryDue then
      let before := s.hub
      let s := (s.onHub fun h => { h with lap := { h.lap with boundaryDue := false } }).boundaryValues
      let s := if s.hub.lapCfg.vote = before.lapCfg.vote then s else s.onLap fun l c => l.setVote c s.now
      let s := s.boundaryWork before
      ((s.notify (before.degradedNotices s.hub)).executePlanned).advanceStop
    else s

/-- RETRIM_COMPLETE: the bank keeps the new trims only where every one lies `within` its factory limits. -/
def execRetrimComplete (b : Nat) (within : Bool) (s : State) : Host.Outcome State Fault Refusal :=
  .next <|
    if (s.bank b).retrimming && (s.bank b).core.running then
      let trims := Config.trims b s.free
      let s := State.onBank { s with free := s.free + 1 } b fun x => x.retrimDone b s.now trims within
      if s.hub.serving && decide (s.hub.serviceOf b = .retrimming) then s.serviceEnd b (if within then 3 else 6) .isolated [] else s
    else s

end Sys2Proof.Machine
end

