-- ==== Sys2Proof/Machine/Channel.lean ====
section
/-! DEFINITION. The meanings of the events inside the banks: lands and inputs, commands that reach their moment, sprint windows and ramps, protection, open
load and offsets, temperatures (chapters 02, 04 to 07). -/

namespace Sys2Proof.Machine

/-! ## Lands and inputs (R53, R110, R111) -/

/-- LIMP_CLASSIFICATION_ADOPT. -/
def execLimpClassificationAdopt (b : Nat) (land : LimpLand) (mv held : Nat) (s : State) : Host.Outcome State Fault Refusal :=
  .next (s.onBank b fun x => x.limpAdopt b s.now land mv held)

/-- IN_EDGE_ACCEPT: the pin section buffers the level to every bank while VIO is present (R52). -/
def execInEdgeAccept (pin : Nat) (level : Bool) (held : Nat) (s : State) : Host.Outcome State Fault Refusal :=
  .next <|
    if s.pwr.vio && decide (pin < 16) then
      State.onBanks { s with lands := { s.lands with inputs := putBit s.lands.inputs pin level } } fun b x => x.inputEdge b s.now pin level held
    else s

/-- SENSE_STARVED. -/
def execSenseStarved (ch without : Nat) (s : State) : Host.Outcome State Fault Refusal :=
  .next (s.onChan ch fun x b now p => x.starve b now p without)

/-- SENSE_STARVED_CLEAR. -/
def execSenseStarvedClear (ch interval : Nat) (s : State) : Host.Outcome State Fault Refusal :=
  .next (s.onChan ch fun x b now p => x.starveClear b now p interval)

/-! ## Commands that reach their moment (R128, R196, R266) -/

/-- TAGGED_COMMAND_APPLY. -/
def execTaggedCommandApply (b : Nat) (s : State) : Host.Outcome State Fault Refusal :=
  .next (s.onBank b fun x => x.applyTagged b s.now false)

/-- SNAPSHOT_CAPTURE. -/
def execSnapshotCapture (b : Nat) (s : State) : Host.Outcome State Fault Refusal :=
  .next (s.onBank b fun x => x.applyTagged b s.now true)

/-- SCHEDULE_APPLY. A command that the runtime would now refuse is dropped (R267). -/
def execScheduleApply (b lane : Nat) (s : State) : Host.Outcome State Fault Refusal :=
  .next <|
    let x := s.bank b
    if s.hub.serving && s.hub.scheduleRefused lane then s.onBank b fun y => y.dropSchedule s.now lane
    else
      let y := x.applySchedule b s.now lane
      let s := s.onBank b fun _ => y
      match (x.dueSchedules s.now lane).filterMap LinkCmd.tag with
      | t :: _ => if (y.schedRan.drop x.schedRan.length).contains (lane, true) then s.onHub fun h => h.scheduleActs lane t else s
      | [] => s

/-! ## Sprint windows and ramps (R137 to R155) -/

/-- SPRINT_STEP_BOUNDARY. -/
def execSprintStepBoundary (ch : Nat) (s : State) : Host.Outcome State Fault Refusal :=
  .next (s.onChan ch fun x b now p => x.stepBoundary b now p)

/-- SPRINT_FREEZE_LIMIT. -/
def execSprintFreezeLimit (ch : Nat) (s : State) : Host.Outcome State Fault Refusal :=
  .next (s.onChan ch fun x b now p => x.freezeLimit b now p)

/-- RAMP_TARGET_REACHED. -/
def execRampTargetReached (ch : Nat) (s : State) : Host.Outcome State Fault Refusal :=
  .next (s.onChan ch fun x b now p => x.rampReached b now p)

/-- RAMP_HOLD_EXPIRY. -/
def execRampHoldExpiry (ch : Nat) (s : State) : Host.Outcome State Fault Refusal :=
  .next (s.onChan ch fun x b now p => x.rampHoldExpiry b now p)

/-- RAMP_COMPLETE. -/
def execRampComplete (ch mv : Nat) (s : State) : Host.Outcome State Fault Refusal :=
  .next (s.onChan ch fun x b now p => x.rampComplete b now p mv)

/-- RAMP_ZERO_TURN_OFF. -/
def execRampZeroTurnOff (ch : Nat) (s : State) : Host.Outcome State Fault Refusal :=
  .next (s.onChan ch fun x b now p => x.rampZero b now p)

/-- RAMP_STALL_FLAG. -/
def execRampStallFlag (ch : Nat) (s : State) : Host.Outcome State Fault Refusal :=
  .next (s.onChan ch fun x b now p => x.rampStall b now p)

/-- RAMP_STALL_END. -/
def execRampStallEnd (ch : Nat) (s : State) : Host.Outcome State Fault Refusal :=
  .next (s.onChan ch fun x b now p => x.rampStallEnd b now p)

/-! ## Limiting and trips (R154, R165 to R176) -/

/-- SHORT_CIRCUIT_LIMIT_ENTER. -/
def execShortCircuitLimitEnter (ch mv risen ma : Nat) (s : State) : Host.Outcome State Fault Refusal :=
  .next (s.onChan ch fun x b now p => x.limitEnter b now p mv risen ma true)

/-- OVERLOAD_LIMITING_ENTER. -/
def execOverloadLimitingEnter (ch mv risen ma : Nat) (s : State) : Host.Outcome State Fault Refusal :=
  .next (s.onChan ch fun x b now p => x.limitEnter b now p mv risen ma false)

/-- CURRENT_LIMITING_LEAVE. -/
def execCurrentLimitingLeave (ch : Nat) (s : State) : Host.Outcome State Fault Refusal :=
  .next (s.onChan ch fun x b now p => x.limitLeave b now p)

/-- BANK_DISTURBANCE_END. -/
def execBankDisturbanceEnd (b : Nat) (s : State) : Host.Outcome State Fault Refusal :=
  .next (s.onBank b fun x => x.disturbanceEnd b s.now)

/-- SHORT_CIRCUIT_TRIP. -/
def execShortCircuitTrip (ch : Nat) (s : State) : Host.Outcome State Fault Refusal :=
  .next (s.onChan ch fun x b now p => x.shortTrip b now p)

/-- OVERLOAD_TRIP. -/
def execOverloadTrip (ch : Nat) (s : State) : Host.Outcome State Fault Refusal :=
  .next (s.onChan ch fun x b now p => x.overloadTrip b now p)

/-- SC_DETECTION_TRIP. -/
def execScDetectionTrip (ch ma held : Nat) (s : State) : Host.Outcome State Fault Refusal :=
  .next (s.onChan ch fun x b now p => x.detectionTrip b now p ma held)

/-- TRIP_TIMER_RESET. -/
def execTripTimerReset (ch : Nat) (s : State) : Host.Outcome State Fault Refusal :=
  .next (s.onChan ch fun x b now p => x.timerReset b now p)

/-- BACKOFF_END. -/
def execBackoffEnd (ch : Nat) (s : State) : Host.Outcome State Fault Refusal :=
  .next (s.onChan ch fun x b now p => x.backoffEnd b now p)

/-- LATCH_OFF_CLEAR. -/
def execLatchOffClear (ch : Nat) (s : State) : Host.Outcome State Fault Refusal :=
  .next (s.onChan ch fun x b now p => x.latchClear b now p)

/-- RETRY_COUNTER_RESET. -/
def execRetryCounterReset (ch : Nat) (s : State) : Host.Outcome State Fault Refusal :=
  .next (s.onChan ch fun x b now p => x.retryReset b now p)

/-- LATCH_COUNT_RESET. -/
def execLatchCountReset (ch : Nat) (s : State) : Host.Outcome State Fault Refusal :=
  .next (s.onChan ch fun x b now p => x.latchCountReset b now p)

/-! ## Clamp energy and the wire model (R179 to R188) -/

/-- CLAMP_END. -/
def execClampEnd (ch : Nat) (samples : List (Nat × Nat)) (s : State) : Host.Outcome State Fault Refusal :=
  .next (s.onChan ch fun x b now p => x.clampEnd b now p samples)

/-- TURN_OFF_EDGE_END. -/
def execTurnOffEdgeEnd (ch : Nat) (s : State) : Host.Outcome State Fault Refusal :=
  .next (s.onChan ch fun x b now p => x.edgeEnd b now p)

/-- CLAMP_DECAY. -/
def execClampDecay (b : Nat) (samples : List (List (Nat × Nat))) (s : State) : Host.Outcome State Fault Refusal :=
  .next (s.onBank b fun x => x.clampDecay b s.now samples)

/-- WIRE_MODEL_UPDATE. -/
def execWireModelUpdate (b : Nat) (currents : List Nat) (s : State) : Host.Outcome State Fault Refusal :=
  .next (s.onBank b fun x => x.wireUpdate b s.now currents)

/-! ## Open load and offsets (R183 to R191) -/

/-- ON_STATE_OPEN_LOAD. -/
def execOnStateOpenLoad (ch ua held : Nat) (s : State) : Host.Outcome State Fault Refusal :=
  .next (s.onChan ch fun x b now p => x.openOn b now p ua held)

/-- ON_STATE_OPEN_LOAD_CLEAR. -/
def execOnStateOpenLoadClear (ch ua held : Nat) (s : State) : Host.Outcome State Fault Refusal :=
  .next (s.onChan ch fun x b now p => x.openOnClear b now p ua held)

/-- OFF_STATE_SOURCE_ON. -/
def execOffStateSourceOn (ch : Nat) (s : State) : Host.Outcome State Fault Refusal :=
  .next (s.onChan ch fun x b now p => x.sourceOn b now p)

/-- OFF_STATE_OPEN_LOAD. -/
def execOffStateOpenLoad (ch mv held : Nat) (s : State) : Host.Outcome State Fault Refusal :=
  .next (s.onChan ch fun x b now p => x.openOff b now p mv held)

/-- OFF_STATE_OPEN_LOAD_CLEAR. -/
def execOffStateOpenLoadClear (ch mv held : Nat) (s : State) : Host.Outcome State Fault Refusal :=
  .next (s.onChan ch fun x b now p => x.openOffClear b now p mv held)

/-- OFF_STATE_ZERO_UPDATE. -/
def execOffStateZeroUpdate (ch : Nat) (mean : Int) (s : State) : Host.Outcome State Fault Refusal :=
  .next (s.onChan ch fun x b now p => x.zeroUpdate b now p mean)

/-- CROSS_MEASUREMENT. -/
def execCrossMeasurement (ch : Nat) (clean : Bool) (direct inverted : Int) (s : State) : Host.Outcome State Fault Refusal :=
  .next (s.onChan ch fun x b now p => x.crossMeasure b now p clean direct inverted)

/-- STALE_OFFSET_ENTER. -/
def execStaleOffsetEnter (ch : Nat) (s : State) : Host.Outcome State Fault Refusal :=
  .next (s.onChan ch fun x b now p => x.goStale b now p)

/-! ## Temperatures (R203 to R213) -/

/-- THERMAL_WARNING. -/
def execThermalWarning (ch : Nat) (temp : Int) (s : State) : Host.Outcome State Fault Refusal :=
  .next (s.onChan ch fun x b now p => x.thermalWarn b now p temp)

/-- THERMAL_WARNING_CLEAR: the channel's sensor has been read; the warning of a lane clears once every mapped channel of a running bank reads
below the warning level minus 5.0 K (R206). -/
def execThermalWarningClear (ch : Nat) (temp : Int) (s : State) : Host.Outcome State Fault Refusal :=
  .next <|
    let s := s.onChan ch fun x b now p => x.act b now fun c => c.read p temp now
    let lane := match s.hub.owner ch with | some n => s.hub.chansOf n | none => [ch]
    let cool (k : Nat) : Bool := let c := (s.bank (k / 12)).core; !c.running || c.warnGone (k % 12)
    if (s.bank (ch / 12)).core.running && lane.all cool then
      lane.foldl (fun s k => s.onChan k fun x b now p => x.thermalWarnClear b now p) s
    else s

/-- THERMAL_SHUTDOWN. -/
def execThermalShutdown (ch : Nat) (temp : Int) (s : State) : Host.Outcome State Fault Refusal :=
  .next (s.onChan ch fun x b now p => x.thermalShutdown b now p temp)

/-- THERMAL_SHUTDOWN_EXIT. -/
def execThermalShutdownExit (ch : Nat) (temp : Int) (s : State) : Host.Outcome State Fault Refusal :=
  .next (s.onChan ch fun x b now p => x.thermalExit b now p temp)

/-- THERMAL_LATCH_CLEAR. -/
def execThermalLatchClear (ch : Nat) (s : State) : Host.Outcome State Fault Refusal :=
  .next (s.onChan ch fun x b now p => x.thermalLatchClear b now p)

/-- THERMAL_COUNT_RESET. -/
def execThermalCountReset (ch : Nat) (s : State) : Host.Outcome State Fault Refusal :=
  .next (s.onChan ch fun x b now p => x.thermalCountReset b now p)

/-- SENSOR_BROKEN. -/
def execSensorBroken (b sensor : Nat) (kind : SensorFault) (held : Nat) (s : State) : Host.Outcome State Fault Refusal :=
  .next (s.onBank b fun x => x.sensorBroken b s.now sensor kind held)

/-- SENSOR_CIRCUIT_FAULT. -/
def execSensorCircuitFault (b sensor : Nat) (temp : Int) (circuit : Bool) (s : State) : Host.Outcome State Fault Refusal :=
  .next (s.onBank b fun x => x.sensorFault b s.now sensor temp circuit)

/-- SENSOR_READMIT: the re-admit object names bank and sensor. -/
def execSensorReadmit (k value : Nat) (s : State) : Host.Outcome State Fault Refusal :=
  .next (s.writeNum k 0x2023 5 value)

/-- BANK_THERMAL_WARNING. -/
def execBankThermalWarning (b : Nat) (r1 r2 : Int) (s : State) : Host.Outcome State Fault Refusal :=
  .next (s.onBank b fun x => x.thermalMove b s.now r1 r2 toWarning)

/-- BANK_THERMAL_NORMAL. -/
def execBankThermalNormal (b : Nat) (r1 r2 : Int) (s : State) : Host.Outcome State Fault Refusal :=
  .next (s.onBank b fun x => x.thermalMove b s.now r1 r2 toNormal)

/-- BANK_SHEDDING_ENTER. -/
def execBankSheddingEnter (b : Nat) (r1 r2 : Int) (s : State) : Host.Outcome State Fault Refusal :=
  .next (s.onBank b fun x => x.thermalMove b s.now r1 r2 toShedding)

/-- BANK_SHEDDING_LEAVE. -/
def execBankSheddingLeave (b : Nat) (r1 r2 : Int) (s : State) : Host.Outcome State Fault Refusal :=
  .next (s.onBank b fun x => x.thermalMove b s.now r1 r2 leaveShedding)

/-- BANK_THERMAL_TRIP. -/
def execBankThermalTrip (b : Nat) (r1 r2 : Int) (s : State) : Host.Outcome State Fault Refusal :=
  .next (s.onBank b fun x => x.thermalMove b s.now r1 r2 toTripped)

/-- BANK_TRIP_LEAVE. -/
def execBankTripLeave (b : Nat) (r1 r2 : Int) (s : State) : Host.Outcome State Fault Refusal :=
  .next (s.onBank b fun x => x.thermalMove b s.now r1 r2 leaveTripped)

/-- BANK_SHED_HOLD_CLEAR. -/
def execBankShedHoldClear (b : Nat) (s : State) : Host.Outcome State Fault Refusal :=
  .next (s.onBank b fun x => x.shedHoldClear b s.now)

end Sys2Proof.Machine
end

