-- ==== Sys2Proof/Machine/Link.lean ====
section
/-! DEFINITION. The bank links as the hub drives them (R20 to R24, R283): the meanings of their frames, of commands given up, and of the banks' hold timers. -/

namespace Sys2Proof.Machine

/-! ## Downlink -/

/-- Start of the downlink frames to a bank within the cycle, in ns (R20). -/
def frameOffset (b : Nat) : Nat := 12500 * b

/-- Is the restart hold being announced (R24)? -/
def Hub.announces (h : Hub) : Bool := match h.run.stop with | some x => x.announced && x.kind.holds | none => false

/-- One downlink frame to a bank: every command on its link, the hold, the acknowledgements of fault messages. A step the collector has requested is
confirmed to it with the frame that carries the commands (R298). -/
def State.downlink (s : State) (b : Nat) : State :=
  let h := s.hub
  let l := h.link b
  let frame : DownFrame := { startAt := s.now, cmds := l.queue.map LinkReq.cmd, hold := h.announces, msgAcks := l.msgAcks }
  let count (r : Run) : Run := { r with stop := r.stop.map fun x => if x.announced then { x with frames := editAt x.frames b (· + 1) } else x }
  let s := s.onBank b fun x => { x with down := some frame }
  s.onHub fun h =>
    { (h.onLink b fun l => { l with sentIn := some s.cycle, msgAcks := [], queue := l.queue.map fun r => { r with first := some (r.first.getD s.now) } }).onRun count with
      collector := h.collector.confirmBank b }

/-- DOWNLINK_FRAME_SEND: one frame per bank and cycle, from the bank's offset on. With it come the readings that the hub refreshes in every cycle (log 89). -/
def execDownlinkFrameSend (b : Nat) (readings : HubReadings) (s : State) : Host.Outcome State Fault Refusal :=
  .next <|
    let s := s.sense readings
    if decide (b < 4) && s.hub.runtimeOn && decide ((s.hub.link b).sentIn ≠ some s.cycle) && decide (frameOffset b ≤ s.now % cycleTime) then s.downlink b else s

/-- BANK_DOWNLINK_FRAME_RX. -/
def execBankDownlinkFrameRx (b : Nat) (crcOk : Bool) (s : State) : Host.Outcome State Fault Refusal :=
  .next (s.onBank b fun x => x.receive b s.now crcOk)

/-- BANK_UPLINK_SEND. -/
def execBankUplinkSend (b : Nat) (readings : Readings) (s : State) : Host.Outcome State Fault Refusal :=
  .next (s.onBank b fun x => x.send b s.now readings)

/-! ## Uplink -/

/-- Count discards of a bank's link: the sixteenth within 1 s raises the bank link source and restarts the count (R21). -/
def State.countDiscards (s : State) (b n : Nat) : State :=
  let recent := ((s.hub.link b).discards.filter fun t => decide (s.now ≤ t + 1000000000)) ++ List.replicate n s.now
  if 16 ≤ recent.length then (s.onHub fun h => h.onLink b fun l => { l with discards := [] }).notify [.fault (12 * b + 8) 4 0xFF]
  else s.onHub fun h => h.onLink b fun l => { l with discards := recent }

/-- The first frame after a start of the bank: what hung on it has ended, the collector forgets the sequence numbers it has accepted (R283), and the bank is
to be claimed. -/
def State.bankStarted (s : State) (b : Nat) : State :=
  (s.bankGone b).onHub fun h =>
    { (h.onLink b fun l => { l with reported := some 0 }) with collector := { h.collector with seen := editAt h.collector.seen b fun _ => [] } }

/-- The discards that a frame's count adds to the last one; none where the hub has no count to compare with (R21). -/
def Link.newDiscards (l : Link) (n : Nat) : Nat := match l.reported with | some m => n - m | none => 0

/-- One fault message of a frame: accepted once, acknowledged always (R283). A trip of a channel of a lane that grows aborts the grow (R495). -/
def State.bankMessage (b : Nat) (s : State) (m : FaultMsg) : State :=
  let (c, n) := s.hub.collector.acceptFrom s.hub.collCfg b m s.now s.hub.time.seconds s.hub.time.nanos
  let s := s.after (fun h => { (h.onLink b fun l => { l with msgAcks := l.msgAcks ++ [m.seq] }) with collector := c }) n
  if m.error && decide (m.source < 48) && decide (m.source % 12 = 0) && s.hub.migrationChans.contains m.address then s.abortGrow else s

/-- Is a snapshot command acknowledged, and its capture reported (R196)? -/
def Hub.captured (h : Hub) (cycle : Nat) (id : Nat × Nat) : Bool :=
  !h.onItsWay id && (match h.view id.1 with | some c => decide (cycle ≤ c.snapCycle) | none => true)

/-- The set of a lane's snapshot (R194, R196): the larger of the channels' integrators and rises, the sums of their counters. -/
def Hub.snapSet (h : Hub) (n : Nat) : List Nat :=
  [h.maxSeen n fun x => x.snap.energy, h.maxSeen n fun x => x.snap.rise, h.sumSeen n (fun x => x.snap.total) % 2 ^ 32,
   h.sumSeen n (fun x => x.snap.events.toNat) % 2 ^ 32, h.sumSeen n (fun x => x.snap.trips.toNat) % 2 ^ 32]

/-- The cycle of a lane's capture: the later of the banks'. -/
def Hub.snapCycleOf (h : Hub) (n : Nat) : Nat := ((h.seen n).map fun x => x.1.snapCycle).foldl max 0

/-- Snapshots whose captures have all been reported are answered, and replace the lane's set. -/
def State.snapshotsDone (s : State) : State :=
  let whole (w : Nat × Nat × List (Nat × Nat)) : Bool := w.2.2.all fun id => s.hub.captured w.2.1 id
  let done := s.hub.run.snapWait.filter whole
  let s := s.onHub fun h => h.onRun fun r => { r with
    snapWait := r.snapWait.filter fun w => !whole w
    snapCycle := done.foldl (fun l w => editAt l w.1 fun _ => h.snapCycleOf w.1) r.snapCycle
    snaps := done.foldl (fun l w => editAt l w.1 fun _ => h.snapSet w.1) r.snaps }
  s.answerWaiting (done.flatMap fun w => w.2.2) 0

/-- Acknowledged commands leave the link; the requests that waited for them are answered (R22, R41). -/
def State.acknowledged (s : State) (b : Nat) (acks : List Nat) : State :=
  let held := s.hub.run.snapWait.flatMap fun w => w.2.2
  let s := s.onHub fun h => h.onLink b fun l => { l with queue := l.queue.filter fun r => !acks.contains r.cmd.id }
  s.answerWaiting ((acks.map fun i => (b, i)).filter fun id => !held.contains id) 0

/-- What a bank reports of resolved schedules (R266), with the lanes that a command so set has degraded (R126). A drop that a restarted runtime knows nothing
of is reported as one (Table 17-15). -/
def State.scheduleReports (s : State) (b : Nat) (ran : List (Nat × Bool)) : State :=
  ran.foldl (fun (s : State) e =>
    if !e.2 && decide ((s.hub.schedule e.1).status = 0) then s.notify [.fault 0x55 2 e.1]
    else
      let before := s.hub
      let (h, n) := s.hub.scheduleReport b e.1 e.2
      State.notify { s with hub := before.rebook h } (n ++ before.degradedNotices h)) s

/-- What telemetry shows that is reported (R126, R156, R210, R181): a change into the tripped state is reported by the bank's own message. -/
def telemetryNotices (b : Nat) (old new : BankCore) (before after : Hub) : List Notice :=
  (if old.thermal = new.thermal then []
   else (if new.thermal = .tripped then [] else [.event 4 0x2024 3]) ++ [.journal 0xA (thermalCode new.thermal) [BitVec.ofNat 8 b, 0#8]])
  ++ (if old.disturbances = new.disturbances then [] else [.event b (0x3410 + 12 * b + new.disturbedBy) 5])
  ++ prewarnings before after ++ before.degradedNotices after

/-- Telemetry of a claimed bank. -/
def State.telemetry (s : State) (b : Nat) (old new : BankCore) : State :=
  let before := s.hub
  let s := s.onHub fun h =>
    let h := { h with views := editAt h.views b fun _ => some new }.noteAgreement b new s.now
    let h := if new.thermal = .shedding ∧ old.thermal ≠ .shedding then h.setShedDue b s.now else h
    h.onRun fun r => { r with stop := r.stop.map fun x => if x.announced then { x with acked := editAt x.acked b fun _ => new.restartHold } else x }
  let s := s.notify (telemetryNotices b old new before s.hub)
  let s := if s.hub.serviceOf b = .isolating ∧ new.isolated ∧ !new.chans.any (fun x => x.io.turningOff) then
      s.serviceEnd b 1 .isolated [.fault 0x59 1 b] else s
  s.snapshotsDone.migrationNext

/-- A valid uplink frame. A bank that is not claimed is only heard, once it has had a frame from this start of the hub. -/
def State.uplink (s : State) (b : Nat) (f : UpFrame) : State :=
  let s := if f.first then s.bankStarted b else s
  let s := s.countDiscards b ((s.hub.link b).newDiscards f.discards)
  let s := s.onHub fun h => h.onLink b fun l => { l with reported := some f.discards }
  let s := f.msgs.foldl (State.bankMessage b) s
  let s := (s.acknowledged b f.acks).scheduleReports b f.schedRan
  match s.hub.view b with
  | some old => s.telemetry b old f.core
  | none => if elapsed f.core.lastValidRx 0 s.now && decide (s.hub.stepsAt ≤ f.core.lastValidRx.getD 0) then
      s.onHub fun h => h.onLink b fun l => { l with heard := some f.core } else s

/-- UPLINK_FRAME_RX: the frame has arrived 12.8 microseconds after its start; a bad CRC discards it whole. -/
def execUplinkFrameRx (b : Nat) (crcOk : Bool) (s : State) : Host.Outcome State Fault Refusal :=
  .next <|
    match (s.bank b).up with
    | none => s
    | some f =>
      if s.now < f.startAt + frameTime then s
      else
        let s := s.onBank b fun x => { x with up := none }
        if !s.hub.runtimeOn then s
        else if crcOk then (s.uplink b f).advanceStop
        else s.countDiscards b 1

/-! ## Commands given up (R22) -/

/-- Is it a bank service command? -/
def BankCmd.serves : BankCmd → Bool
  | .setIsolated _ => true
  | .resetBank => true
  | .retrim => true
  | _ => false

/-- The state a bank service operation falls back to when its command is given up. -/
def ServiceMode.before : ServiceMode → ServiceMode
  | .isolating => .inService
  | _ => .isolated

/-- What waits for commands given up: requests are answered 0x0309, snapshots are not taken, a grow is aborted and a shrink goes on, and a bank service
operation fails. -/
def State.gaveUp (s : State) (b : Nat) (stale : List LinkReq) : State :=
  let ids := stale.map fun r => (b, r.cmd.id)
  let s := s.onHub fun h => h.onRun fun r => { r with snapWait := r.snapWait.filter fun w => !w.2.2.any ids.contains }
  let s := s.answerWaiting ids 0x0309
  let hit := s.hub.run.migration.open_.any ids.contains
  let s := if hit && s.hub.run.migration.grow then s.abortGrow else if hit then s.migrationNext else s
  if (s.hub.serviceOf b).underway && stale.any fun r => r.cmd.cmd.serves then
    s.serviceEnd b (match s.hub.run.serviceReq with | some (_, c) => c | none => 0) (s.hub.serviceOf b).before []
  else s

/-- COMMAND_GIVE_UP: 1 ms after the first frame that carried them. -/
def execCommandGiveUp (b : Nat) (s : State) : Host.Outcome State Fault Refusal :=
  .next <|
    let late (r : LinkReq) : Bool := elapsed r.first 1000000 s.now
    let stale := (s.hub.link b).queue.filter late
    if s.hub.runtimeOn && !stale.isEmpty then
      let s := s.onHub fun h => h.onLink b fun l => { l with queue := l.queue.filter fun r => !late r }
      ((s.notify [.fault (12 * b + 8) 3 0xFF]).gaveUp b stale).advanceStop
    else s

/-! ## Hold timers (R23, R24) -/

/-- HOLD_TIMER_EXPIRY. -/
def execHoldTimerExpiry (b : Nat) (s : State) : Host.Outcome State Fault Refusal := .next (s.onBank b fun x => x.holdExpiry b s.now)

/-- RESTART_HOLD_EXPIRY. -/
def execRestartHoldExpiry (b : Nat) (s : State) : Host.Outcome State Fault Refusal := .next (s.onBank b fun x => x.restartHoldExpiry b s.now)

end Sys2Proof.Machine
end

