-- ==== Sys2Proof/Machine/Claim.lean ====
section
/-! DEFINITION. Bank claim (R93, R132, R212, R233, R291, R302, R490) and dictionary ready (R89, R299, R302, R372): the meanings of BANK_CLAIM and
DICTIONARY_READY. -/

namespace Sys2Proof.Machine

/-! ## The store of a bank against the configuration (R93) -/

/-- The store entry a channel ought to hold, and the commands that bring it there. -/
def Hub.entryOrders (h : Hub) (c : BankCore) (ch : Nat) : List Order :=
  let old := (c.chan (ch % 12)).cfg
  let new := h.chanCfg ch old
  if new = old then []
  else h.channelConfig ch ++ (if new.retired = old.retired then [] else [{ bank := ch / 12, lane := 0xFF, cmd := .setRetired (ch % 12) new.retired }])

/-- Configured hold time, glide exit mode and thermal levels of a bank. -/
def Hub.holdTime (h : Hub) (b : Nat) : Nat := h.val 0x2030 (b + 1) 50
def Hub.exitMode (h : Hub) (b : Nat) : Bool := decide (h.val 0x2030 (b + 5) 0 = 1)
def Hub.levels (h : Hub) : Int × Int := (toSigned 16 (h.val 0x2024 1 1500), toSigned 16 (h.val 0x2024 2 1600))

/-- The commands for the bank's own values where they differ. -/
def Hub.bankOrders (h : Hub) (b : Nat) (c : BankCore) : List Order :=
  let o (cmd : BankCmd) : Order := { bank := b, lane := 0xFF, cmd := cmd }
  (if c.holdTime = h.holdTime b then [] else [o (.setHoldTime (h.holdTime b))])
    ++ (if c.glideToSafe = h.exitMode b then [] else [o (.setGlideExit (h.exitMode b))])
    ++ (if (c.warnAt, c.shedAt) = h.levels then [] else [o (.setLevels h.levels.1 h.levels.2)])
    ++ (if c.trims = Config.claimTrims b c.trims then [] else [o (.setTrims (Config.claimTrims b c.trims))])

/-- The whole store of a bank, for one whose store failed its check (R85), with the configured trims (log 72). -/
def Hub.storeImage (h : Hub) (b : Nat) (c : BankCore) : StoreImage :=
  { holdTime := h.holdTime b, glideToSafe := h.exitMode b, warnAt := h.levels.1, shedAt := h.levels.2, trims := Config.claimTrims b c.trims
    entries := (List.range 12).map fun p => h.chanCfg (12 * b + p) (factoryEntry p) }

/-- The lane objects that a store entry holds (YB of Table 15-2), as offset, subindex and value. -/
def entryValues (v : ChanCfg) : List (Nat × Nat × Nat) :=
  let flag (x : Bool) : Nat := if x then 1 else 0
  [(1, 1, v.io.route.getD 0xFF), (1, 2, flag v.io.inverted), (1, 3, v.io.filter), (2, 1, v.io.slew), (2, 2, flag v.io.led),
   (3, 1, v.load.loadType), (3, 2, v.load.selection), (3, 3, if v.load.rearm = rearmTime v.load.loadType 0xFFFFFFFF then 0xFFFFFFFF else v.load.rearm),
   (3, 4, v.load.rampRate), (3, 5, v.load.rampTarget), (3, 6, v.load.rampHold),
   (4, 1, v.prot.steady), (4, 2, v.prot.retries), (4, 3, v.prot.backoffBase), (4, 4, flag v.prot.doubling), (4, 5, flag v.prot.retrySprint),
   (4, 6, v.prot.healthy), (4, 7, v.prot.lockAt), (4, 8, v.prot.budget), (4, 9, v.prot.openStd), (4, 0xA, v.prot.openLed), (4, 0xB, v.prot.openFilter),
   (4, 0xC, flag v.prot.offCheck), (4, 0xD, v.prot.wireI), (4, 0xE, v.prot.wireTau), (4, 0xF, v.prot.wireRise),
   (5, 1, ofSigned 16 v.warnLevel), (6, 1, driveCode v.pattern.failSafe), (6, 2, driveCode v.pattern.glide), (7, 6, flag v.senseSync)]

/-- A value adopted: it is set where the object reads otherwise. -/
def State.adoptValue (s : State) (idx sub v : Nat) : State :=
  match rowOf s.rtVersion idx sub with
  | some r => if s.hub.val idx sub (s.hub.default r idx sub) = v then s else s.onHub fun h => h.put idx sub v true
  | none => s

/-- On factory defaults the bank's contents become the working values of the lanes, of its hold time and glide exit mode, and of its retired
channels (R93; which objects are concerned is DEDUCED, log 9). -/
def State.adoptStore (s : State) (b : Nat) (c : BankCore) : State :=
  let s := (List.range 12).foldl (fun (s : State) p =>
    let v := (c.chan p).cfg
    let s := (entryValues v).foldl (fun (s : State) e => s.adoptValue (laneIdx (12 * b + p) e.1) e.2.1 e.2.2) s
    s.adoptValue 0x7004 (12 * b + p + 1) (if v.retired then 1 else 0)) s
  (s.adoptValue 0x2030 (b + 1) c.holdTime).adoptValue 0x2030 (b + 5) (if c.glideToSafe then 1 else 0)

/-- The store of a claimed bank is brought into line, and bits [11:8] and [15:12] of the start-up report note it. -/
def State.claimStore (s : State) (b : Nat) (c : BankCore) : State :=
  let mark (s : State) (orders : List Order) (failed : Bool) : State :=
    let (h, _) := s.hub.order orders
    { s with hub := { h with startReport := h.startReport ||| (if orders.isEmpty then 0 else 2 ^ (8 + b)) ||| (if failed then 2 ^ (12 + b) else 0) } }
  if c.storeFailed then mark s [{ bank := b, lane := 0xFF, cmd := .fullStore (s.hub.storeImage b c) }] true
  else if s.hub.copySel = 2 then s.adoptStore b c
  else mark s ((bankChans b).flatMap (s.hub.entryOrders c) ++ s.hub.bankOrders b c) false

/-! ## Normal-operation states (R132, R490) -/

/-- The states that the claimed banks report for a lane's channels. -/
def Hub.normalStates (h : Hub) (n : Nat) : List Drive := (h.chansOf n).filterMap fun ch => (h.viewChan ch).map fun x => x.io.normal

/-- A bank of the lane answers and is still to be claimed. -/
def Hub.awaitsClaim (h : Hub) (n : Nat) : Bool := (banksOf (h.chansOf n)).any fun b => (h.view b).isNone && (h.link b).heard.isSome

/-- A lane's command object at a claim: the reported state, or OFF to both channels of a pair that reports two. -/
def State.claimLane (s : State) (n : Nat) : State :=
  match s.hub.normalStates n with
  | [] => s
  | d :: ds =>
    if s.hub.awaitsClaim n then s
    else if ds.all fun e => decide (e = d) then s.onHub fun h => h.put (laneIdx n 0) 1 (driveCode d) true
    else
      let (h, _) := s.hub.order (s.hub.laneOrders n none false fun p => .setNormal p .off)
      { s with hub := h.put (laneIdx n 0) 1 0 true }

/-- The command objects at a claim; after a bank reset they are written into the bank instead. -/
def State.claimLanes (s : State) (b : Nat) : State :=
  if s.hub.serviceOf b = .resetting then
    let orders : List Order := (s.hub.bankLanes b).flatMap fun n =>
      ((s.hub.chansOf n).filter fun ch => decide (ch / 12 = b)).map fun ch => { bank := b, lane := n, cmd := .setNormal (ch % 12) (s.hub.command n) }
    let (h, _) := s.hub.order orders
    { s with hub := h }
  else
    let before := s.hub
    let s := (s.hub.bankLanes b).foldl State.claimLane s
    { s with hub := before.rebook s.hub }

/-! ## Cause bits, glide flag, shed groups -/

/-- X found becomes C; W and X are set again where the watchdog is forced and a standing escalation covers a channel (R233, R302). -/
def Hub.causeOrders (h : Hub) (b : Nat) (c : BankCore) : List Order :=
  let o (cmd : BankCmd) : Order := { bank := b, lane := 0xFF, cmd := cmd }
  (((List.range 12).filter fun p => (c.chan p).io.x).map fun p => o (.releaseX p))
    ++ (if h.run.dog.mode = .forced then (List.range 12).map fun p => o (.setW p true) else [])
    ++ (((List.range 12).filter fun p => h.covered (12 * b + p)).map fun p => o (.setX p true))

/-- The escalation glide flag at a claim (R233, R302): every flag found is kept and raises source 0x33 with kind 0xC, which is placed at step 3; set while a
source stands at step 3. -/
def State.claimGlide (s : State) (b : Nat) (c : BankCore) : State :=
  let s := if c.escGlide then s.notify [.fault 0x33 0xC 0xFF] else s
  if c.escGlide && decide ((s.hub.collector.source 0x33).step ≠ 3) then s.takeStep 0x33 3
  else if s.hub.glideStands then { s with hub := (s.hub.order [{ bank := b, lane := 0xFF, cmd := .setEscGlide true }]).1 }
  else s

/-- One level cause that a bank reports at its claim (R291). -/
def State.claimCause (b : Nat) (s : State) (e : Nat × Nat × Nat) : State :=
  let src := 12 * b + e.1
  let c := s.hub.collector
  if c.status.getLsbD src then s.onHub fun h => { h with collector := { c with cause := putBit c.cause src true } }
  else s.acceptError src e.2.1 b e.2.2

/-- The level sources of a bank at its claim: those it reports, and those it does not, among them its supply, whose cause bits the collector clears without a
message (R291). -/
def State.claimCauses (s : State) (b : Nat) (c : BankCore) : State :=
  let causes := c.causes b
  let gone := [1, 2, 3, 4, 5, 6, 7, 10, 11].filter fun i => !causes.any fun e => e.1 == i
  (causes.foldl (State.claimCause b) s).onHub fun h =>
    { h with collector := gone.foldl (fun c i => c.acceptGone (12 * b + i)) h.collector }

/-- Insert a shed lane into the groups, by shedding priority. -/
def addShed (prio n : Nat) : List (Nat × List Nat) → List (Nat × List Nat)
  | [] => [(prio, [n])]
  | (p, l) :: rest => if prio < p then (prio, [n]) :: (p, l) :: rest else if prio = p then (p, l ++ [n]) :: rest else (p, l) :: addShed prio n rest

/-- The shed groups of a bank rebuilt from the holds it reports (R212), and when its next group may be shed or restored. A lane whose priority is 0 by now
is released at once. -/
def Hub.claimShed (h : Hub) (b : Nat) (c : BankCore) (now : Nat) : Hub :=
  let held := (h.bankLanes b).filter fun n =>
    (h.chansOf n).any fun ch => decide (ch / 12 = b) && (c.chan (ch % 12)).thermal.shedBy.getLsbD b
  let groups := (held.filter fun n => decide (0 < h.shedPrio n)).foldl (fun l n => addShed (h.shedPrio n) n l) []
  let h := (h.order (h.shedOrders b (held.filter fun n => decide (h.shedPrio n = 0)) false)).1
  (h.onRun fun r => { r with shed := editAt r.shed b fun _ => groups }).setShedDue b (now + if c.thermal = .shedding then 1000000000 else 10000000000)

/-- The service state of a bank at its claim (R489, R490). -/
def State.claimService (s : State) (b : Nat) (c : BankCore) : State :=
  let m : ServiceMode := if s.hub.retiredBank b then .retired else if c.isolated then .isolated else .inService
  match s.hub.serviceOf b with
  | .resetting => s.serviceEnd b 2 m []
  | old => s.onHub fun h => (h.setService b m).onRun fun r => if old.underway then { r with serviceReq := none } else r

/-- Claim bank b, which reports `c`. -/
def State.claim (s : State) (b : Nat) (c : BankCore) : State :=
  let before := s.hub
  let s := s.onHub fun h =>
    { (h.onLink b fun l => { l with heard := none }) with views := editAt h.views b fun _ => some c }.noteAgreement b c s.now
  let s := (s.claimStore b c).claimLanes b
  let (h, _) := s.hub.order (s.hub.causeOrders b c)
  let s := (State.claimGlide { s with hub := h.claimShed b c s.now } b c).claimCauses b c
  let s := s.claimService b c
  s.notify (prewarnings before s.hub ++ (if before.phase = .running then [.event 5 0x2014 1] else []) ++ before.degradedNotices s.hub)

/-- BANK_CLAIM: of a bank that answers and is not claimed. -/
def execBankClaim (b : Nat) (s : State) : Host.Outcome State Fault Refusal :=
  .next <|
    match (s.hub.link b).heard with
    | some c => if decide (b < 4) && s.hub.runtimeOn && s.hub.free && !s.hub.present b && c.running then s.claim b c else s
    | none => s

/-! ## Dictionary ready -/

/-- A step requested and not confirmed when the runtime stopped is requested again (R299). -/
def State.requestAgain (s : State) (q : StepRequest) : State :=
  let h := s.hub
  let sc := stepScope q.source q.step (h.owner (h.collector.source q.source).address)
  let laneBanks := match sc with | .lane n => h.laneBanks n | _ => []
  let banks := (sc.banks laneBanks h.presentBanks).filter h.present
  let (h, _) := h.order (h.scopeOrders q.source sc)
  { s with hub := { h with collector := { h.collector with
      requests := if banks.isEmpty then h.collector.requests else h.collector.requests ++ [{ q with at_ := s.now, banks := banks }] } } }

/-- What escalation left over from the stop (R299). -/
def State.resumeSteps (s : State) : State :=
  let old := s.hub.collector.requests
  let s := s.onHub fun h => { h with collector := { h.collector with requests := [] } }
  (old.foldl State.requestAgain s).takeDue

/-- The restart gap record and the dictionary ready record (R372, R89). -/
def State.readyRecords (s : State) : State :=
  let gap := s.hub.gap.toNat
  let (s, _) := State.record (s.onHub fun h => { h with gap := 0 }) 13 3 gap 0
  s.notify [.event 13 0x2014 2]

/-- Payload of the class 0x0 record (Table 17-6). -/
def State.readyPayload (s : State) : List Byte :=
  leBytes 2 s.hub.startReport ++ leBytes 1 s.hub.copySel ++ leBytes 4 s.hub.copySeq
    ++ leBytes 4 (match s.hub.activeSlot with | some i => s.slotIdentity i | none => 0) ++ leBytes 4 s.hub.duration

/-- The journal records and faults of a start: its cause, a patch turned, an unplanned hub start (R302); pre-warnings that went while the banks were unclaimed
(R284). -/
def State.readyNotices (s : State) : List Notice :=
  let h := s.hub
  (if [2, 8, 9, 0xA].contains h.cause then [.fault 0x33 h.cause 0xFF] else []) ++ [.journal 0 h.cause s.readyPayload]
    ++ (if h.collector.causeD.getLsbD 0x17 && !h.warns then [.gone 0x57] else [])
    ++ (if h.patchDue = 0 then [] else [s.patchNote h.patchDue (if h.patchDue = 4 then h.activeSlot.getD 0 else h.idleSlot)])

/-- Banks that answer are all claimed, and those that do not have had 100 microseconds, two link cycles, to answer (DESIGN CHOICE, log 10). -/
def State.claimsDone (s : State) : Bool :=
  let h := s.hub
  (List.range 4).all fun b => h.present b || ((h.link b).heard.isNone && decide (h.stepsAt + 100000 ≤ s.now))

/-- Step 11 of Table 03-6. -/
def State.dictionaryReady (s : State) : State :=
  let s := s.onHub fun h =>
    let absent := (List.range 4).foldl (fun v b => if h.present b then v else v ||| 2 ^ (4 + b)) 0
    { (h.onRun fun r => { r with ready := true, readyAt := s.now }) with
      phase := .running, startReport := h.startReport ||| absent, startCause := h.cause, duration := (s.now - h.startAt) / 1000
      collector := { h.collector with handed := true }, lap := { h.lap with boundaryDue := false } }
  let s := s.readyRecords
  let s := (s.notify s.readyNotices).onHub fun h => { h with patchDue := 0 }
  ((s.dogBegin.startPorts).resumeSteps).storeNext

/-- DICTIONARY_READY. -/
def execDictionaryReady (s : State) : Host.Outcome State Fault Refusal :=
  .next (if decide (s.hub.phase = .claiming) && s.claimsDone then s.dictionaryReady else s)

end Sys2Proof.Machine
end

