-- ==== Sys2Proof/Machine/Pins.lean ====
section
/-! DEFINITION. What the lands of Tables 02-6 and 02-7 that the device drives present to the board (R49, R50, R57 to R61): views of the state. -/

namespace Sys2Proof.Machine

/-- What a land presents: driven low or high, or high impedance, which is also a released open drain. -/
inductive Land where
  | low
  | high
  | open_
  deriving DecidableEq, Repr

def Land.ofBool (v : Bool) : Land := if v then .high else .low

/-- OUTnn: high while the channel's stage is on, else open; off in reset and without its supply (R49, R50). -/
def State.outLand (s : State) (ch : Nat) : Land :=
  let b := s.bank (ch / 12)
  if b.core.running && (s.chan ch).io.on then .high else .open_

/-- IRQN and ERRN are open drain (R57). -/
def State.irqnLand (s : State) : Land := if s.irqnLow then .low else .open_
def State.errnLand (s : State) : Land := if s.errnLow then .low else .open_

/-- CHGPERM is driven while VIO is present; without it the passive resistor holds it low (R61). -/
def State.chgpermLand (s : State) : Land := Land.ofBool (s.pwr.vio && s.hub.chgperm)

/-- PPS: push-pull on VIO as an output, which it is in mode 0x01 of a hub out of reset only, else an input (R60, R340). -/
def State.ppsLand (s : State) : Land :=
  if s.pwr.vio && decide (s.hub.timeCfg.ppsMode = 1) then Land.ofBool s.hub.time.pps.high else .open_

/-- The lands of a 10BASE-T1S port are high impedance while the port does not run, so in reset, without VPHY and disabled (R59), and between its own frames. -/
def State.t1sDriven (s : State) (n : Nat) : Bool := (s.hub.net.port n).running && (s.hub.net.port n).current.isSome

/-- The bits of a byte as the SPI port shifts them, most significant first (R58). -/
def shiftBits (b : Byte) : List Bool := (List.range 8).map fun i => b.getLsbD (7 - i)

/-- What SDO carried during the last transaction, bit by bit; SDO is high impedance while CSN is high, so outside a transaction (R58). -/
def State.sdoBits (s : State) : List Bool := s.hub.spiOut.flatMap shiftBits
def sdoIdle : Land := .open_

/-- The SPI mode of the last transaction (R58). -/
def State.spiMode (s : State) : Nat := if s.hub.spiMode3 then 3 else 0

end Sys2Proof.Machine
end

