-- ==== Sys2Proof/Machine/Registers.lean ====
section
/-! DEFINITION. The meanings of the rows that are one write to one object, sent now by session k. `State.writeRow` says what every write does; what
follows it is the object's own rule. -/

namespace Sys2Proof.Machine

/-! ## Events, resets and standby -/

/-- EVENT_ACKNOWLEDGE, 0x1030.03. -/
def execEventAcknowledge (k mask : Nat) (s : State) : Host.Outcome State Fault Refusal := .next (s.writeNum k 0x1030 3 mask)

/-- RESET_REQUEST_RUNTIME_RESTART, 0x2014.03. -/
def execResetRequestRuntimeRestart (k : Nat) (s : State) : Host.Outcome State Fault Refusal := .next (s.writeNum k 0x2014 3 1)

/-- RESET_REQUEST_HUB_RESET. -/
def execResetRequestHubReset (k : Nat) (s : State) : Host.Outcome State Fault Refusal := .next (s.writeNum k 0x2014 3 2)

/-- RESET_REQUEST_PORT_RESET. -/
def execResetRequestPortReset (k n : Nat) (s : State) : Host.Outcome State Fault Refusal :=
  .next (if n < 2 then s.writeNum k 0x2014 3 (3 + n) else s)

/-- RESET_REQUEST_WHOLE_DEVICE. -/
def execResetRequestWholeDevice (k : Nat) (s : State) : Host.Outcome State Fault Refusal := .next (s.writeNum k 0x2014 3 5)

/-- STANDBY_REQUEST, 0x2014.04. -/
def execStandbyRequest (k : Nat) (s : State) : Host.Outcome State Fault Refusal := .next (s.writeNum k 0x2014 4 1)

/-! ## Lanes, map and slots -/

/-- LANE_COMMAND_OFF, B.01. -/
def execLaneCommandOff (k lane : Nat) (s : State) : Host.Outcome State Fault Refusal := .next (s.writeLaneNum k lane 0 1 0)

/-- LANE_COMMAND_ON. -/
def execLaneCommandOn (k lane : Nat) (s : State) : Host.Outcome State Fault Refusal := .next (s.writeLaneNum k lane 0 1 1)

/-- LANE_COMMAND_FOLLOW. -/
def execLaneCommandFollow (k lane : Nat) (s : State) : Host.Outcome State Fault Refusal := .next (s.writeLaneNum k lane 0 1 2)

/-- MAP_COMMIT, 0x3401.01. -/
def execMapCommit (k : Nat) (s : State) : Host.Outcome State Fault Refusal := .next (s.writeNum k 0x3401 1 1)

/-- PROFILE_SLOT_WRITE, 0x3800 + slot. -/
def execProfileSlotWrite (k slot sub : Nat) (value : List Byte) (s : State) : Host.Outcome State Fault Refusal :=
  .next (if slot < 16 then s.writeRow k (0x3800 + slot) sub value else s)

/-- RAMP_TARGET_WRITE, (B + 3).04 and .05. -/
def execRampTargetWrite (k lane : Nat) (rate : Bool) (value : Nat) (s : State) : Host.Outcome State Fault Refusal :=
  .next (s.writeLaneNum k lane 3 (if rate then 4 else 5) value)

/-- UNLOCK, (B + 4).19. -/
def execUnlock (k lane : Nat) (s : State) : Host.Outcome State Fault Refusal := .next (s.writeLaneNum k lane 4 0x19 1)

/-- SNAPSHOT_TRIGGER, (B + 4).1A. -/
def execSnapshotTrigger (k lane : Nat) (s : State) : Host.Outcome State Fault Refusal := .next (s.writeLaneNum k lane 4 0x1A 1)

/-- SHEDDING_PRIORITY_WRITE, (B + 5).02. -/
def execSheddingPriorityWrite (k lane priority : Nat) (s : State) : Host.Outcome State Fault Refusal :=
  .next (s.writeLaneNum k lane 5 2 priority)

/-- PERMIT_REQUEST_WRITE, 0x2025.05. -/
def execPermitRequestWrite (k value : Nat) (s : State) : Host.Outcome State Fault Refusal := .next (s.writeNum k 0x2025 5 value)

/-! ## Patterns -/

/-- PATTERN_ENTRY_WRITE, (B + 6).01 and .02. -/
def execPatternEntryWrite (k lane : Nat) (glide : Bool) (value : Nat) (s : State) : Host.Outcome State Fault Refusal :=
  .next (s.writeLaneNum k lane 6 (if glide then 2 else 1) value)

/-- LANE_FAILSAFE_ENTER, (B + 6).03. -/
def execLaneFailsafeEnter (k lane : Nat) (s : State) : Host.Outcome State Fault Refusal := .next (s.writeLaneNum k lane 6 3 1)

/-- LANE_RELEASE_AS_STORED. -/
def execLaneReleaseAsStored (k lane : Nat) (s : State) : Host.Outcome State Fault Refusal := .next (s.writeLaneNum k lane 6 3 2)

/-- LANE_RELEASE_TO_OFF. -/
def execLaneReleaseToOff (k lane : Nat) (s : State) : Host.Outcome State Fault Refusal := .next (s.writeLaneNum k lane 6 3 3)

/-- BANK_FAILSAFE_ENTER, 0x2031.01 to .04. -/
def execBankFailsafeEnter (k b : Nat) (s : State) : Host.Outcome State Fault Refusal :=
  .next (if b < 4 then s.writeNum k 0x2031 (b + 1) 1 else s)

/-- BANK_RELEASE_AS_STORED. -/
def execBankReleaseAsStored (k b : Nat) (s : State) : Host.Outcome State Fault Refusal :=
  .next (if b < 4 then s.writeNum k 0x2031 (b + 1) 2 else s)

/-- BANK_RELEASE_TO_OFF. -/
def execBankReleaseToOff (k b : Nat) (s : State) : Host.Outcome State Fault Refusal :=
  .next (if b < 4 then s.writeNum k 0x2031 (b + 1) 3 else s)

/-! ## Serial watchdog -/

/-- WATCHDOG_ARM, 0x2032.03. -/
def execWatchdogArm (k seed : Nat) (s : State) : Host.Outcome State Fault Refusal := .next (s.writeNum k 0x2032 3 seed)

/-- WATCHDOG_DISARM, 0x2032.05. -/
def execWatchdogDisarm (k : Nat) (s : State) : Host.Outcome State Fault Refusal := .next (s.writeNum k 0x2032 5 1)

/-- STRIDE_TOKEN, 0x2032.04. -/
def execStrideToken (k token : Nat) (s : State) : Host.Outcome State Fault Refusal := .next (s.writeNum k 0x2032 4 token)

/-! ## Lap tracker, schedules and capture -/

/-- LAP_SNAPSHOT, 0x2042.03. -/
def execLapSnapshot (k : Nat) (s : State) : Host.Outcome State Fault Refusal := .next (s.writeNum k 0x2042 3 1)

/-- LAP_COUNT_PRESET, 0x2042.08. -/
def execLapCountPreset (k value : Nat) (s : State) : Host.Outcome State Fault Refusal := .next (s.writeNum k 0x2042 8 value)

/-- SCHEDULE_ARM, (B + 7).04. -/
def execScheduleArm (k lane : Nat) (cmd : Drive) (s : State) : Host.Outcome State Fault Refusal :=
  .next (s.writeLaneNum k lane 7 4 (driveCode cmd))

/-- SCHEDULE_CANCEL. -/
def execScheduleCancel (k lane : Nat) (s : State) : Host.Outcome State Fault Refusal := .next (s.writeLaneNum k lane 7 4 0xFF)

/-- CAPTURE_ARM, 0x2044.05. -/
def execCaptureArm (k : Nat) (s : State) : Host.Outcome State Fault Refusal := .next (s.writeNum k 0x2044 5 1)

/-- CAPTURE_ABORT. -/
def execCaptureAbort (k : Nat) (s : State) : Host.Outcome State Fault Refusal := .next (s.writeNum k 0x2044 5 2)

/-- Q7_READ_INDEX_WRITE, 0x2045.02. -/
def execQ7ReadIndexWrite (k value : Nat) (s : State) : Host.Outcome State Fault Refusal := .next (s.writeNum k 0x2045 2 value)

/-! ## Fault collector -/

/-- CLEAR_SOURCE, 0x5004.01. -/
def execClearSource (k source : Nat) (s : State) : Host.Outcome State Fault Refusal := .next (s.writeNum k 0x5004 1 source)

/-- CLEAR_ALL, 0x5004.02. -/
def execClearAll (k : Nat) (s : State) : Host.Outcome State Fault Refusal := .next (s.writeNum k 0x5004 2 1)

/-- RECORD_CLEAR, 0x5003.09. -/
def execRecordClear (k : Nat) (s : State) : Host.Outcome State Fault Refusal := .next (s.writeNum k 0x5003 9 1)

/-- ACKNOWLEDGE_SOURCE, 0x5005.01. -/
def execAcknowledgeSource (k source : Nat) (s : State) : Host.Outcome State Fault Refusal := .next (s.writeNum k 0x5005 1 source)

/-- ESCALATION_CEILING_WRITE, 0x5010 + s .02. -/
def execEscalationCeilingWrite (k source value : Nat) (s : State) : Host.Outcome State Fault Refusal :=
  .next (if source < 64 then s.writeNum k (0x5010 + source) 2 value else s)

/-- FACTORY_TEST_KEY, 0x5080.01, with TEST at the level given; without VIO it reads low (R51). -/
def execFactoryTestKey (k value : Nat) (testHigh : Bool) (s : State) : Host.Outcome State Fault Refusal :=
  .next ((s.senseTest (s.pwr.vio && testHigh)).writeNum k 0x5080 1 value)

/-- FAULT_INJECT, 0x5080.03. -/
def execFaultInject (k word : Nat) (s : State) : Host.Outcome State Fault Refusal := .next (s.writeNum k 0x5080 3 word)

/-- GROUP_D_FORCE_WRITE, 0x5002.03. -/
def execGroupDForceWrite (k value : Nat) (s : State) : Host.Outcome State Fault Refusal := .next (s.writeNum k 0x5002 3 value)

/-! ## Time -/

/-- TIME_SET, 0x4000.02: seconds, then nanoseconds. -/
def execTimeSet (k seconds nanos : Nat) (s : State) : Host.Outcome State Fault Refusal :=
  .next (if seconds < 2 ^ 64 then s.writeNum k 0x4000 2 (seconds + nanos * 2 ^ 64) else s)

/-- STEP_ADJUST, 0x4000.03. -/
def execStepAdjust (k : Nat) (ns : Int) (s : State) : Host.Outcome State Fault Refusal :=
  .next (if -(2 ^ 31) ≤ ns ∧ ns < 2 ^ 31 then s.writeNum k 0x4000 3 (ofSigned 32 ns) else s)

/-- INCREMENT_WRITE, 0x4000.04. -/
def execIncrementWrite (k value : Nat) (s : State) : Host.Outcome State Fault Refusal := .next (s.writeNum k 0x4000 4 value)

/-- SERVO_OWNER_TAKE, 0x4000.05. -/
def execServoOwnerTake (k : Nat) (s : State) : Host.Outcome State Fault Refusal := .next (s.writeNum k 0x4000 5 1)

/-- SERVO_OWNER_RETURN. -/
def execServoOwnerReturn (k : Nat) (s : State) : Host.Outcome State Fault Refusal := .next (s.writeNum k 0x4000 5 0)

/-- PPS_MODE_WRITE, 0x4005.01. -/
def execPpsModeWrite (k value : Nat) (s : State) : Host.Outcome State Fault Refusal := .next (s.writeNum k 0x4005 1 value)

/-! ## Queues and ports -/

/-- QUEUE_PRODUCER_WRITE, 0x4410 + q .01. -/
def execQueueProducerWrite (k queue value : Nat) (s : State) : Host.Outcome State Fault Refusal :=
  .next (if queue < 7 then s.writeNum k (0x4410 + queue) 1 value else s)

/-- QUEUE_CONSUMER_WRITE, 0x4410 + q .02. -/
def execQueueConsumerWrite (k queue value : Nat) (s : State) : Host.Outcome State Fault Refusal :=
  .next (if queue < 7 then s.writeNum k (0x4410 + queue) 2 value else s)

/-- OVERFLOW_FLAG_CLEAR, 0x4410 + q .04. -/
def execOverflowFlagClear (k queue : Nat) (s : State) : Host.Outcome State Fault Refusal :=
  .next (if queue < 7 then s.writeNum k (0x4410 + queue) 4 0 else s)

/-- PORT_ENABLE, 0x4401 + n .01. -/
def execPortEnable (k n : Nat) (s : State) : Host.Outcome State Fault Refusal :=
  .next (if n < 2 then s.writeNum k (0x4401 + n) 1 1 else s)

/-- PORT_DISABLE. -/
def execPortDisable (k n : Nat) (s : State) : Host.Outcome State Fault Refusal :=
  .next (if n < 2 then s.writeNum k (0x4401 + n) 1 0 else s)

/-- PLCA_SETTING_WRITE, 0x4401 + n .02 to .06. -/
def execPlcaSettingWrite (k n sub value : Nat) (s : State) : Host.Outcome State Fault Refusal :=
  .next (if n < 2 ∧ 2 ≤ sub ∧ sub ≤ 6 then s.writeNum k (0x4401 + n) sub value else s)

/-! ## Teams -/

/-- TEAM_ENABLE, 0x6000.01. -/
def execTeamEnable (k : Nat) (s : State) : Host.Outcome State Fault Refusal := .next (s.writeNum k 0x6000 1 1)

/-- TEAM_DISABLE. -/
def execTeamDisable (k : Nat) (s : State) : Host.Outcome State Fault Refusal := .next (s.writeNum k 0x6000 1 0)

/-! ## Store, journal, patching and bank service -/

/-- SAVE_REQUEST, 0x7000.01. -/
def execSaveRequest (k : Nat) (s : State) : Host.Outcome State Fault Refusal := .next (s.writeNum k 0x7000 1 1)

/-- JOURNAL_CLEAR, 0x7001.08. -/
def execJournalClear (k : Nat) (s : State) : Host.Outcome State Fault Refusal := .next (s.writeNum k 0x7001 8 1)

/-- JOURNAL_CURSOR_WRITE, 0x7001.05. -/
def execJournalCursorWrite (k value : Nat) (s : State) : Host.Outcome State Fault Refusal := .next (s.writeNum k 0x7001 5 value)

/-- PATCH_VERIFY, 0x7002.08. -/
def execPatchVerify (k : Nat) (s : State) : Host.Outcome State Fault Refusal := .next (s.writeNum k 0x7002 8 1)

/-- PATCH_ACTIVATE. -/
def execPatchActivate (k : Nat) (s : State) : Host.Outcome State Fault Refusal := .next (s.writeNum k 0x7002 8 2)

/-- PATCH_REVERT. -/
def execPatchRevert (k : Nat) (s : State) : Host.Outcome State Fault Refusal := .next (s.writeNum k 0x7002 8 3)

/-- PATCH_ERASE. -/
def execPatchErase (k : Nat) (s : State) : Host.Outcome State Fault Refusal := .next (s.writeNum k 0x7002 8 4)

/-- BANK_ISOLATE, 0x7003.05 to .08. -/
def execBankIsolate (k b : Nat) (s : State) : Host.Outcome State Fault Refusal :=
  .next (if b < 4 then s.writeNum k 0x7003 (5 + b) 1 else s)

/-- BANK_RESET_REQUEST. -/
def execBankResetRequest (k b : Nat) (s : State) : Host.Outcome State Fault Refusal :=
  .next (if b < 4 then s.writeNum k 0x7003 (5 + b) 2 else s)

/-- BANK_RETRIM. -/
def execBankRetrim (k b : Nat) (s : State) : Host.Outcome State Fault Refusal :=
  .next (if b < 4 then s.writeNum k 0x7003 (5 + b) 3 else s)

/-- BANK_RETIRE. -/
def execBankRetire (k b : Nat) (s : State) : Host.Outcome State Fault Refusal :=
  .next (if b < 4 then s.writeNum k 0x7003 (5 + b) 4 else s)

/-- BANK_RETURN_TO_SERVICE. -/
def execBankReturnToService (k b : Nat) (s : State) : Host.Outcome State Fault Refusal :=
  .next (if b < 4 then s.writeNum k 0x7003 (5 + b) 5 else s)

/-- CHANNEL_RETIRE_WRITE, 0x7004. -/
def execChannelRetireWrite (k ch value : Nat) (s : State) : Host.Outcome State Fault Refusal :=
  .next (if ch < 48 then s.writeNum k 0x7004 (ch + 1) value else s)

/-- MIGRATION_START, 0x7005.03. -/
def execMigrationStart (k : Nat) (s : State) : Host.Outcome State Fault Refusal := .next (s.writeNum k 0x7005 3 1)

end Sys2Proof.Machine
end

