-- ==== Sys2Proof/Machine/Team.lean ====
section
/-! DEFINITION. The meanings of the team events (chapter 16). Frames arrive from the inbox, where Q5_CLASSIFY has put those that R441 accepts; each
event takes the oldest team frame if it is of its type. -/

namespace Sys2Proof.Machine

/-- A team frame taken from the front of the inbox: source MAC address, sender's member number and body. -/
structure TeamFrame where
  mac  : Nat
  num  : Nat
  body : List Byte

/-- The oldest team frame of the inbox if it is of a type, while the runtime serves and is in a team. -/
def State.teamFrame (s : State) (type : Nat) : Option TeamFrame :=
  match s.hub.inbox.find? NetItem.isTeam with
  | some (.team mac data) =>
    if s.hub.serving && decide (leField data 2 1 = type) then
      some { mac := mac, num := leField data 3 1, body := slice data 20 (leField data 16 2) }
    else none
  | _ => none

/-- The sender of a frame counts as heard (R443). -/
def Hub.hear (h : Hub) (fr : TeamFrame) (now : Nat) : Hub :=
  if (h.member fr.num).mac = fr.mac then h.onMember fr.num fun x => { x with heardAt := some now, lastAt := some now } else h

/-- Run a team frame event while the unit is in a team: the frame is taken, its sender counts as heard, `note` enters what it reports, which the
reservations follow (R458), and `f` acts on it. -/
def State.onTeamFrame (s : State) (type : Nat) (f : TeamFrame → State → State × List Notice)
    (note : TeamFrame → Nat → Hub → Hub := fun _ _ h => h) : State :=
  match s.teamFrame type with
  | none => s
  | some fr =>
    let s := s.onHub fun h => h.takeItem NetItem.isTeam
    if !s.hub.inTeam || decide (fr.mac = ownMac) then s
    else s.teamSince (s.onHub fun h => h.rebook (note fr s.now (h.hear fr s.now))) (f fr)

/-- Run a timed team event while the runtime serves. -/
def State.teamTick (s : State) (due : Bool) (f : State → State × List Notice) : State :=
  if s.hub.serving && due then s.team f else s

/-! ## STATUS (R443, R447, R453, R454) -/

/-- The entry of a member from its STATUS frame. -/
def Member.ofStatus (x : Member) (fr : TeamFrame) (now : Nat) : Member :=
  let b := fr.body
  { x with
    mode := (match leField b 0 1 with | 3 => .member | 4 => .pacer | 5 => .outOfAgreement | _ => .none)
    mac := fr.mac, rank := leField b 1 1, sees := leField b 2 1, version := leField b 4 2, timeState := leField b 6 1
    limitHit := (leField b 7 1).testBit 0, hash := leField b 8 4, refId := beNat (slice b 12 8), offset := toSigned 32 (leField b 20 4)
    lastIntent := leField b 24 4, reserved := (List.range 4).map (fun i => leField b (28 + 4 * i) 4)
    onCurrent := (List.range 4).map (fun i => leField b (44 + 4 * i) 4), heardAt := some now, lastAt := some now }

/-- Count a pass or a fail of the time agreement (R453). -/
def judgeTime (ok : Bool) (fails passes : Nat) (bad : Bool) : Nat × Nat × Bool :=
  if ok then (0, min 3 (passes + 1), bad && decide (passes + 1 < 3)) else (min 3 (fails + 1), 0, bad || decide (3 ≤ fails + 1))

/-- Do this unit and a member both qualify with one reference identity? -/
def Hub.sameTime (h : Hub) (m : Nat) : Bool := h.ownQualifies && h.memberQualifies m && decide (h.refIdentity = (h.member m).refId)

/-- A STATUS of the own pacer: time and state agreement (R453, R454). -/
def Hub.followPacer (h : Hub) (m : Nat) : Hub :=
  let x := h.member m
  let t := h.run.team
  let (f, p, bad) := judgeTime (h.sameTime m) t.timeFails t.timePasses t.badTime
  let differs := decide (t.reserved ≠ x.reserved) || decide (t.lastIntent ≠ x.lastIntent)
  let diffs := if differs then t.stateDiffs + 1 else 0
  h.onTeam fun t =>
    { t with timeFails := f, timePasses := p, badTime := bad, stateDiffs := min 2 diffs
             badState := if differs then t.badState || decide (2 ≤ diffs) else false
             reserved := if 2 ≤ diffs then x.reserved else t.reserved
             lastIntent := if 2 ≤ diffs then x.lastIntent else t.lastIntent }

/-- The pacer of this unit changes (R447): intents of the former one are released at once, and JOIN goes to the new one. -/
def State.changePacer (s : State) (m : Nat) : State × List Notice :=
  ((s.onHub fun h => h.onTeam fun t => { t with intents := t.intents.filter Intent.committed }).join m, [.fault 0x52 3 m])

/-- A unit in state pacer is heard (R445, R447). A member follows only pacers that have an entry of their own: `known` says so of this one. -/
def State.hearPacer (s : State) (fr : TeamFrame) (known : Bool) : State × List Notice :=
  let t := s.hub.run.team
  let m := fr.num
  match t.mode with
  | .forming => (s.join m, [])
  | .pacer =>
    if electionKey (leField fr.body 1 1) m fr.mac < s.hub.keyOf s.hub.ownNumber then
      (((s.cancel 3 fun _ => true).onHub fun h => h.onTeam fun t => { t with proposals := [] }).join m, [.fault 0x52 3 m])
    else (s, [])
  | .member | .outOfAgreement =>
    if !known then (s, [])
    else if t.pacer = m then (s.onHub fun h => h.followPacer m, [])
    else
      let pacers := (s.hub.heardUnits s.now).filter fun u => decide ((s.hub.member u).mode = .pacer)
      if lowestBy s.hub.keyOf pacers = some m then s.changePacer m else (s, [])
  | _ => (s, [])

/-- A member's STATUS as the pacer judges it: its state agreement, and the entries of a member out of agreement are cancelled (R455, R456). -/
def State.pacerJudges (s : State) (m : Nat) : State :=
  if s.hub.run.team.mode ≠ .pacer then s
  else
    let t := s.hub.run.team
    let x := s.hub.member m
    let differs := decide (t.reserved ≠ x.reserved) || decide (t.lastIntent ≠ x.lastIntent)
    let s := s.onHub fun h => h.onMember m fun x =>
      { x with diffs := if differs then min 2 (x.diffs + 1) else 0, badState := differs && (x.badState || decide (2 ≤ x.diffs + 1)) }
    if x.mode = .outOfAgreement then
      (s.onHub fun h => h.onTeam fun t => { t with proposals := t.proposals.filter fun p => p.member != m }).cancel 5 fun e => decide (e.member = m)
    else s

/-- Enter a STATUS frame, unless its member number is another unit's (R448). -/
def Hub.noteStatus (fr : TeamFrame) (now : Nat) (h : Hub) : Hub :=
  if h.numberTaken fr.mac fr.num now then h else h.onMember fr.num fun x => x.ofStatus fr now

/-- TEAM_STATUS_RX (R443). -/
def execTeamStatusRx (s : State) : Host.Outcome State Fault Refusal :=
  .next (s.onTeamFrame 1 (note := Hub.noteStatus) fun fr s =>
    let known := !s.hub.numberTaken fr.mac fr.num s.now
    let (s, n) := if leField fr.body 0 1 = 4 then s.hearPacer fr known else (s, [])
    (if known then s.pacerJudges fr.num else s, n))

/-- TEAM_STATUS_SEND (R443): the pacer judges the time agreement of the members at its own frames (R453). -/
def execTeamStatusSend (s : State) : Host.Outcome State Fault Refusal :=
  let t := s.hub.run.team
  .next (s.teamTick (s.hub.inTeam && decide (t.mode ≠ .refused) && decide (t.statusAt ≤ s.now)) fun s =>
    let s := s.onHub fun h => h.onTeam fun t => { t with lastRef := h.refIdentity }
    let s := s.onHub fun h => (h.sendTeam 1 s.statusBody).onTeam fun t =>
      { t with statusAt := s.now + max 5000000 (h.act 0x6000 7 100 / 4 * 1000000) }
    if s.hub.run.team.mode = .pacer then
      ((s.hub.heardUnits s.now).foldl (fun s m => s.onHub fun h =>
        let x := h.member m
        let (f, p, bad) := judgeTime (h.sameTime m) x.fails x.passes x.badTime
        h.onMember m fun x => { x with fails := f, passes := p, badTime := bad }) s, [])
    else (s, []))

/-! ## Joining and leaving (R448 to R450) -/

/-- TEAM_JOIN_RX (R448). -/
def execTeamJoinRx (s : State) : Host.Outcome State Fault Refusal :=
  .next (s.onTeamFrame 2 fun fr s =>
    if s.hub.run.team.mode ≠ .pacer then (s, [])
    else
      let t := s.hub.run.team
      let reply (result : Nat) : List Byte := leBytes 1 fr.num ++ leBytes 1 result ++ [0#8, 0#8]
        ++ (List.range 4).flatMap (fun b => leBytes 4 (t.reserved.getD b 0)) ++ leBytes 4 t.lastIntent
      if s.hub.numberTaken fr.mac fr.num s.now then (s.onHub fun h => h.sendTeam 3 (reply 1), [.fault 0x52 2 fr.num])
      else (s.onHub fun h => ((h.onMember fr.num fun x =>
          { x with mode := .member, mac := fr.mac, rank := leField fr.body 0 1, version := leField fr.body 4 2, hash := leField fr.body 8 4, heardAt := some s.now, lastAt := some s.now }).sendTeam 3 (reply 0)).onTeam
            fun t => { t with joins := t.joins + 1 }, [.journal 0xD 3 [BitVec.ofNat 8 fr.num]]))

/-- TEAM_JOIN_REPLY_RX (R448): an accepted unit takes the pacer's figures and proposes its armed governed schedules again. -/
def execTeamJoinReplyRx (s : State) : Host.Outcome State Fault Refusal :=
  .next (s.onTeamFrame 3 fun fr s =>
    let t := s.hub.run.team
    let accepted := decide (leField fr.body 1 1 = 0)
    let count (t : Team) : Team := if accepted then { t with joins := t.joins + 1 } else t
    if (t.mode = .joining ∨ t.mode = .refused) ∧ leField fr.body 0 1 = s.hub.ownNumber then
      if accepted then
        let s := s.onHub fun h => h.onTeam fun t => count { t with
          mode := .member, pacer := fr.num, lastIntent := leField fr.body 20 4, reserved := (List.range 4).map (fun b => leField fr.body (4 + 4 * b) 4)
          timeFails := 0, timePasses := 0, stateDiffs := 0, badTime := false, badState := false }
        (s.hub.proposedLanes.foldl State.propose s, [])
      else if t.mode = .joining then
        (s.onHub fun h => h.onTeam fun t => { t with mode := .refused, joinAt := s.now }, [.fault 0x52 2 s.hub.ownNumber])
      else (s, [])
    else (s.onHub fun h => h.onTeam count, if accepted then [.journal 0xD 3 [BitVec.ofNat 8 (leField fr.body 0 1)]] else []))

/-- A member's on-current and pending entries leave the reservations (R449). -/
def Hub.forgetMember (h : Hub) (m : Nat) : Hub :=
  (h.onMember m fun x => { x with mode := .none, heardAt := none, onCurrent := [0, 0, 0, 0] }).onIntents fun i =>
    { i with entries := i.entries.map fun e => if e.member = m then { e with live := false } else e }

/-- The pacer drops what a member has proposed (Table 16-6); a member whose pacer went holds the election at once (R446). -/
def State.memberGone (s : State) (m : Nat) : State × List Notice :=
  let t := s.hub.run.team
  if t.mode = .pacer then
    ((s.onHub fun h => h.onTeam fun t => { t with proposals := t.proposals.filter fun p => p.member != m }).cancel 4 fun e => decide (e.member = m), [])
  else if (t.mode = .member ∨ t.mode = .outOfAgreement) ∧ t.pacer = m then s.elect
  else (s, [])

/-- TEAM_LEAVE_RX (R449, R450). -/
def execTeamLeaveRx (s : State) : Host.Outcome State Fault Refusal :=
  .next (s.onTeamFrame 4 fun fr s =>
    if fr.num = s.hub.ownNumber ∨ (s.hub.member fr.num).mac ≠ fr.mac then (s, [])
    else if leField fr.body 0 1 = 0 then
      let (s, n) := (s.onHub fun h => h.onMember fr.num fun x => { x with heardAt := none }).memberGone fr.num
      (s.onHub fun h => (h.forgetMember fr.num).onTeam fun t => { t with joins := t.joins + 1 }, n)
    else
      (s.onHub fun h => h.onMember fr.num fun x => { x with mode := .away, awayAt := s.now, heardAt := none }).memberGone fr.num)

/-- A member is lost (R444): its on-current stays counted. -/
def State.memberLost (s : State) (m : Nat) : State × List Notice :=
  let s := s.onHub fun h => (h.onMember m fun x => { x with mode := .lost, heardAt := none }).onTeam fun t => { t with joins := t.joins + 1 }
  let (s, n) := s.memberGone m
  (s, [.fault 0x52 1 m, .journal 0xD 7 [BitVec.ofNat 8 m]] ++ n)

/-- MEMBER_TIMEOUT (R444). -/
def execMemberTimeout (m : Nat) (s : State) : Host.Outcome State Fault Refusal :=
  let x := s.hub.member m
  .next (s.teamTick (s.hub.inTeam && elapsed x.heardAt s.hub.memberTimeout s.now) fun s =>
    if x.mode = .none then (s.onHub fun h => h.onMember m fun x => { x with heardAt := none }, []) else s.memberLost m)

/-- AWAY_TIMEOUT (R450). -/
def execAwayTimeout (m : Nat) (s : State) : Host.Outcome State Fault Refusal :=
  let x := s.hub.member m
  .next (s.teamTick (s.hub.inTeam && decide (x.mode = .away) && decide (x.awayAt + 1000000000 ≤ s.now)) fun s => s.memberLost m)

/-! ## Forming (R445) -/

/-- FORMATION_WINDOW_END (R445): twice the member timeout, or as many units heard as expected. -/
def execFormationWindowEnd (s : State) : Host.Outcome State Fault Refusal :=
  let t := s.hub.run.team
  .next (s.teamTick (decide (t.mode = .forming) && t.claimBy.isNone
      && (decide (t.windowAt + 2 * s.hub.memberTimeout ≤ s.now) || decide (s.hub.act 0x6000 4 2 ≤ (s.hub.heardUnits s.now).length + 1)))
    State.elect)

/-- PACER_CLAIM_TIMEOUT (R445): the winner has not claimed pacer, and the election is held again without it. -/
def execPacerClaimTimeout (s : State) : Host.Outcome State Fault Refusal :=
  let t := s.hub.run.team
  .next (s.teamTick (elapsed t.claimBy 0 s.now && decide (t.mode = .forming ∨ t.mode = .member ∨ t.mode = .outOfAgreement)) fun s =>
    (s.onHub fun h => h.onTeam fun t => { t with excluded := t.winner :: t.excluded, claimBy := none }).elect)

/-- JOIN_REPLY_TIMEOUT (R448). -/
def execJoinReplyTimeout (s : State) : Host.Outcome State Fault Refusal :=
  let t := s.hub.run.team
  .next (s.teamTick (decide (t.mode = .joining) && decide (t.joinAt + s.hub.memberTimeout ≤ s.now)) fun s => (s.form, []))

/-- JOIN_RETRY (R448): a refused unit sends JOIN again every 1 s. -/
def execJoinRetry (s : State) : Host.Outcome State Fault Refusal :=
  let t := s.hub.run.team
  .next (s.teamTick (decide (t.mode = .refused) && decide (t.joinAt + 1000000000 ≤ s.now)) fun s =>
    (s.onHub fun h => (h.sendTeam 2 s.joinBody).onTeam fun t => { t with joinAt := s.now }, []))

/-! ## Proposals and intents (R461 to R464) -/

/-- TEAM_PROPOSE_RX (R461): queued, refused where 32 are queued, or deferred when its publication time has passed. -/
def execTeamProposeRx (s : State) : Host.Outcome State Fault Refusal :=
  .next (s.onTeamFrame 5 fun fr s =>
    let t := s.hub.run.team
    if t.mode ≠ .pacer then (s, [])
    else if 32 ≤ t.proposals.length then (s.onHub fun h => h.sendTeam 10 (leBytes 1 fr.num ++ [2#8] ++ leBytes 2 (leField fr.body 0 2)), [])
    else
      let p : Proposal := { member := fr.num, id := leField fr.body 0 2, lane := leField fr.body 2 1, cmd := leField fr.body 3 1, target := s.hub.timeOf fr.body 4
                            budget := leField fr.body 12 1, current := leField fr.body 16 4, arrival := t.arrivals }
      let (h, n) := s.hub.queueProposal p
      ({ s with hub := h }, n))

/-- TEAM_WITHDRAW_RX (R464). -/
def execTeamWithdrawRx (s : State) : Host.Outcome State Fault Refusal :=
  .next (s.onTeamFrame 6 fun fr s =>
    if s.hub.run.team.mode ≠ .pacer then (s, [])
    else
      let id := leField fr.body 0 2
      ((s.onHub fun h => h.onTeam fun t => { t with proposals := t.proposals.filter fun p => !(p.member == fr.num && p.id == id) }).cancel 1
        fun e => decide (e.member = fr.num) && decide (e.proposal = id), []))

/-- An entry of an INTENT body. -/
def intentEntry (body : List Byte) (i : Nat) : IntentEntry :=
  let a := 20 + 12 * i
  { member := leField body a 1, lane := leField body (a + 1) 1, cmd := leField body (a + 2) 1, budget := leField body (a + 3) 1
    proposal := leField body (a + 4) 2, current := leField body (a + 8) 4 }

/-- TEAM_INTENT_RX (R462): the entries of the own pacer's intent are pending from now on. -/
def execTeamIntentRx (s : State) : Host.Outcome State Fault Refusal :=
  .next (s.onTeamFrame 7 fun fr s =>
    if fr.num ≠ s.hub.run.team.pacer ∨ s.hub.run.team.mode = .pacer then (s, [])
    else (s.onHub fun h => h.onTeam fun t =>
      { t with intents := t.intents ++ [{ seq := leField fr.body 0 4, target := h.timeOf fr.body 4, lapNs := leField fr.body 12 4
                                          entries := (List.range (leField fr.body 16 1)).map (intentEntry fr.body) }]
               seen := t.seen + 1 }, []))

/-- TEAM_COMMIT_RX (R462): a commit of the own pacer by the deadline; the proposers act on it. -/
def execTeamCommitRx (s : State) : Host.Outcome State Fault Refusal :=
  .next (s.onTeamFrame 8 fun fr s =>
    let seq := leField fr.body 0 4
    if fr.num ≠ s.hub.run.team.pacer then (s, [])
    else match s.hub.run.team.intents.find? fun i => !i.mine && !i.committed && decide (i.seq = seq) with
    | none => (s, [])
    | some i =>
      if i.target < s.hub.time.pNs + lapUnits i.lapNs s.hub.commitLead then (s, [])
      else
        let h := (s.hub.onIntents fun j => if !j.mine && decide (j.seq = seq) then { j with committed := true } else j).onTeam fun t => { t with lastIntent := seq }
        let (h, n) := h.actOnCommit i s.now fun _ => true
        ({ s with hub := h }, n))

/-- TEAM_CANCEL_RX (R464) of the own pacer: uncommitted entries are released; a team at runtime 3.1 or below ignores it. -/
def execTeamCancelRx (s : State) : Host.Outcome State Fault Refusal :=
  .next (s.onTeamFrame 9 fun fr s =>
    let seq := leField fr.body 0 4
    let mask := leField fr.body 4 2
    if fr.num ≠ s.hub.run.team.pacer ∨ s.teamVersion < 0x0302 then (s, [])
    else
      let (h, n) := s.hub.undo fun i k _ => !i.mine && decide (i.seq = seq) && mask.testBit k
      ({ s with hub := h }, n))

/-- TEAM_REJECT_RX (R461): the own proposal's schedule ends dropped. -/
def execTeamRejectRx (s : State) : Host.Outcome State Fault Refusal :=
  .next (s.onTeamFrame 10 fun fr s =>
    if fr.num ≠ s.hub.run.team.pacer ∨ leField fr.body 0 1 ≠ s.hub.ownNumber then (s, [])
    else match (List.range 48).find? fun n => (s.hub.schedule n).governed && decide ((s.hub.schedule n).proposal = leField fr.body 2 2) with
      | none => (s, [])
      | some n =>
        let (h, m) := s.hub.dropSchedule n
        ({ s with hub := h }, m))

/-- PUBLICATION_TIME (R461). -/
def execPublicationTime (s : State) : Host.Outcome State Fault Refusal :=
  .next (s.teamTick (decide (s.hub.run.team.mode = .pacer)) fun s => let (h, n) := s.hub.publish; ({ s with hub := h }, n))

/-- COMMIT_SEND_TIME (R462). -/
def execCommitSendTime (s : State) : Host.Outcome State Fault Refusal :=
  .next (s.teamTick (decide (s.hub.run.team.mode = .pacer)) fun s => let (h, n) := s.hub.sendCommits s.now; ({ s with hub := h }, n))

/-- COMMIT_DEADLINE (R462, R464). -/
def execCommitDeadline (s : State) : Host.Outcome State Fault Refusal :=
  .next (s.teamTick s.hub.inTeam fun s => let (h, n) := s.hub.commitMissing; ({ s with hub := h }, n))

/-- ENTRY_TARGET_REACHED (R458). -/
def execEntryTargetReached (s : State) : Host.Outcome State Fault Refusal :=
  .next (s.teamTick s.hub.inTeam fun s => ({ s with hub := s.hub.intentReached }, []))

end Sys2Proof.Machine
end

