-- ==== Sys2Proof/Machine/Dispatch.lean ====
section
/-! DEFINITION. The meaning of each command: one arm per row of the table. -/

namespace Sys2Proof.Machine

/-- The effect of a command on everything but the queue. -/
def exec (i : Instr) (s : State) : Host.Outcome State Fault Refusal :=
  match i with
  | .downlinkFrameSend b readings => Sys2Proof.Machine.execDownlinkFrameSend b readings s
  | .bankDownlinkFrameRx b crcOk => Sys2Proof.Machine.execBankDownlinkFrameRx b crcOk s
  | .bankUplinkSend b readings => Sys2Proof.Machine.execBankUplinkSend b readings s
  | .uplinkFrameRx b crcOk => Sys2Proof.Machine.execUplinkFrameRx b crcOk s
  | .commandGiveUp b => Sys2Proof.Machine.execCommandGiveUp b s
  | .holdTimerExpiry b => Sys2Proof.Machine.execHoldTimerExpiry b s
  | .restartHoldExpiry b => Sys2Proof.Machine.execRestartHoldExpiry b s
  | .eventAcknowledge k mask => Sys2Proof.Machine.execEventAcknowledge k mask s
  | .vcorePresent mv held => Sys2Proof.Machine.execVcorePresent mv held s
  | .vcoreAbsent mv held step landed => Sys2Proof.Machine.execVcoreAbsent mv held step landed s
  | .vioPresent mv held => Sys2Proof.Machine.execVioPresent mv held s
  | .vphyPresent mv held => Sys2Proof.Machine.execVphyPresent mv held s
  | .vsupPresent b mv held storeOk own shared => Sys2Proof.Machine.execVsupPresent b mv held storeOk own shared s
  | .vsupAbsent b mv held => Sys2Proof.Machine.execVsupAbsent b mv held s
  | .vsupOvervoltageWarning b mv held => Sys2Proof.Machine.execVsupOvervoltageWarning b mv held s
  | .vsupOvervoltageClear b mv => Sys2Proof.Machine.execVsupOvervoltageClear b mv s
  | .tierLower mv held => Sys2Proof.Machine.execTierLower mv held s
  | .tierRaise mv held => Sys2Proof.Machine.execTierRaise mv held s
  | .synthLock mv => Sys2Proof.Machine.execSynthLock mv s
  | .calibrationStart temp => Sys2Proof.Machine.execCalibrationStart temp s
  | .rstnReset width => Sys2Proof.Machine.execRstnReset width s
  | .hubResetRelease straps romOk selfOk temp => Sys2Proof.Machine.execHubResetRelease straps romOk selfOk temp s
  | .startRetry straps romOk selfOk temp => Sys2Proof.Machine.execStartRetry straps romOk selfOk temp s
  | .bankClaim b => Sys2Proof.Machine.execBankClaim b s
  | .resetRequestRuntimeRestart k => Sys2Proof.Machine.execResetRequestRuntimeRestart k s
  | .resetRequestHubReset k => Sys2Proof.Machine.execResetRequestHubReset k s
  | .resetRequestPortReset k n => Sys2Proof.Machine.execResetRequestPortReset k n s
  | .resetRequestWholeDevice k => Sys2Proof.Machine.execResetRequestWholeDevice k s
  | .standbyRequest k => Sys2Proof.Machine.execStandbyRequest k s
  | .wakeExitStandby held => Sys2Proof.Machine.execWakeExitStandby held s
  | .limpClassificationAdopt b land mv held => Sys2Proof.Machine.execLimpClassificationAdopt b land mv held s
  | .inEdgeAccept pin level held => Sys2Proof.Machine.execInEdgeAccept pin level held s
  | .senseStarved ch without => Sys2Proof.Machine.execSenseStarved ch without s
  | .laneCommandOff k lane => Sys2Proof.Machine.execLaneCommandOff k lane s
  | .laneCommandOn k lane => Sys2Proof.Machine.execLaneCommandOn k lane s
  | .laneCommandFollow k lane => Sys2Proof.Machine.execLaneCommandFollow k lane s
  | .taggedCommandApply b => Sys2Proof.Machine.execTaggedCommandApply b s
  | .mapCommit k => Sys2Proof.Machine.execMapCommit k s
  | .profileSlotWrite k slot sub value => Sys2Proof.Machine.execProfileSlotWrite k slot sub value s
  | .sprintStepBoundary ch => Sys2Proof.Machine.execSprintStepBoundary ch s
  | .sprintFreezeLimit ch => Sys2Proof.Machine.execSprintFreezeLimit ch s
  | .rampTargetWrite k lane rate value => Sys2Proof.Machine.execRampTargetWrite k lane rate value s
  | .rampTargetReached ch => Sys2Proof.Machine.execRampTargetReached ch s
  | .rampHoldExpiry ch => Sys2Proof.Machine.execRampHoldExpiry ch s
  | .rampComplete ch mv => Sys2Proof.Machine.execRampComplete ch mv s
  | .rampZeroTurnOff ch => Sys2Proof.Machine.execRampZeroTurnOff ch s
  | .rampStallFlag ch => Sys2Proof.Machine.execRampStallFlag ch s
  | .rampStallEnd ch => Sys2Proof.Machine.execRampStallEnd ch s
  | .shortCircuitLimitEnter ch mv risen ma => Sys2Proof.Machine.execShortCircuitLimitEnter ch mv risen ma s
  | .bankDisturbanceEnd b => Sys2Proof.Machine.execBankDisturbanceEnd b s
  | .shortCircuitTrip ch => Sys2Proof.Machine.execShortCircuitTrip ch s
  | .overloadTrip ch => Sys2Proof.Machine.execOverloadTrip ch s
  | .scDetectionTrip ch ma held => Sys2Proof.Machine.execScDetectionTrip ch ma held s
  | .tripTimerReset ch => Sys2Proof.Machine.execTripTimerReset ch s
  | .backoffEnd ch => Sys2Proof.Machine.execBackoffEnd ch s
  | .latchOffClear ch => Sys2Proof.Machine.execLatchOffClear ch s
  | .retryCounterReset ch => Sys2Proof.Machine.execRetryCounterReset ch s
  | .latchCountReset ch => Sys2Proof.Machine.execLatchCountReset ch s
  | .unlock k lane => Sys2Proof.Machine.execUnlock k lane s
  | .clampEnd ch samples => Sys2Proof.Machine.execClampEnd ch samples s
  | .clampDecay b samples => Sys2Proof.Machine.execClampDecay b samples s
  | .wireModelUpdate b currents => Sys2Proof.Machine.execWireModelUpdate b currents s
  | .onStateOpenLoad ch ua held => Sys2Proof.Machine.execOnStateOpenLoad ch ua held s
  | .onStateOpenLoadClear ch ua held => Sys2Proof.Machine.execOnStateOpenLoadClear ch ua held s
  | .offStateSourceOn ch => Sys2Proof.Machine.execOffStateSourceOn ch s
  | .offStateOpenLoad ch mv held => Sys2Proof.Machine.execOffStateOpenLoad ch mv held s
  | .offStateOpenLoadClear ch mv held => Sys2Proof.Machine.execOffStateOpenLoadClear ch mv held s
  | .offStateZeroUpdate ch mean => Sys2Proof.Machine.execOffStateZeroUpdate ch mean s
  | .crossMeasurement ch clean direct inverted => Sys2Proof.Machine.execCrossMeasurement ch clean direct inverted s
  | .staleOffsetEnter ch => Sys2Proof.Machine.execStaleOffsetEnter ch s
  | .snapshotTrigger k lane => Sys2Proof.Machine.execSnapshotTrigger k lane s
  | .snapshotCapture b => Sys2Proof.Machine.execSnapshotCapture b s
  | .thermalWarning ch temp => Sys2Proof.Machine.execThermalWarning ch temp s
  | .thermalWarningClear ch temp => Sys2Proof.Machine.execThermalWarningClear ch temp s
  | .thermalShutdown ch temp => Sys2Proof.Machine.execThermalShutdown ch temp s
  | .thermalShutdownExit ch temp => Sys2Proof.Machine.execThermalShutdownExit ch temp s
  | .thermalLatchClear ch => Sys2Proof.Machine.execThermalLatchClear ch s
  | .thermalCountReset ch => Sys2Proof.Machine.execThermalCountReset ch s
  | .sensorBroken b sensor kind held => Sys2Proof.Machine.execSensorBroken b sensor kind held s
  | .sensorReadmit k value => Sys2Proof.Machine.execSensorReadmit k value s
  | .bankThermalWarning b r1 r2 => Sys2Proof.Machine.execBankThermalWarning b r1 r2 s
  | .bankThermalNormal b r1 r2 => Sys2Proof.Machine.execBankThermalNormal b r1 r2 s
  | .bankSheddingEnter b r1 r2 => Sys2Proof.Machine.execBankSheddingEnter b r1 r2 s
  | .bankSheddingLeave b r1 r2 => Sys2Proof.Machine.execBankSheddingLeave b r1 r2 s
  | .shedGroup b => Sys2Proof.Machine.execShedGroup b s
  | .restoreGroup b => Sys2Proof.Machine.execRestoreGroup b s
  | .sheddingPriorityWrite k lane priority => Sys2Proof.Machine.execSheddingPriorityWrite k lane priority s
  | .bankShedHoldClear b => Sys2Proof.Machine.execBankShedHoldClear b s
  | .bankThermalTrip b r1 r2 => Sys2Proof.Machine.execBankThermalTrip b r1 r2 s
  | .bankTripLeave b r1 r2 => Sys2Proof.Machine.execBankTripLeave b r1 r2 s
  | .mramWindowClose temp => Sys2Proof.Machine.execMramWindowClose temp s
  | .mramWindowOpen temp held => Sys2Proof.Machine.execMramWindowOpen temp held s
  | .deferralMarker temp => Sys2Proof.Machine.execDeferralMarker temp s
  | .chgpermHigh held => Sys2Proof.Machine.execChgpermHigh held s
  | .permitRequestWrite k value => Sys2Proof.Machine.execPermitRequestWrite k value s
  | .patternEntryWrite k lane glide value => Sys2Proof.Machine.execPatternEntryWrite k lane glide value s
  | .laneFailsafeEnter k lane => Sys2Proof.Machine.execLaneFailsafeEnter k lane s
  | .laneReleaseAsStored k lane => Sys2Proof.Machine.execLaneReleaseAsStored k lane s
  | .laneReleaseToOff k lane => Sys2Proof.Machine.execLaneReleaseToOff k lane s
  | .bankFailsafeEnter k b => Sys2Proof.Machine.execBankFailsafeEnter k b s
  | .bankReleaseAsStored k b => Sys2Proof.Machine.execBankReleaseAsStored k b s
  | .bankReleaseToOff k b => Sys2Proof.Machine.execBankReleaseToOff k b s
  | .watchdogArm k seed => Sys2Proof.Machine.execWatchdogArm k seed s
  | .watchdogDisarm k => Sys2Proof.Machine.execWatchdogDisarm k s
  | .strideToken k token => Sys2Proof.Machine.execStrideToken k token s
  | .zxEdgeAccept input level at_ => Sys2Proof.Machine.execZxEdgeAccept input level at_ s
  | .lapSnapshot k => Sys2Proof.Machine.execLapSnapshot k s
  | .lapCountPreset k value => Sys2Proof.Machine.execLapCountPreset k value s
  | .scheduleArm k lane cmd => Sys2Proof.Machine.execScheduleArm k lane cmd s
  | .scheduleCancel k lane => Sys2Proof.Machine.execScheduleCancel k lane s
  | .scheduleResolve lane => Sys2Proof.Machine.execScheduleResolve lane s
  | .scheduleApply b lane => Sys2Proof.Machine.execScheduleApply b lane s
  | .syncWindowEnd lane currents unblanked => Sys2Proof.Machine.execSyncWindowEnd lane currents unblanked s
  | .captureArm k => Sys2Proof.Machine.execCaptureArm k s
  | .captureAbort k => Sys2Proof.Machine.execCaptureAbort k s
  | .captureSample mean blanked limited => Sys2Proof.Machine.execCaptureSample mean blanked limited s
  | .q7ReadIndexWrite k value => Sys2Proof.Machine.execQ7ReadIndexWrite k value s
  | .faultErrorAcceptS source kind origin address => Sys2Proof.Machine.execFaultErrorAcceptS source kind origin address s
  | .faultErrorAcceptD source kind origin address => Sys2Proof.Machine.execFaultErrorAcceptD source kind origin address s
  | .faultState0Accept source => Sys2Proof.Machine.execFaultState0Accept source s
  | .graceExpiry source => Sys2Proof.Machine.execGraceExpiry source s
  | .escalationStep source => Sys2Proof.Machine.execEscalationStep source s
  | .clearSource k source => Sys2Proof.Machine.execClearSource k source s
  | .clearAll k => Sys2Proof.Machine.execClearAll k s
  | .recordClear k => Sys2Proof.Machine.execRecordClear k s
  | .acknowledgeSource k source => Sys2Proof.Machine.execAcknowledgeSource k source s
  | .escalationCeilingWrite k source value => Sys2Proof.Machine.execEscalationCeilingWrite k source value s
  | .factoryTestKey k value testHigh => Sys2Proof.Machine.execFactoryTestKey k value testHigh s
  | .faultInject k word => Sys2Proof.Machine.execFaultInject k word s
  | .groupDForceWrite k value => Sys2Proof.Machine.execGroupDForceWrite k value s
  | .timeSet k seconds nanos => Sys2Proof.Machine.execTimeSet k seconds nanos s
  | .stepAdjust k ns => Sys2Proof.Machine.execStepAdjust k ns s
  | .incrementWrite k value => Sys2Proof.Machine.execIncrementWrite k value s
  | .servoOwnerTake k => Sys2Proof.Machine.execServoOwnerTake k s
  | .servoOwnerReturn k => Sys2Proof.Machine.execServoOwnerReturn k s
  | .gptpSyncRx n origin interval => Sys2Proof.Machine.execGptpSyncRx n origin interval s
  | .secondDomainSample n origin interval => Sys2Proof.Machine.execSecondDomainSample n origin interval s
  | .gptpAnnounceRx n second vector steps => Sys2Proof.Machine.execGptpAnnounceRx n second vector steps s
  | .gptpPdelayExchange n responders delay => Sys2Proof.Machine.execGptpPdelayExchange n responders delay s
  | .announceReceiptTimeout second => Sys2Proof.Machine.execAnnounceReceiptTimeout second s
  | .ppsModeWrite k value => Sys2Proof.Machine.execPpsModeWrite k value s
  | .ppsEdgeCapture low => Sys2Proof.Machine.execPpsEdgeCapture low s
  | .queueProducerWrite k queue value => Sys2Proof.Machine.execQueueProducerWrite k queue value s
  | .transmitOpportunity n id => Sys2Proof.Machine.execTransmitOpportunity n id s
  | .transmitAbort n => Sys2Proof.Machine.execTransmitAbort n s
  | .frameTransmitEnd n => Sys2Proof.Machine.execFrameTransmitEnd n s
  | .beaconLost n => Sys2Proof.Machine.execBeaconLost n s
  | .frameIngress n frame lineError => Sys2Proof.Machine.execFrameIngress n frame lineError s
  | .learnEntryAgeOut mac => Sys2Proof.Machine.execLearnEntryAgeOut mac s
  | .queueConsumerWrite k queue value => Sys2Proof.Machine.execQueueConsumerWrite k queue value s
  | .overflowFlagClear k queue => Sys2Proof.Machine.execOverflowFlagClear k queue s
  | .portEnable k n => Sys2Proof.Machine.execPortEnable k n s
  | .portDisable k n => Sys2Proof.Machine.execPortDisable k n s
  | .plcaSettingWrite k n sub value => Sys2Proof.Machine.execPlcaSettingWrite k n sub value s
  | .spiWriteQ0 sck data => Sys2Proof.Machine.execSpiWriteQ0 sck data s
  | .spiReadQ1 sck clocked => Sys2Proof.Machine.execSpiReadQ1 sck clocked s
  | .requestDiscard via => Sys2Proof.Machine.execRequestDiscard via s
  | .discover via => Sys2Proof.Machine.execDiscover via s
  | .openSession via => Sys2Proof.Machine.execOpenSession via s
  | .confirm via => Sys2Proof.Machine.execConfirm via s
  | .close via => Sys2Proof.Machine.execClose via s
  | .keepalive via => Sys2Proof.Machine.execKeepalive via s
  | .provision via => Sys2Proof.Machine.execProvision via s
  | .read via => Sys2Proof.Machine.execRead via s
  | .write via => Sys2Proof.Machine.execWrite via s
  | .segmentRead via => Sys2Proof.Machine.execSegmentRead via s
  | .segmentWrite via => Sys2Proof.Machine.execSegmentWrite via s
  | .queueRead via => Sys2Proof.Machine.execQueueRead via s
  | .queueWrite via => Sys2Proof.Machine.execQueueWrite via s
  | .bufferRead via => Sys2Proof.Machine.execBufferRead via s
  | .bufferWrite via => Sys2Proof.Machine.execBufferWrite via s
  | .confirmTimeout n => Sys2Proof.Machine.execConfirmTimeout n s
  | .sessionReclaim n => Sys2Proof.Machine.execSessionReclaim n s
  | .segmentTimeout n => Sys2Proof.Machine.execSegmentTimeout n s
  | .sessionCloseObject k n => Sys2Proof.Machine.execSessionCloseObject k n s
  | .keyWrite k role key => Sys2Proof.Machine.execKeyWrite k role key s
  | .transportConfigWrite k sub value => Sys2Proof.Machine.execTransportConfigWrite k sub value s
  | .teamEnable k => Sys2Proof.Machine.execTeamEnable k s
  | .teamDisable k => Sys2Proof.Machine.execTeamDisable k s
  | .memberTimeout m => Sys2Proof.Machine.execMemberTimeout m s
  | .awayTimeout m => Sys2Proof.Machine.execAwayTimeout m s
  | .saveRequest k => Sys2Proof.Machine.execSaveRequest k s
  | .storeWriteComplete verified => Sys2Proof.Machine.execStoreWriteComplete verified s
  | .journalClear k => Sys2Proof.Machine.execJournalClear k s
  | .journalCursorWrite k value => Sys2Proof.Machine.execJournalCursorWrite k value s
  | .patchVerify k => Sys2Proof.Machine.execPatchVerify k s
  | .patchErase k => Sys2Proof.Machine.execPatchErase k s
  | .patchActivate k => Sys2Proof.Machine.execPatchActivate k s
  | .patchRevert k => Sys2Proof.Machine.execPatchRevert k s
  | .bankIsolate k b => Sys2Proof.Machine.execBankIsolate k b s
  | .bankResetRequest k b => Sys2Proof.Machine.execBankResetRequest k b s
  | .bankRetrim k b => Sys2Proof.Machine.execBankRetrim k b s
  | .retrimComplete b within => Sys2Proof.Machine.execRetrimComplete b within s
  | .bankRetire k b => Sys2Proof.Machine.execBankRetire k b s
  | .bankReturnToService k b => Sys2Proof.Machine.execBankReturnToService k b s
  | .channelRetireWrite k ch value => Sys2Proof.Machine.execChannelRetireWrite k ch value s
  | .migrationStart k => Sys2Proof.Machine.execMigrationStart k s
  | .registerWrite k idx sub value => Sys2Proof.Machine.execRegisterWrite k idx sub value s
  | .overloadLimitingEnter ch mv risen ma => Sys2Proof.Machine.execOverloadLimitingEnter ch mv risen ma s
  | .currentLimitingLeave ch => Sys2Proof.Machine.execCurrentLimitingLeave ch s
  | .senseStarvedClear ch interval => Sys2Proof.Machine.execSenseStarvedClear ch interval s
  | .turnOffEdgeEnd ch => Sys2Proof.Machine.execTurnOffEdgeEnd ch s
  | .beaconSeen n => Sys2Proof.Machine.execBeaconSeen n s
  | .gptpSyncSend n second => Sys2Proof.Machine.execGptpSyncSend n second s
  | .gptpAnnounceSend n => Sys2Proof.Machine.execGptpAnnounceSend n s
  | .receiveErrorRateClear n => Sys2Proof.Machine.execReceiveErrorRateClear n s
  | .sensorCircuitFault b sensor temp circuit => Sys2Proof.Machine.execSensorCircuitFault b sensor temp circuit s
  | .vioAbsent mv held => Sys2Proof.Machine.execVioAbsent mv held s
  | .vphyAbsent mv held => Sys2Proof.Machine.execVphyAbsent mv held s
  | .calibrationEnd => Sys2Proof.Machine.execCalibrationEnd s
  | .referenceClockLoss silent => Sys2Proof.Machine.execReferenceClockLoss silent s
  | .referenceClockRestored running => Sys2Proof.Machine.execReferenceClockRestored running s
  | .runtimeWatchdogExpiry silent => Sys2Proof.Machine.execRuntimeWatchdogExpiry silent s
  | .dictionaryReady => Sys2Proof.Machine.execDictionaryReady s
  | .lapBoundaryApply => Sys2Proof.Machine.execLapBoundaryApply s
  | .chgpermLow => Sys2Proof.Machine.execChgpermLow s
  | .watchdogLateMiss => Sys2Proof.Machine.execWatchdogLateMiss s
  | .armDeadlineExpiry => Sys2Proof.Machine.execArmDeadlineExpiry s
  | .votedCrossing => Sys2Proof.Machine.execVotedCrossing s
  | .lapOrigin => Sys2Proof.Machine.execLapOrigin s
  | .missingCrossing => Sys2Proof.Machine.execMissingCrossing s
  | .captureStart => Sys2Proof.Machine.execCaptureStart s
  | .errnPulseEnd => Sys2Proof.Machine.execErrnPulseEnd s
  | .stepConfirmTimeout => Sys2Proof.Machine.execStepConfirmTimeout s
  | .factoryTestExit => Sys2Proof.Machine.execFactoryTestExit s
  | .hostServoTimeout => Sys2Proof.Machine.execHostServoTimeout s
  | .syncReceiptTimeout second => Sys2Proof.Machine.execSyncReceiptTimeout second s
  | .holdoverLimit => Sys2Proof.Machine.execHoldoverLimit s
  | .ppsMissing => Sys2Proof.Machine.execPpsMissing s
  | .ppsOutputRise => Sys2Proof.Machine.execPpsOutputRise s
  | .ppsOutputFall => Sys2Proof.Machine.execPpsOutputFall s
  | .q3LaunchEligible => Sys2Proof.Machine.execQ3LaunchEligible s
  | .mediumWaitTimeout => Sys2Proof.Machine.execMediumWaitTimeout s
  | .q4Handover => Sys2Proof.Machine.execQ4Handover s
  | .q5Classify => Sys2Proof.Machine.execQ5Classify s
  | .spiStatus sck => Sys2Proof.Machine.execSpiStatus sck s
  | .spiTransactionDiscard sck => Sys2Proof.Machine.execSpiTransactionDiscard sck s
  | .responsePostResume => Sys2Proof.Machine.execResponsePostResume s
  | .arpRequest => Sys2Proof.Machine.execArpRequest s
  | .icmpEcho => Sys2Proof.Machine.execIcmpEcho s
  | .teamStatusSend => Sys2Proof.Machine.execTeamStatusSend s
  | .teamStatusRx => Sys2Proof.Machine.execTeamStatusRx s
  | .teamJoinRx => Sys2Proof.Machine.execTeamJoinRx s
  | .teamJoinReplyRx => Sys2Proof.Machine.execTeamJoinReplyRx s
  | .teamLeaveRx => Sys2Proof.Machine.execTeamLeaveRx s
  | .teamProposeRx => Sys2Proof.Machine.execTeamProposeRx s
  | .teamWithdrawRx => Sys2Proof.Machine.execTeamWithdrawRx s
  | .teamIntentRx => Sys2Proof.Machine.execTeamIntentRx s
  | .teamCommitRx => Sys2Proof.Machine.execTeamCommitRx s
  | .teamCancelRx => Sys2Proof.Machine.execTeamCancelRx s
  | .teamRejectRx => Sys2Proof.Machine.execTeamRejectRx s
  | .formationWindowEnd => Sys2Proof.Machine.execFormationWindowEnd s
  | .pacerClaimTimeout => Sys2Proof.Machine.execPacerClaimTimeout s
  | .joinReplyTimeout => Sys2Proof.Machine.execJoinReplyTimeout s
  | .joinRetry => Sys2Proof.Machine.execJoinRetry s
  | .publicationTime => Sys2Proof.Machine.execPublicationTime s
  | .commitSendTime => Sys2Proof.Machine.execCommitSendTime s
  | .commitDeadline => Sys2Proof.Machine.execCommitDeadline s
  | .entryTargetReached => Sys2Proof.Machine.execEntryTargetReached s
  | .saveDelayExpiry => Sys2Proof.Machine.execSaveDelayExpiry s
  | .journalRecordWrite => Sys2Proof.Machine.execJournalRecordWrite s
  | .restartHoldAckTimeout => Sys2Proof.Machine.execRestartHoldAckTimeout s

end Sys2Proof.Machine
end

