-- ==== Sys2Proof/Machine/Step.lean ====
section
/-! DEFINITION. One step of the block: the command at the front of the queue, or a tick of the clock where none waits. -/

namespace Sys2Proof.Machine

/-- One cycle of the 25 MHz reference (R77, R79), in ns, and the counts of the 250 MHz time clock it holds. -/
def tickNs : Nat := 40
def tickCounts : Nat := 10

/-- Domain P advances: the hub is out of reset, and neither in standby nor on its way out of it (R95, R96, R316). -/
def Hub.pRuns (h : Hub) : Bool := h.outOfReset && !decide (h.phase = .standby ∨ h.phase = .waking)

/-- One reference cycle passes (DESIGN CHOICE, log 1). -/
def State.tick (s : State) : State :=
  { s with
    now := s.now + tickNs
    hub := if s.hub.outOfReset then { s.hub with time := s.hub.time.advance tickCounts s.hub.pRuns } else s.hub }

/-- One step. -/
def step (s : State) : Host.Outcome State Fault Refusal :=
  match s.pending with
  | [] => .next s.tick
  | c :: rest => exec c { s with pending := rest }

/-- The state with a command before all that wait. -/
def State.withCommand (s : State) (c : Instr) : State := { s with pending := c :: s.pending }

/-- The state with the command that a table word spells in front of the queue; unchanged where the word spells none. -/
def State.withFetchWord (s : State) (nbits w : Nat) : State :=
  match decodeTableWord nbits w with
  | some c => s.withCommand c
  | none => s

end Sys2Proof.Machine
end

