-- ==== Sys2Proof/Safety.lean ====
section
/-! DEFINITION. The predicates that claims use: the shape of a state, what a command must leave alone, and for each command the conditions on the
state and its operands under which it has its effect (`Ready`). -/

namespace Sys2Proof.Machine

/-! ## Shape -/

/-- Twelve channels, fourteen sensors and ninety-six filtered input levels (R19, R111, R199). -/
def BankCore.shaped (c : BankCore) : Bool := decide (c.chans.length = 12) && decide (c.sensors.length = 14) && decide (c.inputs.length = 96)

/-- Four banks (R19), each of its shape. -/
def State.shaped (s : State) : Bool := decide (s.banks.length = 4) && s.banks.all fun b => b.core.shaped

/-- A channel has a ramp only while it is on, and on a capacitive lane its ramp has the target that R147 gives it. -/
def BankCore.onCourseAt (c : BankCore) (x : Chan) : Bool :=
  (x.io.on || !(x.ramp.regulating || x.ramp.complete))
    && (decide (x.cfg.load.loadType ≠ 5) || !(x.ramp.regulating || x.ramp.complete)
        || decide (x.ramp.target = if c.normalRules x || x.ramp.followsLane then x.cfg.load.rampTarget else 1000))

/-- Every channel of a bank is on course. -/
def BankCore.onCourse (c : BankCore) : Bool := c.chans.all fun x => c.onCourseAt x

/-- Every bank is on course. -/
def State.onCourse (s : State) : Bool := s.banks.all fun b => b.core.onCourse

/-- Four links and four views of banks, sixteen sessions, forty-eight schedules and synchronous currents, ninety-six sources, four banks in service, eight
team members, two patch slots. -/
def Hub.shaped (h : Hub) : Bool :=
  decide (h.links.length = 4) && decide (h.views.length = 4) && decide (h.run.sessions.length = 16) && decide (h.run.schedules.length = 48)
    && decide (h.run.sync.length = 48) && decide (h.collector.sources.length = 96) && decide (h.run.service.length = 4)
    && decide (h.run.team.members.length = 8) && decide (h.run.slotState.length = 2) && decide (h.run.shed.length = 4)
    && decide (h.run.shedDue.length = 4) && decide (h.run.snaps.length = 48) && decide (h.run.snapCycle.length = 48)

/-- Slots of the rings that the network stage fills, and the indices that stay within them (R370). -/
def Net.shaped (n : Net) : Bool :=
  decide (n.q3.slots.length = 16) && decide (n.q3.prod < 16) && decide (n.q4.slots.length = 32) && decide (n.q5.slots.length = 64) && decide (n.classify < 64)

/-- The whole state is of its shape. -/
def State.formed (s : State) : Bool := s.shaped && s.hub.shaped && s.hub.net.shaped

/-! ## Readings of the state -/

/-- Classification a bank holds for one of its LIMP lands (R53). -/
def BankCore.limpClass (c : BankCore) : LimpLand → LimpClass
  | .own => c.limpOwn
  | .shared => c.limpShared

/-- What a bank's LIMP land waits to be classified as, and since when (R53). -/
def BankCore.limpCandidate (c : BankCore) : LimpLand → Option (LimpClass × Nat)
  | .own => c.limpOwnNext
  | .shared => c.limpSharedNext

/-- A bank holds a fault message of this source, kind and address (Table 10-1). -/
def Bank.reports (b : Bank) (source kind address : Nat) : Bool :=
  b.msgs.any fun m => decide (m.source = source) && decide (m.kind = kind) && decide (m.address = address)

/-- Retries and latch-offs that count at a trip: after the on-time without a trip that sets them to 0 (R176), none. -/
def State.retriesOf (s : State) (ch : Nat) : Nat := ((s.chan ch).lapseCounts s.now).trip.retryCount
def State.latchesOf (s : State) (ch : Nat) : Nat := ((s.chan ch).lapseCounts s.now).trip.latchCount

/-- The channel has tripped between s and t (R168, R169, R172, R174): it is off, without a window, the trip is counted, and either the retries are
spent and it latches off, or a back-off runs. -/
def State.tripsOff (s t : State) (ch : Nat) : Prop :=
  (t.chan ch).io.on = false ∧ (t.chan ch).window.step = 0 ∧ (t.chan ch).trip.trips = (s.chan ch).trip.trips + 1
  ∧ ((s.chan ch).cfg.prot.retries ≤ s.retriesOf ch →
      (t.chan ch).trip.latchedAt = some s.now ∧ (t.chan ch).trip.latchCount = s.latchesOf ch + 1)
  ∧ (s.retriesOf ch < (s.chan ch).cfg.prot.retries →
      (t.chan ch).trip.backoff = some (s.now + backoffTime (s.chan ch).cfg.prot (s.retriesOf ch + 1)))

/-- The channel has tripped, and its bank reports the trip where its message store has a place (R168). -/
def State.tripped (s t : State) (ch : Nat) (kind : TripKind) : Prop :=
  s.tripsOff t ch ∧ ((s.bank (ch / 12)).msgs.length < 16 → (t.bank (ch / 12)).reports (12 * (ch / 12)) (tripCode kind) ch = true)

/-! ## What stays -/

/-- The queue of commands, the clock and the runtime version, which no command changes. -/
def State.base (s : State) : List Instr × Nat × Nat := (s.pending, s.now, s.rtVersion)

/-- Nothing but bank b differs. -/
def State.onlyBank (s t : State) (b : Nat) : Prop := t = { s with banks := t.banks } ∧ t.banks.length = s.banks.length ∧ ∀ c, c ≠ b → t.bank c = s.bank c

/-- Nothing but the hub differs. -/
def State.onlyHub (s t : State) : Prop := t = { s with hub := t.hub }

/-- What a channel keeps while another channel of its bank has an event: its store entry, integrator, snapshot, wire model, counters, thermal flags and shed
holds, the cause bits of the hub and its lane state. -/
def Chan.lasting (x : Chan) : ChanCfg × ChanClamp × ChanSnap × Rat × Word32 × Bool × Bool × Word32 × BitVec 4 × Drive × Bool × Bool :=
  (x.cfg, x.clamp, x.snap, x.sense.wireRise, x.trip.trips, x.thermal.warned, x.thermal.shutdown, x.thermal.shutdowns, x.thermal.shedBy, x.io.normal, x.io.w,
   x.io.x)

/-- The hub less what a report may change: the collector, Q2, the pending events and the shadow of the journal. -/
def Hub.calm (h : Hub) : Hub :=
  { h with collector := {}, pending := 0, gap := 0, net := { h.net with q2 := {}, q2Seq := 0, q2Gap := false }
           run := { h.run with shadow := [], lost := 0 } }

/-- The channel whose logic alone a channel event concerns; none for every other command. -/
def chanEvent : Instr → Option Nat
  | .senseStarved ch _ => some ch
  | .senseStarvedClear ch _ => some ch
  | .sprintStepBoundary ch => some ch
  | .sprintFreezeLimit ch => some ch
  | .rampTargetReached ch => some ch
  | .rampHoldExpiry ch => some ch
  | .rampComplete ch _ => some ch
  | .rampZeroTurnOff ch => some ch
  | .rampStallFlag ch => some ch
  | .rampStallEnd ch => some ch
  | .shortCircuitLimitEnter ch _ _ _ => some ch
  | .overloadLimitingEnter ch _ _ _ => some ch
  | .currentLimitingLeave ch => some ch
  | .shortCircuitTrip ch => some ch
  | .overloadTrip ch => some ch
  | .scDetectionTrip ch _ _ => some ch
  | .tripTimerReset ch => some ch
  | .backoffEnd ch => some ch
  | .latchOffClear ch => some ch
  | .retryCounterReset ch => some ch
  | .latchCountReset ch => some ch
  | .clampEnd ch _ => some ch
  | .turnOffEdgeEnd ch => some ch
  | .onStateOpenLoad ch _ _ => some ch
  | .onStateOpenLoadClear ch _ _ => some ch
  | .offStateSourceOn ch => some ch
  | .offStateOpenLoad ch _ _ => some ch
  | .offStateOpenLoadClear ch _ _ => some ch
  | .offStateZeroUpdate ch _ => some ch
  | .crossMeasurement ch _ _ _ => some ch
  | .staleOffsetEnter ch => some ch
  | .thermalWarning ch _ => some ch
  | .thermalShutdown ch _ => some ch
  | .thermalShutdownExit ch _ => some ch
  | .thermalLatchClear ch => some ch
  | .thermalCountReset ch => some ch
  | _ => none

/-- The bank whose logic alone a bank event concerns; none for every other command. -/
def bankEvent : Instr → Option Nat
  | .limpClassificationAdopt b _ _ _ => some b
  | .taggedCommandApply b => some b
  | .snapshotCapture b => some b
  | .bankDisturbanceEnd b => some b
  | .clampDecay b _ => some b
  | .wireModelUpdate b _ => some b
  | .sensorBroken b _ _ _ => some b
  | .sensorCircuitFault b _ _ _ => some b
  | .bankThermalWarning b _ _ => some b
  | .bankThermalNormal b _ _ => some b
  | .bankSheddingEnter b _ _ => some b
  | .bankSheddingLeave b _ _ => some b
  | .bankThermalTrip b _ _ => some b
  | .bankTripLeave b _ _ => some b
  | .bankShedHoldClear b => some b
  | .bankDownlinkFrameRx b _ => some b
  | .bankUplinkSend b _ => some b
  | .holdTimerExpiry b => some b
  | .restartHoldExpiry b => some b
  | .vsupPresent b _ _ _ _ _ => some b
  | .vsupOvervoltageWarning b _ _ => some b
  | .vsupOvervoltageClear b _ => some b
  | _ => none

/-- Commands that may change a bank beside those two kinds: the input lands and their supply, the frames of a link, a schedule that acts, a warning of a lane,
a loss of VSUPx, a re-trim, and a reset of the whole device at a lap boundary. -/
def otherBankCommand : Instr → Bool
  | .inEdgeAccept _ _ _ => true
  | .vioPresent _ _ => true
  | .vioAbsent _ _ => true
  | .vsupAbsent _ _ _ => true
  | .downlinkFrameSend _ _ => true
  | .uplinkFrameRx _ _ => true
  | .scheduleApply _ _ => true
  | .thermalWarningClear _ _ => true
  | .retrimComplete _ _ => true
  | .lapBoundaryApply => true
  | _ => false

/-- Commands that may change the supplies of the hub die or their readings; the readings of the hub come with every link cycle (R98, log 89). -/
def supplyCommand : Instr → Bool
  | .vcorePresent _ _ => true
  | .vcoreAbsent _ _ _ _ => true
  | .vioPresent _ _ => true
  | .vioAbsent _ _ => true
  | .vphyPresent _ _ => true
  | .vphyAbsent _ _ => true
  | .tierLower _ _ => true
  | .tierRaise _ _ => true
  | .synthLock _ => true
  | .downlinkFrameSend _ _ => true
  | _ => false

/-- Commands that may change the levels of the input lands. -/
def landCommand : Instr → Bool
  | .inEdgeAccept _ _ _ => true
  | .zxEdgeAccept _ _ _ => true
  | .wakeExitStandby _ => true
  | .vioAbsent _ _ => true
  | .downlinkFrameSend _ _ => true
  | .factoryTestKey _ _ _ => true
  | .factoryTestExit => true
  | _ => false

/-- Commands that may store to the transmit and receive buffers. -/
def bufferCommand : Instr → Bool
  | .frameIngress _ _ _ => true
  | .bufferWrite _ => true
  | _ => false

/-- Events of the lap tracker alone. -/
def lapEvent : Instr → Bool
  | .votedCrossing => true
  | .missingCrossing => true
  | _ => false

/-- Events of the capture alone. -/
def captureEvent : Instr → Bool
  | .captureStart => true
  | .captureSample _ _ _ => true
  | _ => false

/-- Events of the time domains and of the ports and queues that store nothing and reach no runtime service. -/
def timeOrNetEvent : Instr → Bool
  | .gptpSyncRx _ _ _ => true
  | .secondDomainSample _ _ _ => true
  | .gptpAnnounceRx _ _ _ _ => true
  | .gptpPdelayExchange _ _ _ => true
  | .gptpSyncSend _ _ => true
  | .gptpAnnounceSend _ => true
  | .hostServoTimeout => true
  | .syncReceiptTimeout _ => true
  | .announceReceiptTimeout _ => true
  | .holdoverLimit => true
  | .ppsEdgeCapture _ => true
  | .ppsMissing => true
  | .ppsOutputRise => true
  | .ppsOutputFall => true
  | .q3LaunchEligible => true
  | .mediumWaitTimeout => true
  | .q4Handover => true
  | .transmitOpportunity _ _ => true
  | .transmitAbort _ => true
  | .frameTransmitEnd _ => true
  | .beaconLost _ => true
  | .beaconSeen _ => true
  | .receiveErrorRateClear _ => true
  | .learnEntryAgeOut _ => true
  | _ => false

/-- Events of the fault collector alone. -/
def collectorEvent : Instr → Bool
  | .faultErrorAcceptD _ _ _ _ => true
  | .faultState0Accept _ => true
  | .errnPulseEnd => true
  | _ => false

/-- Events of the grace and escalation timers. -/
def escalationEvent : Instr → Bool
  | .graceExpiry _ => true
  | .escalationStep _ => true
  | _ => false

/-- Events of thermal shedding. -/
def sheddingEvent : Instr → Bool
  | .shedGroup _ => true
  | .restoreGroup _ => true
  | _ => false

/-- Events of the serial watchdog. -/
def watchdogEvent : Instr → Bool
  | .watchdogLateMiss => true
  | .armDeadlineExpiry => true
  | _ => false

/-- Transactions of the SPI. -/
def spiEvent : Instr → Bool
  | .spiWriteQ0 _ _ => true
  | .spiReadQ1 _ _ => true
  | .spiStatus _ => true
  | .spiTransactionDiscard _ => true
  | _ => false

/-- Timeouts of sessions. -/
def sessionEvent : Instr → Bool
  | .confirmTimeout _ => true
  | .sessionReclaim _ => true
  | .segmentTimeout _ => true
  | _ => false

/-- What the runtime does with received frames outside Phoden, and in its team. -/
def serviceEvent : Instr → Bool
  | .q5Classify => true
  | .arpRequest => true
  | .icmpEcho => true
  | .teamStatusRx => true
  | .teamStatusSend => true
  | .teamJoinRx => true
  | .teamJoinReplyRx => true
  | .teamLeaveRx => true
  | .memberTimeout _ => true
  | .awayTimeout _ => true
  | .formationWindowEnd => true
  | .pacerClaimTimeout => true
  | .joinReplyTimeout => true
  | .joinRetry => true
  | .teamProposeRx => true
  | .teamWithdrawRx => true
  | .teamIntentRx => true
  | .teamCommitRx => true
  | .teamCancelRx => true
  | .teamRejectRx => true
  | .publicationTime => true
  | .commitSendTime => true
  | .commitDeadline => true
  | .entryTargetReached => true
  | _ => false

end Sys2Proof.Machine

namespace Sys2Proof.Ready

open Sys2Proof.Machine

/-! ## Channels and banks -/

/-- A channel of a running bank whose channels are on course. -/
def runs (s : State) (ch : Nat) : Bool :=
  decide (ch < 48) && s.shaped && (s.bank (ch / 12)).core.running && (s.bank (ch / 12)).core.onCourse

/-- The channel is on, as the sources of its state demand. -/
def steady (s : State) (ch : Nat) : Bool :=
  runs s ch && (s.chan ch).io.on && (s.bank (ch / 12)).core.demanded (s.chan ch) && !(s.bank (ch / 12)).core.heldOff (s.chan ch)

/-- The channel is off, as the sources of its state demand. -/
def resting (s : State) (ch : Nat) : Bool :=
  runs s ch && !(s.chan ch).io.on && !((s.bank (ch / 12)).core.demanded (s.chan ch) && !(s.bank (ch / 12)).core.heldOff (s.chan ch))

/-- A bank that runs. -/
def bankRuns (s : State) (b : Nat) : Bool := decide (b < 4) && s.shaped && (s.bank b).core.running

/-- The ramp of a channel that is on stands at its lane's target. -/
def atTarget (s : State) (ch : Nat) : Bool :=
  steady s ch && (s.chan ch).ramp.regulating && (s.chan ch).ramp.followsLane && decide ((s.chan ch).ramp.target = (s.chan ch).cfg.load.rampTarget)

def limpClassificationAdopt (s : State) (b held : Nat) : Bool :=
  bankRuns s b && decide (100000 ≤ held) && decide (held ≤ s.now)
/-- Class of a LIMP land whose voltage stands in a band that keeps the class (R53): a candidate of 100 microseconds is adopted. -/
def limpKept (s : State) (b : Nat) (land : LimpLand) : LimpClass :=
  match (s.bank b).core.limpCandidate land with
  | some (c, t) => if t + 100000 ≤ s.now then c else (s.bank b).core.limpClass land
  | none => (s.bank b).core.limpClass land
def inEdgeAccept (s : State) (pin : Nat) : Bool := s.shaped && s.pwr.vio && decide (pin < 16)
def senseStarved (s : State) (ch without : Nat) : Bool := decide (ch < 48) && s.shaped && (s.chan ch).io.on && decide (10000000 ≤ without)
def senseStarvedClear (s : State) (ch interval : Nat) : Bool := decide (ch < 48) && s.shaped && (s.chan ch).io.on && decide (20000 ≤ interval)

/-- A command that waits for a moment that has come. -/
def due (s : State) (c : LinkCmd) : Bool := elapsed c.tag 0 s.now

/-- A tagged command whose cycle origin has come, and that is a snapshot or not (R128, R196). -/
def dueTagged (s : State) (snapshot : Bool) (c : LinkCmd) : Bool := !c.resolved && due s c && (c.cmd.isSnapshot == snapshot)

/-- The resolved schedule of a lane that has come to its time in a bank. -/
def dueSchedule (s : State) (lane : Nat) (c : LinkCmd) : Bool := c.resolved && decide (c.lane = lane) && due s c

/-- The step that follows in the window's table, 0 at its end. -/
def followingStep (s : State) (ch : Nat) : Nat := nextStep (s.chan ch).window.table (s.chan ch).window.step

def sprintStepBoundary (s : State) (ch : Nat) : Bool :=
  steady s ch && (s.chan ch).window.running && !(s.chan ch).window.frozen
    && decide ((s.chan ch).window.due * 99 ≤ ((s.chan ch).window.timer.value s.now + 20000) * 100)
def sprintFreezeLimit (s : State) (ch : Nat) : Bool :=
  steady s ch && (s.chan ch).window.frozen
    && (decide (2000000 ≤ (s.chan ch).window.freezeRun.value s.now) || decide (10000000 ≤ (s.chan ch).window.freezeTotal.value s.now))

def rampTargetReached (s : State) (ch : Nat) : Bool :=
  atTarget s ch && (s.chan ch).ramp.holdTimer.isNone && decide (0 < (s.chan ch).ramp.target) && decide ((s.chan ch).ramp.target < 1000)
    && decide ((s.chan ch).ramp.referenceAt (s.chan ch).cfg.load.rampRate (s.bank (ch / 12)).core.supply s.now
        = rampVolts (s.chan ch).ramp.target (s.bank (ch / 12)).core.supply)
    && decide (0 < (s.chan ch).cfg.load.rampHold)
def rampHoldExpiry (s : State) (ch : Nat) : Bool := runs s ch && elapsed (s.chan ch).ramp.holdTimer ((s.chan ch).cfg.load.rampHold * 1000) s.now
def rampComplete (s : State) (ch mv : Nat) : Bool :=
  steady s ch && (s.chan ch).ramp.regulating && decide ((s.chan ch).ramp.target = 1000) && decide ((s.chan ch).cfg.load.rampTarget = 1000)
    && decide (98 * (s.bank (ch / 12)).core.supply ≤ 100 * mv)
def rampZeroTurnOff (s : State) (ch : Nat) : Bool :=
  atTarget s ch && decide ((s.chan ch).ramp.target = 0) && decide ((s.chan ch).cfg.load.loadType = 5)
    && (s.bank (ch / 12)).core.normalRules (s.chan ch)
    && decide ((s.chan ch).ramp.referenceAt (s.chan ch).cfg.load.rampRate (s.bank (ch / 12)).core.supply s.now = 0)
def rampStallFlag (s : State) (ch : Nat) : Bool := atTarget s ch && elapsed (s.chan ch).ramp.stallFrom 100001 s.now
def rampStallEnd (s : State) (ch : Nat) : Bool :=
  runs s ch && (s.chan ch).ramp.stallFrom.isSome && !(s.chan ch).limited && elapsed (s.chan ch).ramp.freeFrom 100000 s.now

/-- The output is below 25 % of VSUPx and has risen by less than 2 % of it over 100 microseconds (R165). -/
def shorted (s : State) (ch mv risen : Nat) : Bool :=
  decide (4 * mv < (s.bank (ch / 12)).core.supply) && decide (50 * risen < (s.bank (ch / 12)).core.supply)
/-- The current stands at the active limit, within its tolerance (R162, R163, R204). -/
def atLimit (s : State) (ch ma : Nat) : Bool :=
  let limit := (s.chan ch).activeLimit ((s.bank (ch / 12)).core.derated (ch % 12))
  decide (limit ≤ ma + limitTolerance (classOf ch) limit)
def shortCircuitLimitEnter (s : State) (ch mv risen ma : Nat) : Bool := steady s ch && shorted s ch mv risen && atLimit s ch ma
def overloadLimitingEnter (s : State) (ch mv risen ma : Nat) : Bool := steady s ch && !shorted s ch mv risen && atLimit s ch ma
def currentLimitingLeave (s : State) (ch : Nat) : Bool := decide (ch < 48) && s.shaped && (s.chan ch).limited
def bankDisturbanceEnd (s : State) (b : Nat) : Bool :=
  decide (b < 4) && s.shaped && (s.bank b).core.disturbed && (s.bank b).core.chans.all (fun x => !x.trip.shortCct)
    && decide ((s.bank b).core.shortLeft + 50000 ≤ s.now)

def shortCircuitTrip (s : State) (ch : Nat) : Bool :=
  runs s ch && (s.chan ch).io.on && (s.chan ch).trip.shortCct && decide (tripShort (classOf ch) * 95 / 100 ≤ (s.chan ch).trip.scTimer.value s.now)
def overloadTrip (s : State) (ch : Nat) : Bool :=
  runs s ch && (s.chan ch).io.on && (s.chan ch).limited
    && decide ((if (s.chan ch).window.running || (s.chan ch).ramp.regulating then tripOverWindow (classOf ch) else tripOver (classOf ch)) * 95 / 100
        ≤ (s.chan ch).trip.olTimer.value s.now)
def scDetectionTrip (s : State) (ch ma held : Nat) : Bool :=
  runs s ch && (s.chan ch).io.on && decide (detectAt (classOf ch) < ma) && decide (1000 ≤ held)

def tripTimerReset (s : State) (ch : Nat) : Bool :=
  runs s ch && !(s.chan ch).limited && elapsed (s.chan ch).trip.olGone 1000000 s.now && elapsed (s.chan ch).trip.scGone 1000000 s.now
def backoffEnd (s : State) (ch : Nat) : Bool :=
  runs s ch && !(s.chan ch).io.on && elapsed (s.chan ch).trip.backoff 0 s.now && !(s.chan ch).trip.wireHold
def latchOffClear (s : State) (ch : Nat) : Bool :=
  runs s ch && elapsed (s.chan ch).trip.latchedAt 10000000 s.now && elapsed (s.chan ch).io.demandOffSince 10000000 s.now
def retryCounterReset (s : State) (ch : Nat) : Bool :=
  runs s ch && (s.chan ch).io.on && decide ((s.chan ch).cfg.prot.healthy * 1000000 ≤ (s.chan ch).trip.healthyT.value s.now)
def latchCountReset (s : State) (ch : Nat) : Bool :=
  runs s ch && decide (600000000000 ≤ (s.chan ch).trip.latchT.value s.now)

def clampEnd (s : State) (ch : Nat) : Bool := runs s ch && (s.chan ch).io.turningOff && !(s.chan ch).io.on
def turnOffEdgeEnd (s : State) (ch : Nat) : Bool :=
  runs s ch && (s.chan ch).io.turningOff && !(s.chan ch).io.on && decide ((s.chan ch).clamp.event = 0)

/-- E with the samples of a conducting clamp, of 1 microsecond and in mV and mA each: it saturates (R179). -/
def clampWith (s : State) (ch : Nat) (samples : List (Nat × Nat)) : Nat :=
  min 0xFFFFFFFF ((s.chan ch).clamp.energy + ((s.chan ch).clamp.frac + (samples.map fun x => x.1 * x.2).sum) / 1000000)

/-- A bank disturbance that another channel began stands (R155). -/
def troubled (s : State) (ch : Nat) : Bool := (s.bank (ch / 12)).core.disturbed && !(s.chan ch).trip.shorted

/-- Judged time: the bank runs, the channel is not blanked and no disturbance stands (R183, R155). -/
def judged (s : State) (ch : Nat) : Bool := runs s ch && decide ((s.chan ch).io.blankUntil ≤ s.now) && !troubled s ch

/-- Band that a stale offset adds to a current (R187, R192). -/
def staleMargin (s : State) (ch : Nat) : Nat := if (s.chan ch).sense.stale then staleBand (classOf ch) (s.chan ch).cfg.io.led else 0

/-- On-state open-load threshold in microamperes (R184). -/
def openAt (s : State) (ch : Nat) : Nat :=
  if (s.chan ch).cfg.io.led then (s.chan ch).cfg.prot.openLed else 1000 * (s.chan ch).cfg.prot.openStd

/-- The filter time of open load has passed (R183). -/
def filtered (s : State) (ch held : Nat) : Bool := decide ((s.chan ch).cfg.prot.openFilter * 1000000 ≤ held)

def onStateOpenLoad (s : State) (ch ua held : Nat) : Bool :=
  judged s ch && (s.chan ch).io.on && decide (ua + staleMargin s ch < openAt s ch) && filtered s ch held
def onStateOpenLoadClear (s : State) (ch ua held : Nat) : Bool :=
  judged s ch && (s.chan ch).io.on && filtered s ch held
    && decide (openAt s ch + max (openAt s ch / 10) (if (s.chan ch).cfg.io.led then 10 else 1000) ≤ ua)
def offStateSourceOn (s : State) (ch : Nat) : Bool :=
  judged s ch && resting s ch && (s.chan ch).cfg.prot.offCheck && decide ((s.chan ch).io.blankUntil + 1000000 ≤ s.now)
def offStateOpenLoad (s : State) (ch mv held : Nat) : Bool :=
  judged s ch && resting s ch && (s.chan ch).sense.sourceOn && decide (2000 < mv) && filtered s ch held
def offStateOpenLoadClear (s : State) (ch mv held : Nat) : Bool := judged s ch && (s.chan ch).sense.sourceOn && decide (mv ≤ 2000) && filtered s ch held

def offStateZeroUpdate (s : State) (ch : Nat) : Bool :=
  judged s ch && !(s.chan ch).io.on && decide ((s.chan ch).io.blankUntil + 250000 ≤ s.now)
    && (decide ((s.chan ch).sense.zeroAt ≤ (s.chan ch).io.blankUntil) || decide ((s.chan ch).sense.zeroAt + 10000000 ≤ s.now))
def crossMeasurement (s : State) (ch : Nat) : Bool :=
  runs s ch && (s.chan ch).io.on && decide ((s.chan ch).sense.crossAt + (s.chan ch).sense.crossWait ≤ s.now)
/-- The cross-measurement is accepted (R190). -/
def crossAccepted (s : State) (ch : Nat) (clean : Bool) (direct inverted : Int) : Bool :=
  clean && !troubled s ch && !(s.chan ch).limited && decide ((s.chan ch).io.blankUntil + 40000 ≤ s.now)
    && decide (((direct - inverted).natAbs : Int) * 200 ≤ fullScale (classOf ch) (s.chan ch).cfg.io.led + 400 * ((s.chan ch).offset.natAbs : Int))
def staleOffsetEnter (s : State) (ch : Nat) : Bool :=
  runs s ch && decide ((if (s.chan ch).cfg.io.led then (s.chan ch).sense.offsetAtLed else (s.chan ch).sense.offsetAtStd) + 10000000000 < s.now)

/-- The sensor of the channel is usable, and reads a value in its range (R202). -/
def sensed (s : State) (ch : Nat) (temp : Int) : Bool :=
  runs s ch && ((s.bank (ch / 12)).core.sensor (ch % 12)).broken.isNone && !((s.bank (ch / 12)).core.sensor (ch % 12)).circuit
    && decide (-550 ≤ temp) && decide (temp ≤ 2000)
def thermalWarning (s : State) (ch : Nat) (temp : Int) : Bool := sensed s ch temp && decide ((s.chan ch).cfg.warnLevel ≤ temp)
def thermalWarningClear (s : State) (ch : Nat) (temp : Int) : Bool :=
  sensed s ch temp && decide (temp < (s.chan ch).cfg.warnLevel - 50) && decide ((s.hub.owner ch).elim [ch] s.hub.chansOf = [ch])
def thermalShutdown (s : State) (ch : Nat) (temp : Int) : Bool := sensed s ch temp && !(s.chan ch).thermal.shutdown && decide (1750 ≤ temp)
def thermalShutdownExit (s : State) (ch : Nat) (temp : Int) : Bool := sensed s ch temp && (s.chan ch).thermal.shutdown && decide (temp < 1600)
def thermalLatchClear (s : State) (ch : Nat) : Bool :=
  runs s ch && elapsed (s.chan ch).thermal.latchedAt 10000000 s.now && elapsed (s.chan ch).io.demandOffSince 10000000 s.now
def thermalCountReset (s : State) (ch : Nat) : Bool := runs s ch && decide (1000000000 ≤ (s.chan ch).thermal.streakT.value s.now)

def sensorBroken (s : State) (b sensor : Nat) (kind : SensorFault) (held : Nat) : Bool :=
  bankRuns s b && decide (sensor < 14) && ((s.bank b).core.sensor sensor).broken.isNone && decide (10000000 ≤ held) && !(s.bank b).core.disturbed
    && (decide ((s.bank b).core.shortLeft + 50000000 ≤ s.now) || decide ((s.bank b).core.shortLeft = (s.bank b).core.startedAt))
    && (s.bank b).core.disagrees sensor s.now kind

/-- Both reference sensors are usable and read values in their range, so that the higher is the bank temperature (R201). -/
def refs (s : State) (b : Nat) (r1 r2 : Int) : Bool :=
  bankRuns s b && ((s.bank b).core.sensor 12).broken.isNone && ((s.bank b).core.sensor 13).broken.isNone
    && !((s.bank b).core.sensor 12).circuit && !((s.bank b).core.sensor 13).circuit
    && decide (-550 ≤ r1) && decide (r1 ≤ 2000) && decide (-550 ≤ r2) && decide (r2 ≤ 2000)
def bankThermalWarning (s : State) (b : Nat) (r1 r2 : Int) : Bool :=
  refs s b r1 r2 && decide ((s.bank b).core.thermal = .normal) && decide ((s.bank b).core.warnAt ≤ max r1 r2)
def bankThermalNormal (s : State) (b : Nat) (r1 r2 : Int) : Bool :=
  refs s b r1 r2 && decide ((s.bank b).core.thermal = .warning) && decide (max r1 r2 < (s.bank b).core.warnAt - 50)
def bankSheddingEnter (s : State) (b : Nat) (r1 r2 : Int) : Bool :=
  refs s b r1 r2 && (decide ((s.bank b).core.thermal = .warning) || decide ((s.bank b).core.thermal = .normal))
    && decide ((s.bank b).core.shedAt ≤ max r1 r2)
def bankSheddingLeave (s : State) (b : Nat) (r1 r2 : Int) : Bool :=
  refs s b r1 r2 && decide ((s.bank b).core.thermal = .shedding) && decide (max r1 r2 < (s.bank b).core.shedAt)
def bankThermalTrip (s : State) (b : Nat) (r1 r2 : Int) : Bool :=
  refs s b r1 r2 && decide ((s.bank b).core.thermal ≠ .tripped) && decide (1700 ≤ max r1 r2)
def bankTripLeave (s : State) (b : Nat) (r1 r2 : Int) : Bool :=
  refs s b r1 r2 && decide ((s.bank b).core.thermal = .tripped) && decide (max r1 r2 < 1550)
def bankShedHoldClear (s : State) (b : Nat) : Bool := bankRuns s b && (s.bank b).core.silent && elapsed (s.bank b).core.coolFrom 10000000000 s.now

/-- The wire model of a channel one update later (R186, R187): rise + (rated rise times the square of the lane's share of the rated current, less
the rise) / tau. -/
def wireRiseAfter (s : State) (ch ua : Nat) : Rat :=
  let v := (s.chan ch).cfg.prot
  let x : Rat := ((ua + staleMargin s ch : Nat) : Rat) * v.share / (1000 * v.wireI)
  (s.chan ch).sense.wireRise + ((v.wireRise : Rat) * (x * x) - (s.chan ch).sense.wireRise) / v.wireTau

/-! ## Links -/

def downlinkFrameSend (s : State) (b : Nat) : Bool :=
  decide (b < 4) && s.shaped && s.hub.shaped && s.hub.runtimeOn && decide ((s.hub.link b).sentIn ≠ some (s.now / 50000)) && decide (12500 * b ≤ s.now % 50000)

/-- A frame that reached the bank 12.8 microseconds or more after its start (R21). -/
def arrived (s : State) (b : Nat) (f : DownFrame) : Bool := bankRuns s b && decide ((s.bank b).down = some f) && decide (f.startAt + 12800 ≤ s.now)
def bankUplinkSend (s : State) (b : Nat) : Bool := bankRuns s b && elapsed (s.bank b).detected 25000 s.now
def uplinkArrived (s : State) (b : Nat) (f : UpFrame) : Bool :=
  decide (b < 4) && s.shaped && s.hub.shaped && decide ((s.bank b).up = some f) && decide (f.startAt + 12800 ≤ s.now)

/-- A command on the link was first sent 1 ms ago or longer (R22). -/
def stale (s : State) (r : LinkReq) : Bool := elapsed r.first 1000000 s.now
def holdTimerExpiry (s : State) (b : Nat) : Bool :=
  bankRuns s b && !(s.bank b).core.restartHold && elapsed (s.bank b).core.holdFrom ((s.bank b).core.holdTime * 1000000) s.now
def restartHoldExpiry (s : State) (b : Nat) : Bool := bankRuns s b && (s.bank b).core.restartHold && elapsed (s.bank b).core.holdFrom 150000000 s.now

/-! ## Hub -/

/-- No request, snapshot, stop or migration waits for what a bank acknowledges. -/
def idle (s : State) : Bool :=
  s.hub.run.waiting.isEmpty && s.hub.run.snapWait.isEmpty && s.hub.run.stop.isNone && decide (s.hub.run.migration.result ≠ 2)

/-- The frame only brings telemetry of a claimed bank: no message, no report of a schedule, no discard, and nothing waits for it. -/
def telemetry (s : State) (b : Nat) (f : UpFrame) : Bool :=
  uplinkArrived s b f && s.hub.runtimeOn && s.hub.present b && !f.first && f.msgs.isEmpty && f.schedRan.isEmpty
    && decide ((s.hub.link b).newDiscards f.discards = 0) && idle s && decide (s.hub.serviceOf b ≠ .isolating)

def commandGiveUp (s : State) (b : Nat) : Bool :=
  decide (b < 4) && s.hub.shaped && s.hub.runtimeOn && (s.hub.link b).queue.any (stale s) && idle s && !(s.hub.serviceOf b).underway

/-- Times of the frames of a bank that were discarded within the last second (R21). -/
def recentDiscards (s : State) (b : Nat) : List Nat := (s.hub.link b).discards.filter fun t => decide (s.now ≤ t + 1000000000)

/-- A bank whose LIMP lands have these voltages starts in glide (R53, R234). -/
def startsInGlide (own shared : Nat) : Bool := decide (limpBand own = some .asserted) || decide (limpBand shared = some .asserted)

/-- The hub keeps no order of reset already begun (R81). -/
def fresh (s : State) : Bool := s.pwr.vcore && decide (s.hub.phase ≠ .held) && decide (s.hub.phase ≠ .settling) && decide (s.hub.phase ≠ .noClock)

/-- A bank that answers, runs and is not claimed. -/
def bankClaim (s : State) (b : Nat) (c : BankCore) : Bool :=
  decide (b < 4) && s.hub.shaped && s.hub.runtimeOn && s.hub.free && !s.hub.present b && decide ((s.hub.link b).heard = some c) && c.running

/-- Every bank has been claimed, or has not answered for two link cycles. -/
def dictionaryReady (s : State) : Bool := decide (s.hub.phase = .claiming) && s.claimsDone

/-- No further item of the store waits, and no flush is under way. -/
def storeCalm (s : State) : Bool :=
  decide (s.hub.windowCode = 0) && !s.hub.flushing && !s.hub.run.store.again && !s.hub.run.store.deferred && s.hub.run.store.rewrite.isEmpty
    && s.hub.run.stop.isNone

/-- Values accepted by now for objects that act at a lap boundary (R41). -/
def boundaryDue (s : State) : Values :=
  s.hub.run.accepted.filter fun e => match rowOf s.rtVersion (e.1 / 256) (e.1 % 256) with
    | some r => decide (r.eff = .l)
    | none => false

/-- Values in force after the lap boundary is applied: those that had been accepted when it came (R41). -/
def boundaryValues (s : State) : Values := s.hub.run.boundary.values.foldl (fun v e => Values.put v e.1 e.2) s.hub.run.inForce

/-- The hub with the values of the boundary in force. -/
def boundaryHub (s : State) : Hub := { s.hub with run := { s.hub.run with inForce := boundaryValues s } }

/-- A lap boundary at which only values come into force: no commit, service request, migration or stop waited for it, no team is there or called for,
and the vote stays. -/
def boundary (s : State) : Bool :=
  s.hub.serving && s.hub.lap.boundaryDue && !s.hub.run.boundary.commit && !s.hub.run.boundary.service && !s.hub.run.boundary.migration
    && s.hub.run.stop.isNone && decide (s.hub.run.team.mode = .none) && decide ((boundaryHub s).act 0x6000 1 0 ≠ 1)
    && decide ((boundaryHub s).lapCfg.vote = s.hub.lapCfg.vote)

def restartHoldAckTimeout (s : State) (x : Stop) : Bool :=
  s.hub.serving && decide (s.hub.run.stop = some x) && x.announced && x.kind.holds && elapsed x.since 1000000 s.now && !s.hub.holdTaken x

/-! ## Faults, shedding, MRAM window -/

/-- A group S source other than the one that resets the hub. -/
def acceptsS (s : State) (source kind : Nat) : Bool :=
  s.hub.outOfReset && s.hub.shaped && decide (source < 0x40) && !reservedSource source && decide (kind ≠ 0) && decide (source ≠ 0x30)
def acceptsD (s : State) (source kind : Nat) : Bool :=
  s.hub.outOfReset && s.hub.shaped && decide (0x40 ≤ source) && decide (source < 0x5B) && decide (kind ≠ 0)

/-- The grace of a standing fault that is not acknowledged has run out while the runtime serves (R297). -/
def escalates (s : State) (source : Nat) : Bool :=
  s.hub.serving && s.hub.shaped && decide (source < 0x40) && s.hub.collector.status.getLsbD source && !s.hub.collector.acked.getLsbD source
    && elapsed (s.hub.collector.source source).graceAt 0 s.now

/-- First step of the source's escalation (Table 10-9). -/
def firstStep (s : State) (source : Nat) : Nat := startStep source (s.hub.owner (s.hub.collector.source source).address).isSome

def shedGroup (s : State) (b : Nat) (c : BankCore) : Bool :=
  decide (b < 4) && s.hub.serving && s.hub.free && s.hub.shaped && decide (s.hub.view b = some c) && decide (c.thermal = .shedding)
    && decide (s.hub.run.shedDue.getD b 0 ≤ s.now) && !(s.hub.shedCandidates b).isEmpty
def restoreGroup (s : State) (b : Nat) (c : BankCore) : Bool :=
  decide (b < 4) && s.hub.serving && s.hub.free && s.hub.shaped && decide (s.hub.view b = some c) && elapsed c.coolFrom 10000000000 s.now
    && decide (s.hub.run.shedDue.getD b 0 ≤ s.now)

/-! ## Laps, schedules, capture, watchdog -/

/-- One of the two zero-cross inputs. -/
def zx (l : Lap) (input : Nat) : ZxInput := if input = 0 then l.zxa else l.zxb

def zxEdge (s : State) (input : Nat) (level : Bool) (at_ : Nat) : Bool :=
  (s.pwr.vio || !level) && decide (input < 2) && decide (at_ + 1000 * s.hub.lapCfg.filterUs ≤ s.now)

/-- A vote is complete in Locked, and its crossing is v. -/
def lockedVote (s : State) (v : Vote) : Bool :=
  s.hub.serves && s.hub.lap.voteDue s.hub.lapCfg s.now && decide (s.hub.lap.mode = .locked) && decide (s.hub.lap.vote s.hub.lapCfg = some v)

/-- Phase error of a voted crossing (R255). -/
def phaseError (s : State) (v : Vote) : Int := lapError v.time (s.hub.lap.predicted v.time).1 s.hub.lap.period

/-- The crossing is inside the gate (R256). -/
def inGate (s : State) (v : Vote) : Bool := decide (((phaseError s v).natAbs : Int) ≤ s.hub.lapCfg.gate)

/-- The period that follows from the crossing (R255). -/
def nextPeriod (s : State) (v : Vote) : Rat := (loopUpdate s.hub.lapCfg s.hub.lap.period (clipTo (phaseError s v) s.hub.lapCfg.dist)).1

def gateEnds (s : State) : Bool :=
  s.hub.serves && decide (s.hub.lap.mode = .locked) && !s.hub.lap.crossedNow && !s.hub.lap.gatePending s.hub.lapCfg
    && decide (s.hub.lap.originAt + s.hub.lapCfg.gateNs s.hub.lap.period ≤ s.now)
def lapOrigin (s : State) : Bool := s.hub.serves && decide (s.hub.lap.nextOrigin ≤ s.now)

/-- A schedule is armed on a lane that no team governs, and the runtime may command banks. -/
def scheduleArmed (s : State) (lane : Nat) : Bool :=
  s.hub.serving && s.hub.free && s.hub.shaped && decide (lane < 48) && decide ((s.hub.schedule lane).status = 1) && !(s.hub.schedule lane).governed

/-- It may be resolved in this cycle, which has room (Table 09-5), and to a bank that is there. -/
def scheduleDue (s : State) (lane : Nat) : Bool := scheduleArmed s lane && s.hub.mayResolve s.cycle && !(s.hub.laneBanks lane).isEmpty

/-- The half-lap window that has ended last is that of a lap, the second half or not, and the lane's banks are there and have not reported it (R270). -/
def syncWindow (s : State) (lane : Nat) (currents unblanked : List Nat) (lap : Nat) (second disturbed stepped : Bool) : Bool :=
  s.hub.serving && s.hub.shaped && decide (lane < 48) && s.hub.senseSync lane && decide (currents.length = (s.hub.chansOf lane).length)
    && decide (unblanked.length = (s.hub.chansOf lane).length) && (banksOf (s.hub.chansOf lane)).all s.hub.present
    && decide (s.hub.lap.window s.now = some (lap, second, disturbed, stepped)) && decide ((s.hub.run.sync.getD lane {}).reported ≠ some (lap, second))

def captureStart (s : State) (t : Rat) : Bool :=
  s.hub.serves && decide (s.hub.capture.mode = .armed) && decide (s.hub.lap.timeOf 0 s.hub.capture.phase = some t)
    && decide (((s.hub.capture.armedAt + s.hub.capture.leadNs : Nat) : Rat) ≤ t) && decide (t ≤ s.now)
def captureSample (s : State) : Bool :=
  s.hub.serves && decide (s.hub.capture.mode = .running)
    && decide (s.hub.capture.startAt + (s.hub.capture.written + 1) * s.hub.capture.interval * 1000 ≤ s.now)

/-- The value of a sample (Table 09-4). -/
def sampleOf (s : State) (mean : Nat) : Nat :=
  if (s.chan s.hub.capture.channel).io.on then
    roundDiv mean (q7Unit (classOf s.hub.capture.channel) (s.chan s.hub.capture.channel).cfg.io.led) else 0

/-- A window of the serial watchdog ended without a token. -/
def windowMissed (s : State) : Bool :=
  s.hub.serving && decide (s.hub.run.dog.mode = .armed) && decide (s.hub.run.dog.windowAt + s.hub.run.dog.span < s.now)
/-- A second one did too. -/
def windowMissedTwice (s : State) : Bool := decide (s.hub.run.dog.windowAt + s.hub.run.dog.span + s.hub.run.dog.span < s.now)

/-- W has been sent on the links of every bank that is present (R242). -/
def forcesAll (t : State) (b : Nat) : Bool :=
  (List.range 12).all fun p => (t.hub.link b).queue.any fun r => decide (r.cmd.cmd = .setW p true)

/-! ## Time -/

/-- Offset of domain P from a reference of the first domain: the origin of a Sync and the path delay of its port (R323, R328). -/
def offsetP (s : State) (n origin : Nat) : Int := (s.hub.time.pNs : Int) - (origin + s.hub.time.pathDelay s.hub.timeCfg n : Nat)

/-- A Sync of the grandmaster of the first domain, on the port on which it is heard (R326). -/
def gptpSync (s : State) (n interval : Nat) : Bool := s.hub.runtimeOn && s.hub.gptpPort n && decide (interval ≠ 0) && s.hub.time.follows false n

/-- The same of the second domain, which is on. -/
def secondSync (s : State) (n interval : Nat) : Bool :=
  s.hub.runtimeOn && s.hub.gptpPort n && decide (interval ≠ 0) && s.hub.timeCfg.secondOn && s.hub.time.follows true n

/-- The servo's answer to a sample (R323). -/
def servoOut (s : State) (n origin interval : Nat) : ServoOut := s.hub.time.servo.sample s.hub.timeCfg.servo (offsetP s n origin) interval

/-- An Announce counts on a port, for a domain that is on. -/
def hears (s : State) (n : Nat) (second : Bool) : Bool :=
  s.hub.runtimeOn && s.hub.gptpPort n && (!second || s.hub.timeCfg.secondOn) && decide (s.hub.timeCfg.announceS ≠ 0)

/-- The vector announced is better than that of every other candidate, and than the unit's own where it may be grandmaster (R326, R331). -/
def announced (s : State) (n : Nat) (second : Bool) (vector : Nat) : Bool :=
  hears s n second && !(s.hub.time.capable && decide (s.hub.time.ownVector s.hub.timeCfg ownMac < vector))
    && ((s.hub.time.domain second).live s.hub.timeCfg s.now).all fun y => decide (y.vector % 2 ^ 64 = vector % 2 ^ 64) || decide (vector < y.vector)

/-- Domain P loses its reference, and goes into holdover (R334, R335). -/
def losesReference (s : State) : Bool :=
  !s.hub.time.hostOwned && decide (s.hub.time.state ≠ .unset) && decide (s.hub.time.state ≠ .free) && s.hub.time.lostAt.isNone && !s.hub.baton

def syncTimeout (s : State) (second : Bool) : Bool :=
  s.hub.runtimeOn && !s.hub.ownMaster second && !(s.hub.time.domain second).timeout
    && elapsed (s.hub.time.domain second).lastSync (s.hub.timeCfg.syncCount * (s.hub.time.domain second).intervalNs) s.now

/-- The grandmaster of a domain, another unit, has not announced itself in time (R329). -/
def announceTimeout (s : State) (second : Bool) (g : Nat) : Bool :=
  s.hub.runtimeOn && decide ((s.hub.time.domain second).grandmaster = some g) && !s.hub.ownMaster second
    && !((s.hub.time.domain second).live s.hub.timeCfg s.now).any fun x => decide (x.vector % 2 ^ 64 = g % 2 ^ 64)

/-- Path delay of a port, and whether it measures. -/
def pathDelay (t : TimeDomains) (n : Nat) : PathDelay := if n = 0 then t.path0 else t.path1
def measures (s : State) (n : Nat) : Bool := decide ((if n = 0 then s.hub.timeCfg.mode0 else s.hub.timeCfg.mode1) = 0)

/-- The frames that GPTP_ANNOUNCE_SEND queues: the Announce of the first domain, after its grandmaster has been selected, and the same of the second one
where it is on. -/
def announceFrames (s : State) (n : Nat) : List (List Byte) :=
  let a := s.selectMaster false
  let b := (a.onHub fun h => h.sendGptp n (announceKind false) s.now [h.announceFrame n false]).selectMaster true
  a.hub.announceFrame n false :: if s.hub.timeCfg.secondOn then [b.hub.announceFrame n true] else []

/-! ## Network -/

/-- Q3 holds sixteen descriptors and its indices are in range. -/
def q3Shaped (s : State) : Bool := decide (s.hub.net.q3.slots.length = 16) && decide (s.hub.net.q3.prod < 16)

/-- The head is converted, neither eligible nor waiting for its lap, and its launch has come within 40 ns (R346). -/
def launches (s : State) (h : Q3Head) : Bool :=
  s.hub.serves && decide (s.hub.net.q3Head = some h) && h.eligible.isNone && h.lapAt.isNone
    && decide (h.launch ≤ (s.hub.time.p : Int) + 40 * pUnit)

/-- The eligible head waits beyond its medium wait tolerance. -/
def headWaits (s : State) (d : Nat) (h : Q3Head) : Bool :=
  s.hub.serves && q3Shaped s && decide (s.hub.net.q3Front = some d) && decide (s.hub.net.q3Head = some h) && decide (q3Tolerance d ≠ 0)
    && elapsed h.eligible (q3Tolerance d * 10000) s.now

/-- No head stands, and a Q3 frame between two attempts on port 0 waits beyond its tolerance. -/
def retryWaits (s : State) (k : Nat) : Bool :=
  s.hub.serves && s.hub.net.q3Head.isNone && decide (s.hub.net.overdueQ3 0 s.now = some k)

/-- The Q4 head. -/
def q4Front (s : State) : Option Nat := if s.hub.net.q4.prod = s.hub.net.q4.cons then none else s.hub.net.q4.slots[s.hub.net.q4.cons]?

/-- What the Q4 head's buffer begins with. -/
def q4Data (s : State) (d : Nat) : List Byte := s.txData (q4Buffer d) 20

/-- Egress ports of a Q4 descriptor that run (Table 12-5). -/
def q4Ports (s : State) (d : Nat) : List Nat :=
  (match q4Egress d with | 0 => [0] | 1 => [1] | 2 => [0, 1] | _ => s.hub.net.lookup2 s.hub.netCfg (netNat (q4Data s d) 0 6)).filter
    fun p => (s.hub.net.port p).running

def q4Head (s : State) (d : Nat) : Bool := s.hub.serves && decide (q4Front s = some d) && decide (s.hub.net.q4.slots.length = 32)

/-- A transmit opportunity of a port, of node ID `id` in the PLCA cycle; without PLCA, medium access (R356, R357, R365). -/
def opportunity (s : State) (n id : Nat) : Bool :=
  s.hub.serves && decide (n < 2) && (s.hub.net.port n).running && (s.hub.net.port n).current.isNone
    && (!s.hub.net.plcaActive s.hub.netCfg n || s.hub.net.hasTurn s.hub.netCfg n id)
def transmitting (s : State) (n : Nat) (cur : TxCurrent) : Bool := s.hub.serves && decide (n < 2) && decide ((s.hub.net.port n).current = some cur)

/-- Further frames that a transmit opportunity allows (R365). -/
def burstOf (s : State) (n : Nat) : Nat := if s.hub.net.plcaActive s.hub.netCfg n then (s.hub.netCfg.port n).burst else 0

/-- A follower of a running PLCA port (R357). -/
def follower (s : State) (n : Nat) : Bool :=
  s.hub.serves && decide (n < 2) && (s.hub.net.port n).running && (s.hub.netCfg.port n).plca && !(s.hub.netCfg.port n).coordinator

def receives (s : State) (n : Nat) : Bool := s.hub.serves && decide (n < 2) && (s.hub.net.port n).running

/-- A frame without its FCS. -/
def frameData (frame : List Byte) : List Byte := frame.take (frame.length - 4)

/-- A frame to the own address or to all that port 2 accepts (Table 12-2, R364). -/
def forMe (s : State) (frame : List Byte) : Bool :=
  ingressOk frame false && !linkLocal (netNat (frameData frame) 0 6) && acceptsTag s.hub.netCfg (frameData frame)
    && (decide (netNat (frameData frame) 0 6 = broadcastMac) || decide (netNat (frameData frame) 0 6 = s.hub.netCfg.ownMac))

/-- Errors of a port within the last second (R360). -/
def recentErrors (s : State) (n : Nat) : List Nat := (s.hub.net.port n).errorTimes.filter fun t => decide (s.now < t + 1000000000)

/-- Bytes of the frame at the classify index, and what it is to the runtime. -/
def q5Data (s : State) : List Byte :=
  s.readBuf (rxBase s.hub.net.classify) (field (s.hub.net.q5.slots.getD s.hub.net.classify 0) 32 16)
def q5Item (s : State) : Option NetItem := s.hub.itemOf (q5Data s) (s.hub.net.q5At.getD s.hub.net.classify 0)
def q5Waits (s : State) : Bool :=
  s.hub.taking && decide (s.hub.net.classify ≠ s.hub.net.q5.prod) && decide (s.hub.net.classify < 64) && decide (s.hub.net.q5.slots.length = 64)

/-- Nothing that was classified before is left unread. -/
def q5Free (s : State) : Bool := q5Waits s && decide (s.hub.net.q5.cons = s.hub.net.classify) && s.hub.q5Held.isEmpty

/-- An unread entry for the host is at the consumer index, before the entry that is classified next (R376). -/
def q5Behind (s : State) : Bool :=
  let n := s.hub.net
  q5Waits s && decide (n.q5.cons < 64) && decide (n.q5.cons ≠ n.classify) && decide (inUse n.classify n.q5.cons 64 < 63)
    && decide (field (n.q5.slots.getD n.q5.cons 0) 53 2 = 2)
    && s.hub.q5Held.all fun e => decide (inUse e.1 n.q5.cons 64 < inUse n.classify n.q5.cons 64)

/-! ## Writes -/

/-- Session k may write v to an object: the runtime takes requests, the session is open and may write the object, and v is a value of the object's
length and range (R39, R391, R407). -/
def mayWrite (s : State) (k idx sub v : Nat) : Bool :=
  s.hub.taking && decide (s.hub.writerCode k = 0) &&
    match rowOf s.rtVersion idx sub with
    | some r => decide (s.accessCode { session := k, arrival := s.now } r idx sub = 0) && decide (r.size ≤ 32) && decide (v < 256 ^ r.size) && r.rng.ok v
    | none => false

/-- The same for a value given as its bytes. -/
def mayWriteBytes (s : State) (k idx sub : Nat) (data : List Byte) : Bool :=
  mayWrite s k idx sub (leNat data) &&
    match rowOf s.rtVersion idx sub with
    | some r => decide (data.length = r.size)
    | none => false

/-- The write was accepted, and answered at once. -/
def accepted (t : State) : Prop := t.hub.lastReply = [0#8, 0#8, 0#8, 0#8]

/-- The write was refused with an abort code. -/
def refused (t : State) (code : Nat) : Prop := t.hub.lastReply = responseBody code []

/-- The write waits for banks to acknowledge. -/
def awaited (s t : State) (k : Nat) : Prop :=
  t.hub.run.waiting.length = s.hub.run.waiting.length + 1 ∧ (t.hub.run.waiting.getLast?.map fun w => w.origin.session) = some k

/-- The value an object has been given. -/
def given (t : State) (idx sub v : Nat) : Prop := t.hub.run.accepted.get? (objKey idx sub) = some v

/-- A command stands on the link of a bank. -/
def onLink (t : State) (b : Nat) (c : BankCmd) : Bool := (t.hub.link b).queue.any fun r => decide (r.cmd.cmd = c)

/-- The command of every channel of a list stands on the link of its bank, where that bank is present. -/
def onLinks (s t : State) (chans : List Nat) (c : Nat → BankCmd) : Prop := ∀ ch ∈ chans, s.hub.present (ch / 12) = true → onLink t (ch / 12) (c (ch % 12)) = true

/-- A lane command is allowed (R27, R123, R129, R459, R493), and a bank is there to take it. -/
def laneFree (s : State) (lane : Nat) (d : Drive) : Bool :=
  decide (lane < 48) && s.hub.shaped && decide (s.hub.commandRefusal lane d = 0) && !s.hub.migrating lane && decide (s.hub.needsBank lane = 0)
    && !(decide (s.hub.command lane = .off) && decide (d ≠ .off) && (s.hub.governed lane).isSome)

/-- No lane takes its values from a user slot (R142). -/
def slotFree (s : State) (slot : Nat) : Bool := decide (slot < 16) && !(List.range 48).any fun n => s.hub.slotOf n == some slot

/-- A lane may be unlocked (R178). -/
def unlockable (s : State) (lane : Nat) : Bool :=
  decide (lane < 48) && s.hub.shaped && decide (s.hub.needsBank lane = 0) && decide (s.hub.command lane = .off)
    && !(s.hub.chansOf lane).any s.hub.chanOn && !s.hub.anySeen lane (fun _ _ x => decide (500 * x.cfg.prot.budget ≤ x.clamp.energy))

/-- The banks of a list of channels are present, and none of the channels is held by W or X (R231, R232). -/
def releasable (s : State) (chans : List Nat) : Bool :=
  (banksOf chans).all s.hub.present && !chans.any fun ch => match s.hub.viewChan ch with | some x => x.io.w || x.io.x | none => false

/-- A release was accepted and left commands and links as they were. -/
def releasedNothing (s t : State) : Prop := accepted t ∧ t.hub.links = s.hub.links ∧ t.hub.run.accepted = s.hub.run.accepted

/-- A lane with a channel, of which a bank is there. -/
def laneThere (s : State) (lane : Nat) : Bool :=
  decide (lane < 48) && s.hub.shaped && !(s.hub.chansOf lane).isEmpty && !(s.hub.laneBanks lane).isEmpty

/-- A schedule of the lane may be armed, at a lap and a time (R264), and the lane is not governed. -/
def armable (s : State) (lane : Nat) (d : Drive) (lap : Nat) (t : Rat) : Bool :=
  decide (lane < 48) && s.hub.shaped && !(s.hub.chansOf lane).isEmpty && !(decide (d = .follow) && s.hub.noInput lane)
    && !s.hub.migrating lane && decide (s.hub.armTarget lane s.now = some (lap, t))
    && !((s.hub.governed lane).isSome && decide (s.hub.command lane = .off) && decide (d ≠ .off))

/-- Its target is less than 2 ms away, and the cycle has room to resolve it at once (R265, R276). -/
def resolvable (s : State) (t : Rat) : Bool := decide (t ≤ ((s.now + 2000000 : Nat) : Rat)) && s.hub.mayResolve s.cycle

/-- The serial watchdog is armed and owned by the session, and no window has ended without a token. -/
def dogOwned (s : State) (k : Nat) : Bool :=
  decide (s.hub.run.dog.mode = .armed) && decide (s.hub.run.dog.owner = k) && decide (s.now ≤ s.hub.run.dog.windowAt + s.hub.run.dog.span)

/-- Clearing a source writes its journal records without loss, so that no fault follows from the clear itself. -/
def clearsQuietly (s : State) (i : Nat) : Bool :=
  (decide (i ≠ 0x4A) && decide (i ≠ 0x4E)) || decide (s.hub.run.shadow.length + (s.hub.collector.source i).scopes.length + 1 ≤ 128)

/-- The fault of a source stands at its ceiling, unacknowledged, with no timer and no step that fell due (R301). -/
def waitsAtCeiling (s : State) (source : Nat) : Prop :=
  s.hub.collector.status.getLsbD source = true ∧ s.hub.collector.acked.getLsbD source = false ∧ (s.hub.collector.source source).graceAt = none
    ∧ (s.hub.collector.source source).due = none

/-- A service request of a bank is valid, and none of another bank waits (R435, R488). -/
def serviceFree (s : State) (b code : Nat) : Bool :=
  decide (b < 4) && (s.hub.present b || decide (s.hub.serviceOf b = .resetting)) && s.hub.serviceValid b code
    && (match s.hub.run.serviceReq with | some (k, _) => decide (k = b) | none => true) && !s.hub.patchWaits

/-- Objects that take a value without more. -/
def plainObject (idx sub : Nat) : Bool :=
  [(0x2000, 1), (0x2040, 2), (0x2041, 1), (0x2044, 1), (0x4002, 1), (0x5000, 1), (0x7000, 2), (0x7001, 7)].contains (idx, sub)

/-- MRAM can be written now: the window is open and no item is being written (R215, R475). -/
def mramFree (s : State) : Bool := decide (s.hub.windowCode = 0) && !s.hub.run.store.writing

/-- Nothing is in the way of a write of the store (R216, R472, R474). -/
def storeFree (s : State) : Bool := mramFree s && !s.hub.flushesRecords

/-- A value that a user slot admits (R142). -/
def slotValue (s : State) (slot sub v : Nat) : Bool :=
  !(decide (sub = 1) && decide (8 < v)) && !(decide (4 ≤ sub) && decide (sub < 0xC) && !limitInRange (s.hub.val (0x3800 + slot) 2 0) v)
    && !(decide (sub = 2) && (decide (1 < v) || !(List.range 8).all fun i => limitInRange v (s.hub.val (0x3800 + slot) (4 + i) 100)))

/-- A migration may start (R435, R493). -/
def migrationFree (s : State) : Bool :=
  let lane := s.hub.val 0x7005 1 0
  decide (s.hub.run.migration.result ≠ 1) && decide (s.hub.run.migration.result ≠ 2) && decide ((s.hub.schedule lane).status ≠ 1)
    && decide ((s.hub.schedule lane).status ≠ 2) && !s.hub.run.commitWait && !s.hub.patchWaits
    && decide (s.hub.migrationCheck lane (s.hub.val 0x7005 2 0xFFFF) = 0)

/-- An activation may be planned (R433, R484). -/
def activateFree (s : State) : Bool :=
  !s.hub.patchWaits && decide (s.hub.run.slotState.getD s.hub.idleSlot 0 = 3) && !s.hub.shadowed && s.hub.run.serviceReq.isNone
    && decide (s.hub.run.migration.result ≠ 1) && decide (s.hub.run.migration.result ≠ 2) && !s.hub.run.commitWait

/-! ## Requests -/

/-- A well formed request of a service (R391). -/
def asks (q : Request) (c : Nat) : Bool :=
  q.formed && decide (q.version = 1) && !q.reserved && decide (q.service = c)

/-- A request of a service without a session, with a body of its length. -/
def asksFree (q : Request) (c len : Nat) : Bool :=
  asks q c && decide (q.session = 0xFF) && !q.tagged && decide (q.body.length = len)

/-- A new request of an open session, verified and within the requests it may have outstanding (R391, R398, R399, R405, R406). -/
def asksIn (s : State) (q : Request) (c : Nat) (role : Role) : Bool :=
  let x := s.hub.session q.session
  asks q c && s.hub.shaped && s.hub.bound q && decide (x.mode = (if c = 3 then .waiting else .opened))
    && !(decide (c = 3) && decide (x.openedAt + 1000000000 < q.at_)) && s.hub.verified x q && (x.repeated q).isNone
    && !(x.history.any fun e => decide (e.seq = q.seq)) && decide (x.outstanding < outstandingMax s.rtVersion) && x.may role

/-- The state once the request has been taken (R399, R403, R406). -/
def taken (s : State) (via : Transport) (q : Request) : State :=
  ((s.onHub fun h => h.pop via).onHub fun h => h.onSession q.session fun x => { x with failures := 0, lastUsed := s.now }).onHub fun h =>
    h.onSession q.session fun x => x.takeIn q

/-- The request has left its queue. -/
def consumed (s t : State) (via : Transport) : Prop := t.hub.net.q0 = (s.hub.pop via).net.q0 ∧ t.hub.inbox = (s.hub.pop via).inbox

/-- The response carries status 0 and these fields (R389). -/
def answered (t : State) (fields : List Byte) : Prop := t.hub.lastReply = [0#8, 0#8, 0#8, 0#8] ++ fields

/-- Object that a READ, WRITE or segment names. -/
def askedIdx (q : Request) : Nat := leField q.body 0 2
def askedSub (q : Request) : Nat := leField q.body 2 1

/-- Queue, first entry and number of entries of a queue access. -/
def askedQueue (q : Request) : Nat := leField q.body 0 1
def askedFirst (q : Request) : Nat := leField q.body 2 2
def askedCount (q : Request) : Nat := leField q.body 4 2

/-- Address of a buffer access (R410). -/
def askedBuffer (q : Request) : Option Nat := bufferAt (leField q.body 0 1) (leField q.body 1 1) (leField q.body 2 2) (leField q.body 4 2)

/-! ## Teams -/

/-- The oldest team frame of the inbox is of this type, and the unit is in a team. -/
def teamFrame (s : State) (type mac num : Nat) (body : List Byte) : Bool :=
  s.hub.shaped && s.hub.inTeam && decide (num < 8)
    && (match s.teamFrame type with
        | some fr => decide (fr.mac = mac) && decide (fr.num = num) && decide (fr.body = body)
        | none => false)

/-- A member of the team other than the unit itself. -/
def member (s : State) (m : Nat) : Bool := s.hub.serving && s.hub.shaped && s.hub.inTeam && decide (m < 8)

/-- Winner of an election held with some units excluded (R445). -/
def winner (s : State) (excluded : List Nat) : Option Nat :=
  lowestBy s.hub.keyOf ((s.hub.eligible s.now).filter fun m => !excluded.contains m)

/-- The formation window is over (R445). -/
def windowOver (s : State) : Bool :=
  s.hub.serving && decide (s.hub.run.team.mode = .forming) && s.hub.run.team.claimBy.isNone
    && (decide (s.hub.run.team.windowAt + 2 * s.hub.memberTimeout ≤ s.now)
        || decide (s.hub.act 0x6000 4 2 ≤ (s.hub.heardUnits s.now).length + 1))

/-- The winner of an election has not claimed pacer in time (R445). -/
def claimLate (s : State) : Bool :=
  s.hub.serving && elapsed s.hub.run.team.claimBy 0 s.now
    && decide (s.hub.run.team.mode = .forming ∨ s.hub.run.team.mode = .member ∨ s.hub.run.team.mode = .outOfAgreement)

/-- Frame of the unit's STATUS (Table 16-3). -/
def statusFrame (s : State) : List Byte :=
  let s := s.onHub fun h => h.onTeam fun t => { t with lastRef := h.refIdentity }
  etherFrame teamMac none 0x88B5 (s.hub.teamPayload 1 s.statusBody)

/-- Frame of a JOIN. -/
def joinFrame (s : State) : List Byte := etherFrame teamMac none 0x88B5 (s.hub.teamPayload 2 s.joinBody)

/-- A frame of the runtime waits in class 1 of every port that runs. -/
def sentOnPorts (s t : State) (frame : List Byte) : Prop :=
  ∀ i, i < 2 → (s.hub.net.port i).running = true → ((t.hub.net.port i).class1.any fun f => decide (f.data = frame)) = true

/-- A proposal as its frame tells it (Table 16-2). -/
def proposalOf (s : State) (num : Nat) (body : List Byte) : Proposal :=
  { member := num, id := leField body 0 2, lane := leField body 2 1, cmd := leField body 3 1, target := s.hub.timeOf body 4
    budget := leField body 12 1, current := leField body 16 4, arrival := s.hub.run.team.arrivals }

/-- The unit, if it is pacer, is still eligible and so does not yield (R446, R447). -/
def stays (s : State) : Bool := decide (s.hub.run.team.mode ≠ .pacer) || (s.hub.eligible s.now).contains s.hub.ownNumber

/-- The state once the oldest team frame has been taken and its sender counts as heard. -/
def heardFrom (s : State) (mac num : Nat) : State :=
  (s.onHub fun h => h.takeItem NetItem.isTeam).onHub fun h =>
    if (h.member num).mac = mac then h.onMember num fun x => { x with heardAt := some s.now, lastAt := some s.now } else h

/-- The pacer stays pacer when it has heard the frame. -/
def leads (s : State) (mac num : Nat) : Bool := decide (s.hub.run.team.mode = .pacer) && stays (heardFrom s mac num)

/-- Half a lap, the lead of a publication (R461). -/
def halfLap (s : State) : Nat := lapUnits s.hub.lap.length.ceil.toNat 0x8000

/-- The intent of another unit with this sequence number, not yet committed. -/
def openIntent (s : State) (seq : Nat) : Option Intent :=
  s.hub.run.team.intents.find? fun i => !i.mine && !i.committed && decide (i.seq = seq)

/-- Intents of other units with this sequence number. -/
def intentsOf (s : State) (seq : Nat) : List Intent := s.hub.run.team.intents.filter fun i => !i.mine && decide (i.seq = seq)

/-- Own intents whose commit is due (R462). -/
def dueCommits (s : State) : List Intent :=
  s.hub.run.team.intents.filter fun i => i.mine && !i.committed && !i.barred
    && decide (i.target ≤ s.hub.time.pNs + lapUnits i.lapNs (s.hub.commitLead + 0x0800))
    && decide (s.hub.time.pNs + lapUnits i.lapNs s.hub.commitLead ≤ i.target)

/-- An intent that has passed its commit deadline uncommitted (R464). -/
def lapsed (s : State) (i : Intent) : Bool := !i.committed && decide (i.target ≤ s.hub.time.pNs + lapUnits i.lapNs s.hub.commitLead)

/-- One that still held an entry. -/
def lapsedLive (s : State) (i : Intent) : Bool := lapsed s i && i.entries.any IntentEntry.live

/-- A committed intent at its target (R458). -/
def reached (s : State) (i : Intent) : Bool := i.committed && decide (i.target ≤ s.hub.time.pNs)

/-- The effect of a lane command that the lane's state allows. -/
def laneCommanded (s : State) (k lane : Nat) (d : Drive) (o : Host.Outcome State Fault Refusal) : Prop :=
  ∃ t, o = .next t ∧ Ready.awaited s t k ∧ Ready.given t (laneIdx lane 0) 1 (driveCode d) ∧ t.hub.act (laneIdx lane 0) 1 0 = driveCode d
    ∧ (∀ n, n ≠ lane → t.hub.command n = s.hub.command n)
    ∧ ∀ ch ∈ s.hub.chansOf lane, s.hub.present (ch / 12) = true → ((t.hub.link (ch / 12)).queue.any fun r =>
        decide (r.cmd.cmd = .setNormal (ch % 12) d) && decide (r.cmd.tag = s.tagOf (s.hub.laneBanks lane))) = true

/-- The records of clearing every source find room in the shadow of the journal where the source is one that such a record could raise again. -/
def clearsAllQuietly (s : State) (i : Nat) : Bool :=
  (decide (i ≠ 0x4A) && decide (i ≠ 0x4E))
    || decide (s.hub.run.shadow.length + (s.hub.collector.clearable.map fun j => (s.hub.collector.source j).scopes.length).sum + 1 ≤ 128)

end Sys2Proof.Ready
end

