-- ==== Sys2Proof/Certificates/Slice0/Obligations.lean ====
section
/-! DEFINITION. The statements for the provers, in the order of OBLIGATIONS.json: per family what each command does and that it answers a next
state, then the machine as a whole.  A clause names what its command needs by a condition of Safety.lean on the state and the operands alone, and
says what the next state holds and, where the rules give one, what it leaves unchanged. -/

open Sys2Proof Sys2Proof.Machine

/-! ## Channels and banks -/

/-- A voltage that a LIMP land has had for 100 microseconds classifies it: deasserted below 1.2 V, asserted above 2.8 V to 6.0 V and out of window
above 7.5 V. From 1.2 V to 2.8 V and above 6.0 V to 7.5 V a candidate of 100 microseconds is adopted, and without one the land keeps its class; the
other LIMP class of the bank keeps its value. An accepted edge of a direct input sets the land, and in every bank that sees its inputs the filtered
values of those filter codes whose time the level has been held take the new level while the others keep theirs. A starved channel sense sets the
starved mark, and its end takes it away. Rules: R53, R108, R111. The classes of exactly 2.8 V and exactly 6.0 V are log entry 80 (DESIGN CHOICE). That
the guard of an event in time is met from the earliest moment on is log entry 13 (DESIGN CHOICE). -/
def Obligations.LandsInputsAndStarvation : Prop :=
  (∀ s b land mv held, Ready.limpClassificationAdopt s b held = true → ∃ t, exec (.limpClassificationAdopt b land mv held) s = .next t
    ∧ (mv < 1200 → (t.bank b).core.limpClass land = .deasserted)
    ∧ (1200 ≤ mv → mv ≤ 2800 → (t.bank b).core.limpClass land = Ready.limpKept s b land)
    ∧ (2800 < mv → mv ≤ 6000 → (t.bank b).core.limpClass land = .asserted)
    ∧ (6000 < mv → mv ≤ 7500 → (t.bank b).core.limpClass land = Ready.limpKept s b land)
    ∧ (7500 < mv → (t.bank b).core.limpClass land = .outOfWindow)
    ∧ ∀ other, other ≠ land → (t.bank b).core.limpClass other = (s.bank b).core.limpClass other)
  ∧ (∀ s pin level held, Ready.inEdgeAccept s pin = true → ∃ t, exec (.inEdgeAccept pin level held) s = .next t
    ∧ t.lands.inputs = putBit s.lands.inputs pin level
    ∧ ∀ b code, b < 4 → code < 6 → (s.bank b).core.inputValid = true →
        (t.bank b).core.inputs.getD (6 * pin + code) none
          = if filterTime code ≤ held then some level else (s.bank b).core.inputs.getD (6 * pin + code) none)
  ∧ (∀ s ch without, Ready.senseStarved s ch without = true → ∃ t, exec (.senseStarved ch without) s = .next t ∧ (t.chan ch).sense.starved = true)
  ∧ (∀ s ch interval, Ready.senseStarvedClear s ch interval = true → ∃ t, exec (.senseStarvedClear ch interval) s = .next t
    ∧ (t.chan ch).sense.starved = false)

/-- In a bank that runs, applying the due tagged commands leaves only commands that were waiting and are not due, and a lone due command that sets the
normal state of a channel has set it. A snapshot takes from the list what is due, and copies clamp energy, wire rise, clamp total, clamp events and
trips of all twelve channels. A due schedule that the runtime would still admit sets its channel if the last valid frame was received at most 200
microseconds before its moment, does not act otherwise, and is listed with the result either way; one that the runtime would now refuse is dropped,
listed so, and leaves the channel. Rules: R128, R196, R266. The rounding of the reported rise is log entry 11 (DESIGN CHOICE). -/
def Obligations.CommandsActAtTheirMoment : Prop :=
  (∀ s b, Ready.bankRuns s b = true → ∃ t, exec (.taggedCommandApply b) s = .next t
    ∧ (∀ c ∈ (t.bank b).tagged, c ∈ (s.bank b).tagged ∧ Ready.dueTagged s false c = false)
    ∧ ∀ c p d, p < 12 → (s.bank b).tagged.filter (Ready.dueTagged s false) = [c] → c.cmd = .setNormal p d → (t.chan (12 * b + p)).io.normal = d)
  ∧ (∀ s b, Ready.bankRuns s b = true → ∃ t, exec (.snapshotCapture b) s = .next t
    ∧ (∀ c ∈ (t.bank b).tagged, c ∈ (s.bank b).tagged ∧ Ready.dueTagged s true c = false)
    ∧ ∀ c cycle, (s.bank b).tagged.filter (Ready.dueTagged s true) = [c] → c.cmd = .snapshot cycle →
        (t.bank b).core.snapCycle = max cycle (s.now / 50000)
        ∧ ∀ p, p < 12 → (t.chan (12 * b + p)).snap =
            { energy := (s.chan (12 * b + p)).clamp.energy / 1000, rise := (s.chan (12 * b + p)).reportRise,
              total := (s.chan (12 * b + p)).clamp.total / 1000, events := (s.chan (12 * b + p)).clamp.events,
              trips := (s.chan (12 * b + p)).trip.trips })
  ∧ (∀ s b lane c p d r at_, Ready.bankRuns s b = true → p < 12 → (s.bank b).tagged.filter (Ready.dueSchedule s lane) = [c]
      → c.cmd = .setNormal p d → (s.bank b).core.lastValidRx = some r → c.tag = some at_ → (s.hub.serving && s.hub.scheduleRefused lane) = false →
      ∃ t, exec (.scheduleApply b lane) s = .next t
        ∧ (t.bank b).schedRan = (s.bank b).schedRan ++ [(lane, decide (at_ ≤ r + 200000))]
        ∧ (t.bank b).tagged = (s.bank b).tagged.filter (fun x => !Ready.dueSchedule s lane x)
        ∧ (t.chan (12 * b + p)).io.normal = if at_ ≤ r + 200000 then d else (s.chan (12 * b + p)).io.normal)
  ∧ (∀ s b lane c, Ready.bankRuns s b = true → (s.bank b).tagged.filter (Ready.dueSchedule s lane) = [c] → s.hub.serving = true →
      s.hub.scheduleRefused lane = true → ∃ t, exec (.scheduleApply b lane) s = .next t
        ∧ (t.bank b).schedRan = (s.bank b).schedRan ++ [(lane, false)]
        ∧ (t.bank b).tagged = (s.bank b).tagged.filter (fun x => !Ready.dueSchedule s lane x) ∧ (t.bank b).core = (s.bank b).core)

/-- At a step boundary the window takes the following step. While one follows, the channel stays on and counts no trip. After the last, a channel
whose overload timer has reached its limit and that is not regulating trips with the overload cause, and another stays on. When the freeze limit runs
out, the window runs on in its step with the freeze spent and the channel on. Rules: R137, R155. That the guard of an event in time is met from the
earliest moment on is log entry 13 (DESIGN CHOICE). -/
def Obligations.SprintWindowsStepAndEnd : Prop :=
  (∀ s ch, Ready.sprintStepBoundary s ch = true → ∃ t, exec (.sprintStepBoundary ch) s = .next t
    ∧ (t.chan ch).window.step = Ready.followingStep s ch
    ∧ (Ready.followingStep s ch ≠ 0 → (t.chan ch).io.on = true ∧ (t.chan ch).trip.trips = (s.chan ch).trip.trips)
    ∧ (Ready.followingStep s ch = 0 → (s.chan ch).ramp.regulating = false → tripOver (classOf ch) ≤ (s.chan ch).trip.olTimer.value s.now →
        s.tripped t ch .overload)
    ∧ (Ready.followingStep s ch = 0 → (s.chan ch).ramp.regulating = true ∨ (s.chan ch).trip.olTimer.value s.now < tripOver (classOf ch) →
        (t.chan ch).io.on = true ∧ (t.chan ch).trip.trips = (s.chan ch).trip.trips))
  ∧ (∀ s ch, Ready.sprintFreezeLimit s ch = true → ∃ t, exec (.sprintFreezeLimit ch) s = .next t
    ∧ (t.chan ch).window.frozen = false ∧ (t.chan ch).window.freezeSpent = true ∧ (t.chan ch).window.step = (s.chan ch).window.step
    ∧ (t.chan ch).io.on = true)

/-- A reached target starts the hold timer while the channel regulates on. An expired hold turns the channel off and marks the ramp expired. A
complete ramp stops regulating and leaves the channel on, unless no window runs and the overload timer has reached its limit: then the channel trips,
and its bank reports the trip where its message store has a place for each channel. A ramp to zero turns the channel off and keeps its normal state. A
stall is marked while the channel stays on, and its end takes the mark away. Rules: R148, R149, R150, R151. That the guard of an event in time is met
from the earliest moment on is log entry 13 (DESIGN CHOICE). -/
def Obligations.RampsHoldStallAndComplete : Prop :=
  (∀ s ch, Ready.rampTargetReached s ch = true → ∃ t, exec (.rampTargetReached ch) s = .next t
    ∧ (t.chan ch).ramp.holdTimer = some s.now ∧ (t.chan ch).ramp.regulating = true ∧ (t.chan ch).io.on = true)
  ∧ (∀ s ch, Ready.rampHoldExpiry s ch = true → ∃ t, exec (.rampHoldExpiry ch) s = .next t
    ∧ (t.chan ch).io.on = false ∧ (t.chan ch).ramp.expired = true ∧ (t.chan ch).ramp.holdTimer = none)
  ∧ (∀ s ch mv, Ready.rampComplete s ch mv = true →
      ((s.chan ch).window.running = true ∨ (s.chan ch).trip.olTimer.value s.now < tripOver (classOf ch)) →
      ∃ t, exec (.rampComplete ch mv) s = .next t ∧ (t.chan ch).io.on = true ∧ (t.chan ch).ramp.complete = true
        ∧ (t.chan ch).ramp.regulating = false ∧ (t.chan ch).sense.output = mv)
  ∧ (∀ s ch mv, Ready.rampComplete s ch mv = true → (s.chan ch).window.running = false →
      tripOver (classOf ch) ≤ (s.chan ch).trip.olTimer.value s.now → ∃ t, exec (.rampComplete ch mv) s = .next t ∧ s.tripsOff t ch
        ∧ ((s.bank (ch / 12)).msgs.length ≤ 4 → (t.bank (ch / 12)).reports (12 * (ch / 12)) (tripCode .overload) ch = true))
  ∧ (∀ s ch, Ready.rampZeroTurnOff s ch = true → ∃ t, exec (.rampZeroTurnOff ch) s = .next t
    ∧ (t.chan ch).io.on = false ∧ (t.chan ch).io.normal = (s.chan ch).io.normal ∧ (t.chan ch).ramp.zeroOff = true)
  ∧ (∀ s ch, Ready.rampStallFlag s ch = true → ∃ t, exec (.rampStallFlag ch) s = .next t
    ∧ (t.chan ch).ramp.stalled = true ∧ (t.chan ch).io.on = true)
  ∧ (∀ s ch, Ready.rampStallEnd s ch = true → ∃ t, exec (.rampStallEnd ch) s = .next t
    ∧ (t.chan ch).ramp.stalled = false ∧ (t.chan ch).ramp.stallFrom = none)

/-- At a current at the active limit within its tolerance, short circuit limiting marks the channel and disturbs its bank. Overload limiting marks the
channel and leaves the disturbance of the bank as it was. Each excludes the other and leaves the channel on. Leaving takes both marks away. The end of
a disturbance ends it and blanks each of the twelve channels but those that were shorted in it for at least its settling time. Rules: R154, R165. That
the guard of an event in time is met from the earliest moment on is log entry 13 (DESIGN CHOICE). -/
def Obligations.CurrentLimitingAndDisturbances : Prop :=
  (∀ s ch mv risen ma, Ready.shortCircuitLimitEnter s ch mv risen ma = true → ∃ t, exec (.shortCircuitLimitEnter ch mv risen ma) s = .next t
    ∧ (t.chan ch).trip.shortCct = true ∧ (t.chan ch).trip.overload = false ∧ (t.chan ch).io.on = true ∧ (t.bank (ch / 12)).core.disturbed = true)
  ∧ (∀ s ch mv risen ma, Ready.overloadLimitingEnter s ch mv risen ma = true → ∃ t, exec (.overloadLimitingEnter ch mv risen ma) s = .next t
    ∧ (t.chan ch).trip.overload = true ∧ (t.chan ch).trip.shortCct = false ∧ (t.chan ch).io.on = true
    ∧ (t.bank (ch / 12)).core.disturbed = (s.bank (ch / 12)).core.disturbed)
  ∧ (∀ s ch, Ready.currentLimitingLeave s ch = true → ∃ t, exec (.currentLimitingLeave ch) s = .next t
    ∧ (t.chan ch).trip.shortCct = false ∧ (t.chan ch).trip.overload = false)
  ∧ (∀ s b, Ready.bankDisturbanceEnd s b = true → ∃ t, exec (.bankDisturbanceEnd b) s = .next t
    ∧ (t.bank b).core.disturbed = false
    ∧ ∀ p, p < 12 → (s.chan (12 * b + p)).trip.shorted = false → s.now + settleTime (classAt p) ≤ (t.chan (12 * b + p)).io.blankUntil)

/-- A short circuit, overload or short circuit detection trip leaves its channel off with the trip counted and the state of its cause; a detection
trip also disturbs the bank. A timer reset empties both trip timers. The end of a backoff clears it, and either turns the channel on and counts the
retry or leaves the retry due with the count as it was. A latch-off clear ends the latch and zeroes the retry count, and each counter reset zeroes its
counter. Rules: R166, R167, R172, R173, R175, R176. That the guard of an event in time is met from the earliest moment on is log entry 13 (DESIGN
CHOICE). -/
def Obligations.TripsTurnChannelsOffUntilTheirTimersEnd : Prop :=
  (∀ s ch, Ready.shortCircuitTrip s ch = true → ∃ t, exec (.shortCircuitTrip ch) s = .next t ∧ s.tripped t ch .shortCircuit)
  ∧ (∀ s ch, Ready.overloadTrip s ch = true → ∃ t, exec (.overloadTrip ch) s = .next t ∧ s.tripped t ch .overload)
  ∧ (∀ s ch ma held, Ready.scDetectionTrip s ch ma held = true → ∃ t, exec (.scDetectionTrip ch ma held) s = .next t ∧ s.tripped t ch .detection
    ∧ (t.bank (ch / 12)).core.disturbed = true)
  ∧ (∀ s ch, Ready.tripTimerReset s ch = true → ∃ t, exec (.tripTimerReset ch) s = .next t
    ∧ (t.chan ch).trip.olTimer = {} ∧ (t.chan ch).trip.scTimer = {})
  ∧ (∀ s ch, Ready.backoffEnd s ch = true → ∃ t, exec (.backoffEnd ch) s = .next t ∧ (t.chan ch).trip.backoff = none
    ∧ ((t.chan ch).io.on = true → (t.chan ch).trip.retryCount = (s.chan ch).trip.retryCount + 1 ∧ (t.chan ch).trip.retryDue = false)
    ∧ ((t.chan ch).io.on = false → (t.chan ch).ramp.expired = (s.chan ch).ramp.expired →
        (t.chan ch).trip.retryCount = (s.chan ch).trip.retryCount ∧ (t.chan ch).trip.retryDue = true))
  ∧ (∀ s ch, Ready.latchOffClear s ch = true → ∃ t, exec (.latchOffClear ch) s = .next t
    ∧ (t.chan ch).trip.latchedAt = none ∧ (t.chan ch).trip.retryCount = 0)
  ∧ (∀ s ch, Ready.retryCounterReset s ch = true → ∃ t, exec (.retryCounterReset ch) s = .next t ∧ (t.chan ch).trip.retryCount = 0)
  ∧ (∀ s ch, Ready.latchCountReset s ch = true → ∃ t, exec (.latchCountReset ch) s = .next t ∧ (t.chan ch).trip.latchCount = 0)

/-- A clamp end adds the energy of its samples to the integrator, which saturates at 0xFFFFFFFF, counts one clamp event and ends the turn-off; the
lock is set when the integrator stands at a nonzero budget or has reached it within the event, and keeps its value otherwise. A turn-off edge that
ends without a clamp leaves the energy and the counts as they are, and locks too when the budget is reached. A decay adds the samples of each channel
of the bank that is turning off, and then takes from every one its energy shifted right by the class decay shift. Rules: R179, R180, R198. -/
def Obligations.ClampEnergyIsIntegrated : Prop :=
  (∀ s ch samples, Ready.clampEnd s ch = true → ∃ t, exec (.clampEnd ch samples) s = .next t
    ∧ (t.chan ch).clamp.energy = Ready.clampWith s ch samples
    ∧ (t.chan ch).clamp.events = (s.chan ch).clamp.events + 1 ∧ (t.chan ch).io.turningOff = false
    ∧ ((s.chan ch).cfg.prot.budget ≠ 0 →
        ((s.chan ch).clamp.reached = true ∨ (s.chan ch).cfg.prot.budget * 1000 ≤ (t.chan ch).clamp.energy) → (t.chan ch).cfg.lockClamp = true)
    ∧ ((s.chan ch).cfg.prot.budget ≠ 0 → (s.chan ch).clamp.reached = false → (t.chan ch).clamp.energy < (s.chan ch).cfg.prot.budget * 1000 →
        (t.chan ch).cfg.lockClamp = (s.chan ch).cfg.lockClamp))
  ∧ (∀ s ch, Ready.turnOffEdgeEnd s ch = true → ∃ t, exec (.turnOffEdgeEnd ch) s = .next t
    ∧ (t.chan ch).io.turningOff = false ∧ (t.chan ch).clamp = { (s.chan ch).clamp with reached := false }
    ∧ ((s.chan ch).cfg.prot.budget ≠ 0 → (s.chan ch).cfg.prot.budget * 1000 ≤ (s.chan ch).clamp.energy → (t.chan ch).cfg.lockClamp = true))
  ∧ (∀ s b samples, Ready.bankRuns s b = true → ∃ t, exec (.clampDecay b samples) s = .next t
    ∧ ∀ p e, p < 12 → e = (if (s.chan (12 * b + p)).io.turningOff then Ready.clampWith s (12 * b + p) (samples.getD p [])
                         else (s.chan (12 * b + p)).clamp.energy) →
        (t.chan (12 * b + p)).clamp.energy = e - e / 2 ^ decayShift (classAt p))

/-- In a bank that runs, an update of the wire model sets the rise of a channel without a wire current to zero and of another to the value the rule
computes from the rise before and the current, to which a stale offset adds its band. Where that value reaches the limit and no wire hold stands, the
channel is off, the wire hold stands and one trip is counted. Rules: R186. -/
def Obligations.WireModelFollowsItsRule : Prop :=
  ∀ s b currents, Ready.bankRuns s b = true → ∃ t, exec (.wireModelUpdate b currents) s = .next t
    ∧ ∀ p, p < 12 →
      ((s.chan (12 * b + p)).cfg.prot.wireI = 0 → (t.chan (12 * b + p)).sense.wireRise = 0)
      ∧ ((s.chan (12 * b + p)).cfg.prot.wireI ≠ 0 →
          (t.chan (12 * b + p)).sense.wireRise = Ready.wireRiseAfter s (12 * b + p) (currents.getD p 0))
      ∧ ((s.chan (12 * b + p)).cfg.prot.wireI ≠ 0 → (s.chan (12 * b + p)).trip.wireHold = false →
          ((s.chan (12 * b + p)).cfg.prot.wireRise : Rat) ≤ Ready.wireRiseAfter s (12 * b + p) (currents.getD p 0) →
          (t.chan (12 * b + p)).io.on = false ∧ (t.chan (12 * b + p)).trip.wireHold = true
          ∧ (t.chan (12 * b + p)).trip.trips = (s.chan (12 * b + p)).trip.trips + 1)

/-- On-state and off-state open loads are marked when found and unmarked when cleared; the off-state source is switched on only with the channel off.
An off-state zero update stores the mean as the offset with its time and ends staleness. A crossed measurement stores half the difference of its two
results when it is accepted, keeps the offset otherwise, and waits 100 ms or 10 ms for the next. A stale offset is marked. Rules: R183, R185, R190,
R191. The rounding of an odd difference is log entry 82 (DESIGN CHOICE). That the guard of an event in time is met from the earliest moment on is log
entry 13 (DESIGN CHOICE). -/
def Obligations.OpenLoadsAndSenseOffsetsAreTracked : Prop :=
  (∀ s ch ua held, Ready.onStateOpenLoad s ch ua held = true → ∃ t, exec (.onStateOpenLoad ch ua held) s = .next t ∧ (t.chan ch).sense.openOn = true)
  ∧ (∀ s ch ua held, Ready.onStateOpenLoadClear s ch ua held = true → ∃ t, exec (.onStateOpenLoadClear ch ua held) s = .next t
    ∧ (t.chan ch).sense.openOn = false)
  ∧ (∀ s ch, Ready.offStateSourceOn s ch = true → ∃ t, exec (.offStateSourceOn ch) s = .next t
    ∧ (t.chan ch).sense.sourceOn = true ∧ (t.chan ch).io.on = false)
  ∧ (∀ s ch mv held, Ready.offStateOpenLoad s ch mv held = true → ∃ t, exec (.offStateOpenLoad ch mv held) s = .next t
    ∧ (t.chan ch).sense.openOff = true ∧ (t.chan ch).io.on = false)
  ∧ (∀ s ch mv held, Ready.offStateOpenLoadClear s ch mv held = true → ∃ t, exec (.offStateOpenLoadClear ch mv held) s = .next t
    ∧ (t.chan ch).sense.openOff = false)
  ∧ (∀ s ch mean, Ready.offStateZeroUpdate s ch = true → ∃ t, exec (.offStateZeroUpdate ch mean) s = .next t
    ∧ (t.chan ch).offset = mean ∧ (t.chan ch).sense.zeroAt = s.now ∧ (t.chan ch).sense.stale = false)
  ∧ (∀ s ch clean direct inverted, Ready.crossMeasurement s ch = true → ∃ t, exec (.crossMeasurement ch clean direct inverted) s = .next t
    ∧ (t.chan ch).sense.crossAt = s.now
    ∧ (t.chan ch).offset = (if Ready.crossAccepted s ch clean direct inverted then (direct - inverted) / 2 else (s.chan ch).offset)
    ∧ (t.chan ch).sense.crossWait = (if Ready.crossAccepted s ch clean direct inverted then 100000000 else 10000000))
  ∧ (∀ s ch, Ready.staleOffsetEnter s ch = true → ∃ t, exec (.staleOffsetEnter ch) s = .next t ∧ (t.chan ch).sense.stale = true)

/-- A warning is set and cleared. A shutdown turns the channel off, counts it, lengthens the streak, or starts it anew after one second of on-time,
and latches from the sixteenth of a streak on and not before. The exit ends the shutdown, a latch clear ends the latch and the streak, and a count
reset ends the streak. Rules: R206, R207, R208, R209. That the guard of an event in time is met from the earliest moment on is log entry 13 (DESIGN
CHOICE). -/
def Obligations.ChannelTemperatureActions : Prop :=
  (∀ s ch temp, Ready.thermalWarning s ch temp = true → ∃ t, exec (.thermalWarning ch temp) s = .next t ∧ (t.chan ch).thermal.warned = true)
  ∧ (∀ s ch temp, Ready.thermalWarningClear s ch temp = true → ∃ t, exec (.thermalWarningClear ch temp) s = .next t
    ∧ (t.chan ch).thermal.warned = false)
  ∧ (∀ s ch temp, Ready.thermalShutdown s ch temp = true → ∃ t, exec (.thermalShutdown ch temp) s = .next t
    ∧ (t.chan ch).thermal.shutdown = true ∧ (t.chan ch).io.on = false ∧ (t.chan ch).thermal.shutdowns = (s.chan ch).thermal.shutdowns + 1
    ∧ (t.chan ch).thermal.streak = (if 1000000000 ≤ (s.chan ch).thermal.streakT.value s.now then 0 else (s.chan ch).thermal.streak) + 1
    ∧ (16 ≤ (t.chan ch).thermal.streak → (t.chan ch).thermal.latchedAt = some s.now)
    ∧ ((t.chan ch).thermal.streak < 16 → (t.chan ch).thermal.latchedAt = (s.chan ch).thermal.latchedAt))
  ∧ (∀ s ch temp, Ready.thermalShutdownExit s ch temp = true → ∃ t, exec (.thermalShutdownExit ch temp) s = .next t
    ∧ (t.chan ch).thermal.shutdown = false)
  ∧ (∀ s ch, Ready.thermalLatchClear s ch = true → ∃ t, exec (.thermalLatchClear ch) s = .next t
    ∧ (t.chan ch).thermal.latchedAt = none ∧ (t.chan ch).thermal.streak = 0)
  ∧ (∀ s ch, Ready.thermalCountReset s ch = true → ∃ t, exec (.thermalCountReset ch) s = .next t ∧ (t.chan ch).thermal.streak = 0)

/-- Warning, shedding and trip are entered, and each leave puts the bank where the rules say: shedding and a trip are left to warning, warning to
normal. A bank thermal trip leaves all twelve channels off. When the shed hold clears, no channel of the bank is held by shedding. A broken sensor is
marked with its kind, and a sensor reading stores its temperature and its circuit state. Rules: R203, R204, R210, R211, R213. That the guard of an
event in time is met from the earliest moment on is log entry 13 (DESIGN CHOICE). -/
def Obligations.BankTemperatureStates : Prop :=
  (∀ s b r1 r2, Ready.bankThermalWarning s b r1 r2 = true → ∃ t, exec (.bankThermalWarning b r1 r2) s = .next t ∧ (t.bank b).core.thermal = .warning)
  ∧ (∀ s b r1 r2, Ready.bankThermalNormal s b r1 r2 = true → ∃ t, exec (.bankThermalNormal b r1 r2) s = .next t ∧ (t.bank b).core.thermal = .normal)
  ∧ (∀ s b r1 r2, Ready.bankSheddingEnter s b r1 r2 = true → ∃ t, exec (.bankSheddingEnter b r1 r2) s = .next t ∧ (t.bank b).core.thermal = .shedding)
  ∧ (∀ s b r1 r2, Ready.bankSheddingLeave s b r1 r2 = true → ∃ t, exec (.bankSheddingLeave b r1 r2) s = .next t ∧ (t.bank b).core.thermal = .warning)
  ∧ (∀ s b r1 r2, Ready.bankThermalTrip s b r1 r2 = true → ∃ t, exec (.bankThermalTrip b r1 r2) s = .next t ∧ (t.bank b).core.thermal = .tripped
    ∧ ∀ p, p < 12 → (t.chan (12 * b + p)).io.on = false)
  ∧ (∀ s b r1 r2, Ready.bankTripLeave s b r1 r2 = true → ∃ t, exec (.bankTripLeave b r1 r2) s = .next t ∧ (t.bank b).core.thermal = .warning)
  ∧ (∀ s b, Ready.bankShedHoldClear s b = true → ∃ t, exec (.bankShedHoldClear b) s = .next t
    ∧ ∀ p, p < 12 → (t.chan (12 * b + p)).thermal.shedBy = 0)
  ∧ (∀ s b sensor kind held, Ready.sensorBroken s b sensor kind held = true → ∃ t, exec (.sensorBroken b sensor kind held) s = .next t
    ∧ ((t.bank b).core.sensor sensor).broken = some kind)
  ∧ (∀ s b sensor temp circuit, Ready.bankRuns s b = true → sensor < 14 → ∃ t, exec (.sensorCircuitFault b sensor temp circuit) s = .next t
    ∧ ((t.bank b).core.sensor sensor).reading = temp ∧ ((t.bank b).core.sensor sensor).circuit = circuit)

/-! ## Links -/

/-- A sent frame holds the queued commands, the restart hold and the message acknowledgements, stamped with its time; the queue stays, and the other
banks are untouched. With it the readings of the hub take effect: the supplies that are there, its temperature, and with VIO the levels of its lands.
A received frame that is not valid is counted as discarded, noted as detected and changes nothing in the core. A valid frame without commands restarts
the hold time, ends link silence, stores the restart hold, leaves the channels alone and drops the acknowledged messages. A valid frame with one
untagged command not yet acknowledged sets the normal state it names and queues the acknowledgement. Rules: R20, R22. That the readings come with this
command is log entry 89, and how many commands a frame carries log entry 41 (both DESIGN CHOICE). -/
def Obligations.DownlinkFramesCarryCommands : Prop :=
  (∀ s b r, Ready.downlinkFrameSend s b = true → ∃ t, exec (.downlinkFrameSend b r) s = .next t
    ∧ (t.bank b).down = some { startAt := s.now, cmds := (s.hub.link b).queue.map LinkReq.cmd, hold := s.hub.announces, msgAcks := (s.hub.link b).msgAcks }
    ∧ (t.hub.link b).sentIn = some (s.now / 50000) ∧ (t.hub.link b).msgAcks = []
    ∧ (t.hub.link b).queue.map LinkReq.cmd = (s.hub.link b).queue.map LinkReq.cmd ∧ (∀ c, c ≠ b → t.bank c = s.bank c)
    ∧ t.hub.temp = r.temp ∧ t.pwr.vcoreMv = (if s.pwr.vcore then r.vcore else 0) ∧ t.pwr.vioMv = (if s.pwr.vio then r.vio else 0)
    ∧ t.pwr.vphyMv = (if s.pwr.vphy then r.vphy else 0)
    ∧ (s.pwr.vio = true → t.lands.wake = r.wake ∧ t.lands.test = r.test ∧ t.lands.pps = r.pps ∧ t.lands.zxa = r.zxa ∧ t.lands.zxb = r.zxb))
  ∧ (∀ s b f, Ready.arrived s b f = true → ∃ t, exec (.bankDownlinkFrameRx b false) s = .next t
    ∧ (t.bank b).down = none ∧ (t.bank b).discards = (s.bank b).discards + 1 ∧ (t.bank b).detected = some f.startAt ∧ (t.bank b).core = (s.bank b).core)
  ∧ (∀ s b f, Ready.arrived s b f = true → f.cmds = [] → (s.bank b).lostMsgs = 0 → ∃ t, exec (.bankDownlinkFrameRx b true) s = .next t
    ∧ (t.bank b).down = none ∧ (t.bank b).detected = some f.startAt ∧ (t.bank b).core.holdFrom = some s.now ∧ (t.bank b).core.restartHold = f.hold
    ∧ (t.bank b).core.lastValidRx = some s.now ∧ (t.bank b).core.silent = false ∧ (t.bank b).core.chans = (s.bank b).core.chans
    ∧ (t.bank b).msgs = (s.bank b).msgs.filter (fun m => !f.msgAcks.contains m.seq))
  ∧ (∀ s b f c p d, Ready.arrived s b f = true → f.cmds = [c] → c.cmd = .setNormal p d → c.tag = none → p < 12 → (s.bank b).acked.contains c.id = false →
      ∃ t, exec (.bankDownlinkFrameRx b true) s = .next t
        ∧ (t.chan (12 * b + p)).io.normal = d ∧ (t.bank b).acksDue = (s.bank b).acksDue ++ [c.id] ∧ (t.bank b).core.holdFrom = some s.now)

/-- A sent uplink frame holds the acknowledgements due, the two oldest messages, those included that its own measurements have added, the discard
count, the schedules run and the measured core, and what was due is cleared. A received frame that is not valid is added to the recent discards and
leaves the views; the sixteenth recent one raises the link source and starts the count anew. A valid telemetry frame becomes the view of the bank and
takes its acknowledged commands from the queue. Rules: R20, R21. -/
def Obligations.UplinkFramesReportTheBank : Prop :=
  (∀ s b r, Ready.bankUplinkSend s b = true → ∃ t core, exec (.bankUplinkSend b r) s = .next t
    ∧ (t.bank b).up = some { startAt := s.now, acks := (s.bank b).acksDue, msgs := (t.bank b).msgs.take 2, first := (s.bank b).firstUp
                             discards := (s.bank b).discards, schedRan := (s.bank b).schedRan, core := core }
    ∧ (s.bank b).msgs <+: (t.bank b).msgs ∧ (t.bank b).core = core ∧ core.supply = r.supply ∧ (t.bank b).detected = none ∧ (t.bank b).acksDue = [] ∧ (t.bank b).firstUp = false)
  ∧ (∀ s b f, Ready.uplinkArrived s b f = true → s.hub.runtimeOn = true → (Ready.recentDiscards s b).length < 15 →
      ∃ t, exec (.uplinkFrameRx b false) s = .next t ∧ (t.bank b).up = none ∧ (t.hub.link b).discards = Ready.recentDiscards s b ++ [s.now]
        ∧ t.hub.views = s.hub.views)
  ∧ (∀ s b f, Ready.uplinkArrived s b f = true → s.hub.runtimeOn = true → 15 ≤ (Ready.recentDiscards s b).length →
      ∃ t, exec (.uplinkFrameRx b false) s = .next t ∧ (t.bank b).up = none ∧ (t.hub.link b).discards = []
        ∧ t.hub.collector.stands (12 * b + 8) = true)
  ∧ (∀ s b f, Ready.telemetry s b f = true → ∃ t, exec (.uplinkFrameRx b true) s = .next t ∧ (t.bank b).up = none
    ∧ t.hub.view b = some f.core ∧ (t.hub.link b).queue = (s.hub.link b).queue.filter (fun r => !f.acks.contains r.cmd.id))

/-- When the hold time or the restart hold expires, every channel of the bank is in channel fail-safe, the cause is recorded, the link counts as
silent, the hold timer ends, and the link source is reported with kind 1 or 2 if the message list has room. A hub that gives up drops the stale
commands of the bank and raises the link source. Rules: R22, R23, R24. -/
def Obligations.LostLinksEndInFailSafe : Prop :=
  (∀ s b, Ready.holdTimerExpiry s b = true → ∃ t, exec (.holdTimerExpiry b) s = .next t
    ∧ (∀ p, p < 12 → (t.chan (12 * b + p)).io.c = true) ∧ (t.bank b).core.lastCause = .holdExpiry ∧ (t.bank b).core.silent = true
    ∧ (t.bank b).core.holdFrom = none ∧ (t.bank b).core.holdExpired = true
    ∧ ((s.bank b).msgs.length < 16 → (t.bank b).reports (12 * b + 8) 1 0xFF = true))
  ∧ (∀ s b, Ready.restartHoldExpiry s b = true → ∃ t, exec (.restartHoldExpiry b) s = .next t
    ∧ (∀ p, p < 12 → (t.chan (12 * b + p)).io.c = true) ∧ (t.bank b).core.lastCause = .restartHoldExpiry ∧ (t.bank b).core.silent = true
    ∧ (t.bank b).core.holdFrom = none ∧ (t.bank b).core.restartHold = false ∧ (t.bank b).core.holdExpired = true
    ∧ ((s.bank b).msgs.length < 16 → (t.bank b).reports (12 * b + 8) 2 0xFF = true))
  ∧ (∀ s b, Ready.commandGiveUp s b = true → ∃ t, exec (.commandGiveUp b) s = .next t
    ∧ (t.hub.link b).queue = (s.hub.link b).queue.filter (fun r => !Ready.stale s r) ∧ t.hub.collector.stands (12 * b + 8) = true)

/-! ## Supplies, clocks, resets, start and stop -/

/-- A VCORE at or above 880 mV for 1 microsecond powers the hub into settling with cause 1 and an empty collector, and leaves the banks; one at or
below 880 mV for 1 microsecond leaves the hub unpowered with an empty runtime, and leaves the banks. A VIO at or above 1680 mV for 5 microseconds
makes the inputs of the four banks valid with no filtered level; one at or below 1700 mV for 5 microseconds makes them invalid, lowers the lands,
CHGPERM and PPS, ends factory test mode, and is source 0x34 when the hub is out of reset. A VPHY at or below 2880 mV for 5 microseconds stops both
ports and is source 0x34 too; at or above it, it is there. A shorter crossing changes nothing. Rules: R87, R97. That inputs read low without VIO is
log entry 62 (DEDUCED). -/
def Obligations.HubSuppliesComeAndGo : Prop :=
  (∀ s mv held, s.pwr.vcore = false → 880 ≤ mv → 1000 ≤ held → ∃ t, exec (.vcorePresent mv held) s = .next t ∧ t.pwr.vcore = true ∧ t.pwr.vcoreMv = mv
    ∧ t.hub.phase = .settling ∧ t.hub.cause = 1 ∧ t.hub.collector = {} ∧ t.banks = s.banks)
  ∧ (∀ s mv held step landed, s.pwr.vcore = true → mv ≤ 880 → 1000 ≤ held → 1 ≤ s.hub.cause →
      ∃ t, exec (.vcoreAbsent mv held step landed) s = .next t ∧ t.pwr.vcore = false ∧ t.pwr.vcoreMv = 0
        ∧ t.hub.phase = .unpowered ∧ t.hub.cause = 1 ∧ t.hub.run = {} ∧ t.banks = s.banks)
  ∧ (∀ s mv held, s.shaped = true → s.pwr.vio = false → 1680 ≤ mv → 5000 ≤ held → ∃ t, exec (.vioPresent mv held) s = .next t
    ∧ t.pwr.vio = true ∧ t.pwr.vioMv = mv
    ∧ ∀ b, b < 4 → (t.bank b).core.inputValid = true ∧ ∀ i, (t.bank b).core.inputs.getD i none = none)
  ∧ (∀ s mv held, s.shaped = true → s.pwr.vio = true → mv ≤ 1700 → 5000 ≤ held → ∃ t, exec (.vioAbsent mv held) s = .next t
    ∧ t.pwr.vio = false ∧ t.lands = {} ∧ t.hub.chgperm = false ∧ t.hub.time.pps.high = false ∧ t.hub.collector.testMode = false
    ∧ (s.hub.outOfReset = true → t.hub.collector.stands 0x34 = true)
    ∧ ∀ b, b < 4 → (t.bank b).core.inputValid = false ∧ ∀ i, (t.bank b).core.inputs.getD i none = none)
  ∧ (∀ s mv held, s.pwr.vphy = false → 2880 ≤ mv → 5000 ≤ held → ∃ t, exec (.vphyPresent mv held) s = .next t
    ∧ t.pwr.vphy = true ∧ t.pwr.vphyMv = mv)
  ∧ (∀ s mv held, s.pwr.vphy = true → mv ≤ 2880 → 5000 ≤ held → ∃ t, exec (.vphyAbsent mv held) s = .next t
    ∧ t.pwr.vphy = false ∧ t.hub.net.port0.running = false ∧ t.hub.net.port1.running = false
    ∧ (s.hub.outOfReset = true → t.hub.collector.stands 0x34 = true))
  ∧ (∀ s mv held, held < 1000 → exec (.vcorePresent mv held) s = .next s ∧ ∀ step landed, exec (.vcoreAbsent mv held step landed) s = .next s)
  ∧ (∀ s mv held, held < 5000 → exec (.vioPresent mv held) s = .next s ∧ exec (.vioAbsent mv held) s = .next s
      ∧ exec (.vphyPresent mv held) s = .next s ∧ exec (.vphyAbsent mv held) s = .next s)

/-- A VSUP at or above 4250 mV for 20 microseconds, or the end of a bank reset, starts the bank: its channels are in channel fail-safe with normal
state off and their settings as stored, the cause is a bank start or a failed store check, and the LIMP lands are classified by their voltages,
deasserted in a band that keeps the class. A channel whose pattern in force, fail-safe or in glide, is off is off, and every channel is off where the
store check has failed. A VSUP at or below 4150 mV for 20 microseconds stops the bank, turns its twelve channels off, takes its view away, and is a
reported source while the hub serves. The overvoltage warning is set at 59 V for 20 microseconds and cleared below. Rules: R76, R84, R97. That a bank
start comes with one command at its end is log entry 91 (DESIGN CHOICE). That the guard of an event in time is met from the earliest moment on is log
entry 13 (DESIGN CHOICE). -/
def Obligations.BankSuppliesStartAndStopBanks : Prop :=
  (∀ s b mv held storeOk own shared, b < 4 → s.shaped = true → (s.bank b).core.running = false →
      ((s.bank b).core.starting = true ∨ (4250 ≤ mv ∧ 20000 ≤ held)) → ∃ t, exec (.vsupPresent b mv held storeOk own shared) s = .next t
    ∧ (t.bank b).core.running = true ∧ (t.bank b).core.supply = mv ∧ (t.bank b).core.storeFailed = ((s.bank b).core.storeFailed || !storeOk)
    ∧ (t.bank b).core.lastCause = (if (s.bank b).core.storeFailed || !storeOk then .storeCheck else .bankStart)
    ∧ (t.bank b).core.limpOwn = (limpBand own).getD .deasserted ∧ (t.bank b).core.limpShared = (limpBand shared).getD .deasserted
    ∧ ∀ p, p < 12 → (t.chan (12 * b + p)).io.c = true ∧ (t.chan (12 * b + p)).io.normal = .off
        ∧ (t.chan (12 * b + p)).cfg = (s.chan (12 * b + p)).cfg
        ∧ (((s.bank b).core.storeFailed || !storeOk) = true → (t.chan (12 * b + p)).io.on = false)
        ∧ (Ready.startsInGlide own shared = false → (s.chan (12 * b + p)).cfg.pattern.failSafe = .off → (t.chan (12 * b + p)).io.on = false)
        ∧ (Ready.startsInGlide own shared = true → (s.chan (12 * b + p)).cfg.pattern.glide = .off → (t.chan (12 * b + p)).io.on = false))
  ∧ (∀ s b mv held, b < 4 → s.shaped = true → s.hub.shaped = true → (s.bank b).core.running = true → mv ≤ 4150 → 20000 ≤ held →
      ∃ t, exec (.vsupAbsent b mv held) s = .next t
        ∧ (t.bank b).core.running = false ∧ t.hub.view b = none ∧ (∀ p, p < 12 → (t.chan (12 * b + p)).io.on = false)
        ∧ (s.hub.serves = true → t.hub.collector.stands (12 * b + 7) = true))
  ∧ (∀ s b mv held, Ready.bankRuns s b = true → 59000 ≤ mv → 20000 ≤ held → ∃ t, exec (.vsupOvervoltageWarning b mv held) s = .next t
    ∧ (t.bank b).core.overvoltage = true ∧ (t.bank b).core.supply = mv)
  ∧ (∀ s b mv, Ready.bankRuns s b = true → (s.bank b).core.overvoltage = true → mv < 59000 → ∃ t, exec (.vsupOvervoltageClear b mv) s = .next t
    ∧ (t.bank b).core.overvoltage = false ∧ (t.bank b).core.supply = mv)

/-- A lower tier for 1 microsecond or a higher one for 1 ms takes the tier of the VCORE voltage and counts the change. A lock after settling holds the
hub in reset with the synthesiser locked; a lock after waking goes on to the runtime restart with cause 7, and a tier other than before is counted as
a change. A temperature more than 30 degrees from the last calibration starts one, which is counted, and its end locks again. A reference silent for 4
microseconds leaves the hub without clock, with cause 9 and an empty runtime, and the banks untouched; one that has run for 1 ms returns it to
settling. Rules: R78, R79, R80. That a calibration is counted at its start is log entry 58 (DEDUCED). -/
def Obligations.ClockTierAndSynthesiser : Prop :=
  (∀ s mv held, s.hub.serves = true → s.pwr.vcore = true → tierOf mv < s.hub.tier → 1000 ≤ held → ∃ t, exec (.tierLower mv held) s = .next t
    ∧ t.hub.tier = tierOf mv ∧ t.pwr.vcoreMv = mv ∧ t.hub.tierChanges = s.hub.tierChanges + 1)
  ∧ (∀ s mv held, s.hub.serves = true → s.pwr.vcore = true → s.hub.tier < tierOf mv → 1000000 ≤ held → ∃ t, exec (.tierRaise mv held) s = .next t
    ∧ t.hub.tier = tierOf mv ∧ t.pwr.vcoreMv = mv ∧ t.hub.tierChanges = s.hub.tierChanges + 1)
  ∧ (∀ s mv, s.hub.phase = .settling → ∃ t, exec (.synthLock mv) s = .next t
    ∧ t.hub.phase = .held ∧ t.hub.synth = 1 ∧ t.hub.tier = tierOf mv ∧ t.pwr.vcoreMv = mv)
  ∧ (∀ s mv, s.hub.phase = .waking → ∃ t, exec (.synthLock mv) s = .next t ∧ t.hub.phase = .restarting ∧ t.hub.synth = 1 ∧ t.hub.cause = 7
    ∧ t.hub.tier = tierOf mv ∧ t.hub.tierChanges = (if tierOf mv = s.hub.tier then s.hub.tierChanges else s.hub.tierChanges + 1))
  ∧ (∀ s temp, s.hub.serves = true → s.hub.synth = 1 → 300 < (temp - s.hub.calTemp).natAbs → ∃ t, exec (.calibrationStart temp) s = .next t
    ∧ t.hub.synth = 2 ∧ t.hub.calTemp = temp ∧ t.hub.calibrations = s.hub.calibrations + 1)
  ∧ (∀ s, s.hub.synth = 2 → ∃ t, exec .calibrationEnd s = .next t ∧ t.hub.synth = 1)
  ∧ (∀ s silent, Ready.fresh s = true → 4000 ≤ silent → ∃ t, exec (.referenceClockLoss silent) s = .next t ∧ t.hub.phase = .noClock ∧ t.hub.synth = 0 ∧ t.hub.cause = 9
    ∧ t.hub.run = {} ∧ t.banks = s.banks)
  ∧ (∀ s running, s.hub.phase = .noClock → 1000000 ≤ running → ∃ t, exec (.referenceClockRestored running) s = .next t ∧ t.hub.phase = .settling)

/-- A low pulse of RSTN of at least 10 microseconds and a runtime watchdog that has not been restarted for 20 ms hold the hub in reset with their
cause and an empty runtime, and leave the banks; a pulse below 1 microsecond changes nothing. A release with both checks passed goes to the claim of
the banks, stores the temperature and the MRAM window it implies, and takes the strap value three equal samples give, or 0 without VIO. A failed check
counts a failure, and a retry after 100 ms while fewer than three have failed samples the straps and measures the temperature again. The release of a
runtime restart goes to the claim of the banks or fails in the same way. Rules: R63, R82, R87, R88. A pulse between the two widths has a free outcome
(log entry 2), and the outcomes of steps 5 and 6 of a runtime restart come with HUB_RESET_RELEASE (log entry 92; both DESIGN CHOICE). -/
def Obligations.ResetsAndReleaseOfTheHub : Prop :=
  (∀ s width, s.pwr.vio = true → Ready.fresh s = true → 10000 ≤ width → ∃ t, exec (.rstnReset width) s = .next t
    ∧ t.hub.phase = (if s.hub.synth = 0 then .settling else .held) ∧ t.hub.cause = 2 ∧ t.hub.run = {} ∧ t.banks = s.banks)
  ∧ (∀ s width, width < 1000 → exec (.rstnReset width) s = .next s)
  ∧ (∀ s silent, Ready.fresh s = true → s.hub.runtimeOn = true → 20000000 ≤ silent → s.hub.stepsAt + silent ≤ s.now →
      ∃ t, exec (.runtimeWatchdogExpiry silent) s = .next t
    ∧ t.hub.phase = (if s.hub.synth = 0 then .settling else .held) ∧ t.hub.cause = 8 ∧ t.hub.run = {} ∧ t.banks = s.banks)
  ∧ (∀ s samples temp, s.hub.phase = .held → ∃ t, exec (.hubResetRelease samples true true temp) s = .next t
    ∧ t.hub.phase = .claiming ∧ t.hub.startAt = s.now ∧ t.hub.temp = temp ∧ t.hub.windowCode = (if 1300 < temp then 1 else if temp < -400 then 2 else 0)
    ∧ (s.pwr.vio = false → t.hub.strapValue = 0 ∧ t.hub.strapStatus = 1)
    ∧ ∀ v, s.pwr.vio = true → v < 8 → samples = [v, v, v] → t.hub.strapValue = v ∧ t.hub.strapStatus = 0)
  ∧ (∀ s samples romOk selfOk temp, s.hub.phase = .held → (romOk && selfOk) = false → ∃ t, exec (.hubResetRelease samples romOk selfOk temp) s = .next t
    ∧ t.hub.phase = .failed ∧ t.hub.failures = s.hub.failures + 1)
  ∧ (∀ s samples romOk selfOk temp, s.hub.phase = .restarting → ∃ t, exec (.hubResetRelease samples romOk selfOk temp) s = .next t
    ∧ t.hub.phase = (if romOk && selfOk then .claiming else .failed) ∧ t.hub.failures = (if romOk && selfOk then 0 else s.hub.failures + 1))
  ∧ (∀ s samples romOk selfOk temp, s.hub.phase = .failed → s.hub.failures < 3 → s.hub.stepsAt + 100000000 ≤ s.now →
      ∃ t, exec (.startRetry samples romOk selfOk temp) s = .next t
        ∧ t.hub.phase = (if romOk && selfOk then .claiming else .failed) ∧ t.hub.failures = (if romOk && selfOk then 0 else s.hub.failures + 1)
        ∧ t.hub.temp = temp ∧ ∀ v, s.pwr.vio = true → v < 8 → samples = [v, v, v] → t.hub.strapValue = v ∧ t.hub.strapStatus = 0)

/-- A claim takes the heard telemetry as the view of the bank, and leaves the views of the other banks. When the claims are done, DICTIONARY_READY
leaves the hub running and ready, notes the time, hands the faults to the runtime, and reports the start cause and the duration in microseconds.
Rules: R89, R93. How long an absent bank is waited for is log entry 10 (DESIGN CHOICE), and the duration of a runtime restart log entry 69 (DEDUCED).
-/
def Obligations.BanksAreClaimedAndTheDictionaryServed : Prop :=
  (∀ s b c, Ready.bankClaim s b c = true → ∃ t, exec (.bankClaim b) s = .next t ∧ t.hub.view b = some c ∧ (t.hub.link b).heard = none
    ∧ ∀ d, d ≠ b → t.hub.view d = s.hub.view d)
  ∧ (∀ s, Ready.dictionaryReady s = true → ∃ t, exec .dictionaryReady s = .next t ∧ t.hub.phase = .running ∧ t.hub.run.ready = true
    ∧ t.hub.run.readyAt = s.now ∧ t.hub.collector.handed = true ∧ t.hub.startCause = s.hub.cause ∧ t.hub.duration = (s.now - s.hub.startAt) / 1000)

/-- A WAKE high for 50 microseconds after a rise leaves standby; one that rose before another exit changes nothing. A save delay that has run out
starts a store write to the copy not in use with the next sequence number. A completed write commits the image there; a failed verification keeps it
writing with the next number, marks the copy and raises 0x4D. The oldest waiting journal entry is written with the next number, the oldest of 2560
records giving way. A missing acknowledgement of a restart hold abandons the stop. A completed re-trim isolates the bank again, with trims and offsets
renewed only within limits. A lap boundary puts the values in force that had been accepted when it came, or carries out the hub reset planned by then.
Rules: R96, R263, R472, R473, R475, R485, R491. The trims found by a re-trim are free (log entry 72, DESIGN CHOICE); the abandonment of a plain
restart is log entry 8 (DEDUCED). -/
def Obligations.StandbyStoreRetrimsAndLapBoundaries : Prop :=
  (∀ s held, s.pwr.vio = true → 50000 ≤ held → (s.lands.wake = false ∨ ∃ rose, s.lands.wakeAt = some rose ∧ s.now ≤ rose + held) →
      s.hub.phase = .standby → ∃ t, exec (.wakeExitStandby held) s = .next t ∧ t.hub.phase = .waking ∧ t.lands.wake = true)
  ∧ (∀ s held, s.lands.wake = true → s.lands.wakeAt = none → exec (.wakeExitStandby held) s = .next s)
  ∧ (∀ s, s.hub.serving = true → s.hub.run.store.dirty = true → s.hub.run.store.writing = false → s.hub.windowCode = 0 →
      s.hub.flushesRecords = false → s.hub.run.store.lastWrite + s.hub.act 0x7000 2 1000 * 1000000 ≤ s.now → ∃ t, exec .saveDelayExpiry s = .next t
        ∧ t.hub.run.store.writing = true ∧ t.hub.run.store.target = (if s.hub.run.store.source = 0 then 1 else 0)
        ∧ t.hub.run.store.imageSeq = (if s.hub.run.store.source = 2 then 1 else (s.hub.run.store.newest + 1) % 2 ^ 32) ∧ t.mram = s.mram)
  ∧ (∀ s, s.hub.runtimeOn = true → Ready.storeCalm s = true → s.hub.run.store.writing = true → s.hub.run.store.mirror = false →
      ∃ t, exec (.storeWriteComplete true) s = .next t
        ∧ t.mram.copy s.hub.run.store.target = { blank := false, committed := true, seq := s.hub.run.store.imageSeq, version := s.hub.run.store.imageVersion,
                                                 hash := s.hub.run.store.imageHash, values := s.hub.run.store.image }
        ∧ t.hub.run.store.writing = false ∧ t.hub.run.store.newest = s.hub.run.store.imageSeq ∧ t.hub.run.store.source = s.hub.run.store.target
        ∧ t.hub.run.store.writes = s.hub.run.store.writes + 1)
  ∧ (∀ s, s.hub.runtimeOn = true → Ready.storeCalm s = true → s.hub.run.store.writing = true → ∃ t, exec (.storeWriteComplete false) s = .next t
        ∧ (t.mram.copy s.hub.run.store.target).crcBad = true ∧ t.hub.run.store.writing = true
        ∧ t.hub.run.store.imageSeq = (s.hub.run.store.imageSeq + 1) % 2 ^ 32 ∧ t.hub.collector.stands 0x4D = true)
  ∧ (∀ s e rest, s.hub.runtimeOn = true → Ready.storeCalm s = true → s.hub.run.store.writing = false → s.hub.run.clearDue = false →
      s.hub.run.shadow = e :: rest → ∃ t, exec .journalRecordWrite s = .next t
        ∧ t.mram.records = (if s.mram.records.length < 2560 then s.mram.records else s.mram.records.drop 1) ++ [{ number := s.mram.next, entry := e }]
        ∧ t.mram.next = (s.mram.next + 1) % 2 ^ 32 ∧ t.hub.run.shadow = rest)
  ∧ (∀ s x, Ready.restartHoldAckTimeout s x = true → ∃ t, exec .restartHoldAckTimeout s = .next t ∧ t.hub.run.stop = none
    ∧ (x.kind = .activate → t.hub.collector.stands 0x50 = true))
  ∧ (∀ s b within, Ready.bankRuns s b = true → s.hub.shaped = true → (s.bank b).retrimming = true → ∃ t, exec (.retrimComplete b within) s = .next t
    ∧ (t.bank b).retrimming = false ∧ (t.bank b).core.trims = (if within then Config.trims b s.free else (s.bank b).core.trims)
    ∧ (within = true → ∀ p, p < 12 → (t.chan (12 * b + p)).sense.offsetAtStd = s.now ∧ (t.chan (12 * b + p)).sense.stale = false)
    ∧ (s.hub.serving = true → s.hub.serviceOf b = .retrimming → t.hub.serviceOf b = .isolated))
  ∧ (∀ s, Ready.boundary s = true → s.hub.run.boundary.planned = [] → ∃ t, exec .lapBoundaryApply s = .next t
    ∧ t.hub.lap.boundaryDue = false ∧ t.hub.run.inForce = Ready.boundaryValues s ∧ t.hub.phase = .running)
  ∧ (∀ s, Ready.boundary s = true → s.hub.run.boundary.planned = [.hubReset] → s.pwr.vcore = true → ∃ t, exec .lapBoundaryApply s = .next t
    ∧ t.hub.phase = (if s.hub.synth = 0 then .settling else .held) ∧ t.hub.cause = 3 ∧ t.hub.run = {})

/-! ## Faults -/

/-- An accepted group S error sets its source, counts, stores kind and address, and fills the first-error record if it is empty or sets its overflow
bit. An error of source 0x30 resets the hub with cause 0x0A and leaves the banks. A group D error sets its source and leaves the record. A state 0
message removes the cause of its source while nothing is forced, leaves the status, and changes nothing outside the collector. The end of an ERRN
pulse changes the pulse alone. Rules: R289, R290, R292. -/
def Obligations.FaultsAreAccepted : Prop :=
  (∀ s source kind origin address, Ready.acceptsS s source kind = true → ∃ t, exec (.faultErrorAcceptS source kind origin address) s = .next t
    ∧ t.hub.collector.stands source = true ∧ (t.hub.collector.source source).errors = (s.hub.collector.source source).errors + 1
    ∧ (t.hub.collector.source source).kind = kind ∧ (t.hub.collector.source source).address = address
    ∧ (s.hub.collector.record.valid = false → t.hub.collector.record =
        { valid := true, source := source, kind := kind, address := address, origin := origin, seconds := s.hub.time.seconds, nanos := s.hub.time.nanos })
    ∧ (s.hub.collector.record.valid = true → t.hub.collector.record.overflow = true ∧ t.hub.collector.record.source = s.hub.collector.record.source))
  ∧ (∀ s kind origin address, s.hub.outOfReset = true → s.pwr.vcore = true → kind ≠ 0 → ∃ t, exec (.faultErrorAcceptS 0x30 kind origin address) s = .next t
    ∧ t.hub.phase = (if s.hub.synth = 0 then .settling else .held) ∧ t.hub.cause = 0x0A ∧ t.hub.run = {} ∧ t.hub.collector = {} ∧ t.banks = s.banks)
  ∧ (∀ s source kind origin address, Ready.acceptsD s source kind = true → ∃ t, exec (.faultErrorAcceptD source kind origin address) s = .next t
    ∧ t.hub.collector.stands source = true ∧ (t.hub.collector.source source).errors = (s.hub.collector.source source).errors + 1
    ∧ (t.hub.collector.source source).kind = kind ∧ t.hub.collector.record = s.hub.collector.record)
  ∧ (∀ s source, s.hub.outOfReset = true → source < 0x5B → reservedSource source = false → ∃ t, exec (.faultState0Accept source) s = .next t
    ∧ t.hub.collector.stands source = s.hub.collector.stands source
    ∧ (s.hub.collector.force = 0 → t.hub.collector.causeOf source = false)
    ∧ t = { s with hub := { s.hub with collector := t.hub.collector } })
  ∧ (∀ s p, s.hub.outOfReset = true → s.hub.collector.pulseTo = some p → p ≤ s.now → ∃ t, exec .errnPulseEnd s = .next t
    ∧ t = { s with hub := { s.hub with collector := { s.hub.collector with pulseTo := none } } })

/-- At the end of the grace time an unescalated source takes its first step if the ceiling allows it, counted, and otherwise takes none and its grace
ends. While a planned stop keeps the runtime from new commands the step is noted as due and nothing is sent. Later grace times take the next step
below the ceiling, and start another grace time only while a further step is allowed. An overdue step confirmation resets the hub with cause 0x0A and
leaves the banks. Leaving factory test ends test mode and the key sequence and leaves the fault status. Rules: R297, R298, R308. That a planned stop
also holds back escalation is log entry 85 (DESIGN CHOICE). -/
def Obligations.FaultsEscalateStepByStep : Prop :=
  (∀ s source, Ready.escalates s source = true → (s.hub.collector.source source).step = 0 →
      Ready.firstStep s source ≤ s.hub.collCfg.ceiling source → s.hub.free = true → ∃ t, exec (.graceExpiry source) s = .next t
        ∧ (t.hub.collector.source source).step = Ready.firstStep s source ∧ t.hub.collector.steps = s.hub.collector.steps + 1
        ∧ t.hub.collector.stands source = true)
  ∧ (∀ s source, Ready.escalates s source = true → (s.hub.collector.source source).step = 0 →
      Ready.firstStep s source ≤ s.hub.collCfg.ceiling source → s.hub.free = false → ∃ t, exec (.graceExpiry source) s = .next t
        ∧ (t.hub.collector.source source).due = some (Ready.firstStep s source) ∧ (t.hub.collector.source source).step = 0 ∧ t.hub.links = s.hub.links)
  ∧ (∀ s source, Ready.escalates s source = true → (s.hub.collector.source source).step = 0 →
      s.hub.collCfg.ceiling source < Ready.firstStep s source → ∃ t, exec (.graceExpiry source) s = .next t
        ∧ (t.hub.collector.source source).step = 0 ∧ (t.hub.collector.source source).graceAt = none ∧ t.hub.collector.steps = s.hub.collector.steps)
  ∧ (∀ s source k, Ready.escalates s source = true → (s.hub.collector.source source).step = k → k ≠ 0 → k < 3 → k < s.hub.collCfg.ceiling source →
      s.hub.free = true →
      ∃ t, exec (.escalationStep source) s = .next t
        ∧ (t.hub.collector.source source).step = k + 1 ∧ t.hub.collector.steps = s.hub.collector.steps + 1
        ∧ ((k + 1 = 3 ∨ s.hub.collCfg.ceiling source ≤ k + 1) → (t.hub.collector.source source).graceAt = none)
        ∧ (k + 1 < 3 → k + 1 < s.hub.collCfg.ceiling source →
            (t.hub.collector.source source).graceAt = some (s.now + s.hub.collCfg.graceMs * 1000000)))
  ∧ (∀ s, s.hub.serving = true → s.pwr.vcore = true → s.hub.collector.overdueRequest s.now = true → ∃ t, exec .stepConfirmTimeout s = .next t
    ∧ t.hub.phase = (if s.hub.synth = 0 then .settling else .held) ∧ t.hub.cause = 0x0A ∧ t.hub.run = {} ∧ t.banks = s.banks)
  ∧ (∀ s, ∃ t, exec .factoryTestExit s = .next t ∧ t.hub.collector.testMode = false ∧ t.hub.collector.keyStage = 0 ∧ t.lands.test = false
    ∧ t.hub.collector.status = s.hub.collector.status)

/-! ## Shedding, the MRAM window, CHGPERM -/

/-- A shed group is all candidate lanes of the lowest priority among them, is added last, and is a reported source; a restored group is the last one,
and both wait one second. A closed MRAM window stores its code, stops a flush, raises 0x35 and leaves MRAM; an opened one flushes what waits and
starts a deferred write. The deferral marker is recorded from firmware 0x0302 on only. CHGPERM goes low when a permit condition has failed, also one
that holds again, and high when all have held for one second, changing nothing else but what it notes of the conditions. Rules: R211, R212, R215,
R218, R220. That the first permit needs its conditions for one second is log entry 63 (DEDUCED). -/
def Obligations.SheddingWindowAndPermission : Prop :=
  (∀ s b c, Ready.shedGroup s b c = true → ∃ t prio, exec (.shedGroup b) s = .next t
    ∧ (∀ n ∈ s.hub.shedCandidates b, prio ≤ s.hub.shedPrio n) ∧ (∃ n ∈ s.hub.shedCandidates b, s.hub.shedPrio n = prio)
    ∧ t.hub.run.shed.getD b [] = s.hub.run.shed.getD b [] ++ [(prio, (s.hub.shedCandidates b).filter fun n => decide (s.hub.shedPrio n = prio))]
    ∧ t.hub.run.shedDue.getD b 0 = s.now + 1000000000 ∧ t.hub.collector.stands 0x56 = true)
  ∧ (∀ s b c, Ready.restoreGroup s b c = true → s.hub.run.shed.getD b [] ≠ [] → ∃ t, exec (.restoreGroup b) s = .next t
    ∧ t.hub.run.shed.getD b [] = (s.hub.run.shed.getD b []).dropLast ∧ t.hub.run.shedDue.getD b 0 = s.now + 1000000000)
  ∧ (∀ s temp, s.hub.serves = true → s.hub.windowCode = 0 → windowOf temp ≠ 0 → ∃ t, exec (.mramWindowClose temp) s = .next t
    ∧ t.hub.windowCode = windowOf temp ∧ t.hub.temp = temp ∧ t.hub.flushing = false ∧ t.hub.collector.stands 0x35 = true ∧ t.mram = s.mram)
  ∧ (∀ s temp held, s.hub.serves = true → s.hub.windowCode ≠ 0 → -380 ≤ temp → temp ≤ 1270 → 1000000000 ≤ held →
      (temp < 1270 ∨ 1270 ≤ s.hub.temp) →
      ∃ t, exec (.mramWindowOpen temp held) s = .next t
        ∧ t.hub.windowCode = 0 ∧ t.hub.temp = temp ∧ t.hub.flushing = s.hub.shadowed ∧ t.hub.collector.causeOf 0x35 = false
        ∧ (s.hub.runtimeOn = true → s.hub.run.store.deferred = true → s.hub.run.shadow = [] → t.hub.run.store.writing = true))
  ∧ (∀ s temp, s.hub.serves = true → s.hub.temp < 1270 → 1270 ≤ temp → ∃ t, exec (.deferralMarker temp) s = .next t
    ∧ t.hub.temp = temp
    ∧ (s.rtVersion < 0x0302 → t.hub.run.shadow = s.hub.run.shadow)
    ∧ (0x0302 ≤ s.rtVersion → s.hub.runtimeOn = true → s.hub.run.shadow.length < 128 → t.hub.run.shadow = s.hub.run.shadow ++
        [{ seconds := s.hub.time.seconds % 2 ^ 32, nanos := s.hub.time.nanos, cls := 0xF, code := 1, payload := leBytes 2 s.hub.run.shadow.length }]))
  ∧ (∀ s, s.hub.chgperm = true → (s.hub.permLost = true ∨ s.permAll 0 = false) → ∃ t, exec .chgpermLow s = .next t
    ∧ t = { s with hub := { s.hub with chgperm := false, permFrom := none, permLost := false } })
  ∧ (∀ s held since, s.hub.chgperm = false → s.permAll 50 = true → 1000000000 ≤ held → s.hub.permFrom = some since → since + 1000000000 ≤ s.now →
      ∃ t, exec (.chgpermHigh held) s = .next t ∧ t = { s with hub := { s.hub with chgperm := true, permLost := false } })

/-! ## Laps, schedules, capture, watchdog -/

/-- An edge of ZXA or ZXB sets the land, and while the hub serves makes the level by polarity and, rising on an input in use, a candidate at the time
in 4 ns units less the delay. A vote takes both candidates, but leaves one that is to be a crossing of its own, and leaves the count. A locked vote
inside the gate gives the phase error and the next period, and coasts if that is out of range; one outside is counted, disturbs the lap and leaves the
period. A missing crossing is counted while fewer than three are missed and otherwise the tracker coasts, with source 0x37 where a lock is expected.
An origin counts one lap modulo 2^48 or takes the preset, and what has been accepted by then is what its boundary brings. Rules: R248, R250, R256,
R260. The rounding in the loop is log entry 38 (DESIGN CHOICE). -/
def Obligations.CrossingsOriginsAndLaps : Prop :=
  (∀ s input level at_, Ready.zxEdge s input level at_ = true → ∃ t, exec (.zxEdgeAccept input level at_) s = .next t
    ∧ t.lands = (if input = 0 then { s.lands with zxa := level } else { s.lands with zxb := level })
    ∧ (s.hub.serves = false → t.hub = s.hub)
    ∧ (s.hub.serves = true → (Ready.zx t.hub.lap input).level = (level != s.hub.lapCfg.polarity.testBit input)
        ∧ ((level != s.hub.lapCfg.polarity.testBit input) = true → s.hub.lapCfg.uses input = true →
            (Ready.zx t.hub.lap input).candidate = some ((at_ / 4 * 4 : Nat) - (1000 * s.hub.lapCfg.delayUs : Nat) : Int))))
  ∧ (∀ s v, s.hub.serves = true → s.hub.lap.voteDue s.hub.lapCfg s.now = true → s.hub.lap.vote s.hub.lapCfg = some v →
      ∃ t, exec .votedCrossing s = .next t ∧ t.hub.lap.count = s.hub.lap.count
        ∧ t.hub.lap.zxa.candidate = (if v.a = .left ∧ s.hub.lapCfg.uses 0 = true then s.hub.lap.zxa.candidate else none)
        ∧ t.hub.lap.zxb.candidate = (if v.b = .left ∧ s.hub.lapCfg.uses 1 = true then s.hub.lap.zxb.candidate else none))
  ∧ (∀ s v, Ready.lockedVote s v = true → Ready.inGate s v = true → ∃ t, exec .votedCrossing s = .next t
    ∧ t.hub.lap.error = Ready.phaseError s v
    ∧ (periodInRange (Ready.nextPeriod s v) = true → t.hub.lap.mode = .locked ∧ t.hub.lap.period = Ready.nextPeriod s v ∧ t.hub.lap.missed = 0)
    ∧ (periodInRange (Ready.nextPeriod s v) = false → t.hub.lap.mode = .coasting ∧ t.hub.lap.lostAt = s.now))
  ∧ (∀ s v, Ready.lockedVote s v = true → Ready.inGate s v = false → ∃ t, exec .votedCrossing s = .next t
    ∧ t.hub.lap.rejected = s.hub.lap.rejected + 1 ∧ t.hub.lap.disturbed = true ∧ t.hub.lap.period = s.hub.lap.period ∧ t.hub.lap.mode = .locked)
  ∧ (∀ s, Ready.gateEnds s = true → s.hub.lap.missed < 3 → ∃ t, exec .missingCrossing s = .next t
    ∧ t.hub.lap.missed = s.hub.lap.missed + 1 ∧ t.hub.lap.mode = .locked ∧ t.hub.lap.error = 0 ∧ t.hub.lap.period = s.hub.lap.period)
  ∧ (∀ s, Ready.gateEnds s = true → 3 ≤ s.hub.lap.missed → ∃ t, exec .missingCrossing s = .next t
    ∧ t.hub.lap.mode = .coasting ∧ t.hub.lap.lostAt = s.now ∧ t.hub.lap.period = s.hub.lap.period
    ∧ (s.hub.lapCfg.expected = true → t.hub.collector.stands 0x37 = true))
  ∧ (∀ s, Ready.lapOrigin s = true → ∃ t, exec .lapOrigin s = .next t
    ∧ t.hub.lap.originAt = s.hub.lap.nextOrigin ∧ t.hub.lap.boundaryDue = true ∧ t.hub.lap.preset = none
    ∧ t.hub.run.boundary.planned = s.hub.run.boundary.planned ++ s.hub.run.planned ∧ t.hub.run.boundary.commit = s.hub.run.commitWait
    ∧ (s.hub.lap.preset = none → t.hub.run.boundary.values = Ready.boundaryDue s)
    ∧ (s.hub.lap.preset = none → t.hub.lap.count = (s.hub.lap.count + 1) % 2 ^ 48)
    ∧ ∀ n, s.hub.lap.preset = some n → t.hub.lap.count = n % 2 ^ 48)

/-- A schedule whose moment is at most 2 ms ahead resolves, in a cycle that has room: its moment is stored and every present channel of the lane has
the tagged command queued; without a moment it runs at once, late; one with no bank present is dropped, raises 0x55 and sends nothing; one further
ahead, or in a cycle without room, waits. A sync window with every channel unblanked for 50 per cent and no step gives the summed current, and
otherwise an invalid mark with the last value, both with the disturbance of their lap. A capture starts with the next number and the position, each
sample goes to the next entry of the ring with its marks, the last completes it, and a full ring truncates it with source 0x4C. Rules: R265, R270,
R272, R273. The units of captured samples are log entry 61 and the values SYNC_WINDOW_END carries log entry 65 (both DESIGN CHOICE). -/
def Obligations.SchedulesSensingAndCapture : Prop :=
  (∀ s lane at_, Ready.scheduleDue s lane = true → s.hub.targetTime (s.hub.schedule lane) = some at_ → at_ ≤ s.now + 2000000 →
      ∃ t, exec (.scheduleResolve lane) s = .next t
        ∧ (t.hub.schedule lane).status = 2 ∧ (t.hub.schedule lane).at_ = some at_
        ∧ ∀ ch ∈ s.hub.chansOf lane, s.hub.present (ch / 12) = true → (t.hub.link (ch / 12)).queue.any (fun r => decide (r.cmd.tag = some at_)
            && r.cmd.resolved && decide (r.cmd.lane = lane) && decide (r.cmd.cmd = .setNormal (ch % 12) (s.hub.schedule lane).cmd)) = true)
  ∧ (∀ s lane, Ready.scheduleDue s lane = true → s.hub.targetTime (s.hub.schedule lane) = none → ∃ t, exec (.scheduleResolve lane) s = .next t
        ∧ (t.hub.schedule lane).status = 2 ∧ (t.hub.schedule lane).at_ = some s.now ∧ (t.hub.schedule lane).late = true)
  ∧ (∀ s lane at_, Ready.scheduleDue s lane = true → s.hub.targetTime (s.hub.schedule lane) = some at_ → s.now + 2000000 < at_ →
      exec (.scheduleResolve lane) s = .next s)
  ∧ (∀ s lane, Ready.scheduleArmed s lane = true → s.hub.mayResolve s.cycle = false → exec (.scheduleResolve lane) s = .next s)
  ∧ (∀ s lane, Ready.scheduleArmed s lane = true → s.hub.mayResolve s.cycle = true → s.hub.laneBanks lane = [] →
      ∃ t, exec (.scheduleResolve lane) s = .next t
        ∧ (t.hub.schedule lane).status = 5 ∧ t.hub.collector.stands 0x55 = true ∧ t.hub.links = s.hub.links)
  ∧ (∀ s lane currents unblanked lap second disturbed stepped, Ready.syncWindow s lane currents unblanked lap second disturbed stepped = true →
      ∃ t, exec (.syncWindowEnd lane currents unblanked) s = .next t
    ∧ (t.hub.run.sync.getD lane {}).reported = some (lap, second) ∧ (t.hub.run.sync.getD lane {}).disturbed = disturbed
    ∧ ((stepped = false ∧ unblanked ≠ [] ∧ ∀ u ∈ unblanked, 50 ≤ u) →
        (t.hub.run.sync.getD lane {}).valid = true ∧ (t.hub.run.sync.getD lane {}).current = currents.sum)
    ∧ (¬ (stepped = false ∧ unblanked ≠ [] ∧ ∀ u ∈ unblanked, 50 ≤ u) →
        (t.hub.run.sync.getD lane {}).valid = false ∧ (t.hub.run.sync.getD lane {}).current = (s.hub.run.sync.getD lane {}).current))
  ∧ (∀ s at_, Ready.captureStart s at_ = true → ∃ t, exec .captureStart s = .next t ∧ t.hub.capture.mode = .running
    ∧ t.hub.capture.number = (s.hub.capture.number + 1) % 2 ^ 32 ∧ t.hub.capture.startPos = s.hub.lap.position s.now ∧ t.hub.capture.written = 0)
  ∧ (∀ s mean blanked limited, Ready.captureSample s = true → s.hub.capture.count < 4096 → ∃ t, exec (.captureSample mean blanked limited) s = .next t
    ∧ t.hub.capture.written = s.hub.capture.written + 1 ∧ t.hub.capture.count = s.hub.capture.count + 1
    ∧ t.hub.capture.writeIdx = (s.hub.capture.writeIdx + 1) % 4096
    ∧ t.hub.capture.ring.getLast? = some (s.hub.capture.writeIdx, q7Entry (Ready.sampleOf s mean) blanked limited s.hub.lap.disturbed
        (decide (s.hub.capture.written = 0)) s.hub.capture.number)
    ∧ t.hub.capture.mode = (if s.hub.capture.length ≤ s.hub.capture.written + 1 then .complete else .running))
  ∧ (∀ s mean blanked limited, Ready.captureSample s = true → 4096 ≤ s.hub.capture.count → ∃ t, exec (.captureSample mean blanked limited) s = .next t
    ∧ t.hub.capture.mode = .truncated ∧ t.hub.capture.ring = s.hub.capture.ring ∧ t.hub.collector.stands 0x4C = true)

/-- The first miss keeps the watchdog armed with the next window and its kind, and sends nothing. A second miss in a row, or a window missed twice
over, forces the watchdog, raises source 0x36 and, while no planned stop is under way, queues the force command for every present bank. An arm
deadline that passes does the same and counts two misses. Rules: R241, R243. That the guard of an event in time is met from the earliest moment on is
log entry 13 (DESIGN CHOICE). -/
def Obligations.WatchdogMissesForceTheBanks : Prop :=
  (∀ s, Ready.windowMissed s = true → s.hub.run.dog.misses = 0 → Ready.windowMissedTwice s = false → ∃ t, exec .watchdogLateMiss s = .next t
    ∧ t.hub.run.dog.mode = .armed ∧ t.hub.run.dog.misses = 1 ∧ t.hub.run.dog.lastKind = 2
    ∧ t.hub.run.dog.windowAt = s.hub.run.dog.windowAt + s.hub.run.dog.span ∧ t.hub.dogMisses = s.hub.dogMisses + 1 ∧ t.hub.links = s.hub.links)
  ∧ (∀ s, Ready.windowMissed s = true → (1 ≤ s.hub.run.dog.misses ∨ Ready.windowMissedTwice s = true) → s.hub.shaped = true →
      ∃ t, exec .watchdogLateMiss s = .next t
        ∧ t.hub.run.dog.mode = .forced ∧ t.hub.run.dog.lastKind = 2 ∧ t.hub.collector.stands 0x36 = true
        ∧ ∀ b, s.hub.free = true → s.hub.present b = true → Ready.forcesAll t b = true)
  ∧ (∀ s, s.hub.serving = true → s.hub.run.dog.mode = .awaiting → s.hub.run.dog.deadline ≤ s.now → s.hub.shaped = true →
      ∃ t, exec .armDeadlineExpiry s = .next t
        ∧ t.hub.run.dog.mode = .forced ∧ t.hub.run.dog.misses = s.hub.run.dog.misses + 2 ∧ t.hub.dogMisses = s.hub.dogMisses + 2
        ∧ t.hub.collector.stands 0x36 = true ∧ ∀ b, s.hub.free = true → s.hub.present b = true → Ready.forcesAll t b = true)

/-! ## Time -/

/-- With the host as owner a sync message of the grandmaster is measured only, with the path delay of its port. Otherwise an offset above the step
limit steps the counter by it, counts a set and acquires; a smaller one runs the servo, sets the increment its rate gives and locks when it says so,
and leaves the counter; with PPS as reference it leaves domain P. Domain S keeps its own offset. An announce is kept as a candidate with its time; one
better than every other candidate and the unit itself becomes grandmaster, and a new identity raises the domain source. Once per second a path delay
with one responder is stored, several make a measuring port use the static delay, none changes nothing. Sync and announce frames are queued in class 3
of their port, not before their interval has passed. Rules: R323, R326, R327, R328, R329. The layout of gPTP frames is log entry 57 (PRESUMED), their
domain numbers and states log entry 43, and what a relay announces log entry 98 (both DEDUCED). -/
def Obligations.TimeFollowsItsReference : Prop :=
  (∀ s n origin interval, Ready.gptpSync s n interval = true → s.hub.timeCfg.ppsMode ≠ 3 → s.hub.time.hostOwned = true →
      ∃ t, exec (.gptpSyncRx n origin interval) s = .next t
        ∧ t.hub.time.servo.offset = Ready.offsetP s n origin ∧ t.hub.time.p = s.hub.time.p ∧ t.hub.time.increment = s.hub.time.increment
        ∧ t.hub.time.first.lastSync = some s.now ∧ t.hub.time.first.origin = origin)
  ∧ (∀ s n origin interval, Ready.gptpSync s n interval = true → s.hub.timeCfg.ppsMode ≠ 3 → s.hub.time.hostOwned = false →
      (s.hub.timeCfg.servo.stepNs : Int) < (Ready.offsetP s n origin).natAbs → ∃ t, exec (.gptpSyncRx n origin interval) s = .next t
        ∧ t.hub.time.p = ((((s.hub.time.p : Int) - Ready.offsetP s n origin * pUnit) % (pModulus : Int)).toNat)
        ∧ t.hub.time.state = .acquiring ∧ t.hub.time.servo.good = 0 ∧ t.hub.time.sets = s.hub.time.sets + 1
        ∧ t.hub.time.increment = s.hub.time.increment ∧ t.hub.time.first.lastSync = some s.now)
  ∧ (∀ s n origin interval, Ready.gptpSync s n interval = true → s.hub.timeCfg.ppsMode ≠ 3 → s.hub.time.hostOwned = false →
      ((Ready.offsetP s n origin).natAbs : Int) ≤ s.hub.timeCfg.servo.stepNs → ∃ t, exec (.gptpSyncRx n origin interval) s = .next t
        ∧ t.hub.time.servo = (Ready.servoOut s n origin interval).servo ∧ t.hub.time.p = s.hub.time.p
        ∧ t.hub.time.increment = incrementOf (Ready.servoOut s n origin interval).servo.rate
        ∧ t.hub.time.state = (if (Ready.servoOut s n origin interval).servo.locked then .lockedGptp else .acquiring)
        ∧ t.hub.time.first.lastSync = some s.now ∧ t.hub.time.lostAt = none)
  ∧ (∀ s n origin interval, Ready.gptpSync s n interval = true → s.hub.timeCfg.ppsMode = 3 → ∃ t, exec (.gptpSyncRx n origin interval) s = .next t
    ∧ t.hub.time.p = s.hub.time.p ∧ t.hub.time.increment = s.hub.time.increment ∧ t.hub.time.state = s.hub.time.state
    ∧ t.hub.time.first.lastSync = some s.now)
  ∧ (∀ s n origin interval, Ready.secondSync s n interval = true → ∃ t, exec (.secondDomainSample n origin interval) s = .next t
        ∧ t.hub.time.second.lastSync = some s.now ∧ t.hub.time.second.origin = origin ∧ t.hub.time.second.intervalNs = interval
        ∧ t.hub.time.servoS.offset = s.hub.time.derived / pUnit - (origin + s.hub.time.pathDelay s.hub.timeCfg n : Nat) ∧ t.hub.time.p = s.hub.time.p)
  ∧ (∀ s n second vector steps, Ready.hears s n second = true → ∃ t, exec (.gptpAnnounceRx n second vector steps) s = .next t
    ∧ { vector := vector, steps := steps, port := n, heardAt := s.now } ∈ (t.hub.time.domain second).candidates
    ∧ (t.hub.time.domain second).lastAnnounce = some s.now)
  ∧ (∀ s n second vector steps, Ready.announced s n second vector = true → ∃ t, exec (.gptpAnnounceRx n second vector steps) s = .next t
    ∧ (t.hub.time.domain second).grandmaster = some vector ∧ (t.hub.time.domain second).slavePort = some n
    ∧ (t.hub.time.domain second).lost = false
    ∧ ∀ g, (s.hub.time.domain second).grandmaster = some g → vector % 2 ^ 64 ≠ g % 2 ^ 64 →
        t.hub.collector.stands (gptpSource second) = true ∧ (t.hub.time.domain second).changed = true)
  ∧ (∀ s n responders delay, s.hub.runtimeOn = true → s.hub.gptpPort n = true → s.hub.time.maySend n delayKind 1000000000 s.now = true →
      ∃ t, exec (.gptpPdelayExchange n responders delay) s = .next t
        ∧ (Ready.measures s n = true → 1 < responders → (Ready.pathDelay t.hub.time n).onStatic = true ∧ (Ready.pathDelay t.hub.time n).singles = 0)
        ∧ (responders = 1 → (Ready.pathDelay t.hub.time n).measured = delay)
        ∧ (Ready.measures s n = true → responders = 1 →
            (Ready.pathDelay t.hub.time n).singles = min 8 ((Ready.pathDelay s.hub.time n).singles + 1))
        ∧ (Ready.measures s n = true → responders = 0 → Ready.pathDelay t.hub.time n = Ready.pathDelay s.hub.time n)
        ∧ (Ready.measures s n = false → (Ready.pathDelay t.hub.time n).onStatic = false))
  ∧ (∀ s n responders delay, s.hub.time.maySend n delayKind 1000000000 s.now = false → exec (.gptpPdelayExchange n responders delay) s = .next s)
  ∧ (∀ s n second, s.hub.runtimeOn = true → s.hub.sendsSync n second = true → (s.hub.net.port n).class3.length ≤ 2 →
      s.hub.time.maySend n (syncKind second) s.hub.timeCfg.syncNs s.now = true → ∃ t, exec (.gptpSyncSend n second) s = .next t
        ∧ (t.hub.net.port n).class3.map TxFrame.data = (s.hub.net.port n).class3.map TxFrame.data ++ s.hub.syncFrames n second
        ∧ t.hub.net.port (1 - n) = s.hub.net.port (1 - n))
  ∧ (∀ s n second, s.hub.time.maySend n (syncKind second) s.hub.timeCfg.syncNs s.now = false → exec (.gptpSyncSend n second) s = .next s)
  ∧ (∀ s n, s.hub.runtimeOn = true → s.hub.gptpPort n = true → (s.hub.net.port n).class3.length ≤ 2 →
      s.hub.time.maySend n (announceKind false) 1000000000 s.now = true → ∃ t, exec (.gptpAnnounceSend n) s = .next t
        ∧ (t.hub.net.port n).class3.map TxFrame.data = (s.hub.net.port n).class3.map TxFrame.data ++ Ready.announceFrames s n
        ∧ (s.hub.time.capable = true → s.hub.time.first.candidates = [] →
            t.hub.time.first.grandmaster = some (s.hub.time.ownVector s.hub.timeCfg ownMac)))
  ∧ (∀ s n, s.hub.time.maySend n (announceKind false) 1000000000 s.now = false → exec (.gptpAnnounceSend n) s = .next s)

/-- A host that stops writing is marked stale and the increment stays. A sync timeout marks the domain and raises its source where a grandmaster was
known; an announce timeout with no candidate left forgets the grandmaster and raises the domain source, and so does the absence of any announce; a
lost reference of domain P in either case, also where another candidate takes the grandmaster's place, enters holdover with the computed increment and
source 0x45. The holdover limit is marked and raised while holdover goes on. A PPS edge captures both domains; a missing one raises 0x46. With VIO the
PPS output rises as domain P passes a mark, and it falls after its width on domain P. Rules: R325, R334, R335, R340, R341. That the guard of an event
in time is met from the earliest moment on is log entry 13 (DESIGN CHOICE). -/
def Obligations.TimeReferencesAreLostAndPpsServed : Prop :=
  (∀ s, s.hub.runtimeOn = true → s.hub.time.hostOwned = true → s.hub.time.hostStale = false → s.hub.timeCfg.hostMs ≠ 0 →
      s.hub.time.hostWrite + s.hub.timeCfg.hostMs * 1000000 ≤ s.now → ∃ t, exec .hostServoTimeout s = .next t
        ∧ t.hub.time.hostStale = true ∧ t.hub.time.increment = s.hub.time.increment ∧ t.hub.time.state = s.hub.time.state)
  ∧ (∀ s second, Ready.syncTimeout s second = true → ∃ t, exec (.syncReceiptTimeout second) s = .next t
    ∧ (t.hub.time.domain second).timeout = (s.hub.time.domain second).grandmaster.isSome
    ∧ ((s.hub.time.domain second).grandmaster.isSome = true → t.hub.collector.stands (gptpSource second) = true)
    ∧ (second = false → s.hub.timeCfg.ppsMode ≠ 3 → Ready.losesReference s = true →
        t.hub.time.state = .holdover ∧ t.hub.time.lostAt = some s.now ∧ t.hub.time.increment = s.hub.time.holdIncrement s.now
          ∧ t.hub.collector.stands 0x45 = true))
  ∧ (∀ s second g, Ready.announceTimeout s second g = true → ∃ t, exec (.announceReceiptTimeout second) s = .next t
    ∧ ((s.hub.time.domain second).live s.hub.timeCfg s.now = [] → s.hub.time.capable = false →
        (t.hub.time.domain second).grandmaster = none ∧ (t.hub.time.domain second).lost = true ∧ t.hub.collector.stands (gptpSource second) = true)
    ∧ (second = false → s.hub.timeCfg.ppsMode ≠ 3 → Ready.losesReference s = true → t.hub.time.state = .holdover ∧ t.hub.collector.stands 0x45 = true))
  ∧ (∀ s second, s.hub.runtimeOn = true → (s.hub.time.domain second).grandmaster = none → (s.hub.time.domain second).lost = false →
      s.hub.timeCfg.inst ≠ 0 → (second = true → s.hub.timeCfg.secondOn = true) →
      elapsed (s.hub.time.domain second).lastAnnounce (s.hub.timeCfg.announceS * 1000000000) s.now = true →
      ∃ t, exec (.announceReceiptTimeout second) s = .next t
        ∧ (t.hub.time.domain second).lost = true ∧ t.hub.collector.stands (gptpSource second) = true)
  ∧ (∀ s, s.hub.runtimeOn = true → s.hub.time.state = .holdover → s.hub.time.limitHit = false →
      elapsed s.hub.time.lostAt (s.hub.timeCfg.holdLimit * 1000000000) s.now = true → ∃ t, exec .holdoverLimit s = .next t
        ∧ t.hub.time.limitHit = true ∧ t.hub.time.state = .holdover ∧ t.hub.collector.stands 0x45 = true)
  ∧ (∀ s low, s.pwr.vio = true → s.hub.serves = true → (s.hub.timeCfg.ppsMode = 2 ∨ s.hub.timeCfg.ppsMode = 3) → 100 ≤ low →
      ∃ t, exec (.ppsEdgeCapture low) s = .next t
        ∧ t.hub.time.pps.capP = s.hub.time.p ∧ t.hub.time.pps.capS = s.hub.time.s ∧ t.hub.time.pps.captures = s.hub.time.pps.captures + 1
        ∧ t.hub.time.pps.lastEdge = some s.now)
  ∧ (∀ s, s.hub.runtimeOn = true → s.hub.timeCfg.ppsMode = 3 → s.hub.time.pps.missing = false →
      elapsed s.hub.time.pps.lastEdge 1500000000 s.now = true → ∃ t, exec .ppsMissing s = .next t
        ∧ t.hub.time.pps.missing = true ∧ t.hub.collector.stands 0x46 = true
        ∧ (Ready.losesReference s = true → t.hub.time.state = .holdover ∧ t.hub.collector.stands 0x45 = true))
  ∧ (∀ s, s.pwr.vio = true → s.hub.serves = true → s.hub.timeCfg.ppsMode = 1 → s.hub.time.pps.high = false →
      ppsMarks s.hub.timeCfg s.hub.time.pps.since < ppsMarks s.hub.timeCfg s.hub.time.pNs → ∃ t, exec .ppsOutputRise s = .next t
        ∧ t.hub.time.pps.high = true ∧ t.hub.time.pps.riseAt = ppsMarks s.hub.timeCfg s.hub.time.pNs * 1000000000 + s.hub.timeCfg.ppsOffset
        ∧ t.hub.time.pps.since = s.hub.time.pNs)
  ∧ (∀ s, s.pwr.vio = false → exec .ppsOutputRise s = .next s)
  ∧ (∀ s, s.hub.serves = true → s.hub.time.pps.high = true → s.hub.time.pps.riseAt + (s.hub.timeCfg.ppsWidth * 1000 : Nat) ≤ (s.hub.time.pNs : Int) →
      ∃ t, exec .ppsOutputFall s = .next t ∧ t.hub.time.pps.high = false ∧ t.hub.time.p = s.hub.time.p)

/-! ## Network -/

/-- An eligible Q3 head is marked with the time and the coarse mark of a calibration, and nothing else changes. A head that waits too long is done
with status 5 and raises 0x47, and so does a retry that waits too long on its port. An invalid Q4 descriptor is done with status 9 and sends nothing;
one without a port is done with status 6; another is queued in its class on each of its ports, once each, if they have room, marked as held where it
has met standby. Rules: R346, R374, R379. -/
def Obligations.TimedAndQueuedFramesAreServed : Prop :=
  (∀ s h, Ready.launches s h = true → ∃ t, exec .q3LaunchEligible s = .next t
    ∧ t = { s with hub := { s.hub with net := { s.hub.net with q3Head := some { h with eligible := some s.now, retimed := h.retimed || s.hub.calibrating } } } })
  ∧ (∀ s d h, Ready.headWaits s d h = true → ∃ t, exec .mediumWaitTimeout s = .next t
    ∧ t.hub.net.q3.slots.getD s.hub.net.q3.cons 0 = setWord3 d 5 ∧ t.hub.net.q3.cons ≠ s.hub.net.q3.cons ∧ t.hub.collector.stands 0x47 = true)
  ∧ (∀ s k, Ready.retryWaits s k = true → ∃ t, exec .mediumWaitTimeout s = .next t
    ∧ t.hub.net.port0.waiting = none ∧ t.hub.net.port1 = s.hub.net.port1 ∧ t.hub.collector.stands 0x47 = true)
  ∧ (∀ s d, Ready.q4Head s d = true → q4Invalid d (taggedFrame (Ready.q4Data s d)) = true → ∃ t, exec .q4Handover s = .next t
    ∧ t.hub.net.q4.slots.getD s.hub.net.q4.cons 0 = setWord3 d 9 ∧ t.hub.net.q4.cons = (s.hub.net.q4.cons + 1) % 32
    ∧ t.hub.net.port0 = s.hub.net.port0 ∧ t.hub.net.port1 = s.hub.net.port1)
  ∧ (∀ s d, Ready.q4Head s d = true → q4Invalid d (taggedFrame (Ready.q4Data s d)) = false → Ready.q4Ports s d = [] → ∃ t, exec .q4Handover s = .next t
    ∧ t.hub.net.q4.slots.getD s.hub.net.q4.cons 0 = setWord3 d 6 ∧ t.hub.net.q4.cons = (s.hub.net.q4.cons + 1) % 32)
  ∧ (∀ s d, Ready.q4Head s d = true → q4Invalid d (taggedFrame (Ready.q4Data s d)) = false → Ready.q4Ports s d ≠ [] →
      (∀ p ∈ Ready.q4Ports s d, (s.hub.net.port p).room (highClass s.hub.netCfg (Ready.q4Data s d)) = true) → ∃ t, exec .q4Handover s = .next t
        ∧ t.hub.net.q4.cons = (s.hub.net.q4.cons + 1) % 32
        ∧ t.hub.net.q4Out = s.hub.net.q4Out ++ [{ index := s.hub.net.q4.cons, copies := (Ready.q4Ports s d).length }]
        ∧ ∀ p ∈ Ready.q4Ports s d, t.hub.net.port p = (s.hub.net.port p).enqueue (highClass s.hub.netCfg (Ready.q4Data s d))
            { source := .q4 s.hub.net.q4.cons, length := q4Len d, wantTs := d.testBit 8, tsId := field d 0 8, held := decide (0 < s.hub.net.q4Held) })

/-- At an opportunity a waiting retry is sent first; else the frame of the highest class picked, which leaves its queue, and with none the burst ends;
the PLCA cycle goes on behind the ID that had its turn. Under PLCA an ID that the port does not own, or whose turn has passed, sends nothing. An abort
is counted and waits for another attempt below sixteen, and is dropped at the sixteenth; sixteen aborts in a row take the link down and raise the port
source. The end of a frame counts it, brings the link back, ends the run of aborts, counts a timed frame as on time or late by its status, and gives a
requested timestamp while Q6 has room. Rules: R348, R356, R358, R365. The opportunities come one by one as commands, each with the ID that has its
turn (log entry 42). -/
def Obligations.PortsTransmitByPriority : Prop :=
  (∀ s n id w, Ready.opportunity s n id = true → (s.hub.net.port n).waiting = some w → ∃ t, exec (.transmitOpportunity n id) s = .next t
    ∧ (t.hub.net.port n).current = some { w with startAt := s.now, startP := s.hub.time.p, coarse := s.hub.calibrating }
    ∧ (t.hub.net.port n).waiting = none ∧ (t.hub.net.port n).burst = Ready.burstOf s n
    ∧ (s.hub.net.plcaActive s.hub.netCfg n = true → (t.hub.net.port n).cycle = some (id + 1)))
  ∧ (∀ s n id cls f, Ready.opportunity s n id = true → (s.hub.net.port n).waiting = none → s.hub.net.pick n = some (cls, f) →
      ∃ t, exec (.transmitOpportunity n id) s = .next t
        ∧ (t.hub.net.port n).current = some { frame := f, cls := cls, startAt := s.now, startP := s.hub.time.p, coarse := s.hub.calibrating,
                                              attempts := 0, head := s.hub.net.q3Head.getD {} }
        ∧ (t.hub.net.port n).burst = Ready.burstOf s n ∧ (cls = 3 → (t.hub.net.port n).class3 = (s.hub.net.port n).class3.drop 1)
        ∧ (cls = 1 → (t.hub.net.port n).class1 = (s.hub.net.port n).class1.drop 1)
        ∧ (cls = 0 → (t.hub.net.port n).class0 = (s.hub.net.port n).class0.drop 1)
        ∧ (s.hub.net.plcaActive s.hub.netCfg n = true → (t.hub.net.port n).cycle = some (id + 1)))
  ∧ (∀ s n id, Ready.opportunity s n id = true → (s.hub.net.port n).waiting = none → s.hub.net.pick n = none →
      ∃ t, exec (.transmitOpportunity n id) s = .next t ∧ (t.hub.net.port n).current = none ∧ (t.hub.net.port n).burst = 0
        ∧ (s.hub.net.plcaActive s.hub.netCfg n = true → (t.hub.net.port n).cycle = some (id + 1)))
  ∧ (∀ s n id, s.hub.net.plcaActive s.hub.netCfg n = true → s.hub.net.hasTurn s.hub.netCfg n id = false →
      ∃ t, exec (.transmitOpportunity n id) s = .next t ∧ t.hub.net.port0 = s.hub.net.port0 ∧ t.hub.net.port1 = s.hub.net.port1)
  ∧ (∀ s n cur, Ready.transmitting s n cur = true → cur.attempts < 15 → ∃ t, exec (.transmitAbort n) s = .next t
    ∧ (t.hub.net.port n).current = none ∧ (t.hub.net.port n).waiting = some { cur with attempts := cur.attempts + 1 }
    ∧ (t.hub.net.port n).aborts = (s.hub.net.port n).aborts + 1)
  ∧ (∀ s n cur, Ready.transmitting s n cur = true → 15 ≤ cur.attempts → ∃ t, exec (.transmitAbort n) s = .next t
    ∧ (t.hub.net.port n).current = none ∧ (t.hub.net.port n).waiting = none ∧ (t.hub.net.port n).aborts = (s.hub.net.port n).aborts + 1)
  ∧ (∀ s n cur, Ready.transmitting s n cur = true → 15 ≤ (s.hub.net.port n).abortRun → (s.hub.net.port n).linkDown = false →
      ∃ t, exec (.transmitAbort n) s = .next t ∧ (t.hub.net.port n).linkDown = true ∧ t.hub.collector.stands (portSource n) = true)
  ∧ (∀ s n cur, Ready.transmitting s n cur = true → ∃ t, exec (.frameTransmitEnd n) s = .next t
    ∧ (t.hub.net.port n).sent = (s.hub.net.port n).sent + 1 ∧ (t.hub.net.port n).lastSent = some cur.frame ∧ (t.hub.net.port n).linkDown = false
    ∧ (t.hub.net.port n).abortRun = 0
    ∧ ((s.hub.net.port n).burst = 0 ∨ (s.hub.net.port n).plcaDue = true → (t.hub.net.port n).current = none)
    ∧ (t.hub.net.port n).plcaDue = false
    ∧ (∀ k, cur.frame.source = .q3 k → (if cur.head.status = 1 ∨ cur.head.status = 7 then t.hub.time.onTime = s.hub.time.onTime + 1
        else t.hub.time.late = s.hub.time.late + 1))
    ∧ (∀ k, cur.frame.source = .q4 k → cur.frame.wantTs = true → s.hub.net.q6.full 16 = false → t.hub.net.q6.prod = (s.hub.net.q6.prod + 1) % 16))

/-- A follower without a beacon for 4 ms is marked and the port source raised; a seen beacon ends the mark, notes the time and begins a PLCA cycle.
The error rate is held against the limit by the errors of the last second: above it, it stands and its rise raises the port source; at it or below, it
does not stand. A learned address leaves the table when its ageing time has passed, and the others stay. Rules: R357, R360, R363. That the guard of an
event in time is met from the earliest moment on is log entry 13 (DESIGN CHOICE). -/
def Obligations.PortsFollowTheirBeaconAndErrors : Prop :=
  (∀ s n, Ready.follower s n = true → (s.hub.net.port n).beaconLost = false → (s.hub.net.port n).lastBeacon + 4000000 ≤ s.now →
      ∃ t, exec (.beaconLost n) s = .next t ∧ (t.hub.net.port n).beaconLost = true ∧ t.hub.collector.stands (portSource n) = true)
  ∧ (∀ s n, Ready.follower s n = true → ∃ t, exec (.beaconSeen n) s = .next t
    ∧ (t.hub.net.port n).beaconLost = false ∧ (t.hub.net.port n).lastBeacon = s.now ∧ (t.hub.net.port n).cycle = some 0)
  ∧ (∀ s n, s.hub.serves = true → n < 2 → ∃ t, exec (.receiveErrorRateClear n) s = .next t
    ∧ (t.hub.net.port n).errorTimes = Ready.recentErrors s n
    ∧ (t.hub.net.port n).errorRate = ((s.hub.net.port n).running && decide ((s.hub.netCfg.port n).errors < (Ready.recentErrors s n).length))
    ∧ ((s.hub.net.port n).running = true → (s.hub.net.port n).errorRate = false →
        (s.hub.netCfg.port n).errors < (Ready.recentErrors s n).length → t.hub.collector.stands (portSource n) = true))
  ∧ (∀ s mac, s.hub.serves = true → s.hub.netCfg.ageing ≠ 0 → ∃ t, exec (.learnEntryAgeOut mac) s = .next t
    ∧ t.hub.net.learned = s.hub.net.learned.filter (fun l => !(decide (l.mac = mac) && decide (l.seen + s.hub.netCfg.ageing * 1000000000 ≤ s.now))))

/-- A frame with an error is counted and stored nowhere. A good frame for this unit is counted, written to the buffer of the next Q5 entry and
produced; with Q5 full it is lost with the overflow flag and source 0x49. A link-local frame is counted and stored nowhere. Classification advances
its index, gives the runtime its item, held back while an unread entry for the host is before it, and marks the entry as handled, for the host, or
dropped. An ARP request is answered with the own address and an echo request with the echo. Rules: R361, R376, R386. What the runtime does not handle
goes to the host filters by log entry 56 (DEDUCED); how an unread entry holds those behind it is log entry 103 (DEDUCED). -/
def Obligations.ReceivedFramesAreCheckedStoredAndClassified : Prop :=
  (∀ s n frame lineError, Ready.receives s n = true → ingressOk frame lineError = false → ∃ t, exec (.frameIngress n frame lineError) s = .next t
    ∧ (t.hub.net.port n).rxErrors = (s.hub.net.port n).rxErrors + 1 ∧ t.bufs = s.bufs ∧ t.hub.net.q5 = s.hub.net.q5)
  ∧ (∀ s n frame, Ready.receives s n = true → Ready.forMe s frame = true → s.hub.net.q5.full 64 = false → ∃ t, exec (.frameIngress n frame false) s = .next t
    ∧ (t.hub.net.port n).received = (s.hub.net.port n).received + 1 ∧ t.bufs = writeCells bufBlank s.bufs (rxBase s.hub.net.q5.prod) (Ready.frameData frame)
    ∧ t.hub.net.q5.prod = (s.hub.net.q5.prod + 1) % 64)
  ∧ (∀ s n frame, Ready.receives s n = true → Ready.forMe s frame = true → s.hub.net.q5.full 64 = true → ∃ t, exec (.frameIngress n frame false) s = .next t
    ∧ t.bufs = s.bufs ∧ t.hub.net.q5.prod = s.hub.net.q5.prod ∧ t.hub.net.q5.overflow = true ∧ t.hub.collector.stands 0x49 = true)
  ∧ (∀ s n frame, Ready.receives s n = true → ingressOk frame false = true → linkLocal (netNat (Ready.frameData frame) 0 6) = true →
      ∃ t, exec (.frameIngress n frame false) s = .next t
        ∧ (t.hub.net.port n).received = (s.hub.net.port n).received + 1 ∧ t.bufs = s.bufs ∧ t.hub.net.q5 = s.hub.net.q5)
  ∧ (∀ s, Ready.q5Behind s = true → ∃ t, exec .q5Classify s = .next t
    ∧ t.hub.net.classify = (s.hub.net.classify + 1) % 64 ∧ t.hub.net.q5.cons = s.hub.net.q5.cons ∧ t.hub.inbox = s.hub.inbox
    ∧ t.hub.q5Held = s.hub.q5Held ++ ((Ready.q5Item s).map fun x => (s.hub.net.classify, x)).toList)
  ∧ (∀ s, Ready.q5Free s = true → ∃ t, exec .q5Classify s = .next t
    ∧ t.hub.net.classify = (s.hub.net.classify + 1) % 64 ∧ t.hub.q5Held = [] ∧ t.hub.inbox = s.hub.inbox ++ (Ready.q5Item s).toList
    ∧ t.hub.net.q5.slots.getD s.hub.net.classify 0 = markQ5 (s.hub.net.q5.slots.getD s.hub.net.classify 0)
        (if (Ready.q5Item s).isSome then 1 else if !rawForeign (Ready.q5Data s) && hostWants s.hub.netCfg (netNat (Ready.q5Data s) 0 6) then 2 else 3))
  ∧ (∀ s data, s.hub.serving = true → s.hub.inbox.find? NetItem.isArp = some (.arp data) → ∃ t, exec .arpRequest s = .next t
    ∧ t.hub.inbox = s.hub.inbox.eraseP NetItem.isArp
    ∧ t.hub = (s.hub.takeItem NetItem.isArp).sendFrame (rxFrame data).src (etherFrame (rxFrame data).src none 0x0806
        ([0#8, 1#8, 8#8, 0#8, 6#8, 4#8, 0#8, 2#8] ++ beBytes 6 ownMac ++ beBytes 4 s.hub.ip ++ slice (rxFrame data).payload 8 10)))
  ∧ (∀ s data src dst body, s.hub.serving = true → s.hub.inbox.find? NetItem.isIcmp = some (.icmp data) →
      ipv4Parts (rxFrame data).payload = some (1, src, dst, body) → ∃ t, exec .icmpEcho s = .next t
        ∧ t.hub.inbox = s.hub.inbox.eraseP NetItem.isIcmp ∧ t.hub.run.ipId = (s.hub.run.ipId + 1) % 65536
        ∧ t.hub = (s.hub.takeItem NetItem.isIcmp).sendIp (rxFrame data).src 1 src
            ([0#8, 0#8] ++ beBytes 2 (inetSum ([0#8, 0#8] ++ beBytes 2 0 ++ body.drop 4)) ++ body.drop 4))

/-! ## Writes to objects -/

/-- An acknowledgement clears the events of its mask. A runtime restart, hub reset, port reset or whole device reset replaces a planned request of its
object and waits for the lap boundary; the restart is refused 0x0307 while a journal record waits. Standby is planned while MRAM can be written and
refused 0x0307 otherwise. Rules: R35, R81, R94, R381. That a planned stop waits for MRAM is log entry 68 (DEDUCED). -/
def Obligations.EventsResetsAndStandbyAreRequested : Prop :=
  (∀ s k mask, Ready.mayWrite s k 0x1030 3 mask = true → ∃ t, exec (.eventAcknowledge k mask) s = .next t
    ∧ Ready.accepted t ∧ t.hub.pending = s.hub.pending &&& ~~~BitVec.ofNat 16 mask)
  ∧ (∀ s k, Ready.mayWrite s k 0x2014 3 1 = true → s.hub.shadowed = false → ∃ t, exec (.resetRequestRuntimeRestart k) s = .next t
    ∧ Ready.accepted t ∧ t.hub.run.planned = s.hub.run.planned.filter (fun q => decide (q.object ≠ 0)) ++ [.restart])
  ∧ (∀ s k, Ready.mayWrite s k 0x2014 3 1 = true → s.hub.shadowed = true → ∃ t, exec (.resetRequestRuntimeRestart k) s = .next t
    ∧ Ready.refused t 0x0307 ∧ t.hub.run.planned = s.hub.run.planned)
  ∧ (∀ s k, Ready.mayWrite s k 0x2014 3 2 = true → ∃ t, exec (.resetRequestHubReset k) s = .next t
    ∧ Ready.accepted t ∧ t.hub.run.planned = s.hub.run.planned.filter (fun q => decide (q.object ≠ 0)) ++ [.hubReset])
  ∧ (∀ s k n, n < 2 → Ready.mayWrite s k 0x2014 3 (3 + n) = true → ∃ t, exec (.resetRequestPortReset k n) s = .next t
    ∧ Ready.accepted t ∧ t.hub.run.planned = s.hub.run.planned.filter (fun q => decide (q.object ≠ 0)) ++ [.portReset n])
  ∧ (∀ s k, Ready.mayWrite s k 0x2014 3 5 = true → ∃ t, exec (.resetRequestWholeDevice k) s = .next t
    ∧ Ready.accepted t ∧ t.hub.run.planned = s.hub.run.planned.filter (fun q => decide (q.object ≠ 0)) ++ [.wholeReset])
  ∧ (∀ s k, Ready.mayWrite s k 0x2014 4 1 = true → s.hub.windowCode = 0 → ∃ t, exec (.standbyRequest k) s = .next t
    ∧ Ready.accepted t ∧ t.hub.run.planned = s.hub.run.planned.filter (fun q => decide (q.object ≠ 1)) ++ [.standby])
  ∧ (∀ s k, Ready.mayWrite s k 0x2014 4 1 = true → s.hub.windowCode ≠ 0 → ∃ t, exec (.standbyRequest k) s = .next t
    ∧ Ready.refused t 0x0307 ∧ t.hub.run.planned = s.hub.run.planned)

/-- A lane command off, on or follow on a lane free for it is kept as the accepted value and queued for every present channel of the lane, and answers
when the banks have acknowledged; an on command that is refused answers its code and sends nothing. An unlock is queued for the channels of the lane
and keeps no value. A snapshot is queued with one tag for every bank of the lane and answers when they have reported. Rules: R129, R178, R196. An
executed schedule sets the command object by log entry 31 (DEDUCED). -/
def Obligations.LaneCommandsReachTheBanks : Prop :=
  (∀ s k lane, Ready.mayWrite s k (laneIdx lane 0) 1 0 = true → Ready.laneFree s lane .off = true →
      Ready.laneCommanded s k lane .off (exec (.laneCommandOff k lane) s))
  ∧ (∀ s k lane, Ready.mayWrite s k (laneIdx lane 0) 1 1 = true → Ready.laneFree s lane .on = true →
      Ready.laneCommanded s k lane .on (exec (.laneCommandOn k lane) s))
  ∧ (∀ s k lane, Ready.mayWrite s k (laneIdx lane 0) 1 2 = true → Ready.laneFree s lane .follow = true →
      Ready.laneCommanded s k lane .follow (exec (.laneCommandFollow k lane) s))
  ∧ (∀ s k lane, lane < 48 → Ready.mayWrite s k (laneIdx lane 0) 1 1 = true → s.hub.commandRefusal lane .on ≠ 0 →
      ∃ t, exec (.laneCommandOn k lane) s = .next t ∧ Ready.refused t (s.hub.commandRefusal lane .on) ∧ t.hub.links = s.hub.links
        ∧ t.hub.run.accepted = s.hub.run.accepted)
  ∧ (∀ s k lane, Ready.mayWrite s k (laneIdx lane 4) 0x19 1 = true → Ready.unlockable s lane = true → ∃ t, exec (.unlock k lane) s = .next t
    ∧ Ready.awaited s t k ∧ Ready.onLinks s t (s.hub.chansOf lane) .unlock ∧ t.hub.run.accepted = s.hub.run.accepted)
  ∧ (∀ s k lane, lane < 48 → s.hub.shaped = true → Ready.mayWrite s k (laneIdx lane 4) 0x1A 1 = true → s.hub.needsBank lane = 0 →
      ∃ t, exec (.snapshotTrigger k lane) s = .next t
        ∧ Ready.awaited s t k ∧ t.hub.run.snapWait.length = s.hub.run.snapWait.length + 1
        ∧ ∀ b ∈ s.hub.laneBanks lane, ((t.hub.link b).queue.any fun r => decide (r.cmd.tag = some (s.tagFor (s.hub.laneBanks lane)))
            && decide (r.cmd.cmd = .snapshot (s.tagFor (s.hub.laneBanks lane) / cycleTime))) = true)

/-- A commit without a fault waits for the boundary; one with a fault is refused 0x0307 and reports the code and lane. A profile slot in use by no
lane takes the value. A ramp rate or target is kept and sent to the present channels of the lane. A shedding priority is kept, and 0 takes the lane
out of every shed group and ends each shed hold that stands on its channels. A permit request is kept. A pattern entry is kept and sent to the present
channels. Rules: R122, R142, R151, R212, R219, R225. -/
def Obligations.MapSlotsAndLaneParametersAreWritten : Prop :=
  (∀ s k, Ready.mayWrite s k 0x3401 1 1 = true → s.hub.patchWaits = false → s.hub.mapFault s.hub.stagedMap = none → ∃ t, exec (.mapCommit k) s = .next t
    ∧ Ready.accepted t ∧ t.hub.run.commitWait = true ∧ t.hub.run.commitResult = 1)
  ∧ (∀ s k code lane, Ready.mayWrite s k 0x3401 1 1 = true → s.hub.patchWaits = false → s.hub.mapFault s.hub.stagedMap = some (code, lane) →
      ∃ t, exec (.mapCommit k) s = .next t
        ∧ Ready.refused t 0x0307 ∧ t.hub.run.commitResult = code ∧ t.hub.run.commitLane = lane ∧ t.hub.run.commitWait = s.hub.run.commitWait)
  ∧ (∀ s k slot sub value, Ready.mayWriteBytes s k (0x3800 + slot) sub value = true → Ready.slotFree s slot = true →
      Ready.slotValue s slot sub (leNat value) = true → ∃ t, exec (.profileSlotWrite k slot sub value) s = .next t
        ∧ Ready.accepted t ∧ Ready.given t (0x3800 + slot) sub (leNat value))
  ∧ (∀ s k lane rate value, lane < 48 → s.hub.shaped = true → Ready.mayWrite s k (laneIdx lane 3) (if rate then 4 else 5) value = true →
      ∃ t, exec (.rampTargetWrite k lane rate value) s = .next t
        ∧ Ready.given t (laneIdx lane 3) (if rate then 4 else 5) value
        ∧ ∀ ch ∈ s.hub.chansOf lane, s.hub.present (ch / 12) = true → Ready.onLink t (ch / 12) (.setLoad (ch % 12) (t.hub.loadCfg lane ch)) = true)
  ∧ (∀ s k lane priority, lane < 48 → Ready.mayWrite s k (laneIdx lane 5) 2 priority = true → ∃ t, exec (.sheddingPriorityWrite k lane priority) s = .next t
    ∧ Ready.accepted t ∧ Ready.given t (laneIdx lane 5) 2 priority
    ∧ (priority = 0 → (∀ l ∈ t.hub.run.shed, ∀ g ∈ l, lane ∉ g.2)
        ∧ ∀ ch ∈ s.hub.chansOf lane, ∀ b, b < 4 → s.hub.mayBeShed ch b = true → s.hub.present (ch / 12) = true → s.hub.shaped = true →
            Ready.onLink t (ch / 12) (.shed (ch % 12) b false) = true)
    ∧ (priority ≠ 0 → t.hub.run.shed = s.hub.run.shed ∧ t.hub.links = s.hub.links))
  ∧ (∀ s k value, Ready.mayWrite s k 0x2025 5 value = true → ∃ t, exec (.permitRequestWrite k value) s = .next t
    ∧ Ready.accepted t ∧ Ready.given t 0x2025 5 value)
  ∧ (∀ s k lane glide value, lane < 48 → s.hub.shaped = true → Ready.mayWrite s k (laneIdx lane 6) (if glide then 2 else 1) value = true →
      (value = 2 → s.hub.noInput lane = false) → ∃ t, exec (.patternEntryWrite k lane glide value) s = .next t
        ∧ Ready.given t (laneIdx lane 6) (if glide then 2 else 1) value
        ∧ ∀ ch ∈ s.hub.chansOf lane, s.hub.present (ch / 12) = true → Ready.onLink t (ch / 12) (.setPattern (ch % 12) (t.hub.patternCfg lane)) = true)

/-- Entering fail-safe of a lane or a bank queues the channel fail-safe for each of its present channels. Where a channel carries a cause, or will by
a command on its way, a release as stored queues its end and leaves the accepted commands, and a release to off queues its end and the normal state
off and sets the command of the lanes to off. Each of these answers when the banks have acknowledged. A release of channels none of which carries a
cause is accepted and changes nothing. Rules: R228, R231. -/
def Obligations.FailSafeAndReleaseReachTheChannels : Prop :=
  (∀ s k lane, Ready.mayWrite s k (laneIdx lane 6) 3 1 = true → Ready.laneThere s lane = true → ∃ t, exec (.laneFailsafeEnter k lane) s = .next t
    ∧ Ready.awaited s t k ∧ Ready.onLinks s t (s.hub.chansOf lane) fun p => .setC p true)
  ∧ (∀ s k lane, Ready.mayWrite s k (laneIdx lane 6) 3 2 = true → Ready.laneThere s lane = true → Ready.releasable s (s.hub.chansOf lane) = true →
      (s.hub.chansOf lane).any s.hub.mayCarryCause = true → ∃ t, exec (.laneReleaseAsStored k lane) s = .next t
        ∧ Ready.awaited s t k ∧ (Ready.onLinks s t (s.hub.chansOf lane) fun p => .setC p false) ∧ t.hub.run.accepted = s.hub.run.accepted)
  ∧ (∀ s k lane, Ready.mayWrite s k (laneIdx lane 6) 3 3 = true → Ready.laneThere s lane = true → Ready.releasable s (s.hub.chansOf lane) = true →
      (s.hub.chansOf lane).any s.hub.mayCarryCause = true → ∃ t, exec (.laneReleaseToOff k lane) s = .next t
        ∧ Ready.awaited s t k ∧ (Ready.onLinks s t (s.hub.chansOf lane) fun p => .setC p false)
        ∧ (Ready.onLinks s t (s.hub.chansOf lane) fun p => .setNormal p .off) ∧ Ready.given t (laneIdx lane 0) 1 0)
  ∧ (∀ s k b, b < 4 → s.hub.shaped = true → Ready.mayWrite s k 0x2031 (b + 1) 1 = true → s.hub.present b = true → ∃ t, exec (.bankFailsafeEnter k b) s = .next t
    ∧ Ready.awaited s t k ∧ Ready.onLinks s t (bankChans b) fun p => .setC p true)
  ∧ (∀ s k b, b < 4 → s.hub.shaped = true → Ready.mayWrite s k 0x2031 (b + 1) 2 = true → s.hub.present b = true → Ready.releasable s (bankChans b) = true →
      (bankChans b).any s.hub.mayCarryCause = true → ∃ t, exec (.bankReleaseAsStored k b) s = .next t
        ∧ Ready.awaited s t k ∧ (Ready.onLinks s t (bankChans b) fun p => .setC p false) ∧ t.hub.run.accepted = s.hub.run.accepted)
  ∧ (∀ s k b, b < 4 → s.hub.shaped = true → Ready.mayWrite s k 0x2031 (b + 1) 3 = true → s.hub.present b = true → Ready.releasable s (bankChans b) = true →
      (bankChans b).any s.hub.mayCarryCause = true → ∃ t, exec (.bankReleaseToOff k b) s = .next t
        ∧ Ready.awaited s t k ∧ (Ready.onLinks s t (bankChans b) fun p => .setC p false) ∧ ∀ n ∈ s.hub.bankLanes b, Ready.given t (laneIdx n 0) 1 0)
  ∧ (∀ s k lane, Ready.mayWrite s k (laneIdx lane 6) 3 2 = true → Ready.laneThere s lane = true → Ready.releasable s (s.hub.chansOf lane) = true →
      (s.hub.chansOf lane).any s.hub.mayCarryCause = false → ∃ t, exec (.laneReleaseAsStored k lane) s = .next t ∧ Ready.releasedNothing s t)
  ∧ (∀ s k lane, Ready.mayWrite s k (laneIdx lane 6) 3 3 = true → Ready.laneThere s lane = true → Ready.releasable s (s.hub.chansOf lane) = true →
      (s.hub.chansOf lane).any s.hub.mayCarryCause = false → ∃ t, exec (.laneReleaseToOff k lane) s = .next t ∧ Ready.releasedNothing s t)
  ∧ (∀ s k b, b < 4 → Ready.mayWrite s k 0x2031 (b + 1) 2 = true → s.hub.present b = true → Ready.releasable s (bankChans b) = true →
      (bankChans b).any s.hub.mayCarryCause = false → ∃ t, exec (.bankReleaseAsStored k b) s = .next t ∧ Ready.releasedNothing s t)
  ∧ (∀ s k b, b < 4 → Ready.mayWrite s k 0x2031 (b + 1) 3 = true → s.hub.present b = true → Ready.releasable s (bankChans b) = true →
      (bankChans b).any s.hub.mayCarryCause = false → ∃ t, exec (.bankReleaseToOff k b) s = .next t ∧ Ready.releasedNothing s t)

/-- An arm by a session that may arm sets the watchdog armed with the token after the seed, no miss and the session as owner, and releases the banks a
forced one held; another is refused 0x0307. A service session or the owner disarms it. The right token in the open part of the window restarts the
window with no miss; an early token and a wrong one are refused 0x030B and count one miss with kind 1 and 3. Rules: R239, R241. -/
def Obligations.TheSerialWatchdogIsArmedFedAndDisarmed : Prop :=
  (∀ s k seed, Ready.mayWrite s k 0x2032 3 seed = true → s.hub.mayArm k = true → s.hub.shaped = true → ∃ t, exec (.watchdogArm k seed) s = .next t
    ∧ Ready.accepted t ∧ t.hub.run.dog = { mode := .armed, token := nextToken seed, windowAt := s.now, period := s.hub.val 0x2032 1 100,
                                           deadline := s.hub.run.dog.deadline, misses := 0, owner := k, lastKind := s.hub.run.dog.lastKind }
    ∧ (s.hub.run.dog.mode = .forced → ∀ b, s.hub.present b = true → Ready.onLink t b .releaseW = true))
  ∧ (∀ s k seed, Ready.mayWrite s k 0x2032 3 seed = true → s.hub.mayArm k = false → ∃ t, exec (.watchdogArm k seed) s = .next t
    ∧ Ready.refused t 0x0307 ∧ t.hub.run.dog = s.hub.run.dog)
  ∧ (∀ s k, Ready.mayWrite s k 0x2032 5 1 = true → ((s.hub.session k).role = .service ∨ s.hub.run.dog.owner = k) → ∃ t, exec (.watchdogDisarm k) s = .next t
    ∧ Ready.accepted t ∧ t.hub.run.dog.mode = .disarmed ∧ t.hub.run.dog.owner = 0xFF)
  ∧ (∀ s k token, Ready.mayWrite s k 0x2032 4 token = true → Ready.dogOwned s k = true → s.hub.run.dog.windowAt + s.hub.run.dog.span / 4 ≤ s.now →
      token = s.hub.run.dog.token → ∃ t, exec (.strideToken k token) s = .next t
        ∧ Ready.accepted t ∧ t.hub.run.dog = { s.hub.run.dog with token := nextToken token, misses := 0, windowAt := s.now })
  ∧ (∀ s k token, Ready.mayWrite s k 0x2032 4 token = true → Ready.dogOwned s k = true → s.now < s.hub.run.dog.windowAt + s.hub.run.dog.span / 4 →
      ∃ t, exec (.strideToken k token) s = .next t
        ∧ Ready.refused t 0x030B ∧ t.hub.run.dog.lastKind = 1 ∧ t.hub.run.dog.misses = s.hub.run.dog.misses + 1 ∧ t.hub.dogMisses = s.hub.dogMisses + 1)
  ∧ (∀ s k token, Ready.mayWrite s k 0x2032 4 token = true → Ready.dogOwned s k = true → s.hub.run.dog.windowAt + s.hub.run.dog.span / 4 ≤ s.now →
      token ≠ s.hub.run.dog.token → ∃ t, exec (.strideToken k token) s = .next t
        ∧ Ready.refused t 0x030B ∧ t.hub.run.dog.lastKind = 3 ∧ t.hub.run.dog.misses = s.hub.run.dog.misses + 1 ∧ t.hub.dogMisses = s.hub.dogMisses + 1)

/-- The token after a value is the value shifted right by one, exclusive-or 0xB400 if its bit 0 was 1. An accepted arm expects the value after the
seed; each accepted stride moves on by one value; an early or wrong token, and a window that closes without a token, count a miss and leave the
expected token. Rules: R238. -/
def Obligations.TokensFollowTheShiftRegisterSequence : Prop :=
  (∀ v, nextToken v = if v &&& 0x0001 = 1 then (v >>> 1) ^^^ 0xB400 else v >>> 1)
  ∧ (∀ v, v < 2 ^ 16 → nextToken v < 2 ^ 16)
  ∧ (∀ s k seed, Ready.mayWrite s k 0x2032 3 seed = true → s.hub.mayArm k = true → ∃ t, exec (.watchdogArm k seed) s = .next t
    ∧ t.hub.run.dog.mode = .armed ∧ t.hub.run.dog.token = nextToken seed)
  ∧ (∀ s k token, Ready.mayWrite s k 0x2032 4 token = true → Ready.dogOwned s k = true → s.hub.run.dog.windowAt + s.hub.run.dog.span / 4 ≤ s.now →
      token = s.hub.run.dog.token → ∃ t, exec (.strideToken k token) s = .next t ∧ t.hub.run.dog.token = nextToken s.hub.run.dog.token)
  ∧ (∀ s k token, Ready.mayWrite s k 0x2032 4 token = true → Ready.dogOwned s k = true →
      (s.now < s.hub.run.dog.windowAt + s.hub.run.dog.span / 4 ∨ token ≠ s.hub.run.dog.token) → ∃ t, exec (.strideToken k token) s = .next t
        ∧ t.hub.run.dog.misses = s.hub.run.dog.misses + 1 ∧ t.hub.run.dog.token = s.hub.run.dog.token)
  ∧ (∀ s, Ready.windowMissed s = true → ∃ t, exec .watchdogLateMiss s = .next t
    ∧ s.hub.run.dog.misses < t.hub.run.dog.misses ∧ t.hub.run.dog.token = s.hub.run.dog.token)

/-- A lap snapshot takes position, domain P and domain S at one moment. A preset of the count with a zero fraction waits for the origin, another is
refused 0x0306. An arm more than 2 ms ahead stores its command, lap and phase; one nearer resolves at once and is queued, in a cycle with room for it,
and is dropped with source 0x55 where no bank of the lane is present. A cancel of an armed schedule sends nothing, of a resolved one the cancel; one
that a commit has bound is refused 0x0307, and a lane without a schedule is left as it is. A capture arms with its four settings and keeps the ring,
and an abort changes its state alone. A Q7 read index within the entries held takes them, and one of 4096 or more is refused 0x0306. Rules: R261,
R262, R264, R265, R272, R273, R276, R465. A preset shifts armed schedules by log entry 64 (DEDUCED). -/
def Obligations.LapSchedulesAndCaptureAreCommanded : Prop :=
  (∀ s k, Ready.mayWrite s k 0x2042 3 1 = true → ∃ t, exec (.lapSnapshot k) s = .next t
    ∧ Ready.accepted t ∧ t.hub.lap.snapPos = s.hub.lap.position s.now ∧ t.hub.lap.snapSec = s.hub.time.seconds ∧ t.hub.lap.snapNs = s.hub.time.nanos
    ∧ t.hub.lap.snapS = s.hub.time.s)
  ∧ (∀ s k value, Ready.mayWrite s k 0x2042 8 value = true → value % 65536 = 0 → ∃ t, exec (.lapCountPreset k value) s = .next t
    ∧ Ready.accepted t ∧ t.hub.lap.preset = some (value / 65536) ∧ t.hub.lap.count = s.hub.lap.count)
  ∧ (∀ s k value, Ready.mayWrite s k 0x2042 8 value = true → value % 65536 ≠ 0 → ∃ t, exec (.lapCountPreset k value) s = .next t
    ∧ Ready.refused t 0x0306 ∧ t.hub.lap = s.hub.lap)
  ∧ (∀ s k lane d lap at_, Ready.mayWrite s k (laneIdx lane 7) 4 (driveCode d) = true → Ready.armable s lane d lap at_ = true →
      ((s.now + 2000000 : Nat) : Rat) < at_ → ∃ t, exec (.scheduleArm k lane d) s = .next t
        ∧ Ready.accepted t ∧ (t.hub.schedule lane).status = 1 ∧ (t.hub.schedule lane).cmd = d ∧ (t.hub.schedule lane).lap = lap
        ∧ (t.hub.schedule lane).phase = s.hub.lane lane 7 1 0 ∧ (t.hub.schedule lane).governed = false)
  ∧ (∀ s k lane d lap at_, Ready.mayWrite s k (laneIdx lane 7) 4 (driveCode d) = true → Ready.armable s lane d lap at_ = true →
      Ready.resolvable s at_ = true → s.hub.laneBanks lane ≠ [] → ∃ t, exec (.scheduleArm k lane d) s = .next t
        ∧ Ready.accepted t ∧ (t.hub.schedule lane).status = 2 ∧ (t.hub.schedule lane).at_ = some at_.ceil.toNat
        ∧ Ready.onLinks s t (s.hub.chansOf lane) fun p => .setNormal p d)
  ∧ (∀ s k lane, lane < 48 → s.hub.shaped = true → Ready.mayWrite s k (laneIdx lane 7) 4 0xFF = true → s.hub.committedLane lane = false →
      (s.hub.schedule lane).status = 1 → ∃ t, exec (.scheduleCancel k lane) s = .next t ∧ Ready.accepted t ∧ (t.hub.schedule lane).status = 4 ∧ t.hub.links = s.hub.links)
  ∧ (∀ s k lane, lane < 48 → s.hub.shaped = true → Ready.mayWrite s k (laneIdx lane 7) 4 0xFF = true → s.hub.committedLane lane = false →
      (s.hub.schedule lane).status = 2 → (s.hub.schedule lane).governed = false → ∃ t, exec (.scheduleCancel k lane) s = .next t
        ∧ (t.hub.schedule lane).status = 4 ∧ ∀ b ∈ s.hub.laneBanks lane, Ready.onLink t b (.cancelSchedule lane) = true)
  ∧ (∀ s k, Ready.mayWrite s k 0x2044 5 1 = true → s.hub.capture.mode ≠ .armed → s.hub.capture.mode ≠ .running →
      s.hub.present (s.hub.val 0x2044 1 0 / 12) = true → ∃ t, exec (.captureArm k) s = .next t
        ∧ Ready.accepted t ∧ t.hub.capture.mode = .armed ∧ t.hub.capture.channel = s.hub.val 0x2044 1 0 ∧ t.hub.capture.phase = s.hub.val 0x2044 2 0
        ∧ t.hub.capture.interval = s.hub.val 0x2044 3 100 ∧ t.hub.capture.length = s.hub.val 0x2044 4 1024 ∧ t.hub.capture.ring = s.hub.capture.ring)
  ∧ (∀ s k, Ready.mayWrite s k 0x2044 5 2 = true → (s.hub.capture.mode = .armed ∨ s.hub.capture.mode = .running) → ∃ t, exec (.captureAbort k) s = .next t
    ∧ Ready.accepted t ∧ t.hub.capture = { s.hub.capture with mode := .aborted })
  ∧ (∀ s k value, Ready.mayWrite s k 0x2045 2 value = true → value < 4096 → (value + 4096 - s.hub.capture.readIdx) % 4096 ≤ s.hub.capture.count →
      ∃ t, exec (.q7ReadIndexWrite k value) s = .next t ∧ Ready.accepted t ∧ t.hub.capture.readIdx = value
        ∧ t.hub.capture.count = s.hub.capture.count - (value + 4096 - s.hub.capture.readIdx) % 4096)
  ∧ (∀ s k value, Ready.mayWrite s k 0x2045 2 value = true → 4096 ≤ value → ∃ t, exec (.q7ReadIndexWrite k value) s = .next t
    ∧ Ready.refused t 0x0306 ∧ t.hub.capture = s.hub.capture)
  ∧ (∀ s k lane d lap at_, Ready.mayWrite s k (laneIdx lane 7) 4 (driveCode d) = true → Ready.armable s lane d lap at_ = true →
      Ready.resolvable s at_ = true → s.hub.laneBanks lane = [] → ∃ t, exec (.scheduleArm k lane d) s = .next t
        ∧ Ready.accepted t ∧ (t.hub.schedule lane).status = 5 ∧ t.hub.collector.stands 0x55 = true)
  ∧ (∀ s k lane, lane < 48 → Ready.mayWrite s k (laneIdx lane 7) 4 0xFF = true → s.hub.committedLane lane = true →
      ∃ t, exec (.scheduleCancel k lane) s = .next t ∧ Ready.refused t 0x0307 ∧ t.hub.schedule lane = s.hub.schedule lane ∧ t.hub.links = s.hub.links)
  ∧ (∀ s k lane, lane < 48 → Ready.mayWrite s k (laneIdx lane 7) 4 0xFF = true → s.hub.committedLane lane = false → (s.hub.schedule lane).status ≠ 1 →
      (s.hub.schedule lane).status ≠ 2 → ∃ t, exec (.scheduleCancel k lane) s = .next t
        ∧ Ready.accepted t ∧ t.hub.schedule lane = s.hub.schedule lane ∧ t.hub.links = s.hub.links)

/-- A clear of a source whose cause stands is refused 0x030A and counted; one whose cause is gone clears it with its escalation, as long as the clear
notice itself raises nothing; one of a reserved source is refused 0x0306. An acknowledgement of a group S source above corrected sets its bit, ends
the grace time and leaves the source; another sets none, and one of a fatal source needs the service role, or is refused 0x0304. A ceiling from the
start step on is kept: raised, a fault that stands takes its next step after the grace time, lowered to a step in force its timer ends; another value
is refused 0x0306. An injected error in test mode is accepted and marks an empty record as injected, a state-0 message clears the cause, and an error
of the hub core resets the hub; without test mode it is refused 0x0307, and a value that is no message 0x0306. The three keys in time from one session
with TEST high enter test mode, and TEST low ends it. A forced group D bit raises its source; a value beyond the sources is refused 0x0306. Rules:
R296, R301, R303, R306, R308, R309, R310. -/
def Obligations.FaultsAreClearedAcknowledgedAndForced : Prop :=
  (∀ s k source, Ready.mayWrite s k 0x5004 1 source = true → reservedSource source = false → s.hub.collector.stands source = true →
      s.hub.collector.causeOf source = true → ∃ t, exec (.clearSource k source) s = .next t
        ∧ Ready.refused t 0x030A ∧ t.hub.collector = { s.hub.collector with refused := source, refusals := s.hub.collector.refusals + 1 })
  ∧ (∀ s k source, Ready.mayWrite s k 0x5004 1 source = true → reservedSource source = false → s.hub.collector.stands source = true →
      s.hub.collector.causeOf source = false → s.hub.shaped = true → Ready.clearsQuietly s source = true → ∃ t, exec (.clearSource k source) s = .next t
        ∧ Ready.accepted t ∧ t.hub.collector.stands source = false ∧ (t.hub.collector.source source).step = 0
        ∧ (t.hub.collector.source source).graceAt = none)
  ∧ (∀ s k source, Ready.mayWrite s k 0x5004 1 source = true → reservedSource source = false → s.hub.collector.stands source = false →
      ∃ t, exec (.clearSource k source) s = .next t ∧ Ready.accepted t ∧ t.hub.collector.refusals = s.hub.collector.refusals ∧ t.hub.links = s.hub.links)
  ∧ (∀ s k source, Ready.mayWrite s k 0x5004 1 source = true → reservedSource source = true → ∃ t, exec (.clearSource k source) s = .next t
    ∧ Ready.refused t 0x0306 ∧ t.hub.collector = s.hub.collector)
  ∧ (∀ s k source, Ready.mayWrite s k 0x5005 1 source = true → source < 0x40 → reservedSource source = false → sourceClass source ≠ 0 →
      (sourceClass source = 2 → (s.hub.session k).role = .service) → s.hub.collector.status.getLsbD source = true → s.hub.shaped = true →
      ∃ t, exec (.acknowledgeSource k source) s = .next t
        ∧ Ready.accepted t ∧ t.hub.collector.acked.getLsbD source = true ∧ (t.hub.collector.source source).graceAt = none
        ∧ t.hub.collector.stands source = true)
  ∧ (∀ s k source, Ready.mayWrite s k 0x5005 1 source = true → reservedSource source = false →
      (0x40 ≤ source ∨ sourceClass source = 0 ∨ (sourceClass source ≠ 2 ∧ s.hub.collector.status.getLsbD source = false)) →
      ∃ t, exec (.acknowledgeSource k source) s = .next t ∧ Ready.accepted t ∧ t.hub.collector.acked = s.hub.collector.acked)
  ∧ (∀ s k source, Ready.mayWrite s k 0x5005 1 source = true → reservedSource source = false → source < 0x40 → sourceClass source = 2 →
      (s.hub.session k).role ≠ .service → ∃ t, exec (.acknowledgeSource k source) s = .next t ∧ Ready.refused t 0x0304 ∧ t.hub.collector = s.hub.collector)
  ∧ (∀ s k source value, source < 64 → sourceClass source = 1 → Ready.mayWrite s k (0x5010 + source) 2 value = true →
      (value = 0 ∨ startStep source true ≤ value) → s.hub.shaped = true → ∃ t, exec (.escalationCeilingWrite k source value) s = .next t
        ∧ Ready.accepted t ∧ Ready.given t (0x5010 + source) 2 value ∧ t.hub.collector.status = s.hub.collector.status
        ∧ (Ready.waitsAtCeiling s source → s.hub.collCfg.ceiling source < value → (s.hub.collector.source source).step < value →
            (t.hub.collector.source source).graceAt = some (s.now + s.hub.collCfg.graceMs * 1000000))
        ∧ (value < s.hub.collCfg.ceiling source → 1 ≤ (s.hub.collector.source source).step → value ≤ (s.hub.collector.source source).step →
            (t.hub.collector.source source).graceAt = none))
  ∧ (∀ s k source value, source < 64 → sourceClass source = 1 → Ready.mayWrite s k (0x5010 + source) 2 value = true → value ≠ 0 →
      value < startStep source true → ∃ t, exec (.escalationCeilingWrite k source value) s = .next t
        ∧ Ready.refused t 0x0306 ∧ t.hub.run.accepted = s.hub.run.accepted ∧ t.hub.collector = s.hub.collector)
  ∧ (∀ s k word, Ready.mayWrite s k 0x5080 3 word = true → s.hub.collector.testMode = true → injectable word = true → (injectedMsg word).error = true →
      (injectedMsg word).source ≠ 0x30 → ∃ t, exec (.faultInject k word) s = .next t
        ∧ Ready.accepted t ∧ t.hub.collector.stands (injectedMsg word).source = true
        ∧ (s.hub.collector.record.valid = false → t.hub.collector.record.injected = true ∧ t.hub.collector.record.source = (injectedMsg word).source))
  ∧ (∀ s k word, Ready.mayWrite s k 0x5080 3 word = true → s.hub.collector.testMode = true → injectable word = true → (injectedMsg word).error = true →
      (injectedMsg word).source = 0x30 → ∃ t, exec (.faultInject k word) s = .next t
        ∧ Ready.accepted t ∧ t.hub.cause = 0x0A ∧ t.hub.phase ≠ .running ∧ t.hub.collector = {})
  ∧ (∀ s k word, Ready.mayWrite s k 0x5080 3 word = true → s.hub.collector.testMode = true → injectable word = true → (injectedMsg word).error = false →
      ∃ t, exec (.faultInject k word) s = .next t
        ∧ Ready.accepted t ∧ t.hub.collector.causeOf (injectedMsg word).source = false ∧ t.hub.collector.status = s.hub.collector.status)
  ∧ (∀ s k word, Ready.mayWrite s k 0x5080 3 word = true → s.hub.collector.testMode = true → injectable word = false → ∃ t, exec (.faultInject k word) s = .next t
    ∧ Ready.refused t 0x0306 ∧ t.hub.collector = s.hub.collector)
  ∧ (∀ s k word, Ready.mayWrite s k 0x5080 3 word = true → s.hub.collector.testMode = false → ∃ t, exec (.faultInject k word) s = .next t
    ∧ Ready.refused t 0x0307 ∧ t.hub.collector = s.hub.collector)
  ∧ (∀ s k value high, ∃ t, exec (.factoryTestKey k value high) s = .next t ∧ t.lands.test = (s.pwr.vio && high)
    ∧ ((s.pwr.vio && high) = false → t.hub.collector.testMode = false ∧ t.hub.collector.keyStage = 0))
  ∧ (∀ s k value high, Ready.mayWrite s k 0x5080 1 value = true → ∃ t, exec (.factoryTestKey k value high) s = .next t
    ∧ Ready.accepted t
    ∧ (value = 0 → t.hub.collector.testMode = false ∧ t.hub.collector.keyStage = 0)
    ∧ (s.pwr.vio = true → high = true → value = 0x4B1E → t.hub.collector.keyStage = 1 ∧ t.hub.collector.keyBy = k ∧ t.hub.collector.keyAt = s.now)
    ∧ (s.pwr.vio = true → high = true → value = 0x00D7 → s.hub.collector.keyStage = 1 → s.hub.collector.keyBy = k →
        s.now ≤ s.hub.collector.keyAt + 10000000 → t.hub.collector.keyStage = 2 ∧ t.hub.collector.keyAt = s.now)
    ∧ (s.pwr.vio = true → high = true → value = 0xA3C5 → s.hub.collector.keyStage = 2 → s.hub.collector.keyBy = k →
        s.now ≤ s.hub.collector.keyAt + 10000000 → t.hub.collector.testMode = true))
  ∧ (∀ s k value, Ready.mayWrite s k 0x5002 3 value = true → value < 2 ^ 27 → ∃ t, exec (.groupDForceWrite k value) s = .next t
    ∧ Ready.accepted t ∧ t.hub.collector.force = BitVec.ofNat 32 value
    ∧ ∀ i, i < 27 → value.testBit i = true → s.hub.collector.force.getLsbD i = false → t.hub.collector.stands (0x40 + i) = true)
  ∧ (∀ s k value, Ready.mayWrite s k 0x5002 3 value = true → 2 ^ 27 ≤ value → ∃ t, exec (.groupDForceWrite k value) s = .next t
    ∧ Ready.refused t 0x0306 ∧ t.hub.collector = s.hub.collector)

/-- A write of 0x01 to 0x5003.09 while the source of the record does not stand empties the record, so that 0x5003.01 and 0x5003.08 read 0. While the
source stands the write is refused with 0x030A, the record stays, 0x5004.03 reads the source and 0x5004.04 one refusal more. The next group S error
after a clear fills the record with its source, kind, address, origin and time. Rules: R305. -/
def Obligations.TheFirstErrorRecordIsClearedAndFilledAgain : Prop :=
  (∀ s k, Ready.mayWrite s k 0x5003 9 1 = true → (s.hub.collector.record.valid && s.hub.collector.status.getLsbD s.hub.collector.record.source) = false →
      ∃ t, exec (.recordClear k) s = .next t ∧ Ready.accepted t ∧ t.hub.collector.record = {} ∧ t.hub.collector.status = s.hub.collector.status
        ∧ t.collectorValue 0x5003 1 = some 0 ∧ t.collectorValue 0x5003 8 = some 0)
  ∧ (∀ s k, Ready.mayWrite s k 0x5003 9 1 = true → s.hub.collector.record.valid = true → s.hub.collector.status.getLsbD s.hub.collector.record.source = true →
      ∃ t, exec (.recordClear k) s = .next t ∧ Ready.refused t 0x030A
        ∧ t.hub.collector = { s.hub.collector with refused := s.hub.collector.record.source, refusals := s.hub.collector.refusals + 1 }
        ∧ t.collectorValue 0x5004 3 = some s.hub.collector.record.source ∧ t.collectorValue 0x5004 4 = some (s.hub.collector.refusals + 1).toNat)
  ∧ (∀ s source kind origin address, Ready.acceptsS s source kind = true → s.hub.collector.record = {} →
      ∃ t, exec (.faultErrorAcceptS source kind origin address) s = .next t
        ∧ t.hub.collector.record = { valid := true, source := source, kind := kind, address := address, origin := origin, seconds := s.hub.time.seconds,
                                     nanos := s.hub.time.nanos })

/-- A clear of all leaves standing every source whose cause stands, reports their number in 0x5004.05, and clears each other one with its
acknowledgement and escalation, as long as the clear notices before it raise nothing new. Up to firmware 0x0301 the objects 0x5004.02 and 0x5004.05
are absent, and the write is refused 0x0302. Rules: R303, R304. The journal source of a clear-all is log entry 45 (DEDUCED). -/
def Obligations.AClearOfAllClearsEverySourceWhoseCauseIsGone : Prop :=
  (∀ s k, Ready.mayWrite s k 0x5004 2 1 = true → s.hub.shaped = true → ∃ t, exec (.clearAll k) s = .next t
    ∧ Ready.accepted t ∧ t.hub.collector.standing = s.hub.collector.persisting.length ∧ t.collectorValue 0x5004 5 = some s.hub.collector.persisting.length
    ∧ (∀ i, i < 96 → s.hub.collector.stands i = true → s.hub.collector.causeOf i = true → t.hub.collector.stands i = true)
    ∧ (∀ i, i < 96 → s.hub.collector.stands i = true → s.hub.collector.causeOf i = false → Ready.clearsAllQuietly s i = true →
        t.hub.collector.stands i = false ∧ (i < 64 → t.hub.collector.acked.getLsbD i = false) ∧ (t.hub.collector.source i).step = 0
        ∧ (t.hub.collector.source i).graceAt = none))
  ∧ (∀ s k, s.rtVersion ≤ 0x0301 → s.hub.taking = true → s.hub.writerCode k = 0 → ∃ t, exec (.clearAll k) s = .next t
    ∧ Ready.refused t 0x0302 ∧ t.hub.collector = s.hub.collector)
  ∧ (∀ version, version ≤ 0x0301 → rowOf version 0x5004 2 = none ∧ rowOf version 0x5004 5 = none)

/-- Setting the time sets domain P, counts, and leaves domain S; an adjustment adds its signed nanoseconds modulo the counter; seconds beyond 48 bits
are refused 0x0306. An increment within limits is taken while the host owns the servo, refused 0x0307 while it does not, and one beyond them is
refused 0x0306. Ownership is taken and returned with its state. A PPS mode write starts with output low. Queue producer and consumer writes are
checked and set their index, the one of Q5 releasing the requests it passes; overflow flags clear and lost counts stay. A port is enabled where VPHY is present and disabled. A PLCA setting is kept,
and the PLCA state starts anew at once, or once the frame in transmission has completed; IDs beyond the cycle are refused 0x0306. Teams are enabled
with a number, a service key and firmware 0x0301, refused 0x0307 without, and disabled. Rules: R317, R324, R340, R355, R356, R367, R383, R438, R449. A
repeated ownership write is log entry 50 (DEDUCED). -/
def Obligations.TimeQueuesPortsAndTeamsAreWritten : Prop :=
  (∀ s k seconds nanos, seconds < 2 ^ 48 → Ready.mayWrite s k 0x4000 2 (seconds + nanos * 2 ^ 64) = true → ∃ t, exec (.timeSet k seconds nanos) s = .next t
    ∧ Ready.accepted t ∧ t.hub.time.p = seconds * pSecond + nanos * pUnit ∧ t.hub.time.timeSet = true ∧ t.hub.time.sets = s.hub.time.sets + 1
    ∧ (s.hub.time.state = .unset → t.hub.time.state = .free) ∧ t.hub.time.s = s.hub.time.s)
  ∧ (∀ s k ns, -(2 ^ 31) ≤ ns → ns < 2 ^ 31 → Ready.mayWrite s k 0x4000 3 (ofSigned 32 ns) = true → ∃ t, exec (.stepAdjust k ns) s = .next t
    ∧ Ready.accepted t ∧ t.hub.time.p = (((s.hub.time.p : Int) + ns * pUnit) % (pModulus : Int)).toNat ∧ t.hub.time.sets = s.hub.time.sets + 1)
  ∧ (∀ s k value, Ready.mayWrite s k 0x4000 4 value = true → 0x03FF7CEE ≤ value → value ≤ 0x04008312 → s.hub.time.hostOwned = true →
      ∃ t, exec (.incrementWrite k value) s = .next t
        ∧ Ready.accepted t ∧ t.hub.time.increment = value ∧ t.hub.time.hostWrite = s.now ∧ t.hub.time.hostStale = false ∧ t.hub.time.p = s.hub.time.p)
  ∧ (∀ s k, Ready.mayWrite s k 0x4000 5 1 = true → s.hub.time.hostOwned = false → ∃ t, exec (.servoOwnerTake k) s = .next t
    ∧ Ready.accepted t ∧ t.hub.time.hostOwned = true ∧ t.hub.time.state = .hostServo ∧ t.hub.time.hostWrite = s.now)
  ∧ (∀ s k, Ready.mayWrite s k 0x4000 5 0 = true → s.hub.time.hostOwned = true → ∃ t, exec (.servoOwnerReturn k) s = .next t
    ∧ Ready.accepted t ∧ t.hub.time.hostOwned = false ∧ t.hub.time.state = .free ∧ t.hub.time.servo.integral = 0 ∧ t.hub.time.servo.locked = false)
  ∧ (∀ s k value, Ready.mayWrite s k 0x4005 1 value = true → ∃ t, exec (.ppsModeWrite k value) s = .next t
    ∧ Ready.accepted t ∧ Ready.given t 0x4005 1 value ∧ t.hub.time.pps.high = false ∧ t.hub.time.pps.missing = false ∧ t.hub.time.pps.outside = false)
  ∧ (∀ s k queue value, queue < 7 → Ready.mayWrite s k (0x4410 + queue) 1 value = true → s.hub.net.indexStatus queue 1 value = 0 →
      ∃ t, exec (.queueProducerWrite k queue value) s = .next t
        ∧ Ready.accepted t ∧ (queue = 3 → t.hub.net.q3.prod = value) ∧ (queue = 4 → t.hub.net.q4.prod = value))
  ∧ (∀ s k queue value, queue < 7 → Ready.mayWrite s k (0x4410 + queue) 1 value = true → s.hub.net.indexStatus queue 1 value ≠ 0 →
      ∃ t, exec (.queueProducerWrite k queue value) s = .next t
        ∧ Ready.refused t (s.hub.net.indexStatus queue 1 value) ∧ t.hub.net = s.hub.net)
  ∧ (∀ s k queue value, queue < 7 → Ready.mayWrite s k (0x4410 + queue) 2 value = true → s.hub.net.indexStatus queue 2 value = 0 →
      ∃ t, exec (.queueConsumerWrite k queue value) s = .next t
        ∧ Ready.accepted t ∧ (queue = 1 → t.hub.net.q1.cons = value) ∧ (queue = 2 → t.hub.net.q2.cons = value)
        ∧ (queue = 5 → value = s.hub.net.classify → t.hub.net.q5.cons = value ∧ t.hub.q5Held = []
            ∧ t.hub.inbox = s.hub.inbox ++ s.hub.q5Held.map Prod.snd) ∧ (queue = 6 → t.hub.net.q6.cons = value))
  ∧ (∀ s k queue, queue < 7 → Ready.mayWrite s k (0x4410 + queue) 4 0 = true → ∃ t, exec (.overflowFlagClear k queue) s = .next t
    ∧ Ready.accepted t ∧ (queue = 2 → t.hub.net.q2.overflow = false ∧ t.hub.net.q2.lost = s.hub.net.q2.lost)
    ∧ (queue = 5 → t.hub.net.q5.overflow = false ∧ t.hub.net.q5.lost = s.hub.net.q5.lost)
    ∧ (queue = 6 → t.hub.net.q6.overflow = false ∧ t.hub.net.q6.lost = s.hub.net.q6.lost))
  ∧ (∀ s k n, n < 2 → Ready.mayWrite s k (0x4401 + n) 1 1 = true → ∃ t, exec (.portEnable k n) s = .next t
    ∧ Ready.accepted t ∧ Ready.given t (0x4401 + n) 1 1 ∧ (s.pwr.vphy = true → (t.hub.net.port n).running = true))
  ∧ (∀ s k n, n < 2 → Ready.mayWrite s k (0x4401 + n) 1 0 = true → ∃ t, exec (.portDisable k n) s = .next t
    ∧ Ready.accepted t ∧ Ready.given t (0x4401 + n) 1 0 ∧ (t.hub.net.port n).running = false)
  ∧ (∀ s k n sub value, n < 2 → 2 ≤ sub → sub ≤ 6 → Ready.mayWrite s k (0x4401 + n) sub value = true → (sub ≤ 4 → s.hub.plcaOk n sub value = true) →
      ∃ t, exec (.plcaSettingWrite k n sub value) s = .next t
        ∧ Ready.accepted t ∧ Ready.given t (0x4401 + n) sub value
        ∧ ((s.hub.net.port n).current = none → (t.hub.net.port n).beaconLost = false ∧ (t.hub.net.port n).lastBeacon = s.now ∧ (t.hub.net.port n).cycle = none)
        ∧ (∀ cur, (s.hub.net.port n).current = some cur → t.hub.net.port n = { s.hub.net.port n with plcaDue := true }))
  ∧ (∀ s k, Ready.mayWrite s k 0x6000 1 1 = true → s.hub.val 0x6000 2 0 ≠ 0 → (s.hub.key .service).isSome = true → 0x0301 ≤ s.rtVersion →
      ∃ t, exec (.teamEnable k) s = .next t ∧ Ready.accepted t ∧ Ready.given t 0x6000 1 1)
  ∧ (∀ s k, Ready.mayWrite s k 0x6000 1 0 = true → ∃ t, exec (.teamDisable k) s = .next t ∧ Ready.accepted t ∧ Ready.given t 0x6000 1 0)
  ∧ (∀ s k seconds nanos, 2 ^ 48 ≤ seconds → seconds < 2 ^ 64 → Ready.mayWrite s k 0x4000 2 (seconds + nanos * 2 ^ 64) = true →
      ∃ t, exec (.timeSet k seconds nanos) s = .next t ∧ Ready.refused t 0x0306 ∧ t.hub.time = s.hub.time)
  ∧ (∀ s k value, Ready.mayWrite s k 0x4000 4 value = true → 0x03FF7CEE ≤ value → value ≤ 0x04008312 → s.hub.time.hostOwned = false →
      ∃ t, exec (.incrementWrite k value) s = .next t ∧ Ready.refused t 0x0307 ∧ t.hub.time = s.hub.time)
  ∧ (∀ s k value, Ready.mayWrite s k 0x4000 4 value = true → (value < 0x03FF7CEE ∨ 0x04008312 < value) →
      ∃ t, exec (.incrementWrite k value) s = .next t ∧ Ready.refused t 0x0306 ∧ t.hub.time = s.hub.time)
  ∧ (∀ s k n sub value, n < 2 → 2 ≤ sub → sub ≤ 4 → Ready.mayWrite s k (0x4401 + n) sub value = true → s.hub.plcaOk n sub value = false →
      ∃ t, exec (.plcaSettingWrite k n sub value) s = .next t ∧ Ready.refused t 0x0306 ∧ t.hub.net = s.hub.net ∧ t.hub.run.accepted = s.hub.run.accepted)
  ∧ (∀ s k, Ready.mayWrite s k 0x6000 1 1 = true → (s.hub.val 0x6000 2 0 = 0 ∨ s.hub.key .service = none ∨ s.rtVersion < 0x0301) →
      ∃ t, exec (.teamEnable k) s = .next t ∧ Ready.refused t 0x0307 ∧ t.hub.run.accepted = s.hub.run.accepted)

/-- A save of unsaved changes starts a store write and a save without changes does nothing. A journal clear empties it at once where MRAM is free and
waits otherwise, and a cursor within the journal is kept. A verified patch slot is ready or failed by its image, an erased one reads 0xFF throughout,
both refused 0x0307 while a slot operation waits or MRAM cannot be written; activation and revert are planned for the boundary. The five bank service
requests are kept as the request of their bank and counted. A channel retirement is kept and sent to its bank. A migration starts with its lane and
target. Rules: R434, R436, R472, R479, R483, R484, R489, R490, R491, R492, R493. Signatures are judged by an unknown function of the bytes,
re-verification by log entry 46, a waiting journal clear by log entry 48 and a second service request by log entry 51 (all DEDUCED); the refusal while
MRAM cannot be written is log entry 93 (DESIGN CHOICE). -/
def Obligations.StoreJournalPatchesAndBankServiceAreWritten : Prop :=
  (∀ s k, Ready.mayWrite s k 0x7000 1 1 = true → s.hub.run.store.dirty = true → Ready.storeFree s = true → ∃ t, exec (.saveRequest k) s = .next t
    ∧ Ready.accepted t ∧ t.hub.run.store.writing = true ∧ t.hub.run.store.image = s.storeImage ∧ t.mram = s.mram)
  ∧ (∀ s k, Ready.mayWrite s k 0x7000 1 1 = true → s.hub.run.store.dirty = false → ∃ t, exec (.saveRequest k) s = .next t
    ∧ Ready.accepted t ∧ t.hub.run.store = s.hub.run.store)
  ∧ (∀ s k, Ready.mayWrite s k 0x7001 8 1 = true → Ready.mramFree s = true → ∃ t, exec (.journalClear k) s = .next t
    ∧ Ready.accepted t ∧ t.mram.records = [] ∧ t.hub.run.shadow.map (fun e => (e.cls, e.code)) = [(8, 4)] ∧ t.hub.run.cursor = t.mram.oldest)
  ∧ (∀ s k, Ready.mayWrite s k 0x7001 8 1 = true → Ready.mramFree s = false → ∃ t, exec (.journalClear k) s = .next t
    ∧ Ready.accepted t ∧ t.mram = s.mram ∧ t.hub.run.clearDue = true)
  ∧ (∀ s k value, Ready.mayWrite s k 0x7001 5 value = true → (value + 2 ^ 32 - s.mram.oldest) % 2 ^ 32 < s.mram.records.length →
      ∃ t, exec (.journalCursorWrite k value) s = .next t ∧ Ready.accepted t ∧ t.hub.run.cursor = value)
  ∧ (∀ s k, Ready.mayWrite s k 0x7002 8 1 = true → s.hub.slotsFree = true → s.hub.shaped = true → ∃ t, exec (.patchVerify k) s = .next t
    ∧ Ready.accepted t ∧ t.hub.run.slotState.getD s.hub.idleSlot 0 = (if s.imageOk s.hub.idleSlot then 3 else 5)
    ∧ (s.imageOk s.hub.idleSlot = false → t.hub.collector.stands 0x50 = true ∧ t.patches = s.patches))
  ∧ (∀ s k, Ready.mayWrite s k 0x7002 8 4 = true → s.hub.slotsFree = true → s.hub.shaped = true → ∃ t, exec (.patchErase k) s = .next t
    ∧ Ready.accepted t ∧ t.hub.run.slotState.getD s.hub.idleSlot 0 = 0
    ∧ ∀ a, readCell slotBlank t.patches a = (if slotBase s.hub.idleSlot ≤ a ∧ a < slotBase s.hub.idleSlot + slotSize then 0xFF#8 else readCell slotBlank s.patches a))
  ∧ (∀ s k, Ready.mayWrite s k 0x7002 8 2 = true → s.hub.slotsFree = true → Ready.activateFree s = true → ∃ t, exec (.patchActivate k) s = .next t
    ∧ Ready.accepted t ∧ t.hub.run.planned = s.hub.run.planned.filter (fun q => decide (q.object ≠ 2)) ++ [.activate])
  ∧ (∀ s k, Ready.mayWrite s k 0x7002 8 3 = true → s.hub.activeSlot.isSome = true → s.hub.shadowed = false → ∃ t, exec (.patchRevert k) s = .next t
    ∧ Ready.accepted t ∧ t.hub.run.planned = s.hub.run.planned.filter (fun q => decide (q.object ≠ 2)) ++ [.revert])
  ∧ (∀ s k b, Ready.mayWrite s k 0x7003 (5 + b) 1 = true → Ready.serviceFree s b 1 = true → ∃ t, exec (.bankIsolate k b) s = .next t
    ∧ Ready.accepted t ∧ t.hub.run.serviceReq = some (b, 1) ∧ t.hub.run.serviceOps = s.hub.run.serviceOps + 1)
  ∧ (∀ s k b, Ready.mayWrite s k 0x7003 (5 + b) 2 = true → Ready.serviceFree s b 2 = true → ∃ t, exec (.bankResetRequest k b) s = .next t
    ∧ Ready.accepted t ∧ t.hub.run.serviceReq = some (b, 2) ∧ t.hub.run.serviceOps = s.hub.run.serviceOps + 1)
  ∧ (∀ s k b, Ready.mayWrite s k 0x7003 (5 + b) 3 = true → Ready.serviceFree s b 3 = true → ∃ t, exec (.bankRetrim k b) s = .next t
    ∧ Ready.accepted t ∧ t.hub.run.serviceReq = some (b, 3) ∧ t.hub.run.serviceOps = s.hub.run.serviceOps + 1)
  ∧ (∀ s k b, Ready.mayWrite s k 0x7003 (5 + b) 4 = true → Ready.serviceFree s b 4 = true → ∃ t, exec (.bankRetire k b) s = .next t
    ∧ Ready.accepted t ∧ t.hub.run.serviceReq = some (b, 4) ∧ t.hub.run.serviceOps = s.hub.run.serviceOps + 1)
  ∧ (∀ s k b, Ready.mayWrite s k 0x7003 (5 + b) 5 = true → Ready.serviceFree s b 5 = true → ∃ t, exec (.bankReturnToService k b) s = .next t
    ∧ Ready.accepted t ∧ t.hub.run.serviceReq = some (b, 5) ∧ t.hub.run.serviceOps = s.hub.run.serviceOps + 1)
  ∧ (∀ s k ch value, ch < 48 → s.hub.shaped = true → Ready.mayWrite s k 0x7004 (ch + 1) value = true → (value = 1 → s.hub.owner ch = none) →
      (value = 0 → s.hub.retiredBank (ch / 12) = false) → ∃ t, exec (.channelRetireWrite k ch value) s = .next t
        ∧ Ready.given t 0x7004 (ch + 1) value
        ∧ (s.hub.present (ch / 12) = true → Ready.onLink t (ch / 12) (.setRetired (ch % 12) (decide (value = 1))) = true))
  ∧ (∀ s k, Ready.mayWrite s k 0x7005 3 1 = true → Ready.migrationFree s = true → ∃ t, exec (.migrationStart k) s = .next t
    ∧ Ready.accepted t ∧ t.hub.run.migration.result = 1 ∧ t.hub.run.migration.lane = s.hub.val 0x7005 1 0
    ∧ t.hub.run.migration.target = s.hub.val 0x7005 2 0xFFFF)
  ∧ (∀ s k, Ready.mayWrite s k 0x7002 8 1 = true → s.hub.slotsFree = false → ∃ t, exec (.patchVerify k) s = .next t
    ∧ Ready.refused t 0x0307 ∧ t.hub.run.slotState = s.hub.run.slotState ∧ t.patches = s.patches)
  ∧ (∀ s k, Ready.mayWrite s k 0x7002 8 4 = true → s.hub.slotsFree = false → ∃ t, exec (.patchErase k) s = .next t
    ∧ Ready.refused t 0x0307 ∧ t.hub.run.slotState = s.hub.run.slotState ∧ t.patches = s.patches)

/-- A broken sensor that has agreed for one second is readmitted through its bank and one that has not is refused 0x0307, a sound one is answered at
once, one of an absent bank is refused 0x0309, and a number of no sensor 0x0306. A session is closed by its object. A new operator or service key is
kept, closes the sessions of its role and saves where MRAM is free. Transport settings act at once and close the sessions they exclude. A plain object
keeps and reads back the value written. A write with a refusal code, of the object, of the value or of the session, answers that code and keeps every
accepted value. Rules: R38, R41, R205, R397, R401, R404. A blank operator key is log entry 52 (DEDUCED). -/
def Obligations.SensorsSessionsKeysAndObjectsAreWritten : Prop :=
  (∀ s k value c, value / 16 < 4 → value % 16 < 14 → s.hub.shaped = true → Ready.mayWrite s k 0x2023 5 value = true → s.hub.view (value / 16) = some c →
      (c.sensor (value % 16)).broken.isSome = true → elapsed (s.hub.agreeSince.getD (14 * (value / 16) + value % 16) none) 1000000000 s.now = true →
      ∃ t, exec (.sensorReadmit k value) s = .next t ∧ Ready.awaited s t k ∧ Ready.onLink t (value / 16) (.readmit (value % 16)) = true)
  ∧ (∀ s k value c, value / 16 < 4 → value % 16 < 14 → Ready.mayWrite s k 0x2023 5 value = true → s.hub.view (value / 16) = some c →
      (c.sensor (value % 16)).broken = none → ∃ t, exec (.sensorReadmit k value) s = .next t ∧ Ready.accepted t ∧ t.hub.links = s.hub.links)
  ∧ (∀ s k n, n < 16 → s.hub.shaped = true → Ready.mayWrite s k (0x1100 + n) 7 1 = true → ∃ t, exec (.sessionCloseObject k n) s = .next t
    ∧ Ready.accepted t ∧ (t.hub.session n).mode = .free)
  ∧ (∀ s k key, s.hub.shaped = true → Ready.mayWriteBytes s k 0x1042 2 key = true → ∃ t, exec (.keyWrite k .operator key) s = .next t
    ∧ Ready.accepted t ∧ t.hub.key .operator = some key ∧ (Ready.storeFree s = true → t.hub.run.store.writing = true)
    ∧ ∀ n, n < 16 → (s.hub.session n).role = .operator → (t.hub.session n).mode = .free)
  ∧ (∀ s k key, s.hub.shaped = true → Ready.mayWriteBytes s k 0x1042 3 key = true → ∃ t, exec (.keyWrite k .service key) s = .next t
    ∧ Ready.accepted t ∧ t.hub.key .service = some key ∧ (Ready.storeFree s = true → t.hub.run.store.writing = true)
    ∧ ∀ n, n < 16 → (s.hub.session n).role = .service → (t.hub.session n).mode = .free)
  ∧ (∀ s k sub value, s.hub.shaped = true → 1 ≤ sub → sub ≤ 4 → Ready.mayWriteBytes s k 0x1040 sub value = true → ∃ t, exec (.transportConfigWrite k sub value) s = .next t
    ∧ Ready.accepted t ∧ Ready.given t 0x1040 sub (leNat value) ∧ t.hub.act 0x1040 sub 0 = leNat value
    ∧ ∀ n ∈ s.hub.transportCloses sub (leNat value), (t.hub.session n).mode = .free)
  ∧ (∀ s k idx sub value, Ready.mayWriteBytes s k idx sub value = true → Ready.plainObject idx sub = true → ∃ t, exec (.registerWrite k idx sub value) s = .next t
    ∧ Ready.accepted t ∧ Ready.given t idx sub (leNat value))
  ∧ (∀ s k idx sub value r, s.hub.taking = true → s.hub.writerCode k = 0 → rowOf s.rtVersion idx sub = some r →
      s.accessCode { session := k, arrival := s.now } r idx sub ≠ 0 → ∃ t, exec (.registerWrite k idx sub value) s = .next t
        ∧ Ready.refused t (s.accessCode { session := k, arrival := s.now } r idx sub) ∧ t.hub.run.accepted = s.hub.run.accepted)
  ∧ (∀ s k idx sub value, s.hub.taking = true → s.hub.writerCode k ≠ 0 → ∃ t, exec (.registerWrite k idx sub value) s = .next t
    ∧ Ready.refused t (s.hub.writerCode k) ∧ t.hub.run.accepted = s.hub.run.accepted)
  ∧ (∀ s k value c, value / 16 < 4 → value % 16 < 14 → Ready.mayWrite s k 0x2023 5 value = true → s.hub.view (value / 16) = some c →
      (c.sensor (value % 16)).broken.isSome = true → elapsed (s.hub.agreeSince.getD (14 * (value / 16) + value % 16) none) 1000000000 s.now = false →
      ∃ t, exec (.sensorReadmit k value) s = .next t ∧ Ready.refused t 0x0307 ∧ t.hub.links = s.hub.links)
  ∧ (∀ s k value, value / 16 < 4 → value % 16 < 14 → Ready.mayWrite s k 0x2023 5 value = true → s.hub.view (value / 16) = none →
      ∃ t, exec (.sensorReadmit k value) s = .next t ∧ Ready.refused t 0x0309 ∧ t.hub.links = s.hub.links)
  ∧ (∀ s k value, (4 ≤ value / 16 ∨ 14 ≤ value % 16) → Ready.mayWrite s k 0x2023 5 value = true →
      ∃ t, exec (.sensorReadmit k value) s = .next t ∧ Ready.refused t 0x0306 ∧ t.hub.links = s.hub.links)
  ∧ (∀ s k idx sub value r, s.hub.taking = true → s.hub.writerCode k = 0 → rowOf s.rtVersion idx sub = some r →
      s.accessCode { session := k, arrival := s.now } r idx sub = 0 → r.size ≤ 32 → s.hub.slotTaken idx = false → valueCode r value ≠ 0 →
      ∃ t, exec (.registerWrite k idx sub value) s = .next t ∧ Ready.refused t (valueCode r value) ∧ t.hub.run.accepted = s.hub.run.accepted)

/-! ## SPI and sessions -/

/-- A write transaction of at least 64 bytes adds one entry to Q0; with Q0 full, or shorter, it is counted as bad and adds none, and a full one raises
0x4B. A read transaction of at least 64 bytes gives the status byte and the oldest Q1 entry, which it takes; a shorter one takes none and is counted.
A status transaction gives both fill counts, the pending events, both indexes and the bad count. Each of them runs in the mode that the level of SCK
at its start selects. Malformed requests are taken and counted without a reply, and held responses go to Q1 as it has room. Rules: R58, R392, R393,
R394. That a transaction discarded for a full Q0 counts in 0x1041.06 is log entry 27 (DEDUCED). -/
def Obligations.SpiTransactionsMoveEntries : Prop :=
  (∀ s sck data, s.spiOn = true → s.hub.q0Full = false → 64 ≤ data.length → ∃ t, exec (.spiWriteQ0 sck data) s = .next t
    ∧ t.hub.spiMode3 = sck
    ∧ t.hub.net.q0.entries = s.hub.net.q0.entries ++ [q0Entry data s.now] ∧ t.hub.net.q0.prod = (s.hub.net.q0.prod + 1) % 32
    ∧ t.hub.spiOut = [s.spiStatusByte] ∧ t.hub.spiBad = false ∧ t.hub.net.spiBad = s.hub.net.spiBad)
  ∧ (∀ s sck data, s.spiOn = true → s.hub.q0Full = true → ∃ t, exec (.spiWriteQ0 sck data) s = .next t
    ∧ t.hub.spiMode3 = sck ∧ t.hub.net.q0 = s.hub.net.q0 ∧ t.hub.spiBad = true ∧ t.hub.net.spiBad = s.hub.net.spiBad + 1 ∧ t.hub.collector.stands 0x4B = true)
  ∧ (∀ s sck data, s.spiOn = true → s.hub.q0Full = false → data.length < 64 → ∃ t, exec (.spiWriteQ0 sck data) s = .next t
    ∧ t.hub.spiMode3 = sck ∧ t.hub.net.q0 = s.hub.net.q0 ∧ t.hub.spiBad = true ∧ t.hub.net.spiBad = s.hub.net.spiBad + 1)
  ∧ (∀ s sck clocked, s.spiOn = true → 64 ≤ clocked → ∃ t, exec (.spiReadQ1 sck clocked) s = .next t
    ∧ t.hub.spiMode3 = sck
    ∧ t.hub.spiOut = s.spiStatusByte :: padTo clocked ((q1Bytes s.hub.net.q1.entries).take clocked) ∧ t.hub.net.q1.entries = s.hub.net.q1.entries.drop 1
    ∧ (s.hub.net.q1.entries ≠ [] → t.hub.net.q1.cons = (s.hub.net.q1.cons + 1) % 32) ∧ t.hub.spiBad = false)
  ∧ (∀ s sck clocked, s.spiOn = true → clocked < 64 → ∃ t, exec (.spiReadQ1 sck clocked) s = .next t
    ∧ t.hub.spiMode3 = sck ∧ t.hub.net.q1 = s.hub.net.q1 ∧ t.hub.spiBad = true ∧ t.hub.net.spiBad = s.hub.net.spiBad + 1)
  ∧ (∀ s sck, s.spiOn = true → ∃ t, exec (.spiStatus sck) s = .next t
    ∧ t = { s with hub := { s.hub with spiMode3 := sck, spiBad := false, spiOut := s.spiStatusByte :: (leBytes 1 s.hub.net.q0.entries.length
        ++ leBytes 1 s.hub.net.q1.entries.length ++ leBytes 2 s.hub.pending.toNat ++ leBytes 1 s.hub.net.q0.prod ++ leBytes 1 s.hub.net.q1.cons
        ++ leBytes 2 s.hub.net.spiBad.toNat) } })
  ∧ (∀ s sck, s.spiOn = true → ∃ t, exec (.spiTransactionDiscard sck) s = .next t
    ∧ t.hub.spiMode3 = sck ∧ t.hub.spiBad = true ∧ t.hub.net.spiBad = s.hub.net.spiBad + 1 ∧ t.hub.net.q0 = s.hub.net.q0 ∧ t.hub.net.q1 = s.hub.net.q1)
  ∧ (∀ s q, s.hub.request .spi = some q → q.formed = false → ∃ t, exec (.requestDiscard .spi) s = .next t
    ∧ Ready.consumed s t .spi ∧ t.hub.run.badQ0 = s.hub.run.badQ0 + 1 ∧ t.hub.lastReply = s.hub.lastReply)
  ∧ (∀ s q, s.hub.request .net = some q → q.formed = false → ∃ t, exec (.requestDiscard .net) s = .next t
    ∧ Ready.consumed s t .net ∧ t.hub.run.badNet = s.hub.run.badNet + 1 ∧ t.hub.lastReply = s.hub.lastReply)
  ∧ (∀ s, s.hub.serving = true → ∃ t, exec .responsePostResume s = .next t
    ∧ t.hub.run.held = s.hub.run.held.drop (31 - s.hub.net.q1.entries.length)
    ∧ t.hub.net.q1.entries.map HostEntry.length
        = s.hub.net.q1.entries.map HostEntry.length ++ (s.hub.run.held.take (31 - s.hub.net.q1.entries.length)).map List.length)

/-- Discovery answers identity, version, straps, free sessions and transport bytes and opens none. An open takes a free session for its role with
eight device bytes, refused 0x0206 without a key. Confirm, close and keepalive answer an empty body and open, free or refresh the session. Provision
stores a blank key over SPI only. A session not confirmed for one second and an unused session with no response held are freed, the latter counted and raised as 0x51, and
no other session changes. A segmented write that stops for one second is dropped. Rules: R389, R395, R396, R401, R403, R409. The device bytes come
from the entropy source, whose output is free (log entry 2, DESIGN CHOICE). -/
def Obligations.SessionsAreOpenedConfirmedAndClosed : Prop :=
  (∀ s via q, s.hub.request via = some q → Ready.asksFree q 0x01 0 = true → ∃ t, exec (.discover via) s = .next t
    ∧ Ready.consumed s t via ∧ t.hub.run.sessions = s.hub.run.sessions
    ∧ Ready.answered t (beBytes 6 ownMac ++ leBytes 12 ((s.identity 0x1008 0).getD 0) ++ leBytes 2 s.rtVersion ++ leBytes 1 s.hub.strapValue
        ++ leBytes 1 ((List.range 16).filter fun n => decide (n ≠ 0) && decide ((s.hub.session n).mode = .free)).length
        ++ leBytes 1 (s.hub.val 0x1040 1 1) ++ [0#8] ++ leBytes 4 (s.hub.val 0x1040 2 0)))
  ∧ (∀ s via q role n, s.hub.request via = some q → Ready.asksFree q 0x02 12 = true → leField q.body 1 3 = 0 → roleOf (leField q.body 0 1) = some role →
      (role ≠ .observer → (s.hub.key role).isSome = true) → s.hub.freeSession via = some n → s.hub.shaped = true → ∃ t, exec (.openSession via) s = .next t
        ∧ Ready.consumed s t via ∧ t.hub.session n = { mode := if role = .observer then .opened else .waiting, role := role, endpoint := q.endpoint,
                                                        client := slice q.body 4 8, device := (List.range 8).map fun i => Config.entropyByte (s.free + i),
                                                        openedAt := s.now, lastUsed := s.now }
        ∧ Ready.answered t (leBytes 1 n ++ leBytes 1 (roleCode role) ++ leBytes 2 (s.hub.act 0x1041 1 10)
            ++ (List.range 8).map fun i => Config.entropyByte (s.free + i)))
  ∧ (∀ s via q role, s.hub.request via = some q → Ready.asksFree q 0x02 12 = true → leField q.body 1 3 = 0 → roleOf (leField q.body 0 1) = some role →
      role ≠ .observer → s.hub.key role = none → ∃ t, exec (.openSession via) s = .next t
        ∧ Ready.refused t 0x0206 ∧ t.hub.run.sessions = s.hub.run.sessions)
  ∧ (∀ s via q, s.hub.request via = some q → Ready.asksIn s q 0x03 .observer = true → q.body = [] → (s.hub.session q.session).outstanding = 0 →
      ∃ t, exec (.confirm via) s = .next t ∧ Ready.consumed s t via ∧ Ready.answered t [] ∧ (t.hub.session q.session).mode = .opened)
  ∧ (∀ s via q, s.hub.request via = some q → Ready.asksIn s q 0x04 .observer = true → q.body = [] → (s.hub.session q.session).outstanding = 0 →
      ∃ t, exec (.close via) s = .next t ∧ Ready.consumed s t via ∧ Ready.answered t [] ∧ (t.hub.session q.session).mode = .free)
  ∧ (∀ s via q, s.hub.request via = some q → Ready.asksIn s q 0x05 .observer = true → q.body = [] → ∃ t, exec (.keepalive via) s = .next t
    ∧ Ready.consumed s t via ∧ Ready.answered t []
    ∧ ((s.hub.session q.session).outstanding = 0 → (t.hub.session q.session).lastUsed = s.now ∧ (t.hub.session q.session).failures = 0))
  ∧ (∀ s q, s.hub.request .spi = some q → Ready.asksFree q 0x06 36 = true → leField q.body 1 3 = 0 → leField q.body 0 1 ≤ 1 →
      s.hub.key (if leField q.body 0 1 = 1 then .service else .operator) = none → ∃ t, exec (.provision .spi) s = .next t
        ∧ Ready.consumed s t .spi ∧ Ready.answered t [] ∧ t.hub.key (if leField q.body 0 1 = 1 then .service else .operator) = some (slice q.body 4 32)
        ∧ (Ready.storeFree s = true → t.hub.run.store.writing = true))
  ∧ (∀ s q, s.hub.request .net = some q → Ready.asksFree q 0x06 36 = true → ∃ t, exec (.provision .net) s = .next t
    ∧ Ready.refused t 0x0104 ∧ t.hub.run.accepted = s.hub.run.accepted)
  ∧ (∀ s n, s.hub.serving = true → s.hub.shaped = true → n < 16 → (s.hub.session n).mode = .waiting → (s.hub.session n).openedAt + 1000000000 ≤ s.now →
      ∃ t, exec (.confirmTimeout n) s = .next t ∧ (t.hub.session n).mode = .free ∧ ∀ m, m ≠ n → t.hub.session m = s.hub.session m)
  ∧ (∀ s n, s.hub.serving = true → s.hub.shaped = true → n < 16 → (s.hub.session n).mode ≠ .free → (s.hub.session n).outstanding = 0 →
      s.hub.run.held.any (ofSession n) = false → (s.hub.session n).lastUsed + s.hub.act 0x1041 1 10 * 1000000000 < s.now → ∃ t, exec (.sessionReclaim n) s = .next t
        ∧ (t.hub.session n).mode = .free ∧ t.hub.run.reclaimed = s.hub.run.reclaimed + 1 ∧ t.hub.collector.stands 0x51 = true
        ∧ ∀ m, m ≠ n → t.hub.session m = s.hub.session m)
  ∧ (∀ s n w, s.hub.serving = true → s.hub.shaped = true → (s.hub.session n).writing = some w → w.last + 1000000000 ≤ s.now →
      ∃ t, exec (.segmentTimeout n) s = .next t ∧ (t.hub.session n).writing = none ∧ (t.hub.session n).segLost = true
        ∧ t.hub.run.accepted = s.hub.run.accepted)

/-- READ answers the size and the value of a readable object of at most 32 bytes and keeps every accepted value, and is refused 0x0303 for a write-
only one. WRITE of a plain object keeps the value of its bytes. A first segment read answers from the value and holds it for the session, later ones
answer from the held value. A first segment write holds its bytes and writes nothing, and the last of a plain object writes the value of all its
bytes. Rules: R407, R408, R409. The order of the checks of a segment is log entry 22 (DEDUCED). -/
def Obligations.ObjectsAreReadAndWrittenByService : Prop :=
  (∀ s via q r, s.hub.request via = some q → Ready.asksIn s q 0x10 .observer = true → q.body.length = 4 → leField q.body 3 1 = 0 →
      rowOf s.rtVersion (Ready.askedIdx q) (Ready.askedSub q) = some r → r.acc ≠ .wo → r.size ≤ 32 → ∃ t, exec (.read via) s = .next t
        ∧ Ready.consumed s t via ∧ ((s.hub.session q.session).outstanding = 0 → t.hub.run.accepted = s.hub.run.accepted) ∧ t.bufs = s.bufs
        ∧ Ready.answered t (leBytes 2 r.size ++ [0#8, 0#8]
            ++ leBytes r.size ((Ready.taken s via q).value q.session r (Ready.askedIdx q) (Ready.askedSub q))))
  ∧ (∀ s via q r, s.hub.request via = some q → Ready.asksIn s q 0x10 .observer = true → q.body.length = 4 → leField q.body 3 1 = 0 →
      rowOf s.rtVersion (Ready.askedIdx q) (Ready.askedSub q) = some r → r.acc = .wo → ∃ t, exec (.read via) s = .next t
        ∧ Ready.consumed s t via ∧ Ready.refused t 0x0303)
  ∧ (∀ s via q, s.hub.request via = some q → Ready.asksIn s q 0x11 .operator = true → leField q.body 3 1 = 0 → leField q.body 6 2 = 0 →
      leField q.body 4 2 ≤ 32 → q.body.length = 8 + leField q.body 4 2 → (s.hub.session q.session).outstanding = 0 →
      Ready.mayWriteBytes s q.session (Ready.askedIdx q) (Ready.askedSub q) (slice q.body 8 (leField q.body 4 2)) = true →
      Ready.plainObject (Ready.askedIdx q) (Ready.askedSub q) = true → ∃ t, exec (.write via) s = .next t
        ∧ Ready.consumed s t via ∧ Ready.answered t []
        ∧ Ready.given t (Ready.askedIdx q) (Ready.askedSub q) (leNat (slice q.body 8 (leField q.body 4 2))))
  ∧ (∀ s via q r data, s.hub.request via = some q → Ready.asksIn s q 0x12 .observer = true → q.body.length = 12 → leField q.body 3 1 = 0 →
      leField q.body 10 2 = 0 → leField q.body 4 4 = 0 → rowOf s.rtVersion (Ready.askedIdx q) (Ready.askedSub q) = some r → r.acc ≠ .wo →
      (Ready.taken s via q).objectBytes q.session r (Ready.askedIdx q) (Ready.askedSub q) = some data → ∃ t, exec (.segmentRead via) s = .next t
        ∧ Ready.consumed s t via
        ∧ Ready.answered t (leBytes 4 data.length ++ leBytes 4 0 ++ leBytes 2 (slice data 0 (min (leField q.body 8 2) (segmentMax via))).length
            ++ [0#8, 0#8] ++ slice data 0 (min (leField q.body 8 2) (segmentMax via)))
        ∧ ((s.hub.session q.session).outstanding = 0 →
            (t.hub.session q.session).reading = some (objKey (Ready.askedIdx q) (Ready.askedSub q), data)))
  ∧ (∀ s via q r data, s.hub.request via = some q → Ready.asksIn s q 0x12 .observer = true → q.body.length = 12 → leField q.body 3 1 = 0 →
      leField q.body 10 2 = 0 → leField q.body 4 4 ≠ 0 → leField q.body 4 4 ≤ data.length →
      rowOf s.rtVersion (Ready.askedIdx q) (Ready.askedSub q) = some r → r.acc ≠ .wo →
      (s.hub.session q.session).reading = some (objKey (Ready.askedIdx q) (Ready.askedSub q), data) → ∃ t, exec (.segmentRead via) s = .next t
        ∧ Ready.consumed s t via
        ∧ Ready.answered t (leBytes 4 data.length ++ leBytes 4 (leField q.body 4 4)
            ++ leBytes 2 (slice data (leField q.body 4 4) (min (leField q.body 8 2) (segmentMax via))).length ++ [0#8, 0#8]
            ++ slice data (leField q.body 4 4) (min (leField q.body 8 2) (segmentMax via))))
  ∧ (∀ s via q r, s.hub.request via = some q → Ready.asksIn s q 0x13 .operator = true → leField q.body 3 1 = 0 → leField q.body 14 2 = 0 →
      leField q.body 12 2 ≤ segmentMax via → q.body.length = 16 + leField q.body 12 2 → (s.hub.session q.session).outstanding = 0 →
      (s.hub.session q.session).segLost = false → (s.hub.session q.session).writing = none → leField q.body 8 4 = 0 →
      rowOf s.rtVersion (Ready.askedIdx q) (Ready.askedSub q) = some r → s.accessCode { session := q.session } r (Ready.askedIdx q) (Ready.askedSub q) = 0 →
      isPatch (Ready.askedIdx q) (Ready.askedSub q) = false → leField q.body 4 4 = r.size → leField q.body 12 2 < r.size →
      ∃ t, exec (.segmentWrite via) s = .next t
        ∧ Ready.consumed s t via ∧ Ready.answered t [] ∧ t.hub.run.accepted = s.hub.run.accepted
        ∧ (t.hub.session q.session).writing = some { idx := Ready.askedIdx q, sub := Ready.askedSub q, total := r.size,
                                                     data := slice q.body 16 (leField q.body 12 2), last := s.now })
  ∧ (∀ s via q r w, s.hub.request via = some q → Ready.asksIn s q 0x13 .operator = true → leField q.body 3 1 = 0 → leField q.body 14 2 = 0 →
      leField q.body 12 2 ≤ segmentMax via → q.body.length = 16 + leField q.body 12 2 → (s.hub.session q.session).outstanding = 0 →
      (s.hub.session q.session).segLost = false → (s.hub.session q.session).writing = some w → w.idx = Ready.askedIdx q → w.sub = Ready.askedSub q →
      w.total = leField q.body 4 4 → w.data.length = leField q.body 8 4 → leField q.body 8 4 ≠ 0 → q.at_ ≤ w.last + 1000000000 →
      rowOf s.rtVersion (Ready.askedIdx q) (Ready.askedSub q) = some r →
      Ready.mayWriteBytes s q.session (Ready.askedIdx q) (Ready.askedSub q) (w.data ++ slice q.body 16 (leField q.body 12 2)) = true →
      w.total = r.size → Ready.plainObject (Ready.askedIdx q) (Ready.askedSub q) = true → ∃ t, exec (.segmentWrite via) s = .next t
        ∧ Ready.consumed s t via ∧ Ready.answered t [] ∧ (t.hub.session q.session).writing = none
        ∧ Ready.given t (Ready.askedIdx q) (Ready.askedSub q) (leNat (w.data ++ slice q.body 16 (leField q.body 12 2))))

/-- A queue read answers the entries of its queue from its first on, around the ring. A queue write of Q3 or Q4 sets those slots and leaves the
producer index. A buffer read answers the bytes and writes none. A buffer write of the transmit buffer writes its bytes there and to no patch slot,
and any other buffer is refused 0x0501. Rules: R410. Entries and bytes beyond Table 13-4 are malformed by log entry 23 (DEDUCED). -/
def Obligations.QueuesAndBuffersAreReadAndWrittenByService : Prop :=
  (∀ s via q size ring, s.hub.request via = some q → Ready.asksIn s q 0x20 .observer = true → q.body.length = 8 → leField q.body 1 1 = 0 →
      leField q.body 6 2 = 0 → queueShape (Ready.askedQueue q) = some (size, ring) → Ready.askedFirst q < ring → Ready.askedCount q ≤ ring →
      Ready.askedCount q * size ≤ blockMax via → ∃ t, exec (.queueRead via) s = .next t
        ∧ Ready.consumed s t via
        ∧ Ready.answered t (leBytes 2 (Ready.askedCount q) ++ [0#8, 0#8] ++ (List.range (Ready.askedCount q)).flatMap fun i =>
            leBytes size (s.hub.queueEntry (Ready.askedQueue q) ((Ready.askedFirst q + i) % ring))))
  ∧ (∀ s via q, s.hub.request via = some q → Ready.asksIn s q 0x21 .operator = true → leField q.body 1 1 = 0 → leField q.body 6 2 = 0 →
      Ready.askedQueue q = 3 → Ready.askedCount q * 16 ≤ blockMax via → q.body.length = 8 + Ready.askedCount q * 16 → Ready.askedFirst q < 16 →
      Ready.askedCount q ≤ 16 → s.hub.net.q3.slots.length = 16 → ∃ t, exec (.queueWrite via) s = .next t
        ∧ Ready.consumed s t via ∧ Ready.answered t [] ∧ t.hub.net.q3.prod = s.hub.net.q3.prod
        ∧ ∀ i, i < Ready.askedCount q → t.hub.net.q3.slots.getD ((Ready.askedFirst q + i) % 16) 0 = leField q.body (8 + 16 * i) 16)
  ∧ (∀ s via q, s.hub.request via = some q → Ready.asksIn s q 0x21 .operator = true → leField q.body 1 1 = 0 → leField q.body 6 2 = 0 →
      Ready.askedQueue q = 4 → Ready.askedCount q * 16 ≤ blockMax via → q.body.length = 8 + Ready.askedCount q * 16 → Ready.askedFirst q < 32 →
      Ready.askedCount q ≤ 32 → s.hub.net.q4.slots.length = 32 → ∃ t, exec (.queueWrite via) s = .next t
        ∧ Ready.consumed s t via ∧ Ready.answered t [] ∧ t.hub.net.q4.prod = s.hub.net.q4.prod
        ∧ ∀ i, i < Ready.askedCount q → t.hub.net.q4.slots.getD ((Ready.askedFirst q + i) % 32) 0 = leField q.body (8 + 16 * i) 16)
  ∧ (∀ s via q a, s.hub.request via = some q → Ready.asksIn s q 0x22 .observer = true → q.body.length = 8 → leField q.body 6 2 = 0 →
      leField q.body 4 2 ≤ blockMax via → Ready.askedBuffer q = some a → ∃ t, exec (.bufferRead via) s = .next t
        ∧ Ready.consumed s t via ∧ t.bufs = s.bufs
        ∧ Ready.answered t (leBytes 2 (leField q.body 4 2) ++ [0#8, 0#8] ++ s.readBuf a (leField q.body 4 2)))
  ∧ (∀ s via q a, s.hub.request via = some q → Ready.asksIn s q 0x23 .operator = true → q.body.length = 8 + leField q.body 4 2 → leField q.body 6 2 = 0 →
      leField q.body 4 2 ≤ blockMax via → leField q.body 0 1 = 0 → Ready.askedBuffer q = some a → ∃ t, exec (.bufferWrite via) s = .next t
        ∧ Ready.consumed s t via ∧ Ready.answered t [] ∧ t.bufs = writeCells bufBlank s.bufs a (slice q.body 8 (leField q.body 4 2))
        ∧ t.patches = s.patches)
  ∧ (∀ s via q, s.hub.request via = some q → Ready.asksIn s q 0x23 .operator = true → q.body.length = 8 + leField q.body 4 2 → leField q.body 6 2 = 0 →
      leField q.body 4 2 ≤ blockMax via → leField q.body 0 1 ≠ 0 → ∃ t, exec (.bufferWrite via) s = .next t
        ∧ Ready.refused t 0x0501 ∧ t.bufs = s.bufs)

/-! ## Teams -/

/-- A status frame of another unit sets its address, rank, versions, hash, last intent and four currents, heard now; one under the own number or one
that another unit present holds changes no entry. A due status is sent on the ports
and the next one planned. The pacer admits a joining unit under a number that no other unit present has, and refuses its own number and one taken with
source 0x52. An accepting reply makes the unit a member of its pacer, or out of agreement; a refusing one refuses it until it tries again; a reply to
another unit counts its join. A leaving member is forgotten, or away with its currents kept; a leave under a number that is not the sender's changes
no member. Rules: R443, R448, R449, R450. Details of the team protocol that the chapter leaves open are log entry 30 (DESIGN CHOICE). -/
def Obligations.TeamStatusAndMembership : Prop :=
  (∀ s mac num body, Ready.teamFrame s 1 mac num body = true → mac ≠ ownMac → s.hub.numberTaken mac num s.now = false → ∃ t, exec .teamStatusRx s = .next t
    ∧ t.hub.inbox = s.hub.inbox.eraseP NetItem.isTeam ∧ (t.hub.member num).mac = mac ∧ (t.hub.member num).heardAt = some s.now
    ∧ (t.hub.member num).rank = leField body 1 1 ∧ (t.hub.member num).version = leField body 4 2 ∧ (t.hub.member num).hash = leField body 8 4
    ∧ (t.hub.member num).lastIntent = leField body 24 4 ∧ (t.hub.member num).onCurrent = (List.range 4).map (fun i => leField body (44 + 4 * i) 4))
  ∧ (∀ s mac num body, Ready.teamFrame s 1 mac num body = true → mac ≠ ownMac → s.hub.numberTaken mac num s.now = true → ∃ t, exec .teamStatusRx s = .next t
    ∧ t.hub.inbox = s.hub.inbox.eraseP NetItem.isTeam ∧ (t.hub.member num).mac = (s.hub.member num).mac ∧ (t.hub.member num).mode = (s.hub.member num).mode
    ∧ (t.hub.member num).hash = (s.hub.member num).hash ∧ (t.hub.member num).onCurrent = (s.hub.member num).onCurrent)
  ∧ (∀ s, s.hub.serving = true → s.hub.inTeam = true → s.hub.run.team.mode ≠ .refused → s.hub.run.team.statusAt ≤ s.now → ∃ t, exec .teamStatusSend s = .next t
    ∧ t.hub.run.team.statusAt = s.now + max 5000000 (s.hub.act 0x6000 7 100 / 4 * 1000000) ∧ Ready.sentOnPorts s t (Ready.statusFrame s))
  ∧ (∀ s mac num body, Ready.teamFrame s 2 mac num body = true → mac ≠ ownMac → s.hub.run.team.mode = .pacer → s.hub.numberTaken mac num s.now = false →
      ∃ t, exec .teamJoinRx s = .next t
        ∧ (t.hub.member num).mode = .member ∧ (t.hub.member num).mac = mac ∧ (t.hub.member num).heardAt = some s.now
        ∧ (t.hub.member num).version = leField body 4 2 ∧ (t.hub.member num).hash = leField body 8 4
        ∧ t.hub.run.team.joins = s.hub.run.team.joins + 1)
  ∧ (∀ s mac num body, Ready.teamFrame s 2 mac num body = true → mac ≠ ownMac → s.hub.run.team.mode = .pacer → s.hub.numberTaken mac num s.now = true →
      ∃ t, exec .teamJoinRx s = .next t
        ∧ (t.hub.member num).mode = (s.hub.member num).mode ∧ t.hub.run.team.joins = s.hub.run.team.joins ∧ t.hub.collector.stands 0x52 = true)
  ∧ (∀ s mac num body, Ready.teamFrame s 3 mac num body = true → mac ≠ ownMac → (s.hub.run.team.mode = .joining ∨ s.hub.run.team.mode = .refused) →
      leField body 0 1 = s.hub.ownNumber → leField body 1 1 = 0 → ∃ t, exec .teamJoinReplyRx s = .next t
        ∧ t.hub.run.team.mode = (if t.hub.run.team.badHash then .outOfAgreement else .member) ∧ t.hub.run.team.pacer = num
        ∧ t.hub.run.team.lastIntent = leField body 20 4 ∧ t.hub.run.team.joins = s.hub.run.team.joins + 1)
  ∧ (∀ s mac num body, Ready.teamFrame s 3 mac num body = true → mac ≠ ownMac → s.hub.run.team.mode = .joining → leField body 0 1 = s.hub.ownNumber →
      leField body 1 1 ≠ 0 → ∃ t, exec .teamJoinReplyRx s = .next t
        ∧ t.hub.run.team.mode = .refused ∧ t.hub.run.team.joinAt = s.now ∧ t.hub.collector.stands 0x52 = true)
  ∧ (∀ s mac num body, Ready.teamFrame s 4 mac num body = true → mac ≠ ownMac → num ≠ s.hub.ownNumber → (s.hub.member num).mac = mac →
      leField body 0 1 = 0 → ∃ t, exec .teamLeaveRx s = .next t
        ∧ (t.hub.member num).mode = .none ∧ (t.hub.member num).heardAt = none ∧ (t.hub.member num).onCurrent = [0, 0, 0, 0]
        ∧ t.hub.run.team.joins = s.hub.run.team.joins + 1)
  ∧ (∀ s mac num body, Ready.teamFrame s 4 mac num body = true → mac ≠ ownMac → num ≠ s.hub.ownNumber → (s.hub.member num).mac = mac →
      leField body 0 1 ≠ 0 → ∃ t, exec .teamLeaveRx s = .next t
        ∧ (t.hub.member num).mode = .away ∧ (t.hub.member num).awayAt = s.now ∧ (t.hub.member num).onCurrent = (s.hub.member num).onCurrent)
  ∧ (∀ s mac num body, Ready.teamFrame s 2 mac num body = true → s.hub.run.team.mode ≠ .pacer → ∃ t, exec .teamJoinRx s = .next t
    ∧ t.hub.inbox = s.hub.inbox.eraseP NetItem.isTeam ∧ (t.hub.member num).mode = (s.hub.member num).mode ∧ t.hub.run.team.joins = s.hub.run.team.joins)
  ∧ (∀ s mac num body, Ready.teamFrame s 3 mac num body = true → mac ≠ ownMac →
      ¬((s.hub.run.team.mode = .joining ∨ s.hub.run.team.mode = .refused) ∧ leField body 0 1 = s.hub.ownNumber) → ∃ t, exec .teamJoinReplyRx s = .next t
        ∧ t.hub.inbox = s.hub.inbox.eraseP NetItem.isTeam ∧ t.hub.run.team.pacer = (if Ready.stays (Ready.heardFrom s mac num) then s.hub.run.team.pacer else 0xFF)
        ∧ t.hub.run.team.joins = (if leField body 1 1 = 0 then s.hub.run.team.joins + 1 else s.hub.run.team.joins))
  ∧ (∀ s mac num body, Ready.teamFrame s 4 mac num body = true → mac ≠ ownMac → (num = s.hub.ownNumber ∨ (s.hub.member num).mac ≠ mac) →
      ∃ t, exec .teamLeaveRx s = .next t
        ∧ t.hub.inbox = s.hub.inbox.eraseP NetItem.isTeam ∧ (t.hub.member num).mode = (s.hub.member num).mode ∧ t.hub.run.team.joins = s.hub.run.team.joins)

/-- A member silent for the member timeout, or away for one second, is lost with its currents kept, counted and raised as 0x52. At the end of a window
the winning unit becomes pacer if it is this one, and is waited for otherwise; without a winner a new window starts. A late claim excludes the winner
and elects again in the same way. A join without reply goes back to forming, and a refused one is tried each second. Rules: R444, R445, R448, R450.
Details of the team protocol that the chapter leaves open are log entry 30 (DESIGN CHOICE). -/
def Obligations.TeamTimeoutsAndElections : Prop :=
  (∀ s m, Ready.member s m = true → elapsed (s.hub.member m).heardAt s.hub.memberTimeout s.now = true → (s.hub.member m).mode ≠ .none →
      ∃ t, exec (.memberTimeout m) s = .next t
        ∧ (t.hub.member m).mode = .lost ∧ (t.hub.member m).heardAt = none ∧ (t.hub.member m).onCurrent = (s.hub.member m).onCurrent
        ∧ t.hub.run.team.joins = s.hub.run.team.joins + 1 ∧ t.hub.collector.stands 0x52 = true)
  ∧ (∀ s m, Ready.member s m = true → elapsed (s.hub.member m).heardAt s.hub.memberTimeout s.now = true → (s.hub.member m).mode = .none →
      ∃ t, exec (.memberTimeout m) s = .next t ∧ (t.hub.member m).heardAt = none ∧ (t.hub.member m).mode = .none)
  ∧ (∀ s m, Ready.member s m = true → (s.hub.member m).mode = .away → (s.hub.member m).awayAt + 1000000000 ≤ s.now → ∃ t, exec (.awayTimeout m) s = .next t
    ∧ (t.hub.member m).mode = .lost ∧ t.hub.run.team.joins = s.hub.run.team.joins + 1 ∧ t.hub.collector.stands 0x52 = true)
  ∧ (∀ s, Ready.windowOver s = true → Ready.winner s s.hub.run.team.excluded = some s.hub.ownNumber → ∃ t, exec .formationWindowEnd s = .next t
    ∧ t.hub.run.team.mode = .pacer ∧ t.hub.run.team.pacer = s.hub.ownNumber ∧ t.hub.run.team.nextIntent = s.hub.run.team.lastIntent + 1)
  ∧ (∀ s m, Ready.windowOver s = true → Ready.winner s s.hub.run.team.excluded = some m → m ≠ s.hub.ownNumber → ∃ t, exec .formationWindowEnd s = .next t
    ∧ t.hub.run.team.mode = .forming ∧ t.hub.run.team.winner = m ∧ t.hub.run.team.claimBy = some (s.now + s.hub.memberTimeout))
  ∧ (∀ s, Ready.windowOver s = true → Ready.winner s s.hub.run.team.excluded = none → ∃ t, exec .formationWindowEnd s = .next t
    ∧ t.hub.run.team.mode = .forming ∧ t.hub.run.team.windowAt = s.now ∧ t.hub.run.team.excluded = [])
  ∧ (∀ s, Ready.claimLate s = true → Ready.winner s (s.hub.run.team.winner :: s.hub.run.team.excluded) = some s.hub.ownNumber →
      ∃ t, exec .pacerClaimTimeout s = .next t ∧ t.hub.run.team.mode = .pacer ∧ t.hub.run.team.pacer = s.hub.ownNumber ∧ t.hub.run.team.claimBy = none)
  ∧ (∀ s m, Ready.claimLate s = true → Ready.winner s (s.hub.run.team.winner :: s.hub.run.team.excluded) = some m → m ≠ s.hub.ownNumber →
      ∃ t, exec .pacerClaimTimeout s = .next t
        ∧ t.hub.run.team.winner = m ∧ t.hub.run.team.claimBy = some (s.now + s.hub.memberTimeout)
        ∧ t.hub.run.team.excluded = s.hub.run.team.winner :: s.hub.run.team.excluded)
  ∧ (∀ s, Ready.claimLate s = true → Ready.winner s (s.hub.run.team.winner :: s.hub.run.team.excluded) = none → ∃ t, exec .pacerClaimTimeout s = .next t
    ∧ t.hub.run.team.mode = .forming ∧ t.hub.run.team.windowAt = s.now ∧ t.hub.run.team.excluded = [])
  ∧ (∀ s, s.hub.serving = true → s.hub.run.team.mode = .joining → s.hub.run.team.joinAt + s.hub.memberTimeout ≤ s.now → ∃ t, exec .joinReplyTimeout s = .next t
    ∧ t.hub.run.team.mode = .forming ∧ t.hub.run.team.windowAt = s.now ∧ t.hub.run.team.pacer = 0xFF)
  ∧ (∀ s, s.hub.serving = true → s.hub.run.team.mode = .refused → s.hub.run.team.joinAt + 1000000000 ≤ s.now → ∃ t, exec .joinRetry s = .next t
    ∧ t.hub.run.team.mode = .refused ∧ t.hub.run.team.joinAt = s.now ∧ Ready.sentOnPorts s t (Ready.joinFrame s))

/-- The pacer stores a proposal, deferred by one lap if its target is nearer than half a lap, and drops the thirty-third; a withdrawal takes it out. A
due proposal within its budget is published as the next intent and booked once, and one beyond is deferred by a lap, dropped at the eighth time. Units that are not
pacer take no proposals and store the intents of their pacer alone. A commit in time commits its intent and one too late does not; a cancel in a team
of firmware 0x0302 on undoes its entries, counted once for an intent, and in one below it is ignored; a reject fails the schedule it names; a commit
or cancel that is not of the own pacer changes no intent. Lapsed intents are dropped, and counted and raised as 0x54 where they held an entry; a reached one moves its entry into the current of its member. Rules:
R458, R461, R462, R464. A unit that is pacer and still eligible is meant throughout: one that is not yields (R446). Details of the team protocol that
the chapter leaves open are log entry 30 (DESIGN CHOICE). -/
def Obligations.ProposalsAndIntentsTakeTheirCourse : Prop :=
  (∀ s mac num body, Ready.teamFrame s 5 mac num body = true → mac ≠ ownMac → Ready.leads s mac num = true → s.hub.run.team.proposals.length < 32 →
      s.hub.time.pNs + Ready.halfLap s ≤ (Ready.proposalOf s num body).target → ∃ t, exec .teamProposeRx s = .next t
        ∧ t.hub.run.team.proposals = s.hub.run.team.proposals ++ [Ready.proposalOf s num body] ∧ t.hub.run.team.arrivals = s.hub.run.team.arrivals + 1)
  ∧ (∀ s mac num body, Ready.teamFrame s 5 mac num body = true → mac ≠ ownMac → Ready.leads s mac num = true → s.hub.run.team.proposals.length < 32 →
      (Ready.proposalOf s num body).target < s.hub.time.pNs + Ready.halfLap s → ∃ t, exec .teamProposeRx s = .next t
        ∧ t.hub.run.team.proposals = s.hub.run.team.proposals ++ [{ Ready.proposalOf s num body with
            target := (Ready.proposalOf s num body).target + s.hub.lap.length.ceil.toNat, deferred := 1 }])
  ∧ (∀ s mac num body, Ready.teamFrame s 5 mac num body = true → mac ≠ ownMac → Ready.leads s mac num = true → 32 ≤ s.hub.run.team.proposals.length →
      ∃ t, exec .teamProposeRx s = .next t ∧ t.hub.run.team.proposals = s.hub.run.team.proposals ∧ t.hub.run.team.arrivals = s.hub.run.team.arrivals)
  ∧ (∀ s mac num body, Ready.teamFrame s 5 mac num body = true → s.hub.run.team.mode ≠ .pacer → ∃ t, exec .teamProposeRx s = .next t
    ∧ t.hub.inbox = s.hub.inbox.eraseP NetItem.isTeam ∧ t.hub.run.team.proposals = s.hub.run.team.proposals)
  ∧ (∀ s mac num body, Ready.teamFrame s 6 mac num body = true → mac ≠ ownMac → Ready.leads s mac num = true → ∃ t, exec .teamWithdrawRx s = .next t
    ∧ t.hub.run.team.proposals = s.hub.run.team.proposals.filter (fun p => !(p.member == num && p.id == leField body 0 2)))
  ∧ (∀ s mac num body, Ready.teamFrame s 6 mac num body = true → s.hub.run.team.mode ≠ .pacer → ∃ t, exec .teamWithdrawRx s = .next t
    ∧ t.hub.inbox = s.hub.inbox.eraseP NetItem.isTeam ∧ t.hub.run.team.intents = s.hub.run.team.intents)
  ∧ (∀ s mac num body, Ready.teamFrame s 7 mac num body = true → mac ≠ ownMac → num = s.hub.run.team.pacer → s.hub.run.team.mode ≠ .pacer →
      ∃ t, exec .teamIntentRx s = .next t
        ∧ t.hub.run.team.intents = s.hub.run.team.intents ++ [{ seq := leField body 0 4, target := s.hub.timeOf body 4, lapNs := leField body 12 4,
                                                                entries := (List.range (leField body 16 1)).map (intentEntry body) }]
        ∧ t.hub.run.team.seen = s.hub.run.team.seen + 1)
  ∧ (∀ s mac num body, Ready.teamFrame s 7 mac num body = true → num ≠ s.hub.run.team.pacer → s.hub.run.team.mode ≠ .pacer →
      ∃ t, exec .teamIntentRx s = .next t
        ∧ t.hub.inbox = s.hub.inbox.eraseP NetItem.isTeam ∧ t.hub.run.team.intents = s.hub.run.team.intents ∧ t.hub.run.team.seen = s.hub.run.team.seen)
  ∧ (∀ s mac num body i, Ready.teamFrame s 8 mac num body = true → mac ≠ ownMac → num = s.hub.run.team.pacer →
      Ready.openIntent s (leField body 0 4) = some i →
      s.hub.time.pNs + lapUnits i.lapNs s.hub.commitLead ≤ i.target → ∃ t, exec .teamCommitRx s = .next t
        ∧ t.hub.run.team.lastIntent = leField body 0 4 ∧ { i with committed := true } ∈ t.hub.run.team.intents
        ∧ ∀ j ∈ t.hub.run.team.intents, j.mine = false → j.seq = leField body 0 4 → j.committed = true)
  ∧ (∀ s mac num body i, Ready.teamFrame s 8 mac num body = true → mac ≠ ownMac → Ready.openIntent s (leField body 0 4) = some i →
      i.target < s.hub.time.pNs + lapUnits i.lapNs s.hub.commitLead → ∃ t, exec .teamCommitRx s = .next t
        ∧ t.hub.run.team.lastIntent = s.hub.run.team.lastIntent)
  ∧ (∀ s mac num body c, Ready.teamFrame s c mac num body = true → mac ≠ ownMac → num ≠ s.hub.run.team.pacer → Ready.stays (Ready.heardFrom s mac num) = true →
      (c = 8 → ∃ t, exec .teamCommitRx s = .next t ∧ t.hub.run.team.intents = s.hub.run.team.intents ∧ t.hub.run.team.lastIntent = s.hub.run.team.lastIntent)
        ∧ (c = 9 → ∃ t, exec .teamCancelRx s = .next t ∧ t.hub.run.team.intents = s.hub.run.team.intents ∧ t.hub.run.team.undone = s.hub.run.team.undone))
  ∧ (∀ s mac num body i k e, Ready.teamFrame s 9 mac num body = true → mac ≠ ownMac → num = s.hub.run.team.pacer → 0x0302 ≤ s.teamVersion → Ready.stays (Ready.heardFrom s mac num) = true →
      Ready.intentsOf s (leField body 0 4) = [i] → i.committed = false → i.cut = false → i.entries[k]? = some e → e.live = true →
      (leField body 4 2).testBit k = true → ∃ t, exec .teamCancelRx s = .next t
        ∧ t.hub.run.team.undone = s.hub.run.team.undone + 1 ∧ t.hub.collector.stands 0x54 = true
        ∧ ∀ j ∈ t.hub.run.team.intents, j.mine = false → j.seq = leField body 0 4 → ∀ n x, (leField body 4 2).testBit n = true → j.entries[n]? = some x →
            x.live = false)
  ∧ (∀ s mac num body, Ready.teamFrame s 9 mac num body = true → mac ≠ ownMac → s.teamVersion < 0x0302 → Ready.stays (Ready.heardFrom s mac num) = true →
      ∃ t, exec .teamCancelRx s = .next t ∧ t.hub.run.team.intents = s.hub.run.team.intents ∧ t.hub.run.team.undone = s.hub.run.team.undone)
  ∧ (∀ s mac num body n, Ready.teamFrame s 10 mac num body = true → mac ≠ ownMac → num = s.hub.run.team.pacer → leField body 0 1 = s.hub.ownNumber →
      ((List.range 48).find? fun n => (s.hub.schedule n).governed && decide ((s.hub.schedule n).proposal = leField body 2 2)) = some n →
      ∃ t, exec .teamRejectRx s = .next t
        ∧ (t.hub.schedule n).status = 5 ∧ (t.hub.schedule n).governed = false ∧ t.hub.collector.stands 0x55 = true)
  ∧ (∀ s p, s.hub.serving = true → s.hub.run.team.mode = .pacer → Ready.stays s = true → s.hub.run.team.proposals = [p] →
      p.target ≤ s.hub.time.pNs + Ready.halfLap s → s.hub.run.team.intents = [] →
      s.hub.run.team.reserved.getD p.budget 0 + p.current ≤ s.hub.budgetLimit p.budget → ∃ t, exec .publicationTime s = .next t
        ∧ t.hub.run.team.proposals = [] ∧ t.hub.run.team.seen = s.hub.run.team.seen + 1
        ∧ (p.budget < 4 → 0 < p.current → t.hub.run.team.reserved.getD p.budget 0 = s.hub.run.team.reserved.getD p.budget 0 + p.current)
        ∧ t.hub.run.team.intents.map (fun i => (i.seq, i.target, i.mine, i.fresh)) = [(s.hub.run.team.nextIntent, p.target, true, false)])
  ∧ (∀ s p, s.hub.serving = true → s.hub.run.team.mode = .pacer → Ready.stays s = true → s.hub.run.team.proposals = [p] →
      p.target ≤ s.hub.time.pNs + Ready.halfLap s → s.hub.budgetLimit p.budget < s.hub.run.team.reserved.getD p.budget 0 + p.current →
      s.hub.run.team.intents = [] → ∃ t, exec .publicationTime s = .next t
        ∧ t.hub.run.team.intents = []
        ∧ t.hub.run.team.proposals = (if p.deferred < 7 then [{ p with target := p.target + s.hub.lap.length.ceil.toNat, deferred := p.deferred + 1 }] else []))
  ∧ (∀ s i, s.hub.serving = true → s.hub.run.team.mode = .pacer → Ready.dueCommits s = [i] → ∃ t, exec .commitSendTime s = .next t
    ∧ t.hub.run.team.lastIntent = i.seq ∧ { i with committed := true } ∈ t.hub.run.team.intents
    ∧ ∀ j ∈ t.hub.run.team.intents, j.mine = true → j.seq = i.seq → j.committed = true)
  ∧ (∀ s, s.hub.serving = true → s.hub.inTeam = true → Ready.stays s = true → ∃ t, exec .commitDeadline s = .next t
    ∧ t.hub.run.team.intents = s.hub.run.team.intents.filter (fun i => !Ready.lapsed s i)
    ∧ t.hub.run.team.missing = s.hub.run.team.missing + BitVec.ofNat 32 (s.hub.run.team.intents.filter (Ready.lapsedLive s)).length
    ∧ ((s.hub.run.team.intents.any (Ready.lapsedLive s)) = true → t.hub.collector.stands 0x54 = true))
  ∧ (∀ s, s.hub.serving = true → s.hub.inTeam = true → Ready.stays s = true → ∃ t, exec .entryTargetReached s = .next t
    ∧ t.hub.run.team.intents = s.hub.run.team.intents.filter (fun i => !Ready.reached s i))
  ∧ (∀ s i e, s.hub.serving = true → s.hub.inTeam = true → s.hub.shaped = true → s.hub.run.team.intents.filter (Ready.reached s) = [i] → i.entries = [e] →
      e.live = true → e.member ≠ s.hub.ownNumber → e.member < 8 → ∃ t, exec .entryTargetReached s = .next t
        ∧ (t.hub.member e.member).onCurrent = editAt (s.hub.member e.member).onCurrent e.budget fun c => c + e.current)

/-! ## The machine as a whole -/

/-- With a command at the front of the queue, a step is exec of it on the state with the rest of the queue. On an empty queue a step is a next state
40 ns later with the banks, the lands, the supplies, MRAM, buffers, patch slots, collector, runtime and network as they were, and the whole hub while
it is in reset. Rests on spec/opcode_table.json. That an idle step is one cycle of the reference is log entry 1 (DESIGN CHOICE), no rule of the spec.
-/
def Obligations.StepRunsTheFrontCommandOrPassesOneCycle : Prop :=
  (∀ s c rest, s.pending = c :: rest → step s = exec c { s with pending := rest })
  ∧ (∀ s, s.pending = [] → step s = .next s.tick ∧ s.tick.now = s.now + 40 ∧ s.tick.pending = [] ∧ s.tick.banks = s.banks ∧ s.tick.lands = s.lands
      ∧ s.tick.pwr = s.pwr ∧ s.tick.mram = s.mram ∧ s.tick.bufs = s.bufs ∧ s.tick.patches = s.patches ∧ s.tick.hub.collector = s.hub.collector
      ∧ s.tick.hub.run = s.hub.run ∧ s.tick.hub.net = s.hub.net ∧ (s.hub.outOfReset = false → s.tick.hub = s.hub))

/-- For every command and every state exec answers a next state, never a fault or a refusal, whose queue, clock and firmware version are those before.
Rests on spec/opcode_table.json. That a command whose conditions do not hold changes nothing is log entry 12 (DESIGN CHOICE). -/
def Obligations.EveryCommandAnswersAndLeavesTheQueue : Prop :=
  ∀ c s, ∃ t, exec c s = .next t ∧ t.pending = s.pending ∧ t.now = s.now ∧ t.rtVersion = s.rtVersion

/-- From every state whose memories are canonical (addresses strictly rising, no entry equal to what an unlisted address reads as) every step gives a
state whose memories are canonical. Rules: R369, R375, R481. What an unwritten buffer byte reads as is log entry 3 (DESIGN CHOICE). -/
def Obligations.EveryStepKeepsTheMemoriesCanonical : Prop :=
  ∀ s t, step s = .next t → Memory.wf s = true → Memory.wf t = true

/-- From every state of the right shape (four banks of twelve channels and fourteen sensors, the lists the hub keeps per bank, lane, session, slot and
queue at their lengths) every step gives a state of that shape. From every state in which each channel that is off has no ramp, and each ramp of a
capacitive lane the target that its sources give it, every step gives such a state. Rules: R16, R19, R147, R151, R199, R367, R369. -/
def Obligations.EveryStepKeepsTheShapeOfTheState : Prop :=
  (∀ s t, step s = .next t → s.formed = true → t.formed = true)
  ∧ (∀ s t, step s = .next t → s.onCourse = true → t.onCourse = true)

/-- At reset the state has its shape, its channels on course and canonical memories, an empty queue, no supply, an unpowered hub, blank configuration copies, an empty journal
and erased patch slots. No bank runs; each channel is off with fail-safe and glide patterns off, the steady limit of its class and no retirement; lane
Ln is mapped to OUTn. Rules: R28. That every supply is absent at reset, and other values the spec does not give, are log entry 15 (DESIGN CHOICE). -/
def Obligations.ResetIsAnUnpoweredFactoryFreshDevice : Prop :=
  State.reset.formed = true ∧ State.reset.onCourse = true ∧ Memory.wf State.reset = true ∧ State.reset.pending = []
  ∧ State.reset.hub.phase = .unpowered ∧ State.reset.pwr.vcore = false ∧ State.reset.pwr.vio = false ∧ State.reset.pwr.vphy = false
  ∧ State.reset.mram.copyA.blank = true ∧ State.reset.mram.copyB.blank = true ∧ State.reset.mram.records = []
  ∧ (∀ a, readCell slotBlank State.reset.patches a = 0xFF#8)
  ∧ (∀ b, b < 4 → (State.reset.bank b).core.running = false)
  ∧ (∀ ch, ch < 48 → (State.reset.chan ch).io.on = false ∧ (State.reset.chan ch).cfg.pattern = { failSafe := .off, glide := .off }
      ∧ (State.reset.chan ch).cfg.prot.steady = steadyDefault (classOf ch) ∧ (State.reset.chan ch).cfg.retired = false)
  ∧ (∀ n, n < 48 → State.reset.hub.chansOf n = [n])

/-- For every command and state: one that is no event of a channel or a bank and none of the listed bank commands leaves the banks as they were; one
that is no supply event leaves the supplies; one that is no land event leaves the lands; one that is no buffer command leaves the buffers. A received
frame leaves every buffer byte outside the buffer of the Q5 entry it fills, at the length of its data, and a buffer write leaves every buffer byte
outside the addressed base and count. Rules: R16, R20, R369, R375, R410. -/
def Obligations.CommandsKeepToTheirPlaces : Prop :=
  (∀ c s t, exec c s = .next t →
    (chanEvent c = none → bankEvent c = none → otherBankCommand c = false → t.banks = s.banks)
    ∧ (supplyCommand c = false → t.pwr = s.pwr)
    ∧ (landCommand c = false → t.lands = s.lands)
    ∧ (bufferCommand c = false → t.bufs = s.bufs))
  ∧ (∀ s t n frame e a, exec (.frameIngress n frame e) s = .next t →
    (a < rxBase s.hub.net.q5.prod ∨ rxBase s.hub.net.q5.prod + (Ready.frameData frame).length ≤ a) → readCell bufBlank t.bufs a = readCell bufBlank s.bufs a)
  ∧ (∀ s t via a, exec (.bufferWrite via) s = .next t →
    (∀ q base, s.hub.request via = some q → Ready.askedBuffer q = some base → a < base ∨ base + leField q.body 4 2 ≤ a) →
      readCell bufBlank t.bufs a = readCell bufBlank s.bufs a)

/-- An event of one channel leaves all other banks and the hub parts outside the bank as they were, its own bank keeps supply, inputs and waiting
tagged commands, and the lasting state of every other channel stays where the bank's channels are on course, as every step keeps them. An event of one
bank leaves the other banks as they were. Rules: R16, R19, R20. -/
def Obligations.ChannelAndBankEventsStayInTheirBank : Prop :=
  (∀ c s t ch, chanEvent c = some ch → ch < 48 → s.shaped = true → exec c s = .next t → s.onlyBank t (ch / 12)
    ∧ (t.bank (ch / 12)).core.supply = (s.bank (ch / 12)).core.supply
    ∧ (t.bank (ch / 12)).core.inputs = (s.bank (ch / 12)).core.inputs ∧ (t.bank (ch / 12)).tagged = (s.bank (ch / 12)).tagged
    ∧ ∀ n, n < 48 → n ≠ ch → (s.bank (ch / 12)).core.onCourse = true → (t.chan n).lasting = (s.chan n).lasting)
  ∧ (∀ c s t b, bankEvent c = some b → b < 4 → s.shaped = true → exec c s = .next t → s.onlyBank t b)

/-- For each named event of the lap tracker, the capture, the time domains, ports and queues, the collector, escalation, shedding, the watchdog, SPI,
the sessions, and the services of the runtime, exec leaves everything outside the hub as it was, and in the hub everything but the part named for the
group, the collector, the pending events, Q2 and the shadow of the journal. Rules: R35, R371, R382. -/
def Obligations.HubEventsChangeOnlyTheirPart : Prop :=
  ∀ c s t, exec c s = .next t →
    (lapEvent c = true → s.onlyHub t ∧ t.hub.calm = ({ s.hub with lap := t.hub.lap } : Hub).calm)
    ∧ (captureEvent c = true → s.onlyHub t ∧ t.hub.calm = ({ s.hub with capture := t.hub.capture } : Hub).calm)
    ∧ (timeOrNetEvent c = true → s.onlyHub t ∧ t.hub.calm = ({ s.hub with time := t.hub.time, net := t.hub.net } : Hub).calm)
    ∧ (collectorEvent c = true → s.onlyHub t ∧ t.hub.calm = s.hub.calm)
    ∧ (escalationEvent c = true → s.onlyHub t ∧ t.hub.calm = ({ s.hub with links := t.hub.links } : Hub).calm)
    ∧ (sheddingEvent c = true → s.onlyHub t ∧ t.hub.calm =
        ({ s.hub with links := t.hub.links, run := { s.hub.run with shed := t.hub.run.shed, shedDue := t.hub.run.shedDue } } : Hub).calm)
    ∧ (watchdogEvent c = true → s.onlyHub t ∧ t.hub.calm =
        ({ s.hub with links := t.hub.links, dogMisses := t.hub.dogMisses, run := { s.hub.run with dog := t.hub.run.dog } } : Hub).calm)
    ∧ (spiEvent c = true → s.onlyHub t ∧ t.hub.calm =
        ({ s.hub with net := t.hub.net, spiMode3 := t.hub.spiMode3, spiOut := t.hub.spiOut, spiBad := t.hub.spiBad } : Hub).calm)
    ∧ (sessionEvent c = true → s.onlyHub t ∧ t.hub.calm =
        ({ s.hub with run := { s.hub.run with sessions := t.hub.run.sessions, waiting := t.hub.run.waiting, dog := t.hub.run.dog,
                                              reclaimed := t.hub.run.reclaimed } } : Hub).calm)
    ∧ (serviceEvent c = true → s.onlyHub t ∧ t.hub.calm =
        ({ s.hub with net := t.hub.net, links := t.hub.links, inbox := t.hub.inbox, run := t.hub.run } : Hub).calm)
end

