-- ==== Sys2Proof/Laws/State.lean ====
section
/-! SUPPORT. What each update of the state changes, one lemma for each field, true by definition. -/

namespace Sys2Proof.Machine

/-! ## State.onHub -/

@[simp] theorem State.onHub_pending (s : State) (f : Hub → Hub) : (s.onHub f).pending = s.pending := rfl
@[simp] theorem State.onHub_now (s : State) (f : Hub → Hub) : (s.onHub f).now = s.now := rfl
@[simp] theorem State.onHub_free (s : State) (f : Hub → Hub) : (s.onHub f).free = s.free := rfl
@[simp] theorem State.onHub_rtVersion (s : State) (f : Hub → Hub) : (s.onHub f).rtVersion = s.rtVersion := rfl
@[simp] theorem State.onHub_pwr (s : State) (f : Hub → Hub) : (s.onHub f).pwr = s.pwr := rfl
@[simp] theorem State.onHub_lands (s : State) (f : Hub → Hub) : (s.onHub f).lands = s.lands := rfl
@[simp] theorem State.onHub_mram (s : State) (f : Hub → Hub) : (s.onHub f).mram = s.mram := rfl
@[simp] theorem State.onHub_banks (s : State) (f : Hub → Hub) : (s.onHub f).banks = s.banks := rfl
@[simp] theorem State.onHub_hub (s : State) (f : Hub → Hub) : (s.onHub f).hub = f s.hub := rfl
@[simp] theorem State.onHub_bufs (s : State) (f : Hub → Hub) : (s.onHub f).bufs = s.bufs := rfl
@[simp] theorem State.onHub_patches (s : State) (f : Hub → Hub) : (s.onHub f).patches = s.patches := rfl

/-! ## State.onBank -/

@[simp] theorem State.onBank_pending (s : State) (b : Nat) (f : Bank → Bank) : (s.onBank b f).pending = s.pending := rfl
@[simp] theorem State.onBank_now (s : State) (b : Nat) (f : Bank → Bank) : (s.onBank b f).now = s.now := rfl
@[simp] theorem State.onBank_free (s : State) (b : Nat) (f : Bank → Bank) : (s.onBank b f).free = s.free := rfl
@[simp] theorem State.onBank_rtVersion (s : State) (b : Nat) (f : Bank → Bank) : (s.onBank b f).rtVersion = s.rtVersion := rfl
@[simp] theorem State.onBank_pwr (s : State) (b : Nat) (f : Bank → Bank) : (s.onBank b f).pwr = s.pwr := rfl
@[simp] theorem State.onBank_lands (s : State) (b : Nat) (f : Bank → Bank) : (s.onBank b f).lands = s.lands := rfl
@[simp] theorem State.onBank_mram (s : State) (b : Nat) (f : Bank → Bank) : (s.onBank b f).mram = s.mram := rfl
@[simp] theorem State.onBank_banks (s : State) (b : Nat) (f : Bank → Bank) : (s.onBank b f).banks = editAt s.banks b f := rfl
@[simp] theorem State.onBank_hub (s : State) (b : Nat) (f : Bank → Bank) : (s.onBank b f).hub = s.hub := rfl
@[simp] theorem State.onBank_bufs (s : State) (b : Nat) (f : Bank → Bank) : (s.onBank b f).bufs = s.bufs := rfl
@[simp] theorem State.onBank_patches (s : State) (b : Nat) (f : Bank → Bank) : (s.onBank b f).patches = s.patches := rfl

/-! ## State.onBanks -/

@[simp] theorem State.onBanks_pending (s : State) (f : Nat → Bank → Bank) : (s.onBanks f).pending = s.pending := rfl
@[simp] theorem State.onBanks_now (s : State) (f : Nat → Bank → Bank) : (s.onBanks f).now = s.now := rfl
@[simp] theorem State.onBanks_free (s : State) (f : Nat → Bank → Bank) : (s.onBanks f).free = s.free := rfl
@[simp] theorem State.onBanks_rtVersion (s : State) (f : Nat → Bank → Bank) : (s.onBanks f).rtVersion = s.rtVersion := rfl
@[simp] theorem State.onBanks_pwr (s : State) (f : Nat → Bank → Bank) : (s.onBanks f).pwr = s.pwr := rfl
@[simp] theorem State.onBanks_lands (s : State) (f : Nat → Bank → Bank) : (s.onBanks f).lands = s.lands := rfl
@[simp] theorem State.onBanks_mram (s : State) (f : Nat → Bank → Bank) : (s.onBanks f).mram = s.mram := rfl
@[simp] theorem State.onBanks_banks (s : State) (f : Nat → Bank → Bank) : (s.onBanks f).banks = mapFrom f 0 s.banks := rfl
@[simp] theorem State.onBanks_hub (s : State) (f : Nat → Bank → Bank) : (s.onBanks f).hub = s.hub := rfl
@[simp] theorem State.onBanks_bufs (s : State) (f : Nat → Bank → Bank) : (s.onBanks f).bufs = s.bufs := rfl
@[simp] theorem State.onBanks_patches (s : State) (f : Nat → Bank → Bank) : (s.onBanks f).patches = s.patches := rfl

/-! ## State.onChan -/

@[simp] theorem State.onChan_pending (s : State) (ch : Nat) (f : Bank → Nat → Nat → Nat → Bank) : (s.onChan ch f).pending = s.pending := rfl
@[simp] theorem State.onChan_now (s : State) (ch : Nat) (f : Bank → Nat → Nat → Nat → Bank) : (s.onChan ch f).now = s.now := rfl
@[simp] theorem State.onChan_free (s : State) (ch : Nat) (f : Bank → Nat → Nat → Nat → Bank) : (s.onChan ch f).free = s.free := rfl
@[simp] theorem State.onChan_rtVersion (s : State) (ch : Nat) (f : Bank → Nat → Nat → Nat → Bank) : (s.onChan ch f).rtVersion = s.rtVersion := rfl
@[simp] theorem State.onChan_pwr (s : State) (ch : Nat) (f : Bank → Nat → Nat → Nat → Bank) : (s.onChan ch f).pwr = s.pwr := rfl
@[simp] theorem State.onChan_lands (s : State) (ch : Nat) (f : Bank → Nat → Nat → Nat → Bank) : (s.onChan ch f).lands = s.lands := rfl
@[simp] theorem State.onChan_mram (s : State) (ch : Nat) (f : Bank → Nat → Nat → Nat → Bank) : (s.onChan ch f).mram = s.mram := rfl
@[simp] theorem State.onChan_banks (s : State) (ch : Nat) (f : Bank → Nat → Nat → Nat → Bank) : (s.onChan ch f).banks = editAt s.banks (ch / 12) fun x => f x (ch / 12) s.now (ch % 12) := rfl
@[simp] theorem State.onChan_hub (s : State) (ch : Nat) (f : Bank → Nat → Nat → Nat → Bank) : (s.onChan ch f).hub = s.hub := rfl
@[simp] theorem State.onChan_bufs (s : State) (ch : Nat) (f : Bank → Nat → Nat → Nat → Bank) : (s.onChan ch f).bufs = s.bufs := rfl
@[simp] theorem State.onChan_patches (s : State) (ch : Nat) (f : Bank → Nat → Nat → Nat → Bank) : (s.onChan ch f).patches = s.patches := rfl

/-! ## State.writeBuf -/

@[simp] theorem State.writeBuf_pending (s : State) (a : Nat) (data : List Byte) : (s.writeBuf a data).pending = s.pending := rfl
@[simp] theorem State.writeBuf_now (s : State) (a : Nat) (data : List Byte) : (s.writeBuf a data).now = s.now := rfl
@[simp] theorem State.writeBuf_free (s : State) (a : Nat) (data : List Byte) : (s.writeBuf a data).free = s.free := rfl
@[simp] theorem State.writeBuf_rtVersion (s : State) (a : Nat) (data : List Byte) : (s.writeBuf a data).rtVersion = s.rtVersion := rfl
@[simp] theorem State.writeBuf_pwr (s : State) (a : Nat) (data : List Byte) : (s.writeBuf a data).pwr = s.pwr := rfl
@[simp] theorem State.writeBuf_lands (s : State) (a : Nat) (data : List Byte) : (s.writeBuf a data).lands = s.lands := rfl
@[simp] theorem State.writeBuf_mram (s : State) (a : Nat) (data : List Byte) : (s.writeBuf a data).mram = s.mram := rfl
@[simp] theorem State.writeBuf_banks (s : State) (a : Nat) (data : List Byte) : (s.writeBuf a data).banks = s.banks := rfl
@[simp] theorem State.writeBuf_hub (s : State) (a : Nat) (data : List Byte) : (s.writeBuf a data).hub = s.hub := rfl
@[simp] theorem State.writeBuf_bufs (s : State) (a : Nat) (data : List Byte) : (s.writeBuf a data).bufs = writeCells bufBlank s.bufs a data := rfl
@[simp] theorem State.writeBuf_patches (s : State) (a : Nat) (data : List Byte) : (s.writeBuf a data).patches = s.patches := rfl

/-! ## State.writeSlot -/

@[simp] theorem State.writeSlot_pending (s : State) (i a : Nat) (data : List Byte) : (s.writeSlot i a data).pending = s.pending := rfl
@[simp] theorem State.writeSlot_now (s : State) (i a : Nat) (data : List Byte) : (s.writeSlot i a data).now = s.now := rfl
@[simp] theorem State.writeSlot_free (s : State) (i a : Nat) (data : List Byte) : (s.writeSlot i a data).free = s.free := rfl
@[simp] theorem State.writeSlot_rtVersion (s : State) (i a : Nat) (data : List Byte) : (s.writeSlot i a data).rtVersion = s.rtVersion := rfl
@[simp] theorem State.writeSlot_pwr (s : State) (i a : Nat) (data : List Byte) : (s.writeSlot i a data).pwr = s.pwr := rfl
@[simp] theorem State.writeSlot_lands (s : State) (i a : Nat) (data : List Byte) : (s.writeSlot i a data).lands = s.lands := rfl
@[simp] theorem State.writeSlot_mram (s : State) (i a : Nat) (data : List Byte) : (s.writeSlot i a data).mram = s.mram := rfl
@[simp] theorem State.writeSlot_banks (s : State) (i a : Nat) (data : List Byte) : (s.writeSlot i a data).banks = s.banks := rfl
@[simp] theorem State.writeSlot_hub (s : State) (i a : Nat) (data : List Byte) : (s.writeSlot i a data).hub = s.hub := rfl
@[simp] theorem State.writeSlot_bufs (s : State) (i a : Nat) (data : List Byte) : (s.writeSlot i a data).bufs = s.bufs := rfl
@[simp] theorem State.writeSlot_patches (s : State) (i a : Nat) (data : List Byte) : (s.writeSlot i a data).patches = writeCells slotBlank s.patches (slotBase i + a) data := rfl

/-! ## State.eraseSlot -/

@[simp] theorem State.eraseSlot_pending (s : State) (i : Nat) : (s.eraseSlot i).pending = s.pending := rfl
@[simp] theorem State.eraseSlot_now (s : State) (i : Nat) : (s.eraseSlot i).now = s.now := rfl
@[simp] theorem State.eraseSlot_free (s : State) (i : Nat) : (s.eraseSlot i).free = s.free := rfl
@[simp] theorem State.eraseSlot_rtVersion (s : State) (i : Nat) : (s.eraseSlot i).rtVersion = s.rtVersion := rfl
@[simp] theorem State.eraseSlot_pwr (s : State) (i : Nat) : (s.eraseSlot i).pwr = s.pwr := rfl
@[simp] theorem State.eraseSlot_lands (s : State) (i : Nat) : (s.eraseSlot i).lands = s.lands := rfl
@[simp] theorem State.eraseSlot_mram (s : State) (i : Nat) : (s.eraseSlot i).mram = s.mram := rfl
@[simp] theorem State.eraseSlot_banks (s : State) (i : Nat) : (s.eraseSlot i).banks = s.banks := rfl
@[simp] theorem State.eraseSlot_hub (s : State) (i : Nat) : (s.eraseSlot i).hub = s.hub := rfl
@[simp] theorem State.eraseSlot_bufs (s : State) (i : Nat) : (s.eraseSlot i).bufs = s.bufs := rfl
@[simp] theorem State.eraseSlot_patches (s : State) (i : Nat) : (s.eraseSlot i).patches = s.patches.filter fun c => !(decide (slotBase i ≤ c.1) && decide (c.1 < slotBase i + slotSize)) := rfl

/-! ## State.drawBit and State.drawBytes -/

@[simp] theorem State.drawBit_pending (s : State) : s.drawBit.1.pending = s.pending := rfl
@[simp] theorem State.drawBit_now (s : State) : s.drawBit.1.now = s.now := rfl
@[simp] theorem State.drawBit_free (s : State) : s.drawBit.1.free = s.free + 1 := rfl
@[simp] theorem State.drawBit_rtVersion (s : State) : s.drawBit.1.rtVersion = s.rtVersion := rfl
@[simp] theorem State.drawBit_pwr (s : State) : s.drawBit.1.pwr = s.pwr := rfl
@[simp] theorem State.drawBit_lands (s : State) : s.drawBit.1.lands = s.lands := rfl
@[simp] theorem State.drawBit_mram (s : State) : s.drawBit.1.mram = s.mram := rfl
@[simp] theorem State.drawBit_banks (s : State) : s.drawBit.1.banks = s.banks := rfl
@[simp] theorem State.drawBit_hub (s : State) : s.drawBit.1.hub = s.hub := rfl
@[simp] theorem State.drawBit_bufs (s : State) : s.drawBit.1.bufs = s.bufs := rfl
@[simp] theorem State.drawBit_patches (s : State) : s.drawBit.1.patches = s.patches := rfl
@[simp] theorem State.drawBytes_pending (s : State) (n : Nat) : (s.drawBytes n).1.pending = s.pending := rfl
@[simp] theorem State.drawBytes_now (s : State) (n : Nat) : (s.drawBytes n).1.now = s.now := rfl
@[simp] theorem State.drawBytes_free (s : State) (n : Nat) : (s.drawBytes n).1.free = s.free + n := rfl
@[simp] theorem State.drawBytes_rtVersion (s : State) (n : Nat) : (s.drawBytes n).1.rtVersion = s.rtVersion := rfl
@[simp] theorem State.drawBytes_pwr (s : State) (n : Nat) : (s.drawBytes n).1.pwr = s.pwr := rfl
@[simp] theorem State.drawBytes_lands (s : State) (n : Nat) : (s.drawBytes n).1.lands = s.lands := rfl
@[simp] theorem State.drawBytes_mram (s : State) (n : Nat) : (s.drawBytes n).1.mram = s.mram := rfl
@[simp] theorem State.drawBytes_banks (s : State) (n : Nat) : (s.drawBytes n).1.banks = s.banks := rfl
@[simp] theorem State.drawBytes_hub (s : State) (n : Nat) : (s.drawBytes n).1.hub = s.hub := rfl
@[simp] theorem State.drawBytes_bufs (s : State) (n : Nat) : (s.drawBytes n).1.bufs = s.bufs := rfl
@[simp] theorem State.drawBytes_patches (s : State) (n : Nat) : (s.drawBytes n).1.patches = s.patches := rfl

/-! ## State.tick and State.withCommand -/

@[simp] theorem State.tick_pending (s : State) : s.tick.pending = s.pending := rfl
@[simp] theorem State.tick_now (s : State) : s.tick.now = s.now + tickNs := rfl
@[simp] theorem State.tick_free (s : State) : s.tick.free = s.free := rfl
@[simp] theorem State.tick_rtVersion (s : State) : s.tick.rtVersion = s.rtVersion := rfl
@[simp] theorem State.tick_pwr (s : State) : s.tick.pwr = s.pwr := rfl
@[simp] theorem State.tick_lands (s : State) : s.tick.lands = s.lands := rfl
@[simp] theorem State.tick_mram (s : State) : s.tick.mram = s.mram := rfl
@[simp] theorem State.tick_banks (s : State) : s.tick.banks = s.banks := rfl
@[simp] theorem State.tick_bufs (s : State) : s.tick.bufs = s.bufs := rfl
@[simp] theorem State.tick_patches (s : State) : s.tick.patches = s.patches := rfl
@[simp] theorem State.withCommand_pending (s : State) (c : Instr) : (s.withCommand c).pending = c :: s.pending := rfl
@[simp] theorem State.withCommand_now (s : State) (c : Instr) : (s.withCommand c).now = s.now := rfl
@[simp] theorem State.withCommand_free (s : State) (c : Instr) : (s.withCommand c).free = s.free := rfl
@[simp] theorem State.withCommand_rtVersion (s : State) (c : Instr) : (s.withCommand c).rtVersion = s.rtVersion := rfl
@[simp] theorem State.withCommand_pwr (s : State) (c : Instr) : (s.withCommand c).pwr = s.pwr := rfl
@[simp] theorem State.withCommand_lands (s : State) (c : Instr) : (s.withCommand c).lands = s.lands := rfl
@[simp] theorem State.withCommand_mram (s : State) (c : Instr) : (s.withCommand c).mram = s.mram := rfl
@[simp] theorem State.withCommand_banks (s : State) (c : Instr) : (s.withCommand c).banks = s.banks := rfl
@[simp] theorem State.withCommand_hub (s : State) (c : Instr) : (s.withCommand c).hub = s.hub := rfl
@[simp] theorem State.withCommand_bufs (s : State) (c : Instr) : (s.withCommand c).bufs = s.bufs := rfl
@[simp] theorem State.withCommand_patches (s : State) (c : Instr) : (s.withCommand c).patches = s.patches := rfl

/-! ## Parts of the hub -/

@[simp] theorem Hub.onRun_phase (h : Hub) (f : Run → Run) : (h.onRun f).phase = h.phase := rfl
@[simp] theorem Hub.onRun_cause (h : Hub) (f : Run → Run) : (h.onRun f).cause = h.cause := rfl
@[simp] theorem Hub.onRun_startAt (h : Hub) (f : Run → Run) : (h.onRun f).startAt = h.startAt := rfl
@[simp] theorem Hub.onRun_failures (h : Hub) (f : Run → Run) : (h.onRun f).failures = h.failures := rfl
@[simp] theorem Hub.onRun_stepsAt (h : Hub) (f : Run → Run) : (h.onRun f).stepsAt = h.stepsAt := rfl
@[simp] theorem Hub.onRun_tier (h : Hub) (f : Run → Run) : (h.onRun f).tier = h.tier := rfl
@[simp] theorem Hub.onRun_synth (h : Hub) (f : Run → Run) : (h.onRun f).synth = h.synth := rfl
@[simp] theorem Hub.onRun_calTemp (h : Hub) (f : Run → Run) : (h.onRun f).calTemp = h.calTemp := rfl
@[simp] theorem Hub.onRun_temp (h : Hub) (f : Run → Run) : (h.onRun f).temp = h.temp := rfl
@[simp] theorem Hub.onRun_windowCode (h : Hub) (f : Run → Run) : (h.onRun f).windowCode = h.windowCode := rfl
@[simp] theorem Hub.onRun_flushing (h : Hub) (f : Run → Run) : (h.onRun f).flushing = h.flushing := rfl
@[simp] theorem Hub.onRun_calibrations (h : Hub) (f : Run → Run) : (h.onRun f).calibrations = h.calibrations := rfl
@[simp] theorem Hub.onRun_tierChanges (h : Hub) (f : Run → Run) : (h.onRun f).tierChanges = h.tierChanges := rfl
@[simp] theorem Hub.onRun_strapValue (h : Hub) (f : Run → Run) : (h.onRun f).strapValue = h.strapValue := rfl
@[simp] theorem Hub.onRun_strapStatus (h : Hub) (f : Run → Run) : (h.onRun f).strapStatus = h.strapStatus := rfl
@[simp] theorem Hub.onRun_startReport (h : Hub) (f : Run → Run) : (h.onRun f).startReport = h.startReport := rfl
@[simp] theorem Hub.onRun_startCause (h : Hub) (f : Run → Run) : (h.onRun f).startCause = h.startCause := rfl
@[simp] theorem Hub.onRun_duration (h : Hub) (f : Run → Run) : (h.onRun f).duration = h.duration := rfl
@[simp] theorem Hub.onRun_copySel (h : Hub) (f : Run → Run) : (h.onRun f).copySel = h.copySel := rfl
@[simp] theorem Hub.onRun_statusA (h : Hub) (f : Run → Run) : (h.onRun f).statusA = h.statusA := rfl
@[simp] theorem Hub.onRun_statusB (h : Hub) (f : Run → Run) : (h.onRun f).statusB = h.statusB := rfl
@[simp] theorem Hub.onRun_copySeq (h : Hub) (f : Run → Run) : (h.onRun f).copySeq = h.copySeq := rfl
@[simp] theorem Hub.onRun_shadowFlag (h : Hub) (f : Run → Run) : (h.onRun f).shadowFlag = h.shadowFlag := rfl
@[simp] theorem Hub.onRun_pending (h : Hub) (f : Run → Run) : (h.onRun f).pending = h.pending := rfl
@[simp] theorem Hub.onRun_gap (h : Hub) (f : Run → Run) : (h.onRun f).gap = h.gap := rfl
@[simp] theorem Hub.onRun_chgperm (h : Hub) (f : Run → Run) : (h.onRun f).chgperm = h.chgperm := rfl
@[simp] theorem Hub.onRun_dogMisses (h : Hub) (f : Run → Run) : (h.onRun f).dogMisses = h.dogMisses := rfl
@[simp] theorem Hub.onRun_lap (h : Hub) (f : Run → Run) : (h.onRun f).lap = h.lap := rfl
@[simp] theorem Hub.onRun_capture (h : Hub) (f : Run → Run) : (h.onRun f).capture = h.capture := rfl
@[simp] theorem Hub.onRun_collector (h : Hub) (f : Run → Run) : (h.onRun f).collector = h.collector := rfl
@[simp] theorem Hub.onRun_time (h : Hub) (f : Run → Run) : (h.onRun f).time = h.time := rfl
@[simp] theorem Hub.onRun_net (h : Hub) (f : Run → Run) : (h.onRun f).net = h.net := rfl
@[simp] theorem Hub.onRun_links (h : Hub) (f : Run → Run) : (h.onRun f).links = h.links := rfl
@[simp] theorem Hub.onRun_views (h : Hub) (f : Run → Run) : (h.onRun f).views = h.views := rfl
@[simp] theorem Hub.onRun_revisions (h : Hub) (f : Run → Run) : (h.onRun f).revisions = h.revisions := rfl
@[simp] theorem Hub.onRun_inbox (h : Hub) (f : Run → Run) : (h.onRun f).inbox = h.inbox := rfl
@[simp] theorem Hub.onRun_q5Held (h : Hub) (f : Run → Run) : (h.onRun f).q5Held = h.q5Held := rfl
@[simp] theorem Hub.onRun_agreeSince (h : Hub) (f : Run → Run) : (h.onRun f).agreeSince = h.agreeSince := rfl
@[simp] theorem Hub.onRun_run (h : Hub) (f : Run → Run) : (h.onRun f).run = f h.run := rfl
@[simp] theorem Hub.onRun_spiBad (h : Hub) (f : Run → Run) : (h.onRun f).spiBad = h.spiBad := rfl
@[simp] theorem Hub.onRun_romOk (h : Hub) (f : Run → Run) : (h.onRun f).romOk = h.romOk := rfl
@[simp] theorem Hub.onRun_selfOk (h : Hub) (f : Run → Run) : (h.onRun f).selfOk = h.selfOk := rfl
@[simp] theorem Hub.onRun_patchDue (h : Hub) (f : Run → Run) : (h.onRun f).patchDue = h.patchDue := rfl
@[simp] theorem Hub.onRun_wakeDue (h : Hub) (f : Run → Run) : (h.onRun f).wakeDue = h.wakeDue := rfl
@[simp] theorem Hub.onRun_lastReply (h : Hub) (f : Run → Run) : (h.onRun f).lastReply = h.lastReply := rfl
@[simp] theorem Hub.onRun_spiOut (h : Hub) (f : Run → Run) : (h.onRun f).spiOut = h.spiOut := rfl
@[simp] theorem Hub.onRun_permFrom (h : Hub) (f : Run → Run) : (h.onRun f).permFrom = h.permFrom := rfl
@[simp] theorem Hub.onRun_permLost (h : Hub) (f : Run → Run) : (h.onRun f).permLost = h.permLost := rfl
@[simp] theorem Hub.onRun_spiMode3 (h : Hub) (f : Run → Run) : (h.onRun f).spiMode3 = h.spiMode3 := rfl
@[simp] theorem Hub.onLink_phase (h : Hub) (b : Nat) (f : Link → Link) : (h.onLink b f).phase = h.phase := rfl
@[simp] theorem Hub.onLink_cause (h : Hub) (b : Nat) (f : Link → Link) : (h.onLink b f).cause = h.cause := rfl
@[simp] theorem Hub.onLink_startAt (h : Hub) (b : Nat) (f : Link → Link) : (h.onLink b f).startAt = h.startAt := rfl
@[simp] theorem Hub.onLink_failures (h : Hub) (b : Nat) (f : Link → Link) : (h.onLink b f).failures = h.failures := rfl
@[simp] theorem Hub.onLink_stepsAt (h : Hub) (b : Nat) (f : Link → Link) : (h.onLink b f).stepsAt = h.stepsAt := rfl
@[simp] theorem Hub.onLink_tier (h : Hub) (b : Nat) (f : Link → Link) : (h.onLink b f).tier = h.tier := rfl
@[simp] theorem Hub.onLink_synth (h : Hub) (b : Nat) (f : Link → Link) : (h.onLink b f).synth = h.synth := rfl
@[simp] theorem Hub.onLink_calTemp (h : Hub) (b : Nat) (f : Link → Link) : (h.onLink b f).calTemp = h.calTemp := rfl
@[simp] theorem Hub.onLink_temp (h : Hub) (b : Nat) (f : Link → Link) : (h.onLink b f).temp = h.temp := rfl
@[simp] theorem Hub.onLink_windowCode (h : Hub) (b : Nat) (f : Link → Link) : (h.onLink b f).windowCode = h.windowCode := rfl
@[simp] theorem Hub.onLink_flushing (h : Hub) (b : Nat) (f : Link → Link) : (h.onLink b f).flushing = h.flushing := rfl
@[simp] theorem Hub.onLink_calibrations (h : Hub) (b : Nat) (f : Link → Link) : (h.onLink b f).calibrations = h.calibrations := rfl
@[simp] theorem Hub.onLink_tierChanges (h : Hub) (b : Nat) (f : Link → Link) : (h.onLink b f).tierChanges = h.tierChanges := rfl
@[simp] theorem Hub.onLink_strapValue (h : Hub) (b : Nat) (f : Link → Link) : (h.onLink b f).strapValue = h.strapValue := rfl
@[simp] theorem Hub.onLink_strapStatus (h : Hub) (b : Nat) (f : Link → Link) : (h.onLink b f).strapStatus = h.strapStatus := rfl
@[simp] theorem Hub.onLink_startReport (h : Hub) (b : Nat) (f : Link → Link) : (h.onLink b f).startReport = h.startReport := rfl
@[simp] theorem Hub.onLink_startCause (h : Hub) (b : Nat) (f : Link → Link) : (h.onLink b f).startCause = h.startCause := rfl
@[simp] theorem Hub.onLink_duration (h : Hub) (b : Nat) (f : Link → Link) : (h.onLink b f).duration = h.duration := rfl
@[simp] theorem Hub.onLink_copySel (h : Hub) (b : Nat) (f : Link → Link) : (h.onLink b f).copySel = h.copySel := rfl
@[simp] theorem Hub.onLink_statusA (h : Hub) (b : Nat) (f : Link → Link) : (h.onLink b f).statusA = h.statusA := rfl
@[simp] theorem Hub.onLink_statusB (h : Hub) (b : Nat) (f : Link → Link) : (h.onLink b f).statusB = h.statusB := rfl
@[simp] theorem Hub.onLink_copySeq (h : Hub) (b : Nat) (f : Link → Link) : (h.onLink b f).copySeq = h.copySeq := rfl
@[simp] theorem Hub.onLink_shadowFlag (h : Hub) (b : Nat) (f : Link → Link) : (h.onLink b f).shadowFlag = h.shadowFlag := rfl
@[simp] theorem Hub.onLink_pending (h : Hub) (b : Nat) (f : Link → Link) : (h.onLink b f).pending = h.pending := rfl
@[simp] theorem Hub.onLink_gap (h : Hub) (b : Nat) (f : Link → Link) : (h.onLink b f).gap = h.gap := rfl
@[simp] theorem Hub.onLink_chgperm (h : Hub) (b : Nat) (f : Link → Link) : (h.onLink b f).chgperm = h.chgperm := rfl
@[simp] theorem Hub.onLink_dogMisses (h : Hub) (b : Nat) (f : Link → Link) : (h.onLink b f).dogMisses = h.dogMisses := rfl
@[simp] theorem Hub.onLink_lap (h : Hub) (b : Nat) (f : Link → Link) : (h.onLink b f).lap = h.lap := rfl
@[simp] theorem Hub.onLink_capture (h : Hub) (b : Nat) (f : Link → Link) : (h.onLink b f).capture = h.capture := rfl
@[simp] theorem Hub.onLink_collector (h : Hub) (b : Nat) (f : Link → Link) : (h.onLink b f).collector = h.collector := rfl
@[simp] theorem Hub.onLink_time (h : Hub) (b : Nat) (f : Link → Link) : (h.onLink b f).time = h.time := rfl
@[simp] theorem Hub.onLink_net (h : Hub) (b : Nat) (f : Link → Link) : (h.onLink b f).net = h.net := rfl
@[simp] theorem Hub.onLink_links (h : Hub) (b : Nat) (f : Link → Link) : (h.onLink b f).links = editAt h.links b f := rfl
@[simp] theorem Hub.onLink_views (h : Hub) (b : Nat) (f : Link → Link) : (h.onLink b f).views = h.views := rfl
@[simp] theorem Hub.onLink_revisions (h : Hub) (b : Nat) (f : Link → Link) : (h.onLink b f).revisions = h.revisions := rfl
@[simp] theorem Hub.onLink_inbox (h : Hub) (b : Nat) (f : Link → Link) : (h.onLink b f).inbox = h.inbox := rfl
@[simp] theorem Hub.onLink_q5Held (h : Hub) (b : Nat) (f : Link → Link) : (h.onLink b f).q5Held = h.q5Held := rfl
@[simp] theorem Hub.onLink_agreeSince (h : Hub) (b : Nat) (f : Link → Link) : (h.onLink b f).agreeSince = h.agreeSince := rfl
@[simp] theorem Hub.onLink_run (h : Hub) (b : Nat) (f : Link → Link) : (h.onLink b f).run = h.run := rfl
@[simp] theorem Hub.onLink_spiBad (h : Hub) (b : Nat) (f : Link → Link) : (h.onLink b f).spiBad = h.spiBad := rfl
@[simp] theorem Hub.onLink_romOk (h : Hub) (b : Nat) (f : Link → Link) : (h.onLink b f).romOk = h.romOk := rfl
@[simp] theorem Hub.onLink_selfOk (h : Hub) (b : Nat) (f : Link → Link) : (h.onLink b f).selfOk = h.selfOk := rfl
@[simp] theorem Hub.onLink_patchDue (h : Hub) (b : Nat) (f : Link → Link) : (h.onLink b f).patchDue = h.patchDue := rfl
@[simp] theorem Hub.onLink_wakeDue (h : Hub) (b : Nat) (f : Link → Link) : (h.onLink b f).wakeDue = h.wakeDue := rfl
@[simp] theorem Hub.onLink_lastReply (h : Hub) (b : Nat) (f : Link → Link) : (h.onLink b f).lastReply = h.lastReply := rfl
@[simp] theorem Hub.onLink_spiOut (h : Hub) (b : Nat) (f : Link → Link) : (h.onLink b f).spiOut = h.spiOut := rfl
@[simp] theorem Hub.onLink_permFrom (h : Hub) (b : Nat) (f : Link → Link) : (h.onLink b f).permFrom = h.permFrom := rfl
@[simp] theorem Hub.onLink_permLost (h : Hub) (b : Nat) (f : Link → Link) : (h.onLink b f).permLost = h.permLost := rfl
@[simp] theorem Hub.onLink_spiMode3 (h : Hub) (b : Nat) (f : Link → Link) : (h.onLink b f).spiMode3 = h.spiMode3 := rfl

end Sys2Proof.Machine
end

