-- ==== Sys2Proof/Laws/Memory.lean ====
section
/-! SUPPORT. The memories of the block: a read after a write, the bytes a write leaves alone, and that every operation keeps the
canonical form. -/

namespace Sys2Proof.Machine

/-! ## Lists -/

@[simp] theorem editAt_length {α : Type} (l : List α) (i : Nat) (f : α → α) : (editAt l i f).length = l.length := by
  induction l generalizing i with
  | nil => rfl
  | cons a as ih => cases i <;> simp [editAt, ih]

theorem editAt_getElem? {α : Type} (l : List α) (i j : Nat) (f : α → α) :
    (editAt l i f)[j]? = if i = j then l[j]?.map f else l[j]? := by
  induction l generalizing i j with
  | nil => simp [editAt]
  | cons a as ih =>
    cases i <;> cases j <;> simp [editAt, ih]

theorem editAt_getD_same {α : Type} (l : List α) (i : Nat) (f : α → α) (d : α) (h : i < l.length) :
    (editAt l i f).getD i d = f (l.getD i d) := by
  simp [List.getD_eq_getElem?_getD, editAt_getElem?, List.getElem?_eq_getElem h]

theorem editAt_getD_other {α : Type} (l : List α) (i j : Nat) (f : α → α) (d : α) (h : i ≠ j) :
    (editAt l i f).getD j d = l.getD j d := by
  simp [List.getD_eq_getElem?_getD, editAt_getElem?, h]

theorem mapFrom_getElem? {α β : Type} (f : Nat → α → β) (l : List α) (i j : Nat) :
    (mapFrom f i l)[j]? = l[j]?.map (f (i + j)) := by
  induction l generalizing i j with
  | nil => simp [mapFrom]
  | cons a as ih =>
    cases j with
    | zero => simp [mapFrom]
    | succ j => simp [mapFrom, ih, Nat.add_assoc, Nat.add_comm 1 j]

@[simp] theorem mapFrom_length {α β : Type} (f : Nat → α → β) (l : List α) (i : Nat) : (mapFrom f i l).length = l.length := by
  induction l generalizing i with
  | nil => rfl
  | cons a as ih => simp [mapFrom, ih]

/-! ## Cells -/

/-- The canonical form from a lower bound on also holds from none. -/
theorem cellsWfFrom_none {d : Byte} {lo : Option Nat} {m : List Host.Cell} (h : cellsWfFrom d lo m = true) : cellsWfFrom d none m = true := by
  cases m with
  | nil => rfl
  | cons c m => simp [cellsWfFrom] at h ⊢; exact ⟨h.1.2, h.2⟩

/-- In canonical form from `b` on, no cell lists an address up to `b`. -/
theorem readCell_below {d : Byte} {m : List Host.Cell} {b a : Nat} (h : cellsWfFrom d (some b) m = true) (hab : a ≤ b) : readCell d m a = d := by
  induction m generalizing b with
  | nil => rfl
  | cons c m ih =>
    obtain ⟨x, v⟩ := c
    simp [cellsWfFrom] at h
    have hx : ¬ x = a := by omega
    have := ih (b := x) h.2 (by omega)
    simp [readCell, hx] at this ⊢
    exact this

theorem cellsWfFrom_weaken {d : Byte} {m : List Host.Cell} {b c : Nat} (h : cellsWfFrom d (some b) m = true) (hc : c ≤ b) :
    cellsWfFrom d (some c) m = true := by
  cases m with
  | nil => rfl
  | cons x m => simp [cellsWfFrom] at h ⊢; exact ⟨⟨by omega, h.1.2⟩, h.2⟩

theorem writeCell_wfFrom {d : Byte} {m : List Host.Cell} {lo : Option Nat} {a : Nat} {v : Byte}
    (h : cellsWfFrom d lo m = true) (hlo : ∀ b, lo = some b → b < a) : cellsWfFrom d lo (writeCell d m a v) = true := by
  induction m generalizing lo with
  | nil =>
    by_cases hv : v = d
    · simp [writeCell, hv, cellsWfFrom]
    · cases lo with
      | none => simp [writeCell, hv, cellsWfFrom]
      | some b => simp [writeCell, hv, cellsWfFrom, hlo b rfl]
  | cons c m ih =>
    obtain ⟨x, w⟩ := c
    have h0 := h
    simp [cellsWfFrom] at h
    by_cases h1 : a < x
    · by_cases hv : v = d
      · simpa [writeCell, h1, hv] using h0
      · have : cellsWfFrom d (some a) ((x, w) :: m) = true := by simp [cellsWfFrom, h1, h.1.2, h.2]
        cases lo with
        | none => simpa [writeCell, h1, hv, cellsWfFrom] using this
        | some b => simpa [writeCell, h1, hv, cellsWfFrom, hlo b rfl] using this
    · by_cases h2 : a = x
      · subst h2
        by_cases hv : v = d
        · simp only [writeCell, Nat.lt_irrefl, if_false, if_true, hv]
          cases lo with
          | none => exact cellsWfFrom_none h.2
          | some b => exact cellsWfFrom_weaken h.2 (Nat.le_of_lt (hlo b rfl))
        · cases lo with
          | none => simp [writeCell, hv, cellsWfFrom, h.2]
          | some b => simp [writeCell, hv, cellsWfFrom, h.2, hlo b rfl]
      · have := ih (lo := some x) h.2 (by intro b hb; cases hb; omega)
        simp only [writeCell, h1, h2, if_false]
        cases lo with
        | none => simp [cellsWfFrom, h.1, this]
        | some b => simp [cellsWfFrom, h.1, this]

theorem writeCell_wf {d : Byte} {m : List Host.Cell} (a : Nat) (v : Byte) (h : cellsWf d m = true) : cellsWf d (writeCell d m a v) = true :=
  writeCell_wfFrom h (by intro b hb; cases hb)

theorem writeCells_wf {d : Byte} {m : List Host.Cell} (a : Nat) (vs : List Byte) (h : cellsWf d m = true) : cellsWf d (writeCells d m a vs) = true := by
  induction vs generalizing m a with
  | nil => exact h
  | cons v vs ih => exact ih _ (writeCell_wf a v h)

theorem filter_wfFrom {d : Byte} {m : List Host.Cell} {lo : Option Nat} (p : Host.Cell → Bool) (h : cellsWfFrom d lo m = true) :
    cellsWfFrom d lo (m.filter p) = true := by
  induction m generalizing lo with
  | nil => exact h
  | cons c m ih =>
    obtain ⟨x, w⟩ := c
    have h0 := h
    simp [cellsWfFrom] at h
    by_cases hp : p (x, w) = true
    · simp [List.filter, hp, cellsWfFrom, h.1, ih h.2]
    · simp only [List.filter, Bool.eq_false_iff.mpr hp]
      have := ih h.2
      cases lo with
      | none => exact cellsWfFrom_none this
      | some b => exact cellsWfFrom_weaken this (by have := h.1.1; simp at this; omega)

/-- A byte read after it was written. -/
theorem readCell_writeCell_same {d : Byte} {m : List Host.Cell} {lo : Option Nat} (a : Nat) (v : Byte) (h : cellsWfFrom d lo m = true) :
    readCell d (writeCell d m a v) a = v := by
  induction m generalizing lo with
  | nil => by_cases hv : v = d <;> simp [writeCell, readCell, hv]
  | cons c m ih =>
    obtain ⟨x, w⟩ := c
    simp [cellsWfFrom] at h
    by_cases h1 : a < x
    · by_cases hv : v = d
      · have hx : ¬ x = a := by omega
        have := readCell_below h.2 (Nat.le_of_lt h1)
        simpa [writeCell, h1, hv, readCell, hx] using this
      · simp [writeCell, h1, hv, readCell]
    · by_cases h2 : a = x
      · subst h2
        by_cases hv : v = d
        · have := readCell_below h.2 (Nat.le_refl a)
          simpa [writeCell, hv] using this
        · simp [writeCell, hv, readCell]
      · have hx : ¬ x = a := fun e => h2 e.symm
        have := ih h.2
        simpa [writeCell, h1, h2, readCell, hx] using this

/-- A byte elsewhere is left alone. -/
theorem readCell_writeCell_other {d : Byte} (m : List Host.Cell) {a b : Nat} (v : Byte) (hab : a ≠ b) :
    readCell d (writeCell d m a v) b = readCell d m b := by
  induction m with
  | nil => by_cases hv : v = d <;> simp [writeCell, readCell, hv, hab]
  | cons c m ih =>
    obtain ⟨x, w⟩ := c
    by_cases h1 : a < x
    · by_cases hv : v = d <;> simp [writeCell, h1, hv, readCell, hab]
    · by_cases h2 : a = x
      · subst h2
        by_cases hv : v = d <;> simp [writeCell, hv, readCell, hab]
      · by_cases hx : x = b
        · subst hx; simp [writeCell, h1, h2, readCell]
        · simpa [writeCell, h1, h2, readCell, hx] using ih

theorem readCell_writeCells_other {d : Byte} (m : List Host.Cell) (a b : Nat) (vs : List Byte) (h : b < a ∨ a + vs.length ≤ b) :
    readCell d (writeCells d m a vs) b = readCell d m b := by
  induction vs generalizing m a with
  | nil => rfl
  | cons v vs ih =>
    simp only [List.length_cons] at h
    rw [writeCells, ih _ _ (by omega), readCell_writeCell_other m v (by omega)]

theorem readCell_writeCells_same {d : Byte} {m : List Host.Cell} (a i : Nat) (vs : List Byte) (hi : i < vs.length) (h : cellsWf d m = true) :
    readCell d (writeCells d m a vs) (a + i) = vs[i] := by
  induction vs generalizing m a i with
  | nil => simp at hi
  | cons v vs ih =>
    cases i with
    | zero =>
      rw [writeCells, readCell_writeCells_other _ _ _ _ (by omega)]
      exact readCell_writeCell_same a v h
    | succ i =>
      have := ih (a + 1) i (by simpa using hi) (writeCell_wf a v h)
      simpa [writeCells, Nat.add_assoc, Nat.add_comm 1 i] using this

/-! ## The two memories -/

theorem Memory.wf_reset : Memory.wf State.reset = true := rfl

@[simp] theorem Memory.wf_writeBuf (s : State) (a : Nat) (data : List Byte) (h : Memory.wf s = true) : Memory.wf (s.writeBuf a data) = true := by
  simp [Memory.wf] at h ⊢; exact ⟨writeCells_wf a data h.1, h.2⟩

@[simp] theorem Memory.wf_writeSlot (s : State) (i a : Nat) (data : List Byte) (h : Memory.wf s = true) : Memory.wf (s.writeSlot i a data) = true := by
  simp [Memory.wf] at h ⊢; exact ⟨h.1, writeCells_wf _ data h.2⟩

@[simp] theorem Memory.wf_eraseSlot (s : State) (i : Nat) (h : Memory.wf s = true) : Memory.wf (s.eraseSlot i) = true := by
  simp [Memory.wf] at h ⊢; exact ⟨h.1, filter_wfFrom _ h.2⟩

end Sys2Proof.Machine
end

