-- ==== Sys2Proof/Laws/Bank.lean ====
section
/-! SUPPORT. What an event of one bank leaves of a channel: `Bank.act` as the event's own change followed by the driving of every
channel (`BankCore.finish`), and what the driving keeps. -/

namespace Sys2Proof.Machine

/-! ## Places in the state -/

theorem State.bank_onBank_same (s : State) (b : Nat) (f : Bank → Bank) (h : b < s.banks.length) : (s.onBank b f).bank b = f (s.bank b) :=
  editAt_getD_same s.banks b f {} h

theorem State.bank_onBank_other (s : State) (b c : Nat) (f : Bank → Bank) (h : c ≠ b) : (s.onBank b f).bank c = s.bank c :=
  editAt_getD_other s.banks b c f {} (Ne.symm h)

theorem State.shaped_banks {s : State} (h : s.shaped = true) : s.banks.length = 4 := by
  unfold State.shaped at h; simp at h; exact h.1

theorem State.shaped_core {s : State} (h : s.shaped = true) (b : Nat) (hb : b < 4) : (s.bank b).core.shaped = true := by
  have hl := State.shaped_banks h
  unfold State.shaped at h; simp at h
  unfold State.bank
  rw [List.getD_eq_getElem?_getD, List.getElem?_eq_getElem (by omega)]
  exact h.2 _ (List.getElem_mem _)

theorem BankCore.shaped_iff {c : BankCore} : c.shaped = true ↔ c.chans.length = 12 ∧ c.sensors.length = 14 ∧ c.inputs.length = 96 := by
  unfold BankCore.shaped; simp [and_assoc]

theorem State.shaped_chans {s : State} (h : s.shaped = true) (b : Nat) (hb : b < 4) : (s.bank b).core.chans.length = 12 :=
  (BankCore.shaped_iff.1 (s.shaped_core h b hb)).1

theorem State.chan_onChan (s : State) (ch : Nat) (f : Bank → Nat → Nat → Nat → Bank) (hs : s.shaped = true) (h : ch < 48) :
    (s.onChan ch f).chan ch = (f (s.bank (ch / 12)) (ch / 12) s.now (ch % 12)).core.chan (ch % 12) := by
  unfold State.chan State.onChan
  rw [State.bank_onBank_same _ _ _ (by have := State.shaped_banks hs; omega)]

theorem BankCore.chan_editChan_same (b : BankCore) (p : Nat) (f : Chan → Chan) (h : p < b.chans.length) : (b.editChan p f).chan p = f (b.chan p) :=
  editAt_getD_same b.chans p f {} h

theorem BankCore.chan_editChan_other (b : BankCore) (p q : Nat) (f : Chan → Chan) (h : q ≠ p) : (b.editChan p f).chan q = b.chan q :=
  editAt_getD_other b.chans p q f {} (Ne.symm h)

@[simp] theorem BankCore.editChan_chans_length (b : BankCore) (p : Nat) (f : Chan → Chan) : (b.editChan p f).chans.length = b.chans.length := by
  simp [BankCore.editChan]

theorem mapFrom_getD {α : Type} (f : Nat → α → α) (l : List α) (i p : Nat) (d : α) (h : p < l.length) :
    (mapFrom f i l).getD p d = f (i + p) (l.getD p d) := by
  simp [List.getD_eq_getElem?_getD, mapFrom_getElem?, List.getElem?_eq_getElem h]

/-! ## Reports -/

@[simp] theorem Bank.post_core (b : Bank) (o s k a : Nat) (e : Bool) : (b.post o s k a e).core = b.core := by
  unfold Bank.post; split <;> rfl

theorem Bank.foldl_post_core {α : Type} (f : Bank → α → Bank) (hf : ∀ b a, (f b a).core = b.core) (l : List α) (b : Bank) : (l.foldl f b).core = b.core := by
  induction l generalizing b with
  | nil => rfl
  | cons a l ih => exact (ih _).trans (hf b a)

@[simp] theorem Bank.report_core (b : Bank) (n : Nat) (c : BankCore) : (b.report n c).core = b.core := by
  unfold Bank.report
  rw [Bank.foldl_post_core _ (fun b a => by simp), Bank.foldl_post_core _ (fun b a => by simp)]

/-- The channels whose ramp an event has ended too late (R166). -/
def BankCore.late (b : BankCore) (now : Nat) (f : BankCore → BankCore) : List Nat :=
  (b.rebase now).overruns (BankCore.settle (b.rebase now) (f (b.rebase now)) now) now

/-- The core after an event: settled, and settled again where ramps that ended too late have tripped (R166). -/
theorem Bank.act_core_all (b : Bank) (n now : Nat) (f : BankCore → BankCore) :
    (b.act n now f).core =
      if (b.core.late now f).isEmpty then BankCore.settle (b.core.rebase now) (f (b.core.rebase now)) now
      else BankCore.settle (BankCore.settle (b.core.rebase now) (f (b.core.rebase now)) now)
        ((b.core.late now f).foldl (fun c p => c.editChan p fun ch => c.trip now p .overload ch)
          (BankCore.settle (b.core.rebase now) (f (b.core.rebase now)) now)) now := by
  unfold Bank.act; simp only [Bank.report_core]; rfl

/-- The core after an event that ends no ramp too late. -/
theorem Bank.act_core (b : Bank) (n now : Nat) (f : BankCore → BankCore) (h : b.core.late now f = []) :
    (b.act n now f).core = BankCore.settle (b.core.rebase now) (f (b.core.rebase now)) now := by
  rw [Bank.act_core_all, h]; rfl

theorem Bank.actWith_core (b : Bank) (n now : Nat) (es : List (Nat × Nat × Nat)) (f : BankCore → BankCore) (h : b.core.late now f = []) :
    (b.actWith n now es f).core = BankCore.settle (b.core.rebase now) (f (b.core.rebase now)) now := by
  have e : ∀ b : Bank, (es.foldl (fun b e => b.post n (12 * n + e.1) e.2.1 e.2.2 true) b).core = b.core :=
    fun b => Bank.foldl_post_core _ (fun b a => by simp) _ _
  unfold Bank.actWith
  rw [Bank.act_core _ _ _ _ (by rw [e]; exact h), e]

/-- What neither settling nor an edit of a channel changes, an event changes only by its own change. -/
theorem Bank.act_keeps {β : Type} (g : BankCore → β) (hs : ∀ x y now, g (BankCore.settle x y now) = g y)
    (he : ∀ c p f, g (BankCore.editChan c p f) = g c) (b : Bank) (n now : Nat) (f : BankCore → BankCore) :
    g (b.act n now f).core = g (f (b.core.rebase now)) := by
  have hl : ∀ (l : List Nat) (c : BankCore), g (l.foldl (fun c p => c.editChan p fun ch => c.trip now p .overload ch) c) = g c := by
    intro l; induction l with
    | nil => intro c; rfl
    | cons p l ih => intro c; exact (ih _).trans (he _ _ _)
  rw [Bank.act_core_all]
  split
  · exact hs _ _ _
  · rw [hs, hl, hs]

/-! ## Driving the channels -/

/-- Does the bank leave glide with the exit mode that sets C (R236)? -/
def BankCore.leavesToSafe (before b : BankCore) : Bool := b.running && before.glideOn && !b.glideOn && b.glideToSafe

/-- A channel of a bank as `settle` leaves it: driven, its window frozen or not, its ramp paced. -/
def BankCore.finish (b : BankCore) (now p : Nat) (ch : Chan) : Chan := b.paceRamp now (b.freezeChan now (b.settleChan now p ch))

/-- A bank with other channels, sensors, trims and reported cause: what the driving of one channel does not look at. -/
def BankCore.beside (b : BankCore) (cs : List Chan) (ss : List Sensor) (ts : List Int) (e : Bool) (l : FailSafeCause) : BankCore :=
  { b with chans := cs, sensors := ss, trims := ts, holdExpired := e, lastCause := l }

@[simp] theorem BankCore.running_beside (b : BankCore) (cs : List Chan) (ss : List Sensor) (ts : List Int) (e : Bool) (l : FailSafeCause) : (b.beside cs ss ts e l).running = b.running := rfl
@[simp] theorem BankCore.supply_beside (b : BankCore) (cs : List Chan) (ss : List Sensor) (ts : List Int) (e : Bool) (l : FailSafeCause) : (b.beside cs ss ts e l).supply = b.supply := rfl
@[simp] theorem BankCore.version_beside (b : BankCore) (cs : List Chan) (ss : List Sensor) (ts : List Int) (e : Bool) (l : FailSafeCause) : (b.beside cs ss ts e l).version = b.version := rfl
@[simp] theorem BankCore.disturbed_beside (b : BankCore) (cs : List Chan) (ss : List Sensor) (ts : List Int) (e : Bool) (l : FailSafeCause) : (b.beside cs ss ts e l).disturbed = b.disturbed := rfl
@[simp] theorem BankCore.thermal_beside (b : BankCore) (cs : List Chan) (ss : List Sensor) (ts : List Int) (e : Bool) (l : FailSafeCause) : (b.beside cs ss ts e l).thermal = b.thermal := rfl
@[simp] theorem BankCore.storeFailed_beside (b : BankCore) (cs : List Chan) (ss : List Sensor) (ts : List Int) (e : Bool) (l : FailSafeCause) : (b.beside cs ss ts e l).storeFailed = b.storeFailed := rfl
@[simp] theorem BankCore.isolated_beside (b : BankCore) (cs : List Chan) (ss : List Sensor) (ts : List Int) (e : Bool) (l : FailSafeCause) : (b.beside cs ss ts e l).isolated = b.isolated := rfl
@[simp] theorem BankCore.inputValid_beside (b : BankCore) (cs : List Chan) (ss : List Sensor) (ts : List Int) (e : Bool) (l : FailSafeCause) : (b.beside cs ss ts e l).inputValid = b.inputValid := rfl
@[simp] theorem BankCore.inputs_beside (b : BankCore) (cs : List Chan) (ss : List Sensor) (ts : List Int) (e : Bool) (l : FailSafeCause) : (b.beside cs ss ts e l).inputs = b.inputs := rfl
@[simp] theorem BankCore.glideToSafe_beside (b : BankCore) (cs : List Chan) (ss : List Sensor) (ts : List Int) (e : Bool) (l : FailSafeCause) : (b.beside cs ss ts e l).glideToSafe = b.glideToSafe := rfl
@[simp] theorem BankCore.glideOn_beside (b : BankCore) (cs : List Chan) (ss : List Sensor) (ts : List Int) (e : Bool) (l : FailSafeCause) : (b.beside cs ss ts e l).glideOn = b.glideOn := by
  rfl
@[simp] theorem BankCore.heldOff_beside (b : BankCore) (cs : List Chan) (ss : List Sensor) (ts : List Int) (e : Bool) (l : FailSafeCause) : (b.beside cs ss ts e l).heldOff = b.heldOff := by
  funext ch
  rfl
@[simp] theorem BankCore.entryOf_beside (b : BankCore) (cs : List Chan) (ss : List Sensor) (ts : List Int) (e : Bool) (l : FailSafeCause) : (b.beside cs ss ts e l).entryOf = b.entryOf := by
  funext ch
  rfl
@[simp] theorem BankCore.followOn_beside (b : BankCore) (cs : List Chan) (ss : List Sensor) (ts : List Int) (e : Bool) (l : FailSafeCause) : (b.beside cs ss ts e l).followOn = b.followOn := by
  funext ch
  simp only [BankCore.followOn, BankCore.storeFailed_beside, BankCore.inputValid_beside, BankCore.inputs_beside]
@[simp] theorem BankCore.demanded_beside (b : BankCore) (cs : List Chan) (ss : List Sensor) (ts : List Int) (e : Bool) (l : FailSafeCause) : (b.beside cs ss ts e l).demanded = b.demanded := by
  funext ch
  simp only [BankCore.demanded, BankCore.entryOf_beside, BankCore.followOn_beside]
@[simp] theorem BankCore.normalRules_beside (b : BankCore) (cs : List Chan) (ss : List Sensor) (ts : List Int) (e : Bool) (l : FailSafeCause) : (b.beside cs ss ts e l).normalRules = b.normalRules := by
  funext ch
  simp only [BankCore.normalRules, BankCore.isolated_beside, BankCore.glideOn_beside]
@[simp] theorem BankCore.staysAtZero_beside (b : BankCore) (cs : List Chan) (ss : List Sensor) (ts : List Int) (e : Bool) (l : FailSafeCause) : (b.beside cs ss ts e l).staysAtZero = b.staysAtZero := by
  funext ch
  simp only [BankCore.staysAtZero, BankCore.normalRules_beside]
@[simp] theorem BankCore.rampRule_beside (b : BankCore) (cs : List Chan) (ss : List Sensor) (ts : List Int) (e : Bool) (l : FailSafeCause) : (b.beside cs ss ts e l).rampRule = b.rampRule := by
  funext now ch
  simp only [BankCore.rampRule, BankCore.normalRules_beside, BankCore.supply_beside]
@[simp] theorem BankCore.turnOn_beside (b : BankCore) (cs : List Chan) (ss : List Sensor) (ts : List Int) (e : Bool) (l : FailSafeCause) : (b.beside cs ss ts e l).turnOn = b.turnOn := by
  funext now p ch
  rfl
@[simp] theorem BankCore.turnOff_beside (b : BankCore) (cs : List Chan) (ss : List Sensor) (ts : List Int) (e : Bool) (l : FailSafeCause) : (b.beside cs ss ts e l).turnOff = b.turnOff := by
  funext now p rate ch
  rfl
@[simp] theorem BankCore.endHold_beside (b : BankCore) (cs : List Chan) (ss : List Sensor) (ts : List Int) (e : Bool) (l : FailSafeCause) : (b.beside cs ss ts e l).endHold = b.endHold := by
  funext now p ch
  rfl
@[simp] theorem BankCore.settleChan_beside (b : BankCore) (cs : List Chan) (ss : List Sensor) (ts : List Int) (e : Bool) (l : FailSafeCause) : (b.beside cs ss ts e l).settleChan = b.settleChan := by
  funext now p ch
  simp only [BankCore.settleChan, BankCore.drive, BankCore.endHold_beside, BankCore.running_beside, BankCore.demanded_beside, BankCore.heldOff_beside, BankCore.rampRule_beside, BankCore.staysAtZero_beside, BankCore.turnOn_beside, BankCore.turnOff_beside]
@[simp] theorem BankCore.disturbs_beside (b : BankCore) (cs : List Chan) (ss : List Sensor) (ts : List Int) (e : Bool) (l : FailSafeCause) : (b.beside cs ss ts e l).disturbs = b.disturbs := by
  funext ch
  rfl
@[simp] theorem BankCore.freezes_beside (b : BankCore) (cs : List Chan) (ss : List Sensor) (ts : List Int) (e : Bool) (l : FailSafeCause) : (b.beside cs ss ts e l).freezes = b.freezes := by
  funext ch
  simp only [BankCore.freezes, BankCore.disturbs_beside]
@[simp] theorem BankCore.freezeChan_beside (b : BankCore) (cs : List Chan) (ss : List Sensor) (ts : List Int) (e : Bool) (l : FailSafeCause) : (b.beside cs ss ts e l).freezeChan = b.freezeChan := by
  funext now ch
  simp only [BankCore.freezeChan, BankCore.freezes_beside]
@[simp] theorem BankCore.rampMoves_beside (b : BankCore) (cs : List Chan) (ss : List Sensor) (ts : List Int) (e : Bool) (l : FailSafeCause) : (b.beside cs ss ts e l).rampMoves = b.rampMoves := by
  funext ch
  simp only [BankCore.rampMoves, BankCore.disturbs_beside]
@[simp] theorem BankCore.paceRamp_beside (b : BankCore) (cs : List Chan) (ss : List Sensor) (ts : List Int) (e : Bool) (l : FailSafeCause) : (b.beside cs ss ts e l).paceRamp = b.paceRamp := by
  funext now ch
  simp only [BankCore.paceRamp, BankCore.rampMoves_beside]

@[simp] theorem BankCore.finish_beside (b : BankCore) (cs : List Chan) (ss : List Sensor) (ts : List Int) (e : Bool) (l : FailSafeCause) :
    (b.beside cs ss ts e l).finish = b.finish := by
  funext now p ch
  unfold BankCore.finish
  rw [BankCore.settleChan_beside, BankCore.freezeChan_beside, BankCore.paceRamp_beside]

/-- Settling: the bits that stand for expiry, every channel, and the end of the last short. -/
theorem BankCore.settle_stay (before b : BankCore) (now : Nat) (hl : before.leavesToSafe b = false) :
    BankCore.settle before b now =
      { b.beside (mapFrom (fun p ch => b.finish now p ch) 0 b.chans) b.sensors b.trims (b.holdExpired && b.chans.any fun ch => ch.io.c) b.lastCause with
        shortLeft := if before.anyShort && !(mapFrom (fun p ch => b.settleChan now p ch) 0 b.chans).any (fun ch => ch.trip.shortCct) then now
                     else b.shortLeft } := by
  unfold BankCore.leavesToSafe at hl
  unfold BankCore.settle
  simp only [hl, Bool.false_eq_true, if_false]
  have h1 : ∀ e cs, ({ b with holdExpired := e, chans := cs } : BankCore) = b.beside cs b.sensors b.trims e b.lastCause := fun _ _ => rfl
  simp only [h1, BankCore.settleChan_beside]
  unfold BankCore.beside BankCore.anyShort
  dsimp only
  congr 1
  apply List.ext_getElem? fun i => ?_
  simp only [List.getElem?_map, mapFrom_getElem?, Option.map_map]
  rfl

theorem BankCore.settle_chan (before b : BankCore) (now p : Nat) (h : p < b.chans.length) (hl : before.leavesToSafe b = false) :
    (BankCore.settle before b now).chan p = b.finish now p (b.chan p) := by
  rw [BankCore.settle_stay _ _ _ hl]
  exact (mapFrom_getD _ _ _ _ _ h).trans (by rw [Nat.zero_add]; rfl)

theorem BankCore.rebase_chan (b : BankCore) (now p : Nat) (h : p < b.chans.length) : (b.rebase now).chan p = (b.chan p).rebaseRamp b.supply now := by
  unfold BankCore.rebase BankCore.chan
  rw [List.getD_eq_getElem?_getD, List.getD_eq_getElem?_getD]
  simp [List.getElem?_eq_getElem h]

@[simp] theorem BankCore.rebase_chans_length (b : BankCore) (now : Nat) : (b.rebase now).chans.length = b.chans.length := by simp [BankCore.rebase]

theorem BankCore.leavesToSafe_same (b c : BankCore) (h : c.glideOn = b.glideOn) : BankCore.leavesToSafe b c = false := by
  unfold BankCore.leavesToSafe; rw [h]; cases c.running <;> cases b.glideOn <;> rfl

@[simp] theorem BankCore.leavesToSafe_editChan (b : BankCore) (p : Nat) (f : Chan → Chan) : BankCore.leavesToSafe b (b.editChan p f) = false :=
  BankCore.leavesToSafe_same _ _ rfl

/-- The bank that `finish` looks at after an edit of channels. -/
theorem BankCore.finish_editChan (b : BankCore) (now p : Nat) (f : Chan → Chan) : ((b.rebase now).editChan p f).finish = b.finish := by
  have : (b.rebase now).editChan p f
      = b.beside (editAt (b.chans.map fun ch => ch.rebaseRamp b.supply now) p f) b.sensors b.trims b.holdExpired b.lastCause := by
    simp only [BankCore.rebase, BankCore.editChan, BankCore.beside]
  rw [this, BankCore.finish_beside]

/-- An event that changes one channel leaves it as its change, driven. -/
theorem Bank.editChan_chan (b : Bank) (n now p : Nat) (f : Chan → Chan) (h : p < b.core.chans.length)
    (hl : b.core.late now (fun c => c.editChan p f) = []) :
    (b.editChan n now p f).core.chan p = b.core.finish now p (f ((b.core.chan p).rebaseRamp b.core.supply now)) := by
  unfold Bank.editChan
  rw [Bank.act_core _ _ _ _ hl, BankCore.settle_chan _ _ _ _ (by simpa using h) (by simp), BankCore.chan_editChan_same _ _ _ (by simpa using h),
    BankCore.rebase_chan _ _ _ h]
  rw [BankCore.finish_editChan]

/-! ## What the driving keeps -/

/-- What no driving of a channel changes. -/
def Chan.kept (ch : Chan) : ChanCfg × ChanClamp × ChanSnap × Drive × Bool × Bool × Bool × Word32 × Nat × Option Nat × Option Nat × Bool × Bool × Bool × Option Nat × Nat × Word32 × BitVec 4 × Bool × Bool × Int × Int × Nat × Nat × Nat × Bool × Rat × Nat × Bool × Nat :=
  (ch.cfg, ch.clamp, ch.snap, ch.io.normal, ch.io.c, ch.io.w, ch.io.x, ch.trip.trips, ch.trip.latchCount, ch.trip.latchedAt, ch.trip.backoff, ch.trip.wireHold, ch.thermal.warned, ch.thermal.shutdown, ch.thermal.latchedAt, ch.thermal.streak, ch.thermal.shutdowns, ch.thermal.shedBy, ch.sense.openOn, ch.sense.starved, ch.sense.offsetStd, ch.sense.offsetLed, ch.sense.offsetAtStd, ch.sense.offsetAtLed, ch.sense.zeroAt, ch.sense.stale, ch.sense.wireRise, ch.sense.current, ch.sense.fullScale, ch.sense.output)

theorem Chan.expireHold_kept (ch : Chan) (now : Nat) : (ch.expireHold now).kept = ch.kept := by
  unfold Chan.expireHold
  split <;> rfl
theorem Chan.beginHold_kept (ch : Chan) (supply now : Nat) : (ch.beginHold supply now).kept = ch.kept := by
  unfold Chan.beginHold
  split
  · rw [Chan.expireHold_kept]; rfl
  · rfl
theorem Chan.retarget_kept (ch : Chan) (target supply now : Nat) : (ch.retarget target supply now).kept = ch.kept := by
  unfold Chan.retarget
  split
  · rfl
  · rw [Chan.beginHold_kept]; rfl
theorem BankCore.rampRule_kept (b : BankCore) (now : Nat) (ch : Chan) : (b.rampRule now ch).kept = ch.kept := by
  unfold BankCore.rampRule
  split
  · dsimp only
    rw [Chan.retarget_kept]; split <;> rfl
  · rfl
theorem Chan.startWindow_kept (ch : Chan) (now : Nat) : (ch.startWindow now).kept = ch.kept := by
  unfold Chan.startWindow
  dsimp only
  split <;> rfl
theorem Chan.dropWindow_kept (ch : Chan) (now : Nat) : (ch.dropWindow now).kept = ch.kept := by
  rfl
theorem Chan.suspendWindow_kept (ch : Chan) (v now : Nat) : (ch.suspendWindow v now).kept = ch.kept := by
  unfold Chan.suspendWindow
  split
  · split <;> rfl
  · rfl
theorem Chan.windowAtTurnOn_kept (ch : Chan) (v now : Nat) : (ch.windowAtTurnOn v now).kept = ch.kept := by
  unfold Chan.windowAtTurnOn
  dsimp only
  repeat' split
  all_goals (first | rfl | exact Chan.startWindow_kept ch now)
theorem BankCore.turnOn_kept (b : BankCore) (now p : Nat) (ch : Chan) : (b.turnOn now p ch).kept = ch.kept := by
  unfold BankCore.turnOn
  dsimp only
  rw [Chan.beginHold_kept]
  exact Chan.windowAtTurnOn_kept ch b.version now
theorem BankCore.turnOff_kept (b : BankCore) (now p rate : Nat) (ch : Chan) : (b.turnOff now p rate ch).kept = ch.kept := by
  exact Chan.suspendWindow_kept ch b.version now
theorem BankCore.endHold_kept (b : BankCore) (now p : Nat) (ch : Chan) : (b.endHold now p ch).kept = ch.kept := by
  unfold BankCore.endHold
  split
  · exact BankCore.turnOff_kept _ _ _ _ _
  · rfl
theorem BankCore.settleChan_kept (b : BankCore) (now p : Nat) (ch : Chan) : (b.settleChan now p ch).kept = ch.kept := by
  unfold BankCore.settleChan
  rw [BankCore.endHold_kept]
  unfold BankCore.drive
  dsimp only
  repeat' split
  all_goals (first | rfl | (rw [BankCore.rampRule_kept]; rfl) | (rw [BankCore.turnOn_kept]; rfl) | (rw [BankCore.turnOff_kept]; rfl))
theorem BankCore.freezeChan_kept (b : BankCore) (now : Nat) (ch : Chan) : (b.freezeChan now ch).kept = ch.kept := by
  unfold BankCore.freezeChan
  dsimp only
  split
  · split <;> rfl
  · split <;> rfl
theorem BankCore.paceRamp_kept (b : BankCore) (now : Nat) (ch : Chan) : (b.paceRamp now ch).kept = ch.kept := by
  rfl
theorem BankCore.finish_kept (b : BankCore) (now p : Nat) (ch : Chan) : (b.finish now p ch).kept = ch.kept := by
  unfold BankCore.finish
  rw [BankCore.paceRamp_kept, BankCore.freezeChan_kept, BankCore.settleChan_kept]

@[simp] theorem BankCore.finish_cfg (b : BankCore) (now p : Nat) (ch : Chan) : (b.finish now p ch).cfg = ch.cfg :=
  congrArg (fun k => k.1) (BankCore.finish_kept b now p ch)
@[simp] theorem BankCore.finish_clamp (b : BankCore) (now p : Nat) (ch : Chan) : (b.finish now p ch).clamp = ch.clamp :=
  congrArg (fun k => k.2.1) (BankCore.finish_kept b now p ch)
@[simp] theorem BankCore.finish_snap (b : BankCore) (now p : Nat) (ch : Chan) : (b.finish now p ch).snap = ch.snap :=
  congrArg (fun k => k.2.2.1) (BankCore.finish_kept b now p ch)
@[simp] theorem BankCore.finish_io_normal (b : BankCore) (now p : Nat) (ch : Chan) : (b.finish now p ch).io.normal = ch.io.normal :=
  congrArg (fun k => k.2.2.2.1) (BankCore.finish_kept b now p ch)
@[simp] theorem BankCore.finish_io_c (b : BankCore) (now p : Nat) (ch : Chan) : (b.finish now p ch).io.c = ch.io.c :=
  congrArg (fun k => k.2.2.2.2.1) (BankCore.finish_kept b now p ch)
@[simp] theorem BankCore.finish_io_w (b : BankCore) (now p : Nat) (ch : Chan) : (b.finish now p ch).io.w = ch.io.w :=
  congrArg (fun k => k.2.2.2.2.2.1) (BankCore.finish_kept b now p ch)
@[simp] theorem BankCore.finish_io_x (b : BankCore) (now p : Nat) (ch : Chan) : (b.finish now p ch).io.x = ch.io.x :=
  congrArg (fun k => k.2.2.2.2.2.2.1) (BankCore.finish_kept b now p ch)
@[simp] theorem BankCore.finish_trip_trips (b : BankCore) (now p : Nat) (ch : Chan) : (b.finish now p ch).trip.trips = ch.trip.trips :=
  congrArg (fun k => k.2.2.2.2.2.2.2.1) (BankCore.finish_kept b now p ch)
@[simp] theorem BankCore.finish_trip_latchCount (b : BankCore) (now p : Nat) (ch : Chan) : (b.finish now p ch).trip.latchCount = ch.trip.latchCount :=
  congrArg (fun k => k.2.2.2.2.2.2.2.2.1) (BankCore.finish_kept b now p ch)
@[simp] theorem BankCore.finish_trip_latchedAt (b : BankCore) (now p : Nat) (ch : Chan) : (b.finish now p ch).trip.latchedAt = ch.trip.latchedAt :=
  congrArg (fun k => k.2.2.2.2.2.2.2.2.2.1) (BankCore.finish_kept b now p ch)
@[simp] theorem BankCore.finish_trip_backoff (b : BankCore) (now p : Nat) (ch : Chan) : (b.finish now p ch).trip.backoff = ch.trip.backoff :=
  congrArg (fun k => k.2.2.2.2.2.2.2.2.2.2.1) (BankCore.finish_kept b now p ch)
@[simp] theorem BankCore.finish_trip_wireHold (b : BankCore) (now p : Nat) (ch : Chan) : (b.finish now p ch).trip.wireHold = ch.trip.wireHold :=
  congrArg (fun k => k.2.2.2.2.2.2.2.2.2.2.2.1) (BankCore.finish_kept b now p ch)
@[simp] theorem BankCore.finish_thermal_warned (b : BankCore) (now p : Nat) (ch : Chan) : (b.finish now p ch).thermal.warned = ch.thermal.warned :=
  congrArg (fun k => k.2.2.2.2.2.2.2.2.2.2.2.2.1) (BankCore.finish_kept b now p ch)
@[simp] theorem BankCore.finish_thermal_shutdown (b : BankCore) (now p : Nat) (ch : Chan) : (b.finish now p ch).thermal.shutdown = ch.thermal.shutdown :=
  congrArg (fun k => k.2.2.2.2.2.2.2.2.2.2.2.2.2.1) (BankCore.finish_kept b now p ch)
@[simp] theorem BankCore.finish_thermal_latchedAt (b : BankCore) (now p : Nat) (ch : Chan) : (b.finish now p ch).thermal.latchedAt = ch.thermal.latchedAt :=
  congrArg (fun k => k.2.2.2.2.2.2.2.2.2.2.2.2.2.2.1) (BankCore.finish_kept b now p ch)
@[simp] theorem BankCore.finish_thermal_streak (b : BankCore) (now p : Nat) (ch : Chan) : (b.finish now p ch).thermal.streak = ch.thermal.streak :=
  congrArg (fun k => k.2.2.2.2.2.2.2.2.2.2.2.2.2.2.2.1) (BankCore.finish_kept b now p ch)
@[simp] theorem BankCore.finish_thermal_shutdowns (b : BankCore) (now p : Nat) (ch : Chan) : (b.finish now p ch).thermal.shutdowns = ch.thermal.shutdowns :=
  congrArg (fun k => k.2.2.2.2.2.2.2.2.2.2.2.2.2.2.2.2.1) (BankCore.finish_kept b now p ch)
@[simp] theorem BankCore.finish_thermal_shedBy (b : BankCore) (now p : Nat) (ch : Chan) : (b.finish now p ch).thermal.shedBy = ch.thermal.shedBy :=
  congrArg (fun k => k.2.2.2.2.2.2.2.2.2.2.2.2.2.2.2.2.2.1) (BankCore.finish_kept b now p ch)
@[simp] theorem BankCore.finish_sense_openOn (b : BankCore) (now p : Nat) (ch : Chan) : (b.finish now p ch).sense.openOn = ch.sense.openOn :=
  congrArg (fun k => k.2.2.2.2.2.2.2.2.2.2.2.2.2.2.2.2.2.2.1) (BankCore.finish_kept b now p ch)
@[simp] theorem BankCore.finish_sense_starved (b : BankCore) (now p : Nat) (ch : Chan) : (b.finish now p ch).sense.starved = ch.sense.starved :=
  congrArg (fun k => k.2.2.2.2.2.2.2.2.2.2.2.2.2.2.2.2.2.2.2.1) (BankCore.finish_kept b now p ch)
@[simp] theorem BankCore.finish_sense_offsetStd (b : BankCore) (now p : Nat) (ch : Chan) : (b.finish now p ch).sense.offsetStd = ch.sense.offsetStd :=
  congrArg (fun k => k.2.2.2.2.2.2.2.2.2.2.2.2.2.2.2.2.2.2.2.2.1) (BankCore.finish_kept b now p ch)
@[simp] theorem BankCore.finish_sense_offsetLed (b : BankCore) (now p : Nat) (ch : Chan) : (b.finish now p ch).sense.offsetLed = ch.sense.offsetLed :=
  congrArg (fun k => k.2.2.2.2.2.2.2.2.2.2.2.2.2.2.2.2.2.2.2.2.2.1) (BankCore.finish_kept b now p ch)
@[simp] theorem BankCore.finish_sense_offsetAtStd (b : BankCore) (now p : Nat) (ch : Chan) : (b.finish now p ch).sense.offsetAtStd = ch.sense.offsetAtStd :=
  congrArg (fun k => k.2.2.2.2.2.2.2.2.2.2.2.2.2.2.2.2.2.2.2.2.2.2.1) (BankCore.finish_kept b now p ch)
@[simp] theorem BankCore.finish_sense_offsetAtLed (b : BankCore) (now p : Nat) (ch : Chan) : (b.finish now p ch).sense.offsetAtLed = ch.sense.offsetAtLed :=
  congrArg (fun k => k.2.2.2.2.2.2.2.2.2.2.2.2.2.2.2.2.2.2.2.2.2.2.2.1) (BankCore.finish_kept b now p ch)
@[simp] theorem BankCore.finish_sense_zeroAt (b : BankCore) (now p : Nat) (ch : Chan) : (b.finish now p ch).sense.zeroAt = ch.sense.zeroAt :=
  congrArg (fun k => k.2.2.2.2.2.2.2.2.2.2.2.2.2.2.2.2.2.2.2.2.2.2.2.2.1) (BankCore.finish_kept b now p ch)
@[simp] theorem BankCore.finish_sense_stale (b : BankCore) (now p : Nat) (ch : Chan) : (b.finish now p ch).sense.stale = ch.sense.stale :=
  congrArg (fun k => k.2.2.2.2.2.2.2.2.2.2.2.2.2.2.2.2.2.2.2.2.2.2.2.2.2.1) (BankCore.finish_kept b now p ch)
@[simp] theorem BankCore.finish_sense_wireRise (b : BankCore) (now p : Nat) (ch : Chan) : (b.finish now p ch).sense.wireRise = ch.sense.wireRise :=
  congrArg (fun k => k.2.2.2.2.2.2.2.2.2.2.2.2.2.2.2.2.2.2.2.2.2.2.2.2.2.2.1) (BankCore.finish_kept b now p ch)
@[simp] theorem BankCore.finish_sense_current (b : BankCore) (now p : Nat) (ch : Chan) : (b.finish now p ch).sense.current = ch.sense.current :=
  congrArg (fun k => k.2.2.2.2.2.2.2.2.2.2.2.2.2.2.2.2.2.2.2.2.2.2.2.2.2.2.2.1) (BankCore.finish_kept b now p ch)
@[simp] theorem BankCore.finish_sense_fullScale (b : BankCore) (now p : Nat) (ch : Chan) : (b.finish now p ch).sense.fullScale = ch.sense.fullScale :=
  congrArg (fun k => k.2.2.2.2.2.2.2.2.2.2.2.2.2.2.2.2.2.2.2.2.2.2.2.2.2.2.2.2.1) (BankCore.finish_kept b now p ch)
@[simp] theorem BankCore.finish_sense_output (b : BankCore) (now p : Nat) (ch : Chan) : (b.finish now p ch).sense.output = ch.sense.output :=
  congrArg (fun k => k.2.2.2.2.2.2.2.2.2.2.2.2.2.2.2.2.2.2.2.2.2.2.2.2.2.2.2.2.2) (BankCore.finish_kept b now p ch)

/-! ## Edges of a driven channel -/

/-- What ramps change: the ramp alone. -/
def Chan.apart (ch : Chan) : ChanCfg × ChanIo × ChanWindow × ChanTrip × ChanClamp × ChanSense × ChanThermal × ChanSnap :=
  (ch.cfg, ch.io, ch.window, ch.trip, ch.clamp, ch.sense, ch.thermal, ch.snap)

theorem Chan.expireHold_apart (ch : Chan) (now : Nat) : (ch.expireHold now).apart = ch.apart := by
  unfold Chan.expireHold
  split <;> rfl
theorem Chan.beginHold_apart (ch : Chan) (supply now : Nat) : (ch.beginHold supply now).apart = ch.apart := by
  unfold Chan.beginHold
  split
  · rw [Chan.expireHold_apart]; rfl
  · rfl
theorem Chan.retarget_apart (ch : Chan) (target supply now : Nat) : (ch.retarget target supply now).apart = ch.apart := by
  unfold Chan.retarget
  split
  · rfl
  · rw [Chan.beginHold_apart]; rfl
theorem BankCore.rampRule_apart (b : BankCore) (now : Nat) (ch : Chan) : (b.rampRule now ch).apart = ch.apart := by
  unfold BankCore.rampRule
  split
  · dsimp only
    rw [Chan.retarget_apart]; split <;> rfl
  · rfl

/-- The sources of its state drive the channel on (R25). -/
def BankCore.drives (b : BankCore) (ch : Chan) : Bool := b.running && b.demanded ch && !b.heldOff ch

theorem Chan.suspendWindow_sense (ch : Chan) (v now : Nat) : (ch.suspendWindow v now).sense = ch.sense := by
  unfold Chan.suspendWindow
  split
  · split <;> rfl
  · rfl
theorem Chan.suspendWindow_thermal (ch : Chan) (v now : Nat) : (ch.suspendWindow v now).thermal = ch.thermal := by
  unfold Chan.suspendWindow
  split
  · split <;> rfl
  · rfl
theorem Chan.suspendWindow_trip (ch : Chan) (v now : Nat) : (ch.suspendWindow v now).trip = ch.trip := by
  unfold Chan.suspendWindow
  split
  · split <;> rfl
  · rfl
theorem Chan.suspendWindow_ramp (ch : Chan) (v now : Nat) : (ch.suspendWindow v now).ramp = ch.ramp := by
  unfold Chan.suspendWindow
  split
  · split <;> rfl
  · rfl
theorem Chan.suspendWindow_io (ch : Chan) (v now : Nat) : (ch.suspendWindow v now).io = ch.io := by
  unfold Chan.suspendWindow
  split
  · split <;> rfl
  · rfl

/-- The channel with its demand noted, before its edge. -/
def BankCore.noted (b : BankCore) (now : Nat) (ch : Chan) : Chan :=
  { ch with
    io := { ch.io with demandOffSince := if b.running && b.demanded ch then none else some (ch.io.demandOffSince.getD now) }
    ramp := { ch.ramp with zeroOff := b.running && b.demanded ch && ch.ramp.zeroOff } }

theorem BankCore.heldOff_congr (b : BankCore) (x ch : Chan) (h1 : x.cfg = ch.cfg) (h2 : x.trip = ch.trip) (h3 : x.thermal = ch.thermal)
    (h4 : x.ramp.expired = ch.ramp.expired) : b.heldOff x = b.heldOff ch := by
  unfold BankCore.heldOff Chan.locked; rw [h1, h2, h3, h4]

theorem BankCore.demanded_congr (b : BankCore) (x ch : Chan) (h1 : x.cfg = ch.cfg) (h2 : x.io.normal = ch.io.normal) (h3 : x.io.c = ch.io.c)
    (h4 : x.io.w = ch.io.w) (h5 : x.io.x = ch.io.x) : b.demanded x = b.demanded ch := by
  unfold BankCore.demanded BankCore.entryOf BankCore.followOn Chan.inFailSafe; rw [h1, h2, h3, h4, h5]

/-- A channel whose hold has not expired is left as it was driven. -/
theorem BankCore.endHold_of (b : BankCore) (now p : Nat) (ch : Chan) (h : ch.io.on = false ∨ ch.ramp.expired = false) : b.endHold now p ch = ch := by
  unfold BankCore.endHold
  rcases h with h | h <;> rw [h] <;> simp

theorem BankCore.drive_eq (b : BankCore) (now p : Nat) (ch : Chan) : b.drive now p ch =
    if b.drives ch then
      if ch.io.on then b.rampRule now (b.noted now ch)
      else if b.staysAtZero (b.noted now ch) then { b.noted now ch with ramp := { (b.noted now ch).ramp with zeroOff := true } }
      else b.turnOn now p (b.noted now ch)
    else if ch.io.on then b.turnOff now p (slewRate (classAt p) (if b.heldOff ch then 3 else ch.cfg.io.slew)) (b.noted now ch)
    else b.noted now ch := by
  have h : b.heldOff (b.noted now ch) = b.heldOff ch := b.heldOff_congr _ _ rfl rfl rfl rfl
  unfold BankCore.drives
  rw [← h]
  rfl

theorem BankCore.freezeChan_keeps (b : BankCore) (now : Nat) (ch : Chan) :
    (b.freezeChan now ch).io = ch.io ∧ (b.freezeChan now ch).trip = ch.trip ∧ (b.freezeChan now ch).sense = ch.sense
    ∧ (b.freezeChan now ch).thermal = ch.thermal ∧ (b.freezeChan now ch).window.step = ch.window.step
    ∧ (b.freezeChan now ch).window.freezeSpent = ch.window.freezeSpent ∧ (b.freezeChan now ch).ramp = ch.ramp
    ∧ (ch.window.freezeSpent = true → (b.freezeChan now ch).window.frozen = false) := by
  unfold BankCore.freezeChan BankCore.freezes
  dsimp only
  cases hs : ch.window.freezeSpent <;> cases hf : ch.window.frozen <;>
    cases (b.disturbs ch && ch.io.on && ch.window.running) <;> simp_all

/-- A finished channel has the io, trip, sense, thermal state and window step of the settled one, and its ramp but for the pace. -/
theorem BankCore.finish_of (b : BankCore) (now p : Nat) (ch : Chan) :
    (b.finish now p ch).io = (b.settleChan now p ch).io ∧ (b.finish now p ch).trip = (b.settleChan now p ch).trip
    ∧ (b.finish now p ch).sense = (b.settleChan now p ch).sense ∧ (b.finish now p ch).thermal = (b.settleChan now p ch).thermal
    ∧ (b.finish now p ch).window.step = (b.settleChan now p ch).window.step
    ∧ (b.finish now p ch).window.freezeSpent = (b.settleChan now p ch).window.freezeSpent
    ∧ ((b.settleChan now p ch).window.freezeSpent = true → (b.finish now p ch).window.frozen = false)
    ∧ ∃ m, (b.finish now p ch).ramp = { (b.settleChan now p ch).ramp with movingFrom := m } := by
  obtain ⟨h1, h2, h3, h4, h5, h6, h7, h8⟩ := b.freezeChan_keeps now (b.settleChan now p ch)
  refine ⟨h1, h2, h3, h4, h5, h6, h8, ?_⟩
  unfold BankCore.finish BankCore.paceRamp
  dsimp only
  rw [h7]
  exact ⟨_, rfl⟩

/-- A channel that stays on keeps its trip, sense and thermal state, and its window but for a freeze. -/
theorem BankCore.finish_stay (b : BankCore) (now p : Nat) (ch : Chan) (on : ch.io.on = true) (d : b.drives ch = true)
    (hx : (b.rampRule now (b.noted now ch)).ramp.expired = false) :
    (b.finish now p ch).io.on = true ∧ (b.finish now p ch).trip = ch.trip ∧ (b.finish now p ch).sense = ch.sense
    ∧ (b.finish now p ch).thermal = ch.thermal ∧ (b.finish now p ch).window.step = ch.window.step
    ∧ (b.finish now p ch).io.blankUntil = ch.io.blankUntil ∧ (b.finish now p ch).io.turningOff = ch.io.turningOff
    ∧ (b.finish now p ch).window.freezeSpent = ch.window.freezeSpent
    ∧ (ch.window.freezeSpent = true → (b.finish now p ch).window.frozen = false)
    ∧ ∃ m, (b.finish now p ch).ramp = { (b.rampRule now (b.noted now ch)).ramp with movingFrom := m } := by
  obtain ⟨h1, h2, h3, h4, h5, h6, h7, h8⟩ := b.finish_of now p ch
  have e : b.settleChan now p ch = b.rampRule now (b.noted now ch) := by
    unfold BankCore.settleChan
    rw [BankCore.drive_eq, if_pos d, if_pos on, BankCore.endHold_of _ _ _ _ (.inr hx)]
  have ha := BankCore.rampRule_apart b now (b.noted now ch)
  unfold Chan.apart at ha
  simp only [Prod.mk.injEq] at ha
  obtain ⟨-, a2, a3, a4, -, a6, a7, -⟩ := ha
  rw [e] at h1 h2 h3 h4 h5 h6 h7 h8
  rw [a3] at h7
  rw [h1, h2, h3, h4, h5, h6, a2, a3, a4, a6, a7]
  exact ⟨on, rfl, rfl, rfl, rfl, rfl, rfl, rfl, h7, h8⟩

/-- A channel that rests off keeps its trip, sense, thermal state, window and ramp. -/
theorem BankCore.finish_rest (b : BankCore) (now p : Nat) (ch : Chan) (on : ch.io.on = false) (d : b.drives ch = false) :
    (b.finish now p ch).io.on = false ∧ (b.finish now p ch).trip = ch.trip ∧ (b.finish now p ch).sense = ch.sense
    ∧ (b.finish now p ch).thermal = ch.thermal ∧ (b.finish now p ch).window.step = ch.window.step
    ∧ (b.finish now p ch).io.blankUntil = ch.io.blankUntil ∧ (b.finish now p ch).io.turningOff = ch.io.turningOff
    ∧ ∃ m z, (b.finish now p ch).ramp = { ch.ramp with movingFrom := m, zeroOff := z } := by
  obtain ⟨h1, h2, h3, h4, h5, h6, h7, m, h8⟩ := b.finish_of now p ch
  have e : b.settleChan now p ch = b.noted now ch := by
    unfold BankCore.settleChan
    rw [BankCore.drive_eq, if_neg (by rw [d]; exact Bool.false_ne_true), if_neg (by rw [on]; exact Bool.false_ne_true)]
    exact BankCore.endHold_of _ _ _ _ (.inl on)
  rw [e] at h1 h2 h3 h4 h5 h6 h7 h8
  rw [h1, h2, h3, h4, h5]
  exact ⟨on, rfl, rfl, rfl, rfl, rfl, rfl, m, _, h8⟩

/-- A channel that turns off. -/
theorem BankCore.finish_turnOff (b : BankCore) (now p : Nat) (ch : Chan) (on : ch.io.on = true) (d : b.drives ch = false) :
    (b.finish now p ch).io = (b.turnOff now p (slewRate (classAt p) (if b.heldOff ch then 3 else ch.cfg.io.slew)) (b.noted now ch)).io
    ∧ (b.finish now p ch).trip = (b.turnOff now p 0 (b.noted now ch)).trip
    ∧ (b.finish now p ch).sense = ch.sense
    ∧ (b.finish now p ch).thermal = { ch.thermal with streakT := ch.thermal.streakT.stop now }
    ∧ ∃ m, (b.finish now p ch).ramp = { (b.turnOff now p 0 (b.noted now ch)).ramp with movingFrom := m } := by
  obtain ⟨h1, h2, h3, h4, h5, h6, h7, m, h8⟩ := b.finish_of now p ch
  have e : b.settleChan now p ch = b.turnOff now p (slewRate (classAt p) (if b.heldOff ch then 3 else ch.cfg.io.slew)) (b.noted now ch) := by
    unfold BankCore.settleChan
    rw [BankCore.drive_eq, if_neg (by rw [d]; exact Bool.false_ne_true), if_pos on, BankCore.endHold_of _ _ _ _ (.inl rfl)]
  rw [e] at h1 h2 h3 h4 h8
  refine ⟨h1, h2.trans rfl, h3.trans ?_, h4.trans ?_, m, h8⟩
  · have := congrArg (fun k : _ => k) (Chan.suspendWindow_sense (b.noted now ch) b.version now)
    exact this
  · have : ∀ (r : Nat) (x : Chan), (b.turnOff now p r x).thermal
        = { (x.suspendWindow b.version now).thermal with streakT := (x.suspendWindow b.version now).thermal.streakT.stop now } := fun _ _ => rfl
    rw [this, Chan.suspendWindow_thermal]; rfl

theorem Chan.windowAtTurnOn_apart (ch : Chan) (v now : Nat) :
    (ch.windowAtTurnOn v now).cfg = ch.cfg ∧ (ch.windowAtTurnOn v now).io = ch.io ∧ (ch.windowAtTurnOn v now).trip = ch.trip
    ∧ (ch.windowAtTurnOn v now).ramp = ch.ramp ∧ (ch.windowAtTurnOn v now).sense = ch.sense ∧ (ch.windowAtTurnOn v now).thermal = ch.thermal := by
  have h : (ch.startWindow now).cfg = ch.cfg ∧ (ch.startWindow now).io = ch.io ∧ (ch.startWindow now).trip = ch.trip
    ∧ (ch.startWindow now).ramp = ch.ramp ∧ (ch.startWindow now).sense = ch.sense ∧ (ch.startWindow now).thermal = ch.thermal := by
    unfold Chan.startWindow
    dsimp only
    split <;> exact ⟨rfl, rfl, rfl, rfl, rfl, rfl⟩
  unfold Chan.windowAtTurnOn
  dsimp only
  repeat' split
  all_goals (first | exact h | exact ⟨rfl, rfl, rfl, rfl, rfl, rfl⟩)

/-- A channel that turns on. -/
theorem BankCore.turnOn_of (b : BankCore) (now p : Nat) (ch : Chan) :
    (b.turnOn now p ch).io.on = true ∧ (b.turnOn now p ch).io.blankUntil = now + blankTime (classAt p) ch.cfg.io.slew b.supply
    ∧ (b.turnOn now p ch).io.turningOff = ch.io.turningOff
    ∧ (b.turnOn now p ch).trip = { ch.trip with
        retryCount := if ch.trip.retryDue then ch.trip.retryCount + 1 else ch.trip.retryCount, retryDue := false
        healthyT := ch.trip.healthyT.start now, latchT := ch.trip.latchT.start now }
    ∧ (b.turnOn now p ch).sense = { ch.sense with openOff := false, sourceOn := false, crossAt := now, crossWait := 100000000 }
    ∧ (b.turnOn now p ch).thermal = { ch.thermal with streakT := ch.thermal.streakT.start now } := by
  obtain ⟨w1, w2, w3, w4, w5, w6⟩ := ch.windowAtTurnOn_apart b.version now
  unfold BankCore.turnOn
  dsimp only
  generalize hx : (Chan.mk _ _ _ _ _ _ _ _ _ : Chan) = x
  have ha := Chan.beginHold_apart x b.supply now
  unfold Chan.apart at ha
  simp only [Prod.mk.injEq] at ha
  obtain ⟨-, a2, -, a4, -, a6, a7, -⟩ := ha
  rw [a2, a4, a6, a7, ← hx]
  dsimp only
  rw [w1, w2, w3, w5, w6]
  exact ⟨rfl, rfl, rfl, rfl, rfl, rfl⟩

/-- A channel that turns on, or that stays off at a ramp target of 0 (R151). -/
theorem BankCore.finish_turnOn (b : BankCore) (now p : Nat) (ch : Chan) (on : ch.io.on = false) (d : b.drives ch = true)
    (hx : (b.turnOn now p (b.noted now ch)).ramp.expired = false) :
    ((b.finish now p ch).io.on = true ∧ (b.finish now p ch).io.blankUntil = now + blankTime (classAt p) ch.cfg.io.slew b.supply
      ∧ (b.finish now p ch).io.turningOff = ch.io.turningOff
      ∧ (b.finish now p ch).trip = { ch.trip with
          retryCount := if ch.trip.retryDue then ch.trip.retryCount + 1 else ch.trip.retryCount, retryDue := false
          healthyT := ch.trip.healthyT.start now, latchT := ch.trip.latchT.start now }
      ∧ (b.finish now p ch).sense = { ch.sense with openOff := false, sourceOn := false, crossAt := now, crossWait := 100000000 }
      ∧ (b.finish now p ch).thermal = { ch.thermal with streakT := ch.thermal.streakT.start now })
    ∨ ((b.finish now p ch).io.on = false ∧ (b.finish now p ch).io.blankUntil = ch.io.blankUntil
      ∧ (b.finish now p ch).io.turningOff = ch.io.turningOff ∧ (b.finish now p ch).trip = ch.trip
      ∧ (b.finish now p ch).sense = ch.sense ∧ (b.finish now p ch).thermal = ch.thermal) := by
  obtain ⟨h1, h2, h3, h4, -, -, -, -⟩ := b.finish_of now p ch
  unfold BankCore.settleChan at h1 h2 h3 h4
  rw [BankCore.drive_eq, if_pos d, if_neg (by rw [on]; exact Bool.false_ne_true)] at h1 h2 h3 h4
  rw [h1, h2, h3, h4]
  by_cases hz : b.staysAtZero (b.noted now ch) = true
  · rw [if_pos hz, BankCore.endHold_of b now p { b.noted now ch with ramp := { (b.noted now ch).ramp with zeroOff := true } } (.inl on)]
    exact .inr ⟨on, rfl, rfl, rfl, rfl, rfl⟩
  · rw [if_neg hz, BankCore.endHold_of _ _ _ _ (.inr hx)]; exact .inl (b.turnOn_of now p (b.noted now ch))

/-- A channel that no source drives is off. -/
theorem BankCore.finish_off (b : BankCore) (now p : Nat) (ch : Chan) (d : b.drives ch = false) : (b.finish now p ch).io.on = false := by
  cases on : ch.io.on with
  | false => exact (b.finish_rest now p ch on d).1
  | true => rw [(b.finish_turnOff now p ch on d).1]; rfl

/-! ## Channels on course -/

/-- A new target that is the ramp's own, or that no ramp takes, changes nothing. -/
theorem Chan.retarget_same (ch : Chan) (target supply now : Nat) (h : target = ch.ramp.target ∨ (ch.ramp.regulating || ch.ramp.complete) = false) :
    ch.retarget target supply now = ch := by
  unfold Chan.retarget
  rw [if_pos]
  rcases h with h | h
  · simp [h]
  · simp [h]

/-- On a channel on course the target rule changes nothing but whether the ramp follows its lane (R147). -/
theorem BankCore.rampRule_onCourse (b : BankCore) (now : Nat) (ch : Chan) (h : b.onCourseAt ch = true) :
    ∃ f, b.rampRule now ch = { ch with ramp := { ch.ramp with followsLane := f } } := by
  unfold BankCore.onCourseAt at h
  simp only [Bool.and_eq_true, Bool.or_eq_true, Bool.not_eq_true', decide_eq_true_eq] at h
  unfold BankCore.rampRule
  by_cases hc : (ch.io.on && decide (ch.cfg.load.loadType = 5)) = true
  · rw [if_pos hc]
    simp only [Bool.and_eq_true, decide_eq_true_eq] at hc
    have ht : (ch.ramp.regulating || ch.ramp.complete) = false
        ∨ ch.ramp.target = if b.normalRules ch = true ∨ ch.ramp.followsLane = true then ch.cfg.load.rampTarget else 1000 := by
      rcases h.2 with (h | h) | h
      · exact absurd hc.2 h
      · exact .inl h
      · exact .inr h
    by_cases hn : b.normalRules ch = true
    · refine ⟨true, ?_⟩
      rw [if_pos hn]
      refine Chan.retarget_same _ _ _ _ ?_
      rcases ht with ht | ht
      · exact .inr ht
      · rw [if_pos (.inl hn)] at ht; exact .inl ht.symm
    · refine ⟨ch.ramp.followsLane, ?_⟩
      rw [if_neg hn]
      refine Chan.retarget_same _ _ _ _ ?_
      rcases ht with ht | ht
      · exact .inr ht
      · refine .inl ?_
        by_cases hf : ch.ramp.followsLane = true
        · rw [if_pos (.inr hf)] at ht; rw [if_pos hf]; exact ht.symm
        · rw [if_neg (by simp [hn, hf])] at ht; rw [if_neg hf]; exact ht.symm
  · rw [if_neg hc]; exact ⟨_, rfl⟩

theorem BankCore.onCourse_chan (b : BankCore) (p : Nat) (h : b.onCourse = true) (hp : p < b.chans.length) : b.onCourseAt (b.chan p) = true := by
  unfold BankCore.onCourse at h
  unfold BankCore.chan
  rw [List.getD_eq_getElem?_getD, List.getElem?_eq_getElem hp]
  exact (List.all_eq_true.1 h) _ (List.getElem_mem _)

/-- Driving does not end the ramp of a channel on course. -/
theorem BankCore.finish_onCourse (b : BankCore) (now p : Nat) (ch : Chan) (h : b.onCourseAt ch = true) (on : ch.io.on = true)
    (hr : ch.ramp.regulating = true) : (b.finish now p ch).overdue p now = false := by
  unfold Chan.overdue
  cases d : b.drives ch with
  | false => rw [b.finish_off now p ch d]; rfl
  | true =>
    obtain ⟨f, hf⟩ := b.rampRule_onCourse now (b.noted now ch) h
    have hx : (b.rampRule now (b.noted now ch)).ramp.expired = false := by
      rw [hf]
      unfold BankCore.drives BankCore.heldOff at d
      show ch.ramp.expired = false
      cases he : ch.ramp.expired with
      | false => rfl
      | true => simp [he] at d
    obtain ⟨-, -, -, -, -, -, -, -, -, m, hm⟩ := b.finish_stay now p ch on d hx
    rw [hm, hf]
    show (_ && !ch.ramp.regulating && _) = false
    rw [hr]; simp

/-- An event of one channel of a bank on course ends no ramp too late but that of the channel itself. -/
theorem BankCore.late_editChan (b : BankCore) (now p : Nat) (f : Chan → Chan) (h : b.onCourse = true)
    (hp : p < b.chans.length → (b.chan p).io.on = true → (b.chan p).ramp.regulating = true →
      ((b.finish now p (f ((b.chan p).rebaseRamp b.supply now))).ramp.complete
        && (b.finish now p (f ((b.chan p).rebaseRamp b.supply now))).overdue p now) = false) :
    b.late now (fun c => c.editChan p f) = [] := by
  unfold BankCore.late BankCore.overruns
  rw [List.filter_eq_nil_iff]
  intro q _
  by_cases hq : q < b.chans.length
  · rw [BankCore.rebase_chan _ _ _ hq, BankCore.settle_chan _ _ _ _ (by simpa using hq) (by simp), BankCore.finish_editChan]
    cases on : (b.chan q).io.on with
    | false => simp [Chan.rebaseRamp, on]
    | true =>
      cases hr : (b.chan q).ramp.regulating with
      | false => simp [Chan.rebaseRamp, hr]
      | true =>
        by_cases e : q = p
        · subst e
          rw [BankCore.chan_editChan_same _ _ _ (by simpa using hq), BankCore.rebase_chan _ _ _ hq, Bool.and_assoc, hp hq on hr]
          simp
        · rw [BankCore.chan_editChan_other _ _ _ _ e, BankCore.rebase_chan _ _ _ hq,
            b.finish_onCourse now q ((b.chan q).rebaseRamp b.supply now) (b.onCourse_chan q h hq) on hr]
          simp
  · have : (b.rebase now).chan q = {} := by
      unfold BankCore.chan
      rw [List.getD_eq_getElem?_getD, List.getElem?_eq_none (by simpa using hq)]; rfl
    rw [this]; simp

/-! ## The rest of the bank -/

@[simp] theorem BankCore.settle_running (before b : BankCore) (now : Nat) : (BankCore.settle before b now).running = b.running := by
  unfold BankCore.settle
  dsimp only
  split <;> rfl
@[simp] theorem BankCore.rebase_running (b : BankCore) (now : Nat) : (b.rebase now).running = b.running := rfl
@[simp] theorem BankCore.editChan_running (b : BankCore) (p : Nat) (f : Chan → Chan) : (b.editChan p f).running = b.running := rfl
@[simp] theorem BankCore.settle_starting (before b : BankCore) (now : Nat) : (BankCore.settle before b now).starting = b.starting := by
  unfold BankCore.settle
  dsimp only
  split <;> rfl
@[simp] theorem BankCore.rebase_starting (b : BankCore) (now : Nat) : (b.rebase now).starting = b.starting := rfl
@[simp] theorem BankCore.editChan_starting (b : BankCore) (p : Nat) (f : Chan → Chan) : (b.editChan p f).starting = b.starting := rfl
@[simp] theorem BankCore.settle_limpOwnNext (before b : BankCore) (now : Nat) : (BankCore.settle before b now).limpOwnNext = b.limpOwnNext := by
  unfold BankCore.settle
  dsimp only
  split <;> rfl
@[simp] theorem BankCore.rebase_limpOwnNext (b : BankCore) (now : Nat) : (b.rebase now).limpOwnNext = b.limpOwnNext := rfl
@[simp] theorem BankCore.editChan_limpOwnNext (b : BankCore) (p : Nat) (f : Chan → Chan) : (b.editChan p f).limpOwnNext = b.limpOwnNext := rfl
@[simp] theorem BankCore.settle_limpSharedNext (before b : BankCore) (now : Nat) : (BankCore.settle before b now).limpSharedNext = b.limpSharedNext := by
  unfold BankCore.settle
  dsimp only
  split <;> rfl
@[simp] theorem BankCore.rebase_limpSharedNext (b : BankCore) (now : Nat) : (b.rebase now).limpSharedNext = b.limpSharedNext := rfl
@[simp] theorem BankCore.editChan_limpSharedNext (b : BankCore) (p : Nat) (f : Chan → Chan) : (b.editChan p f).limpSharedNext = b.limpSharedNext := rfl
@[simp] theorem BankCore.settle_disturbedAt (before b : BankCore) (now : Nat) : (BankCore.settle before b now).disturbedAt = b.disturbedAt := by
  unfold BankCore.settle
  dsimp only
  split <;> rfl
@[simp] theorem BankCore.rebase_disturbedAt (b : BankCore) (now : Nat) : (b.rebase now).disturbedAt = b.disturbedAt := rfl
@[simp] theorem BankCore.editChan_disturbedAt (b : BankCore) (p : Nat) (f : Chan → Chan) : (b.editChan p f).disturbedAt = b.disturbedAt := rfl
@[simp] theorem BankCore.settle_sentAt (before b : BankCore) (now : Nat) : (BankCore.settle before b now).sentAt = b.sentAt := by
  unfold BankCore.settle
  dsimp only
  split <;> rfl
@[simp] theorem BankCore.rebase_sentAt (b : BankCore) (now : Nat) : (b.rebase now).sentAt = b.sentAt := rfl
@[simp] theorem BankCore.editChan_sentAt (b : BankCore) (p : Nat) (f : Chan → Chan) : (b.editChan p f).sentAt = b.sentAt := rfl
@[simp] theorem BankCore.settle_supply (before b : BankCore) (now : Nat) : (BankCore.settle before b now).supply = b.supply := by
  unfold BankCore.settle
  dsimp only
  split <;> rfl
@[simp] theorem BankCore.rebase_supply (b : BankCore) (now : Nat) : (b.rebase now).supply = b.supply := rfl
@[simp] theorem BankCore.editChan_supply (b : BankCore) (p : Nat) (f : Chan → Chan) : (b.editChan p f).supply = b.supply := rfl
@[simp] theorem BankCore.settle_version (before b : BankCore) (now : Nat) : (BankCore.settle before b now).version = b.version := by
  unfold BankCore.settle
  dsimp only
  split <;> rfl
@[simp] theorem BankCore.rebase_version (b : BankCore) (now : Nat) : (b.rebase now).version = b.version := rfl
@[simp] theorem BankCore.editChan_version (b : BankCore) (p : Nat) (f : Chan → Chan) : (b.editChan p f).version = b.version := rfl
@[simp] theorem BankCore.settle_overvoltage (before b : BankCore) (now : Nat) : (BankCore.settle before b now).overvoltage = b.overvoltage := by
  unfold BankCore.settle
  dsimp only
  split <;> rfl
@[simp] theorem BankCore.rebase_overvoltage (b : BankCore) (now : Nat) : (b.rebase now).overvoltage = b.overvoltage := rfl
@[simp] theorem BankCore.editChan_overvoltage (b : BankCore) (p : Nat) (f : Chan → Chan) : (b.editChan p f).overvoltage = b.overvoltage := rfl
@[simp] theorem BankCore.settle_inputValid (before b : BankCore) (now : Nat) : (BankCore.settle before b now).inputValid = b.inputValid := by
  unfold BankCore.settle
  dsimp only
  split <;> rfl
@[simp] theorem BankCore.rebase_inputValid (b : BankCore) (now : Nat) : (b.rebase now).inputValid = b.inputValid := rfl
@[simp] theorem BankCore.editChan_inputValid (b : BankCore) (p : Nat) (f : Chan → Chan) : (b.editChan p f).inputValid = b.inputValid := rfl
@[simp] theorem BankCore.settle_inputs (before b : BankCore) (now : Nat) : (BankCore.settle before b now).inputs = b.inputs := by
  unfold BankCore.settle
  dsimp only
  split <;> rfl
@[simp] theorem BankCore.rebase_inputs (b : BankCore) (now : Nat) : (b.rebase now).inputs = b.inputs := rfl
@[simp] theorem BankCore.editChan_inputs (b : BankCore) (p : Nat) (f : Chan → Chan) : (b.editChan p f).inputs = b.inputs := rfl
@[simp] theorem BankCore.settle_limpOwn (before b : BankCore) (now : Nat) : (BankCore.settle before b now).limpOwn = b.limpOwn := by
  unfold BankCore.settle
  dsimp only
  split <;> rfl
@[simp] theorem BankCore.rebase_limpOwn (b : BankCore) (now : Nat) : (b.rebase now).limpOwn = b.limpOwn := rfl
@[simp] theorem BankCore.editChan_limpOwn (b : BankCore) (p : Nat) (f : Chan → Chan) : (b.editChan p f).limpOwn = b.limpOwn := rfl
@[simp] theorem BankCore.settle_limpShared (before b : BankCore) (now : Nat) : (BankCore.settle before b now).limpShared = b.limpShared := by
  unfold BankCore.settle
  dsimp only
  split <;> rfl
@[simp] theorem BankCore.rebase_limpShared (b : BankCore) (now : Nat) : (b.rebase now).limpShared = b.limpShared := rfl
@[simp] theorem BankCore.editChan_limpShared (b : BankCore) (p : Nat) (f : Chan → Chan) : (b.editChan p f).limpShared = b.limpShared := rfl
@[simp] theorem BankCore.settle_escGlide (before b : BankCore) (now : Nat) : (BankCore.settle before b now).escGlide = b.escGlide := by
  unfold BankCore.settle
  dsimp only
  split <;> rfl
@[simp] theorem BankCore.rebase_escGlide (b : BankCore) (now : Nat) : (b.rebase now).escGlide = b.escGlide := rfl
@[simp] theorem BankCore.editChan_escGlide (b : BankCore) (p : Nat) (f : Chan → Chan) : (b.editChan p f).escGlide = b.escGlide := rfl
@[simp] theorem BankCore.settle_glideToSafe (before b : BankCore) (now : Nat) : (BankCore.settle before b now).glideToSafe = b.glideToSafe := by
  unfold BankCore.settle
  dsimp only
  split <;> rfl
@[simp] theorem BankCore.rebase_glideToSafe (b : BankCore) (now : Nat) : (b.rebase now).glideToSafe = b.glideToSafe := rfl
@[simp] theorem BankCore.editChan_glideToSafe (b : BankCore) (p : Nat) (f : Chan → Chan) : (b.editChan p f).glideToSafe = b.glideToSafe := rfl
@[simp] theorem BankCore.settle_holdTime (before b : BankCore) (now : Nat) : (BankCore.settle before b now).holdTime = b.holdTime := by
  unfold BankCore.settle
  dsimp only
  split <;> rfl
@[simp] theorem BankCore.rebase_holdTime (b : BankCore) (now : Nat) : (b.rebase now).holdTime = b.holdTime := rfl
@[simp] theorem BankCore.editChan_holdTime (b : BankCore) (p : Nat) (f : Chan → Chan) : (b.editChan p f).holdTime = b.holdTime := rfl
@[simp] theorem BankCore.settle_holdFrom (before b : BankCore) (now : Nat) : (BankCore.settle before b now).holdFrom = b.holdFrom := by
  unfold BankCore.settle
  dsimp only
  split <;> rfl
@[simp] theorem BankCore.rebase_holdFrom (b : BankCore) (now : Nat) : (b.rebase now).holdFrom = b.holdFrom := rfl
@[simp] theorem BankCore.editChan_holdFrom (b : BankCore) (p : Nat) (f : Chan → Chan) : (b.editChan p f).holdFrom = b.holdFrom := rfl
@[simp] theorem BankCore.settle_restartHold (before b : BankCore) (now : Nat) : (BankCore.settle before b now).restartHold = b.restartHold := by
  unfold BankCore.settle
  dsimp only
  split <;> rfl
@[simp] theorem BankCore.rebase_restartHold (b : BankCore) (now : Nat) : (b.rebase now).restartHold = b.restartHold := rfl
@[simp] theorem BankCore.editChan_restartHold (b : BankCore) (p : Nat) (f : Chan → Chan) : (b.editChan p f).restartHold = b.restartHold := rfl
@[simp] theorem BankCore.settle_silent (before b : BankCore) (now : Nat) : (BankCore.settle before b now).silent = b.silent := by
  unfold BankCore.settle
  dsimp only
  split <;> rfl
@[simp] theorem BankCore.rebase_silent (b : BankCore) (now : Nat) : (b.rebase now).silent = b.silent := rfl
@[simp] theorem BankCore.editChan_silent (b : BankCore) (p : Nat) (f : Chan → Chan) : (b.editChan p f).silent = b.silent := rfl
@[simp] theorem BankCore.settle_storeFailed (before b : BankCore) (now : Nat) : (BankCore.settle before b now).storeFailed = b.storeFailed := by
  unfold BankCore.settle
  dsimp only
  split <;> rfl
@[simp] theorem BankCore.rebase_storeFailed (b : BankCore) (now : Nat) : (b.rebase now).storeFailed = b.storeFailed := rfl
@[simp] theorem BankCore.editChan_storeFailed (b : BankCore) (p : Nat) (f : Chan → Chan) : (b.editChan p f).storeFailed = b.storeFailed := rfl
@[simp] theorem BankCore.settle_isolated (before b : BankCore) (now : Nat) : (BankCore.settle before b now).isolated = b.isolated := by
  unfold BankCore.settle
  dsimp only
  split <;> rfl
@[simp] theorem BankCore.rebase_isolated (b : BankCore) (now : Nat) : (b.rebase now).isolated = b.isolated := rfl
@[simp] theorem BankCore.editChan_isolated (b : BankCore) (p : Nat) (f : Chan → Chan) : (b.editChan p f).isolated = b.isolated := rfl
@[simp] theorem BankCore.settle_disturbed (before b : BankCore) (now : Nat) : (BankCore.settle before b now).disturbed = b.disturbed := by
  unfold BankCore.settle
  dsimp only
  split <;> rfl
@[simp] theorem BankCore.rebase_disturbed (b : BankCore) (now : Nat) : (b.rebase now).disturbed = b.disturbed := rfl
@[simp] theorem BankCore.editChan_disturbed (b : BankCore) (p : Nat) (f : Chan → Chan) : (b.editChan p f).disturbed = b.disturbed := rfl
@[simp] theorem BankCore.settle_disturbances (before b : BankCore) (now : Nat) : (BankCore.settle before b now).disturbances = b.disturbances := by
  unfold BankCore.settle
  dsimp only
  split <;> rfl
@[simp] theorem BankCore.rebase_disturbances (b : BankCore) (now : Nat) : (b.rebase now).disturbances = b.disturbances := rfl
@[simp] theorem BankCore.editChan_disturbances (b : BankCore) (p : Nat) (f : Chan → Chan) : (b.editChan p f).disturbances = b.disturbances := rfl
@[simp] theorem BankCore.settle_disturbedBy (before b : BankCore) (now : Nat) : (BankCore.settle before b now).disturbedBy = b.disturbedBy := by
  unfold BankCore.settle
  dsimp only
  split <;> rfl
@[simp] theorem BankCore.rebase_disturbedBy (b : BankCore) (now : Nat) : (b.rebase now).disturbedBy = b.disturbedBy := rfl
@[simp] theorem BankCore.editChan_disturbedBy (b : BankCore) (p : Nat) (f : Chan → Chan) : (b.editChan p f).disturbedBy = b.disturbedBy := rfl
@[simp] theorem BankCore.rebase_shortLeft (b : BankCore) (now : Nat) : (b.rebase now).shortLeft = b.shortLeft := rfl
@[simp] theorem BankCore.editChan_shortLeft (b : BankCore) (p : Nat) (f : Chan → Chan) : (b.editChan p f).shortLeft = b.shortLeft := rfl
@[simp] theorem BankCore.settle_thermal (before b : BankCore) (now : Nat) : (BankCore.settle before b now).thermal = b.thermal := by
  unfold BankCore.settle
  dsimp only
  split <;> rfl
@[simp] theorem BankCore.rebase_thermal (b : BankCore) (now : Nat) : (b.rebase now).thermal = b.thermal := rfl
@[simp] theorem BankCore.editChan_thermal (b : BankCore) (p : Nat) (f : Chan → Chan) : (b.editChan p f).thermal = b.thermal := rfl
@[simp] theorem BankCore.settle_warnAt (before b : BankCore) (now : Nat) : (BankCore.settle before b now).warnAt = b.warnAt := by
  unfold BankCore.settle
  dsimp only
  split <;> rfl
@[simp] theorem BankCore.rebase_warnAt (b : BankCore) (now : Nat) : (b.rebase now).warnAt = b.warnAt := rfl
@[simp] theorem BankCore.editChan_warnAt (b : BankCore) (p : Nat) (f : Chan → Chan) : (b.editChan p f).warnAt = b.warnAt := rfl
@[simp] theorem BankCore.settle_shedAt (before b : BankCore) (now : Nat) : (BankCore.settle before b now).shedAt = b.shedAt := by
  unfold BankCore.settle
  dsimp only
  split <;> rfl
@[simp] theorem BankCore.rebase_shedAt (b : BankCore) (now : Nat) : (b.rebase now).shedAt = b.shedAt := rfl
@[simp] theorem BankCore.editChan_shedAt (b : BankCore) (p : Nat) (f : Chan → Chan) : (b.editChan p f).shedAt = b.shedAt := rfl
@[simp] theorem BankCore.settle_coolFrom (before b : BankCore) (now : Nat) : (BankCore.settle before b now).coolFrom = b.coolFrom := by
  unfold BankCore.settle
  dsimp only
  split <;> rfl
@[simp] theorem BankCore.rebase_coolFrom (b : BankCore) (now : Nat) : (b.rebase now).coolFrom = b.coolFrom := rfl
@[simp] theorem BankCore.editChan_coolFrom (b : BankCore) (p : Nat) (f : Chan → Chan) : (b.editChan p f).coolFrom = b.coolFrom := rfl
@[simp] theorem BankCore.settle_trims (before b : BankCore) (now : Nat) : (BankCore.settle before b now).trims = b.trims := by
  unfold BankCore.settle
  dsimp only
  split <;> rfl
@[simp] theorem BankCore.rebase_trims (b : BankCore) (now : Nat) : (b.rebase now).trims = b.trims := rfl
@[simp] theorem BankCore.editChan_trims (b : BankCore) (p : Nat) (f : Chan → Chan) : (b.editChan p f).trims = b.trims := rfl
@[simp] theorem BankCore.settle_lastValidRx (before b : BankCore) (now : Nat) : (BankCore.settle before b now).lastValidRx = b.lastValidRx := by
  unfold BankCore.settle
  dsimp only
  split <;> rfl
@[simp] theorem BankCore.rebase_lastValidRx (b : BankCore) (now : Nat) : (b.rebase now).lastValidRx = b.lastValidRx := rfl
@[simp] theorem BankCore.editChan_lastValidRx (b : BankCore) (p : Nat) (f : Chan → Chan) : (b.editChan p f).lastValidRx = b.lastValidRx := rfl
@[simp] theorem BankCore.settle_startedAt (before b : BankCore) (now : Nat) : (BankCore.settle before b now).startedAt = b.startedAt := by
  unfold BankCore.settle
  dsimp only
  split <;> rfl
@[simp] theorem BankCore.rebase_startedAt (b : BankCore) (now : Nat) : (b.rebase now).startedAt = b.startedAt := rfl
@[simp] theorem BankCore.editChan_startedAt (b : BankCore) (p : Nat) (f : Chan → Chan) : (b.editChan p f).startedAt = b.startedAt := rfl
@[simp] theorem BankCore.settle_snapCycle (before b : BankCore) (now : Nat) : (BankCore.settle before b now).snapCycle = b.snapCycle := by
  unfold BankCore.settle
  dsimp only
  split <;> rfl
@[simp] theorem BankCore.rebase_snapCycle (b : BankCore) (now : Nat) : (b.rebase now).snapCycle = b.snapCycle := rfl
@[simp] theorem BankCore.editChan_snapCycle (b : BankCore) (p : Nat) (f : Chan → Chan) : (b.editChan p f).snapCycle = b.snapCycle := rfl
@[simp] theorem BankCore.settle_sensors (before b : BankCore) (now : Nat) : (BankCore.settle before b now).sensors = b.sensors := by
  unfold BankCore.settle
  dsimp only
  split <;> rfl
@[simp] theorem BankCore.rebase_sensors (b : BankCore) (now : Nat) : (b.rebase now).sensors = b.sensors := rfl
@[simp] theorem BankCore.editChan_sensors (b : BankCore) (p : Nat) (f : Chan → Chan) : (b.editChan p f).sensors = b.sensors := rfl

theorem Bank.foldl_keeps {α β : Type} (g : Bank → β) (f : Bank → α → Bank) (hf : ∀ b a, g (f b a) = g b) (l : List α) (b : Bank) :
    g (l.foldl f b) = g b := by
  induction l generalizing b with
  | nil => rfl
  | cons a l ih => exact (ih _).trans (hf b a)

@[simp] theorem Bank.post_tagged (b : Bank) (o s k a : Nat) (e : Bool) : (b.post o s k a e).tagged = b.tagged := by
  unfold Bank.post; split <;> rfl
@[simp] theorem Bank.report_tagged (b : Bank) (n : Nat) (c : BankCore) : (b.report n c).tagged = b.tagged := by
  unfold Bank.report
  rw [Bank.foldl_keeps Bank.tagged _ (fun b a => by simp), Bank.foldl_keeps Bank.tagged _ (fun b a => by simp)]
@[simp] theorem Bank.act_tagged (b : Bank) (n now : Nat) (g : BankCore → BankCore) : (b.act n now g).tagged = b.tagged := by
  unfold Bank.act; rw [Bank.report_tagged]; exact Bank.foldl_keeps Bank.tagged _ (fun b a => by simp) _ _
@[simp] theorem Bank.actWith_tagged (b : Bank) (n now : Nat) (es : List (Nat × Nat × Nat)) (g : BankCore → BankCore) : (b.actWith n now es g).tagged = b.tagged := by
  unfold Bank.actWith; rw [Bank.act_tagged, Bank.foldl_keeps Bank.tagged _ (fun b a => by simp)]
@[simp] theorem Bank.post_schedRan (b : Bank) (o s k a : Nat) (e : Bool) : (b.post o s k a e).schedRan = b.schedRan := by
  unfold Bank.post; split <;> rfl
@[simp] theorem Bank.report_schedRan (b : Bank) (n : Nat) (c : BankCore) : (b.report n c).schedRan = b.schedRan := by
  unfold Bank.report
  rw [Bank.foldl_keeps Bank.schedRan _ (fun b a => by simp), Bank.foldl_keeps Bank.schedRan _ (fun b a => by simp)]
@[simp] theorem Bank.act_schedRan (b : Bank) (n now : Nat) (g : BankCore → BankCore) : (b.act n now g).schedRan = b.schedRan := by
  unfold Bank.act; rw [Bank.report_schedRan]; exact Bank.foldl_keeps Bank.schedRan _ (fun b a => by simp) _ _
@[simp] theorem Bank.actWith_schedRan (b : Bank) (n now : Nat) (es : List (Nat × Nat × Nat)) (g : BankCore → BankCore) : (b.actWith n now es g).schedRan = b.schedRan := by
  unfold Bank.actWith; rw [Bank.act_schedRan, Bank.foldl_keeps Bank.schedRan _ (fun b a => by simp)]
@[simp] theorem Bank.post_down (b : Bank) (o s k a : Nat) (e : Bool) : (b.post o s k a e).down = b.down := by
  unfold Bank.post; split <;> rfl
@[simp] theorem Bank.report_down (b : Bank) (n : Nat) (c : BankCore) : (b.report n c).down = b.down := by
  unfold Bank.report
  rw [Bank.foldl_keeps Bank.down _ (fun b a => by simp), Bank.foldl_keeps Bank.down _ (fun b a => by simp)]
@[simp] theorem Bank.act_down (b : Bank) (n now : Nat) (g : BankCore → BankCore) : (b.act n now g).down = b.down := by
  unfold Bank.act; rw [Bank.report_down]; exact Bank.foldl_keeps Bank.down _ (fun b a => by simp) _ _
@[simp] theorem Bank.actWith_down (b : Bank) (n now : Nat) (es : List (Nat × Nat × Nat)) (g : BankCore → BankCore) : (b.actWith n now es g).down = b.down := by
  unfold Bank.actWith; rw [Bank.act_down, Bank.foldl_keeps Bank.down _ (fun b a => by simp)]
@[simp] theorem Bank.post_up (b : Bank) (o s k a : Nat) (e : Bool) : (b.post o s k a e).up = b.up := by
  unfold Bank.post; split <;> rfl
@[simp] theorem Bank.report_up (b : Bank) (n : Nat) (c : BankCore) : (b.report n c).up = b.up := by
  unfold Bank.report
  rw [Bank.foldl_keeps Bank.up _ (fun b a => by simp), Bank.foldl_keeps Bank.up _ (fun b a => by simp)]
@[simp] theorem Bank.act_up (b : Bank) (n now : Nat) (g : BankCore → BankCore) : (b.act n now g).up = b.up := by
  unfold Bank.act; rw [Bank.report_up]; exact Bank.foldl_keeps Bank.up _ (fun b a => by simp) _ _
@[simp] theorem Bank.actWith_up (b : Bank) (n now : Nat) (es : List (Nat × Nat × Nat)) (g : BankCore → BankCore) : (b.actWith n now es g).up = b.up := by
  unfold Bank.actWith; rw [Bank.act_up, Bank.foldl_keeps Bank.up _ (fun b a => by simp)]
@[simp] theorem Bank.post_detected (b : Bank) (o s k a : Nat) (e : Bool) : (b.post o s k a e).detected = b.detected := by
  unfold Bank.post; split <;> rfl
@[simp] theorem Bank.report_detected (b : Bank) (n : Nat) (c : BankCore) : (b.report n c).detected = b.detected := by
  unfold Bank.report
  rw [Bank.foldl_keeps Bank.detected _ (fun b a => by simp), Bank.foldl_keeps Bank.detected _ (fun b a => by simp)]
@[simp] theorem Bank.act_detected (b : Bank) (n now : Nat) (g : BankCore → BankCore) : (b.act n now g).detected = b.detected := by
  unfold Bank.act; rw [Bank.report_detected]; exact Bank.foldl_keeps Bank.detected _ (fun b a => by simp) _ _
@[simp] theorem Bank.actWith_detected (b : Bank) (n now : Nat) (es : List (Nat × Nat × Nat)) (g : BankCore → BankCore) : (b.actWith n now es g).detected = b.detected := by
  unfold Bank.actWith; rw [Bank.act_detected, Bank.foldl_keeps Bank.detected _ (fun b a => by simp)]
@[simp] theorem Bank.post_acksDue (b : Bank) (o s k a : Nat) (e : Bool) : (b.post o s k a e).acksDue = b.acksDue := by
  unfold Bank.post; split <;> rfl
@[simp] theorem Bank.report_acksDue (b : Bank) (n : Nat) (c : BankCore) : (b.report n c).acksDue = b.acksDue := by
  unfold Bank.report
  rw [Bank.foldl_keeps Bank.acksDue _ (fun b a => by simp), Bank.foldl_keeps Bank.acksDue _ (fun b a => by simp)]
@[simp] theorem Bank.act_acksDue (b : Bank) (n now : Nat) (g : BankCore → BankCore) : (b.act n now g).acksDue = b.acksDue := by
  unfold Bank.act; rw [Bank.report_acksDue]; exact Bank.foldl_keeps Bank.acksDue _ (fun b a => by simp) _ _
@[simp] theorem Bank.actWith_acksDue (b : Bank) (n now : Nat) (es : List (Nat × Nat × Nat)) (g : BankCore → BankCore) : (b.actWith n now es g).acksDue = b.acksDue := by
  unfold Bank.actWith; rw [Bank.act_acksDue, Bank.foldl_keeps Bank.acksDue _ (fun b a => by simp)]
@[simp] theorem Bank.post_acked (b : Bank) (o s k a : Nat) (e : Bool) : (b.post o s k a e).acked = b.acked := by
  unfold Bank.post; split <;> rfl
@[simp] theorem Bank.report_acked (b : Bank) (n : Nat) (c : BankCore) : (b.report n c).acked = b.acked := by
  unfold Bank.report
  rw [Bank.foldl_keeps Bank.acked _ (fun b a => by simp), Bank.foldl_keeps Bank.acked _ (fun b a => by simp)]
@[simp] theorem Bank.act_acked (b : Bank) (n now : Nat) (g : BankCore → BankCore) : (b.act n now g).acked = b.acked := by
  unfold Bank.act; rw [Bank.report_acked]; exact Bank.foldl_keeps Bank.acked _ (fun b a => by simp) _ _
@[simp] theorem Bank.actWith_acked (b : Bank) (n now : Nat) (es : List (Nat × Nat × Nat)) (g : BankCore → BankCore) : (b.actWith n now es g).acked = b.acked := by
  unfold Bank.actWith; rw [Bank.act_acked, Bank.foldl_keeps Bank.acked _ (fun b a => by simp)]
@[simp] theorem Bank.post_discards (b : Bank) (o s k a : Nat) (e : Bool) : (b.post o s k a e).discards = b.discards := by
  unfold Bank.post; split <;> rfl
@[simp] theorem Bank.report_discards (b : Bank) (n : Nat) (c : BankCore) : (b.report n c).discards = b.discards := by
  unfold Bank.report
  rw [Bank.foldl_keeps Bank.discards _ (fun b a => by simp), Bank.foldl_keeps Bank.discards _ (fun b a => by simp)]
@[simp] theorem Bank.act_discards (b : Bank) (n now : Nat) (g : BankCore → BankCore) : (b.act n now g).discards = b.discards := by
  unfold Bank.act; rw [Bank.report_discards]; exact Bank.foldl_keeps Bank.discards _ (fun b a => by simp) _ _
@[simp] theorem Bank.actWith_discards (b : Bank) (n now : Nat) (es : List (Nat × Nat × Nat)) (g : BankCore → BankCore) : (b.actWith n now es g).discards = b.discards := by
  unfold Bank.actWith; rw [Bank.act_discards, Bank.foldl_keeps Bank.discards _ (fun b a => by simp)]
@[simp] theorem Bank.post_firstUp (b : Bank) (o s k a : Nat) (e : Bool) : (b.post o s k a e).firstUp = b.firstUp := by
  unfold Bank.post; split <;> rfl
@[simp] theorem Bank.report_firstUp (b : Bank) (n : Nat) (c : BankCore) : (b.report n c).firstUp = b.firstUp := by
  unfold Bank.report
  rw [Bank.foldl_keeps Bank.firstUp _ (fun b a => by simp), Bank.foldl_keeps Bank.firstUp _ (fun b a => by simp)]
@[simp] theorem Bank.act_firstUp (b : Bank) (n now : Nat) (g : BankCore → BankCore) : (b.act n now g).firstUp = b.firstUp := by
  unfold Bank.act; rw [Bank.report_firstUp]; exact Bank.foldl_keeps Bank.firstUp _ (fun b a => by simp) _ _
@[simp] theorem Bank.actWith_firstUp (b : Bank) (n now : Nat) (es : List (Nat × Nat × Nat)) (g : BankCore → BankCore) : (b.actWith n now es g).firstUp = b.firstUp := by
  unfold Bank.actWith; rw [Bank.act_firstUp, Bank.foldl_keeps Bank.firstUp _ (fun b a => by simp)]
@[simp] theorem Bank.post_retrimming (b : Bank) (o s k a : Nat) (e : Bool) : (b.post o s k a e).retrimming = b.retrimming := by
  unfold Bank.post; split <;> rfl
@[simp] theorem Bank.report_retrimming (b : Bank) (n : Nat) (c : BankCore) : (b.report n c).retrimming = b.retrimming := by
  unfold Bank.report
  rw [Bank.foldl_keeps Bank.retrimming _ (fun b a => by simp), Bank.foldl_keeps Bank.retrimming _ (fun b a => by simp)]
@[simp] theorem Bank.act_retrimming (b : Bank) (n now : Nat) (g : BankCore → BankCore) : (b.act n now g).retrimming = b.retrimming := by
  unfold Bank.act; rw [Bank.report_retrimming]; exact Bank.foldl_keeps Bank.retrimming _ (fun b a => by simp) _ _
@[simp] theorem Bank.actWith_retrimming (b : Bank) (n now : Nat) (es : List (Nat × Nat × Nat)) (g : BankCore → BankCore) : (b.actWith n now es g).retrimming = b.retrimming := by
  unfold Bank.actWith; rw [Bank.act_retrimming, Bank.foldl_keeps Bank.retrimming _ (fun b a => by simp)]

/-- A report stays where messages are only added. -/
theorem Bank.post_reports (b : Bank) (o s k a : Nat) (e : Bool) (s' k' a' : Nat) (h : b.reports s' k' a' = true) : (b.post o s k a e).reports s' k' a' = true := by
  unfold Bank.post
  split
  · unfold Bank.reports at *; simp only [List.any_append, h, Bool.true_or]
  · exact h

theorem Bank.foldl_reports {α : Type} (f : Bank → α → Bank) (s k a : Nat) (hf : ∀ b x, b.reports s k a = true → (f b x).reports s k a = true)
    (l : List α) (b : Bank) (h : b.reports s k a = true) : (l.foldl f b).reports s k a = true := by
  induction l generalizing b with
  | nil => exact h
  | cons x l ih => exact ih _ (hf b x h)

theorem Bank.act_reports (b : Bank) (n now : Nat) (g : BankCore → BankCore) (s k a : Nat) (h : b.reports s k a = true) :
    (b.act n now g).reports s k a = true := by
  unfold Bank.act Bank.report
  refine Bank.foldl_reports _ _ _ _ (fun b x hb => Bank.post_reports _ _ _ _ _ _ _ _ _ hb) _ _
    (Bank.foldl_reports _ _ _ _ (fun b x hb => Bank.post_reports _ _ _ _ _ _ _ _ _ hb) _ _ ?_)
  exact Bank.foldl_reports _ _ _ _ (fun b x hb => Bank.post_reports _ _ _ _ _ _ _ _ _ hb) _ _ h

theorem Bank.post_new (b : Bank) (o s k a : Nat) (e : Bool) (h : b.msgs.length < 16) : (b.post o s k a e).reports s k a = true := by
  unfold Bank.post Bank.reports
  rw [if_pos h]
  simp

/-- The event message of an event stands in the store of the bank, where it has a place (R283). -/
theorem Bank.actWith_reports (b : Bank) (n now i k a : Nat) (g : BankCore → BankCore) (h : b.msgs.length < 16) :
    (b.actWith n now [(i, k, a)] g).reports (12 * n + i) k a = true := by
  unfold Bank.actWith
  exact Bank.act_reports _ _ _ _ _ _ _ (Bank.post_new _ _ _ _ _ _ h)

end Sys2Proof.Machine
end

