-- ==== Sys2Proof/Laws/Fixed.lean ====
section
/-! SUPPORT. What the operations of the hub leave alone: the queue of commands, the clock, the runtime version and both memories (`State.fixed`); from it
that each keeps the queue, the clock and the version (`State.base`) and the canonical form of the memories. -/

set_option linter.all false

namespace Sys2Proof.Machine
/-- What no command of this kind touches: the queue, the clock, the runtime version and the two memories. -/
def State.fixed (s : State) : List Instr × Nat × Nat × List Host.Cell × List Host.Cell := (s.pending, s.now, s.rtVersion, s.bufs, s.patches)
@[simp] theorem State.onHub_fixed (s : State) (f : Hub → Hub) : (s.onHub f).fixed = s.fixed := rfl
@[simp] theorem State.onBank_fixed (s : State) (b : Nat) (f : Bank → Bank) : (s.onBank b f).fixed = s.fixed := rfl
@[simp] theorem State.onBanks_fixed (s : State) (f : Nat → Bank → Bank) : (s.onBanks f).fixed = s.fixed := rfl
@[simp] theorem State.onChan_fixed (s : State) (ch : Nat) (f : Bank → Nat → Nat → Nat → Bank) : (s.onChan ch f).fixed = s.fixed := rfl
@[simp] theorem State.mk_fixed (p : List Instr) (n f r : Nat) (pw : Supplies) (l : Lands) (m : Mram) (b : List Bank) (h : Hub) (c d : List Host.Cell) :
  (State.mk p n f r pw l m b h c d).fixed = (p, n, r, c, d) := rfl
@[simp] theorem State.fixed_eta (s : State) : (s.pending, s.now, s.rtVersion, s.bufs, s.patches) = s.fixed := rfl
theorem foldl_fixed {α : Type} (f : State → α → State) (l : List α) (s : State) (h : ∀ s a, (f s a).fixed = s.fixed) : (l.foldl f s).fixed = s.fixed := by
  induction l generalizing s with
  | nil => rfl
  | cons a l ih => exact (ih (f s a)).trans (h s a)
theorem foldl_fixed_fst {α β : Type} (f : State × β → α → State × β) (l : List α) (s : State × β) (h : ∀ s a, (f s a).1.fixed = s.1.fixed) : (l.foldl f s).1.fixed = s.1.fixed := by
  induction l generalizing s with
  | nil => rfl
  | cons a l ih => exact (ih (f s a)).trans (h s a)
@[simp] theorem State.hubReset_fixed (s : State) (cause : Nat) : (s.hubReset cause).fixed = s.fixed := rfl
@[simp] theorem State.hubResetFree_fixed (s : State) (cause : Nat) : (s.hubResetFree cause).fixed = s.fixed := rfl
@[simp] theorem State.record_fixed (s : State) (n type w2 w3 : Nat) : (s.record n type w2 w3).1.fixed = s.fixed := by
  unfold State.record; dsimp only; split <;> rfl
@[simp] theorem State.handle_fixed (d : Nat) (s : State) (n : Notice) : (State.handle d s n).fixed = s.fixed := by
  induction d generalizing s n with
  | zero => rfl
  | succ d ih =>
    unfold State.handle
    cases n <;> dsimp only <;>
      repeat' (split; (try (rename_i hq; (try (have hq' := congrArg Prod.fst hq; dsimp only at hq'; subst hq')))))
    all_goals (first | rfl | simp [ih] | simp [ih, foldl_fixed])
theorem base_of_fixed {s t : State} (h : t.fixed = s.fixed) : t.base = s.base := by
  simp only [State.fixed, Prod.mk.injEq] at h; simp [State.base, h]
theorem wf_of_fixed {s t : State} (h : t.fixed = s.fixed) : Memory.wf t = Memory.wf s := by
  simp only [State.fixed, Prod.mk.injEq] at h; simp [Memory.wf, h]
@[simp] theorem State.onHub_base (s : State) (f : Hub → Hub) : (s.onHub f).base = s.base := rfl
@[simp] theorem State.onBank_base (s : State) (b : Nat) (f : Bank → Bank) : (s.onBank b f).base = s.base := rfl
@[simp] theorem State.onBanks_base (s : State) (f : Nat → Bank → Bank) : (s.onBanks f).base = s.base := rfl
@[simp] theorem State.onChan_base (s : State) (ch : Nat) (f : Bank → Nat → Nat → Nat → Bank) : (s.onChan ch f).base = s.base := rfl
@[simp] theorem State.onHub_wf (s : State) (f : Hub → Hub) : Memory.wf (s.onHub f) = Memory.wf s := rfl
@[simp] theorem State.onBank_wf (s : State) (b : Nat) (f : Bank → Bank) : Memory.wf (s.onBank b f) = Memory.wf s := rfl
@[simp] theorem State.onBanks_wf (s : State) (f : Nat → Bank → Bank) : Memory.wf (s.onBanks f) = Memory.wf s := rfl
@[simp] theorem State.onChan_wf (s : State) (ch : Nat) (f : Bank → Nat → Nat → Nat → Bank) : Memory.wf (s.onChan ch f) = Memory.wf s := rfl
@[simp] theorem State.mk_base (p : List Instr) (n f r : Nat) (pw : Supplies) (l : Lands) (m : Mram) (b : List Bank) (h : Hub) (c d : List Host.Cell) :
  (State.mk p n f r pw l m b h c d).base = (p, n, r) := rfl
@[simp] theorem State.base_eta (s : State) : (s.pending, s.now, s.rtVersion) = s.base := rfl
@[simp] theorem State.mk_wf (s : State) (p : List Instr) (n f r : Nat) (pw : Supplies) (l : Lands) (m : Mram) (b : List Bank) (h : Hub) :
  Memory.wf (State.mk p n f r pw l m b h s.bufs s.patches) = Memory.wf s := rfl
@[simp] theorem State.writeBuf_base (s : State) (a : Nat) (data : List Byte) : (s.writeBuf a data).base = s.base := rfl
@[simp] theorem State.writeSlot_base (s : State) (i a : Nat) (data : List Byte) : (s.writeSlot i a data).base = s.base := rfl
@[simp] theorem State.eraseSlot_base (s : State) (i : Nat) : (s.eraseSlot i).base = s.base := rfl
@[simp] theorem State.drawBit_base (s : State) : s.drawBit.1.base = s.base := rfl
@[simp] theorem State.drawBytes_base (s : State) (n : Nat) : (s.drawBytes n).1.base = s.base := rfl
@[simp] theorem State.drawBit_wf (s : State) : Memory.wf s.drawBit.1 = Memory.wf s := rfl
@[simp] theorem State.drawBytes_wf (s : State) (n : Nat) : Memory.wf (s.drawBytes n).1 = Memory.wf s := rfl
@[simp] theorem State.handle_base (d : Nat) (s : State) (n : Notice) : (State.handle d s n).base = s.base := base_of_fixed (State.handle_fixed d s n)
@[simp] theorem State.handle_wf (d : Nat) (s : State) (n : Notice) : Memory.wf (State.handle d s n) = Memory.wf s := wf_of_fixed (State.handle_fixed d s n)
@[simp] theorem State.hubReset_base (s : State) (cause : Nat) : (s.hubReset cause).base = s.base := rfl
@[simp] theorem State.hubResetFree_base (s : State) (cause : Nat) : (s.hubResetFree cause).base = s.base := rfl
@[simp] theorem State.hubReset_wf (s : State) (cause : Nat) : Memory.wf (s.hubReset cause) = Memory.wf s := rfl
@[simp] theorem State.hubResetFree_wf (s : State) (cause : Nat) : Memory.wf (s.hubResetFree cause) = Memory.wf s := rfl
@[simp] theorem State.record_base (s : State) (n type w2 w3 : Nat) : (s.record n type w2 w3).1.base = s.base := base_of_fixed (State.record_fixed s n type w2 w3)
@[simp] theorem State.record_wf (s : State) (n type w2 w3 : Nat) : Memory.wf (s.record n type w2 w3).1 = Memory.wf s := wf_of_fixed (State.record_fixed s n type w2 w3)
theorem foldl_base {α : Type} (f : State → α → State) (l : List α) (s : State) (h : ∀ s a, (f s a).base = s.base) : (l.foldl f s).base = s.base := by
  induction l generalizing s with
  | nil => rfl
  | cons a l ih => exact (ih (f s a)).trans (h s a)
theorem foldl_base_fst {α β : Type} (f : State × β → α → State × β) (l : List α) (s : State × β) (h : ∀ s a, (f s a).1.base = s.1.base) : (l.foldl f s).1.base = s.1.base := by
  induction l generalizing s with
  | nil => rfl
  | cons a l ih => exact (ih (f s a)).trans (h s a)
theorem foldl_wf {α : Type} (f : State → α → State) (l : List α) (s : State) (wf : Memory.wf s = true) (h : ∀ s a, Memory.wf s = true → Memory.wf (f s a) = true) :
    Memory.wf (l.foldl f s) = true := by
  induction l generalizing s with
  | nil => exact wf
  | cons a l ih => exact ih (f s a) (h s a wf)
theorem foldl_wf_fst {α β : Type} (f : State × β → α → State × β) (l : List α) (s : State × β) (wf : Memory.wf s.1 = true)
    (h : ∀ s a, Memory.wf s.1 = true → Memory.wf (f s a).1 = true) : Memory.wf (l.foldl f s).1 = true := by
  induction l generalizing s with
  | nil => exact wf
  | cons a l ih => exact ih (f s a) (h s a wf)

@[simp] theorem State.notify_fixed (s : State) (ns : List Notice) : (State.notify s ns).fixed = s.fixed := by
  unfold State.notify
  (try dsimp only)
  repeat' (split; (try (rename_i hq; (try (have hq' := congrArg Prod.fst hq; dsimp only at hq'; subst hq')))))
  all_goals (first | (simp; done) | (simp [foldl_fixed, foldl_fixed_fst, apply_ite State.fixed, *]; done) | rfl)

@[simp] theorem State.after_fixed (s : State) (f : Hub → Hub) (ns : List Notice) : (State.after s f ns).fixed = s.fixed := by
  unfold State.after
  (try dsimp only)
  repeat' (split; (try (rename_i hq; (try (have hq' := congrArg Prod.fst hq; dsimp only at hq'; subst hq')))))
  all_goals (first | (simp; done) | (simp [foldl_fixed, foldl_fixed_fst, apply_ite State.fixed, *]; done) | rfl)

@[simp] theorem State.storeSave_fixed (s : State) : (State.storeSave s).fixed = s.fixed := by
  unfold State.storeSave
  (try dsimp only)
  repeat' (split; (try (rename_i hq; (try (have hq' := congrArg Prod.fst hq; dsimp only at hq'; subst hq')))))
  all_goals (first | (simp; done) | (simp [foldl_fixed, foldl_fixed_fst, apply_ite State.fixed, *]; done) | rfl)

@[simp] theorem State.storeNext_fixed (s : State) : (State.storeNext s).fixed = s.fixed := by
  unfold State.storeNext
  (try dsimp only)
  repeat' (split; (try (rename_i hq; (try (have hq' := congrArg Prod.fst hq; dsimp only at hq'; subst hq')))))
  all_goals (first | (simp; done) | (simp [foldl_fixed, foldl_fixed_fst, apply_ite State.fixed, *]; done) | rfl)

@[simp] theorem State.flushDone_fixed (s : State) : (State.flushDone s).fixed = s.fixed := by
  unfold State.flushDone
  (try dsimp only)
  repeat' (split; (try (rename_i hq; (try (have hq' := congrArg Prod.fst hq; dsimp only at hq'; subst hq')))))
  all_goals (first | (simp; done) | (simp [foldl_fixed, foldl_fixed_fst, apply_ite State.fixed, *]; done) | rfl)

@[simp] theorem State.storeDone_fixed (s : State) (verified : Bool) : (State.storeDone s verified).fixed = s.fixed := by
  unfold State.storeDone
  (try dsimp only)
  repeat' (split; (try (rename_i hq; (try (have hq' := congrArg Prod.fst hq; dsimp only at hq'; subst hq')))))
  all_goals (first | (simp; done) | (simp [foldl_fixed, foldl_fixed_fst, apply_ite State.fixed, *]; done) | rfl)

@[simp] theorem State.journalWrite_fixed (s : State) : (State.journalWrite s).fixed = s.fixed := by
  unfold State.journalWrite
  (try dsimp only)
  repeat' (split; (try (rename_i hq; (try (have hq' := congrArg Prod.fst hq; dsimp only at hq'; subst hq')))))
  all_goals (first | (simp; done) | (simp [foldl_fixed, foldl_fixed_fst, apply_ite State.fixed, *]; done) | rfl)

@[simp] theorem State.post_fixed (s : State) (data : List Byte) : (State.post s data).fixed = s.fixed := by
  unfold State.post
  (try dsimp only)
  repeat' (split; (try (rename_i hq; (try (have hq' := congrArg Prod.fst hq; dsimp only at hq'; subst hq')))))
  all_goals (first | (simp; done) | (simp [foldl_fixed, foldl_fixed_fst, apply_ite State.fixed, *]; done) | rfl)

@[simp] theorem State.sendTo_fixed (s : State) (path : Option NetPath) (data : List Byte) : (State.sendTo s path data).fixed = s.fixed := by
  unfold State.sendTo
  (try dsimp only)
  repeat' (split; (try (rename_i hq; (try (have hq' := congrArg Prod.fst hq; dsimp only at hq'; subst hq')))))
  all_goals (first | (simp; done) | (simp [foldl_fixed, foldl_fixed_fst, apply_ite State.fixed, *]; done) | rfl)

@[simp] theorem State.doAfter_fixed (s : State) (a : After) : (State.doAfter s a).fixed = s.fixed := by
  unfold State.doAfter
  (try dsimp only)
  repeat' (split; (try (rename_i hq; (try (have hq' := congrArg Prod.fst hq; dsimp only at hq'; subst hq')))))
  all_goals (first | (simp; done) | (simp [foldl_fixed, foldl_fixed_fst, apply_ite State.fixed, *]; done) | rfl)

@[simp] theorem State.flush_fixed (s : State) (n : Nat) : (State.flush s n).fixed = s.fixed := by
  unfold State.flush
  (try dsimp only)
  repeat' (split; (try (rename_i hq; (try (have hq' := congrArg Prod.fst hq; dsimp only at hq'; subst hq')))))
  all_goals (first | (simp; done) | (simp [foldl_fixed, foldl_fixed_fst, apply_ite State.fixed, *]; done) | rfl)

@[simp] theorem State.build_fixed (s : State) (o : Origin) (body : List Byte) : (State.build s o body).1.fixed = s.fixed := by
  unfold State.build
  (try dsimp only)
  repeat' (split; (try (rename_i hq; (try (have hq' := congrArg Prod.fst hq; dsimp only at hq'; subst hq')))))
  all_goals (first | (simp; done) | (simp [foldl_fixed, foldl_fixed_fst, apply_ite State.fixed, *]; done) | rfl)

@[simp] theorem State.answerNow_fixed (s : State) (o : Origin) (status : Nat) (fields : List Byte) (after : After := {}) : (State.answerNow s o status fields after).fixed = s.fixed := by
  unfold State.answerNow
  (try dsimp only)
  repeat' (split; (try (rename_i hq; (try (have hq' := congrArg Prod.fst hq; dsimp only at hq'; subst hq')))))
  all_goals (first | (simp; done) | (simp [foldl_fixed, foldl_fixed_fst, apply_ite State.fixed, *]; done) | rfl)

@[simp] theorem State.respond_fixed (s : State) (o : Origin) (status : Nat) (fields : List Byte := []) (after : After := {}) : (State.respond s o status fields after).fixed = s.fixed := by
  unfold State.respond
  (try dsimp only)
  repeat' (split; (try (rename_i hq; (try (have hq' := congrArg Prod.fst hq; dsimp only at hq'; subst hq')))))
  all_goals (first | (simp; done) | (simp [foldl_fixed, foldl_fixed_fst, apply_ite State.fixed, *]; done) | rfl)

@[simp] theorem State.accept_fixed (s : State) : (State.accept s).state.fixed = s.fixed := by
  unfold State.accept
  (try dsimp only)
  repeat' (split; (try (rename_i hq; (try (have hq' := congrArg Prod.fst hq; dsimp only at hq'; subst hq')))))
  all_goals (first | (simp; done) | (simp [foldl_fixed, foldl_fixed_fst, apply_ite State.fixed, *]; done) | rfl)

@[simp] theorem State.deny_fixed (s : State) (code : Nat) : (State.deny s code).state.fixed = s.fixed := by
  unfold State.deny
  (try dsimp only)
  repeat' (split; (try (rename_i hq; (try (have hq' := congrArg Prod.fst hq; dsimp only at hq'; subst hq')))))
  all_goals (first | (simp; done) | (simp [foldl_fixed, foldl_fixed_fst, apply_ite State.fixed, *]; done) | rfl)

@[simp] theorem State.await_fixed (s : State) (ids : List (Nat × Nat)) : (State.await s ids).state.fixed = s.fixed := by
  unfold State.await
  (try dsimp only)
  repeat' (split; (try (rename_i hq; (try (have hq' := congrArg Prod.fst hq; dsimp only at hq'; subst hq')))))
  all_goals (first | (simp; done) | (simp [foldl_fixed, foldl_fixed_fst, apply_ite State.fixed, *]; done) | rfl)

@[simp] theorem State.command_fixed (s : State) (orders : List Order) : (State.command s orders).state.fixed = s.fixed := by
  unfold State.command
  (try dsimp only)
  repeat' (split; (try (rename_i hq; (try (have hq' := congrArg Prod.fst hq; dsimp only at hq'; subst hq')))))
  all_goals (first | (simp; done) | (simp [foldl_fixed, foldl_fixed_fst, apply_ite State.fixed, *]; done) | rfl)

@[simp] theorem Written.finish_fixed (w : Written) (o : Origin) : (Written.finish w o).fixed = w.state.fixed := by
  unfold Written.finish
  (try dsimp only)
  repeat' (split; (try (rename_i hq; (try (have hq' := congrArg Prod.fst hq; dsimp only at hq'; subst hq')))))
  all_goals (first | (simp; done) | (simp [foldl_fixed, foldl_fixed_fst, apply_ite State.fixed, *]; done) | rfl)

@[simp] theorem State.answerWaiting_fixed (s : State) (done : List (Nat × Nat)) (status : Nat) : (State.answerWaiting s done status).fixed = s.fixed := by
  unfold State.answerWaiting
  (try dsimp only)
  repeat' (split; (try (rename_i hq; (try (have hq' := congrArg Prod.fst hq; dsimp only at hq'; subst hq')))))
  all_goals (first | (simp; done) | (simp [foldl_fixed, foldl_fixed_fst, apply_ite State.fixed, *]; done) | rfl)

@[simp] theorem State.join_fixed (s : State) (pacer : Nat) : (State.join s pacer).fixed = s.fixed := by
  unfold State.join
  (try dsimp only)
  repeat' (split; (try (rename_i hq; (try (have hq' := congrArg Prod.fst hq; dsimp only at hq'; subst hq')))))
  all_goals (first | (simp; done) | (simp [foldl_fixed, foldl_fixed_fst, apply_ite State.fixed, *]; done) | rfl)

@[simp] theorem State.form_fixed (s : State) : (State.form s).fixed = s.fixed := by
  unfold State.form
  (try dsimp only)
  repeat' (split; (try (rename_i hq; (try (have hq' := congrArg Prod.fst hq; dsimp only at hq'; subst hq')))))
  all_goals (first | (simp; done) | (simp [foldl_fixed, foldl_fixed_fst, apply_ite State.fixed, *]; done) | rfl)

@[simp] theorem State.cancel_fixed (s : State) (reason : Nat) (f : IntentEntry → Bool) : (State.cancel s reason f).fixed = s.fixed := by
  unfold State.cancel
  dsimp only
  split
  · rfl
  · simp only [State.notify_fixed, State.mk_fixed, State.fixed_eta]
    exact foldl_fixed _ _ _ fun _ _ => rfl

@[simp] theorem State.propose_fixed (s : State) (lane : Nat) : (State.propose s lane).fixed = s.fixed := by
  unfold State.propose
  (try dsimp only)
  repeat' (split; (try (rename_i hq; (try (have hq' := congrArg Prod.fst hq; dsimp only at hq'; subst hq')))))
  all_goals (first | (simp; done) | (simp [foldl_fixed, foldl_fixed_fst, apply_ite State.fixed, *]; done) | rfl)

@[simp] theorem State.elect_fixed (s : State) : (State.elect s).1.fixed = s.fixed := by
  unfold State.elect
  (try dsimp only)
  repeat' (split; (try (rename_i hq; (try (have hq' := congrArg Prod.fst hq; dsimp only at hq'; subst hq')))))
  all_goals (first | (simp; done) | (simp [foldl_fixed, foldl_fixed_fst, apply_ite State.fixed, *]; done) | rfl)

@[simp] theorem State.withdraw_fixed (s : State) (lane : Nat) : (State.withdraw s lane).fixed = s.fixed := by
  unfold State.withdraw
  (try dsimp only)
  repeat' (split; (try (rename_i hq; (try (have hq' := congrArg Prod.fst hq; dsimp only at hq'; subst hq')))))
  all_goals (first | (simp; done) | (simp [foldl_fixed, foldl_fixed_fst, apply_ite State.fixed, *]; done) | rfl)

@[simp] theorem State.judge_fixed (s : State) : (State.judge s).1.fixed = s.fixed := by
  unfold State.judge
  (try dsimp only)
  repeat' (split; (try (rename_i hq; (try (have hq' := congrArg Prod.fst hq; dsimp only at hq'; subst hq')))))
  all_goals (first | (simp; done) | (simp [foldl_fixed, foldl_fixed_fst, apply_ite State.fixed, *]; done) | rfl)

@[simp] theorem State.teamSince_fixed (old s : State) (f : State → State × List Notice) (hf : ∀ s, (f s).1.fixed = s.fixed) :
    (State.teamSince old s f).fixed = s.fixed := by
  unfold State.teamSince
  (try dsimp only)
  repeat' (split; (try (rename_i hq; (try (have hq' := congrArg Prod.fst hq; dsimp only at hq'; subst hq')))))
  all_goals (first | (simp; done) | (simp [foldl_fixed, foldl_fixed_fst, apply_ite State.fixed, *]; done) | rfl)

@[simp] theorem State.team_fixed (s : State) (f : State → State × List Notice) (hf : ∀ s, (f s).1.fixed = s.fixed) : (State.team s f).fixed = s.fixed :=
  State.teamSince_fixed s s f hf

@[simp] theorem State.keep_fixed (s : State) (r : ObjRow) (idx sub v : Nat) : (State.keep s r idx sub v).fixed = s.fixed := by
  unfold State.keep
  (try dsimp only)
  repeat' (split; (try (rename_i hq; (try (have hq' := congrArg Prod.fst hq; dsimp only at hq'; subst hq')))))
  all_goals (first | (simp; done) | (simp [foldl_fixed, foldl_fixed_fst, apply_ite State.fixed, *]; done) | rfl)

@[simp] theorem State.cancelSchedule_fixed (s : State) (n : Nat) : (State.cancelSchedule s n).1.fixed = s.fixed := by
  unfold State.cancelSchedule
  (try dsimp only)
  repeat' (split; (try (rename_i hq; (try (have hq' := congrArg Prod.fst hq; dsimp only at hq'; subst hq')))))
  all_goals (first | (simp; done) | (simp [foldl_fixed, foldl_fixed_fst, apply_ite State.fixed, *]; done) | rfl)

@[simp] theorem State.laneCommand_fixed (s : State) (n : Nat) (d : Drive) : (State.laneCommand s n d).state.fixed = s.fixed := by
  unfold State.laneCommand
  (try dsimp only)
  repeat' (split; (try (rename_i hq; (try (have hq' := congrArg Prod.fst hq; dsimp only at hq'; subst hq')))))
  all_goals (first | (simp; done) | (simp [foldl_fixed, foldl_fixed_fst, apply_ite State.fixed, *]; done) | rfl)

@[simp] theorem State.laneUnlock_fixed (s : State) (n : Nat) : (State.laneUnlock s n).state.fixed = s.fixed := by
  unfold State.laneUnlock
  (try dsimp only)
  repeat' (split; (try (rename_i hq; (try (have hq' := congrArg Prod.fst hq; dsimp only at hq'; subst hq')))))
  all_goals (first | (simp; done) | (simp [foldl_fixed, foldl_fixed_fst, apply_ite State.fixed, *]; done) | rfl)

@[simp] theorem State.laneSnapshot_fixed (s : State) (n : Nat) : (State.laneSnapshot s n).state.fixed = s.fixed := by
  unfold State.laneSnapshot
  (try dsimp only)
  repeat' (split; (try (rename_i hq; (try (have hq' := congrArg Prod.fst hq; dsimp only at hq'; subst hq')))))
  all_goals (first | (simp; done) | (simp [foldl_fixed, foldl_fixed_fst, apply_ite State.fixed, *]; done) | rfl)

@[simp] theorem State.offLanes_fixed (s : State) (lanes : List Nat) : (State.offLanes s lanes).1.fixed = s.fixed := by
  unfold State.offLanes
  (try dsimp only)
  repeat' (split; (try (rename_i hq; (try (have hq' := congrArg Prod.fst hq; dsimp only at hq'; subst hq')))))
  all_goals (first | (simp; done) | (simp [foldl_fixed, foldl_fixed_fst, apply_ite State.fixed, *]; done) | rfl)

@[simp] theorem State.patternCommand_fixed (s : State) (chans lanes : List Nat) (v : Nat) : (State.patternCommand s chans lanes v).state.fixed = s.fixed := by
  unfold State.patternCommand
  (try dsimp only)
  repeat' (split; (try (rename_i hq; (try (have hq' := congrArg Prod.fst hq; dsimp only at hq'; subst hq')))))
  all_goals (first | (simp; done) | (simp [foldl_fixed, foldl_fixed_fst, apply_ite State.fixed, *]; done) | rfl)

@[simp] theorem State.lanePattern_fixed (s : State) (n v : Nat) : (State.lanePattern s n v).state.fixed = s.fixed := by
  unfold State.lanePattern
  (try dsimp only)
  repeat' (split; (try (rename_i hq; (try (have hq' := congrArg Prod.fst hq; dsimp only at hq'; subst hq')))))
  all_goals (first | (simp; done) | (simp [foldl_fixed, foldl_fixed_fst, apply_ite State.fixed, *]; done) | rfl)

@[simp] theorem State.bankPatternWrite_fixed (s : State) (b v : Nat) : (State.bankPatternWrite s b v).state.fixed = s.fixed := by
  unfold State.bankPatternWrite
  (try dsimp only)
  repeat' (split; (try (rename_i hq; (try (have hq' := congrArg Prod.fst hq; dsimp only at hq'; subst hq')))))
  all_goals (first | (simp; done) | (simp [foldl_fixed, foldl_fixed_fst, apply_ite State.fixed, *]; done) | rfl)

@[simp] theorem State.resolveNow_fixed (s : State) (n at_ : Nat) : (State.resolveNow s n at_).fixed = s.fixed := by
  unfold State.resolveNow
  (try dsimp only)
  repeat' (split; (try (rename_i hq; (try (have hq' := congrArg Prod.fst hq; dsimp only at hq'; subst hq')))))
  all_goals (first | (simp; done) | (simp [foldl_fixed, foldl_fixed_fst, apply_ite State.fixed, *]; done) | rfl)

@[simp] theorem State.scheduleWrite_fixed (s : State) (n v : Nat) : (State.scheduleWrite s n v).state.fixed = s.fixed := by
  unfold State.scheduleWrite
  (try dsimp only)
  repeat' (split; (try (rename_i hq; (try (have hq' := congrArg Prod.fst hq; dsimp only at hq'; subst hq')))))
  all_goals (first | (simp; done) | (simp [foldl_fixed, foldl_fixed_fst, apply_ite State.fixed, *]; done) | rfl)

@[simp] theorem State.shedPriority_fixed (s : State) (r : ObjRow) (n v : Nat) : (State.shedPriority s r n v).fixed = s.fixed := by
  unfold State.shedPriority
  (try dsimp only)
  repeat' (split; (try (rename_i hq; (try (have hq' := congrArg Prod.fst hq; dsimp only at hq'; subst hq')))))
  all_goals (first | (simp; done) | (simp [foldl_fixed, foldl_fixed_fst, apply_ite State.fixed, *]; done) | rfl)

@[simp] theorem State.writeLane_fixed (s : State) (r : ObjRow) (n g sub v : Nat) : (State.writeLane s r n g sub v).state.fixed = s.fixed := by
  unfold State.writeLane
  (try dsimp only)
  repeat' (split; (try (rename_i hq; (try (have hq' := congrArg Prod.fst hq; dsimp only at hq'; subst hq')))))
  all_goals (first | (simp; done) | (simp [foldl_fixed, foldl_fixed_fst, apply_ite State.fixed, *]; done) | rfl)

@[simp] theorem State.commitWrite_fixed (s : State) : (State.commitWrite s).state.fixed = s.fixed := by
  unfold State.commitWrite
  (try dsimp only)
  repeat' (split; (try (rename_i hq; (try (have hq' := congrArg Prod.fst hq; dsimp only at hq'; subst hq')))))
  all_goals (first | (simp; done) | (simp [foldl_fixed, foldl_fixed_fst, apply_ite State.fixed, *]; done) | rfl)

@[simp] theorem State.applyMap_fixed (s : State) (m : List Nat) (code : Nat) : (State.applyMap s m code).1.fixed = s.fixed := by
  unfold State.applyMap
  (try dsimp only)
  repeat' (split; (try (rename_i hq; (try (have hq' := congrArg Prod.fst hq; dsimp only at hq'; subst hq')))))
  all_goals (first | (simp; done) | (simp [foldl_fixed, foldl_fixed_fst, apply_ite State.fixed, *]; done) | rfl)

@[simp] theorem State.commitApply_fixed (s : State) : (State.commitApply s).fixed = s.fixed := by
  unfold State.commitApply
  (try dsimp only)
  repeat' (split; (try (rename_i hq; (try (have hq' := congrArg Prod.fst hq; dsimp only at hq'; subst hq')))))
  all_goals (first | (simp; done) | (simp [foldl_fixed, foldl_fixed_fst, apply_ite State.fixed, *]; done) | rfl)

@[simp] theorem State.slotWrite_fixed (s : State) (r : ObjRow) (slot sub v : Nat) : (State.slotWrite s r slot sub v).state.fixed = s.fixed := by
  unfold State.slotWrite
  (try dsimp only)
  repeat' (split; (try (rename_i hq; (try (have hq' := congrArg Prod.fst hq; dsimp only at hq'; subst hq')))))
  all_goals (first | (simp; done) | (simp [foldl_fixed, foldl_fixed_fst, apply_ite State.fixed, *]; done) | rfl)

@[simp] theorem State.writeMap_fixed (s : State) (r : ObjRow) (idx sub v : Nat) : (State.writeMap s r idx sub v).state.fixed = s.fixed := by
  unfold State.writeMap
  (try dsimp only)
  repeat' (split; (try (rename_i hq; (try (have hq' := congrArg Prod.fst hq; dsimp only at hq'; subst hq')))))
  all_goals (first | (simp; done) | (simp [foldl_fixed, foldl_fixed_fst, apply_ite State.fixed, *]; done) | rfl)

@[simp] theorem State.dogForce_fixed (s : State) (kind : Nat) : (State.dogForce s kind).fixed = s.fixed := by
  unfold State.dogForce
  (try dsimp only)
  repeat' (split; (try (rename_i hq; (try (have hq' := congrArg Prod.fst hq; dsimp only at hq'; subst hq')))))
  all_goals (first | (simp; done) | (simp [foldl_fixed, foldl_fixed_fst, apply_ite State.fixed, *]; done) | rfl)

@[simp] theorem State.dogMiss_fixed (s : State) (kind next : Nat) : (State.dogMiss s kind next).fixed = s.fixed := by
  unfold State.dogMiss
  (try dsimp only)
  repeat' (split; (try (rename_i hq; (try (have hq' := congrArg Prod.fst hq; dsimp only at hq'; subst hq')))))
  all_goals (first | (simp; done) | (simp [foldl_fixed, foldl_fixed_fst, apply_ite State.fixed, *]; done) | rfl)

@[simp] theorem State.dogLate_fixed (s : State) (at_ n : Nat) : (s.dogLate at_ n).fixed = s.fixed := by
  induction n generalizing s with
  | zero => rfl
  | succ n ih =>
    unfold State.dogLate
    dsimp only
    split
    · simp [ih]
    · rfl

@[simp] theorem State.dogRelease_fixed (s : State) : (State.dogRelease s).1.fixed = s.fixed := by
  unfold State.dogRelease
  (try dsimp only)
  repeat' (split; (try (rename_i hq; (try (have hq' := congrArg Prod.fst hq; dsimp only at hq'; subst hq')))))
  all_goals (first | (simp; done) | (simp [foldl_fixed, foldl_fixed_fst, apply_ite State.fixed, *]; done) | rfl)

@[simp] theorem State.dogArm_fixed (s : State) (o : Origin) (seed : Nat) : (State.dogArm s o seed).state.fixed = s.fixed := by
  unfold State.dogArm
  (try dsimp only)
  repeat' (split; (try (rename_i hq; (try (have hq' := congrArg Prod.fst hq; dsimp only at hq'; subst hq')))))
  all_goals (first | (simp; done) | (simp [foldl_fixed, foldl_fixed_fst, apply_ite State.fixed, *]; done) | rfl)

@[simp] theorem State.dogDisarm_fixed (s : State) (o : Origin) : (State.dogDisarm s o).state.fixed = s.fixed := by
  unfold State.dogDisarm
  (try dsimp only)
  repeat' (split; (try (rename_i hq; (try (have hq' := congrArg Prod.fst hq; dsimp only at hq'; subst hq')))))
  all_goals (first | (simp; done) | (simp [foldl_fixed, foldl_fixed_fst, apply_ite State.fixed, *]; done) | rfl)

@[simp] theorem State.dogToken_fixed (s : State) (o : Origin) (v : Nat) : (State.dogToken s o v).state.fixed = s.fixed := by
  unfold State.dogToken
  (try dsimp only)
  repeat' (split; (try (rename_i hq; (try (have hq' := congrArg Prod.fst hq; dsimp only at hq'; subst hq')))))
  all_goals (first | (simp; done) | (simp [foldl_fixed, foldl_fixed_fst, apply_ite State.fixed, *]; done) | rfl)

@[simp] theorem State.dogBegin_fixed (s : State) : (State.dogBegin s).fixed = s.fixed := by
  unfold State.dogBegin
  (try dsimp only)
  repeat' (split; (try (rename_i hq; (try (have hq' := congrArg Prod.fst hq; dsimp only at hq'; subst hq')))))
  all_goals (first | (simp; done) | (simp [foldl_fixed, foldl_fixed_fst, apply_ite State.fixed, *]; done) | rfl)

@[simp] theorem State.dogDeadline_fixed (s : State) : (State.dogDeadline s).fixed = s.fixed := by
  unfold State.dogDeadline
  (try dsimp only)
  repeat' (split; (try (rename_i hq; (try (have hq' := congrArg Prod.fst hq; dsimp only at hq'; subst hq')))))
  all_goals (first | (simp; done) | (simp [foldl_fixed, foldl_fixed_fst, apply_ite State.fixed, *]; done) | rfl)

@[simp] theorem State.transportWrite_fixed (s : State) (r : ObjRow) (sub v : Nat) : (State.transportWrite s r sub v).state.fixed = s.fixed := by
  unfold State.transportWrite
  (try dsimp only)
  repeat' (split; (try (rename_i hq; (try (have hq' := congrArg Prod.fst hq; dsimp only at hq'; subst hq')))))
  all_goals (first | (simp; done) | (simp [foldl_fixed, foldl_fixed_fst, apply_ite State.fixed, *]; done) | rfl)

@[simp] theorem State.keyWritten_fixed (s : State) (role : Role) (key : Nat) : (State.keyWritten s role key).state.fixed = s.fixed := by
  unfold State.keyWritten
  (try dsimp only)
  repeat' (split; (try (rename_i hq; (try (have hq' := congrArg Prod.fst hq; dsimp only at hq'; subst hq')))))
  all_goals (first | (simp; done) | (simp [foldl_fixed, foldl_fixed_fst, apply_ite State.fixed, *]; done) | rfl)

@[simp] theorem State.writeComm_fixed (s : State) (r : ObjRow) (idx sub v : Nat) : (State.writeComm s r idx sub v).state.fixed = s.fixed := by
  unfold State.writeComm
  (try dsimp only)
  repeat' (split; (try (rename_i hq; (try (have hq' := congrArg Prod.fst hq; dsimp only at hq'; subst hq')))))
  all_goals (first | (simp; done) | (simp [foldl_fixed, foldl_fixed_fst, apply_ite State.fixed, *]; done) | rfl)

@[simp] theorem State.resetWrite_fixed (s : State) (sub v : Nat) : (State.resetWrite s sub v).state.fixed = s.fixed := by
  unfold State.resetWrite
  (try dsimp only)
  repeat' (split; (try (rename_i hq; (try (have hq' := congrArg Prod.fst hq; dsimp only at hq'; subst hq')))))
  all_goals (first | (simp; done) | (simp [foldl_fixed, foldl_fixed_fst, apply_ite State.fixed, *]; done) | rfl)

@[simp] theorem State.readmitWrite_fixed (s : State) (v : Nat) : (State.readmitWrite s v).state.fixed = s.fixed := by
  unfold State.readmitWrite
  (try dsimp only)
  repeat' (split; (try (rename_i hq; (try (have hq' := congrArg Prod.fst hq; dsimp only at hq'; subst hq')))))
  all_goals (first | (simp; done) | (simp [foldl_fixed, foldl_fixed_fst, apply_ite State.fixed, *]; done) | rfl)

@[simp] theorem State.levelWrite_fixed (s : State) (r : ObjRow) (sub v : Nat) : (State.levelWrite s r sub v).state.fixed = s.fixed := by
  unfold State.levelWrite
  (try dsimp only)
  repeat' (split; (try (rename_i hq; (try (have hq' := congrArg Prod.fst hq; dsimp only at hq'; subst hq')))))
  all_goals (first | (simp; done) | (simp [foldl_fixed, foldl_fixed_fst, apply_ite State.fixed, *]; done) | rfl)

@[simp] theorem State.permitWrite_fixed (s : State) (r : ObjRow) (sub v : Nat) : (State.permitWrite s r sub v).state.fixed = s.fixed := by
  unfold State.permitWrite
  (try dsimp only)
  repeat' (split; (try (rename_i hq; (try (have hq' := congrArg Prod.fst hq; dsimp only at hq'; subst hq')))))
  all_goals (first | (simp; done) | (simp [foldl_fixed, foldl_fixed_fst, apply_ite State.fixed, *]; done) | rfl)

@[simp] theorem State.holdWrite_fixed (s : State) (r : ObjRow) (sub v : Nat) : (State.holdWrite s r sub v).state.fixed = s.fixed := by
  unfold State.holdWrite
  (try dsimp only)
  repeat' (split; (try (rename_i hq; (try (have hq' := congrArg Prod.fst hq; dsimp only at hq'; subst hq')))))
  all_goals (first | (simp; done) | (simp [foldl_fixed, foldl_fixed_fst, apply_ite State.fixed, *]; done) | rfl)

@[simp] theorem State.dogWrite_fixed (s : State) (r : ObjRow) (o : Origin) (sub v : Nat) : (State.dogWrite s r o sub v).state.fixed = s.fixed := by
  unfold State.dogWrite
  (try dsimp only)
  repeat' (split; (try (rename_i hq; (try (have hq' := congrArg Prod.fst hq; dsimp only at hq'; subst hq')))))
  all_goals (first | (simp; done) | (simp [foldl_fixed, foldl_fixed_fst, apply_ite State.fixed, *]; done) | rfl)

@[simp] theorem State.lapSnapshot_fixed (s : State) : (State.lapSnapshot s).fixed = s.fixed := by
  unfold State.lapSnapshot
  (try dsimp only)
  repeat' (split; (try (rename_i hq; (try (have hq' := congrArg Prod.fst hq; dsimp only at hq'; subst hq')))))
  all_goals (first | (simp; done) | (simp [foldl_fixed, foldl_fixed_fst, apply_ite State.fixed, *]; done) | rfl)

@[simp] theorem State.presetWrite_fixed (s : State) (r : ObjRow) (v : Nat) : (State.presetWrite s r v).state.fixed = s.fixed := by
  unfold State.presetWrite
  (try dsimp only)
  repeat' (split; (try (rename_i hq; (try (have hq' := congrArg Prod.fst hq; dsimp only at hq'; subst hq')))))
  all_goals (first | (simp; done) | (simp [foldl_fixed, foldl_fixed_fst, apply_ite State.fixed, *]; done) | rfl)

@[simp] theorem State.armCapture_fixed (s : State) : (State.armCapture s).state.fixed = s.fixed := by
  unfold State.armCapture
  (try dsimp only)
  repeat' (split; (try (rename_i hq; (try (have hq' := congrArg Prod.fst hq; dsimp only at hq'; subst hq')))))
  all_goals (first | (simp; done) | (simp [foldl_fixed, foldl_fixed_fst, apply_ite State.fixed, *]; done) | rfl)

@[simp] theorem State.captureWrite_fixed (s : State) (v : Nat) : (State.captureWrite s v).state.fixed = s.fixed := by
  unfold State.captureWrite
  (try dsimp only)
  repeat' (split; (try (rename_i hq; (try (have hq' := congrArg Prod.fst hq; dsimp only at hq'; subst hq')))))
  all_goals (first | (simp; done) | (simp [foldl_fixed, foldl_fixed_fst, apply_ite State.fixed, *]; done) | rfl)

@[simp] theorem State.q7Write_fixed (s : State) (v : Nat) : (State.q7Write s v).state.fixed = s.fixed := by
  unfold State.q7Write
  (try dsimp only)
  repeat' (split; (try (rename_i hq; (try (have hq' := congrArg Prod.fst hq; dsimp only at hq'; subst hq')))))
  all_goals (first | (simp; done) | (simp [foldl_fixed, foldl_fixed_fst, apply_ite State.fixed, *]; done) | rfl)

@[simp] theorem State.writeDevice_fixed (s : State) (r : ObjRow) (o : Origin) (idx sub v : Nat) : (State.writeDevice s r o idx sub v).state.fixed = s.fixed := by
  unfold State.writeDevice
  (try dsimp only)
  repeat' (split; (try (rename_i hq; (try (have hq' := congrArg Prod.fst hq; dsimp only at hq'; subst hq')))))
  all_goals (first | (simp; done) | (simp [foldl_fixed, foldl_fixed_fst, apply_ite State.fixed, *]; done) | rfl)

@[simp] theorem State.pumpQ3_fixed (s : State) : (State.pumpQ3 s).fixed = s.fixed := by
  unfold State.pumpQ3
  (try dsimp only)
  repeat' (split; (try (rename_i hq; (try (have hq' := congrArg Prod.fst hq; dsimp only at hq'; subst hq')))))
  all_goals (first | (simp; done) | (simp [foldl_fixed, foldl_fixed_fst, apply_ite State.fixed, *]; done) | rfl)

@[simp] theorem State.startPort_fixed (s : State) (i : Nat) : (State.startPort s i).fixed = s.fixed := by
  unfold State.startPort
  (try dsimp only)
  repeat' (split; (try (rename_i hq; (try (have hq' := congrArg Prod.fst hq; dsimp only at hq'; subst hq')))))
  all_goals (first | (simp; done) | (simp [foldl_fixed, foldl_fixed_fst, apply_ite State.fixed, *]; done) | rfl)

@[simp] theorem State.stopPort_fixed (s : State) (i : Nat) (inReset : Bool) : (State.stopPort s i inReset).fixed = s.fixed := by
  unfold State.stopPort
  (try dsimp only)
  repeat' (split; (try (rename_i hq; (try (have hq' := congrArg Prod.fst hq; dsimp only at hq'; subst hq')))))
  all_goals (first | (simp; done) | (simp [foldl_fixed, foldl_fixed_fst, apply_ite State.fixed, *]; done) | rfl)

@[simp] theorem State.onTime_fixed (s : State) (f : TimeDomains → TimeDomains × List Notice) : (State.onTime s f).fixed = s.fixed := by
  unfold State.onTime
  (try dsimp only)
  repeat' (split; (try (rename_i hq; (try (have hq' := congrArg Prod.fst hq; dsimp only at hq'; subst hq')))))
  all_goals (first | (simp; done) | (simp [foldl_fixed, foldl_fixed_fst, apply_ite State.fixed, *]; done) | rfl)

@[simp] theorem State.gptpWrite_fixed (s : State) (r : ObjRow) (sub v : Nat) : (State.gptpWrite s r sub v).state.fixed = s.fixed := by
  unfold State.gptpWrite
  (try dsimp only)
  repeat' (split; (try (rename_i hq; (try (have hq' := congrArg Prod.fst hq; dsimp only at hq'; subst hq')))))
  all_goals (first | (simp; done) | (simp [foldl_fixed, foldl_fixed_fst, apply_ite State.fixed, *]; done) | rfl)

@[simp] theorem State.incrementSet_fixed (s : State) (v : Nat) : (State.incrementSet s v).state.fixed = s.fixed := by
  unfold State.incrementSet
  (try dsimp only)
  repeat' (split; (try (rename_i hq; (try (have hq' := congrArg Prod.fst hq; dsimp only at hq'; subst hq')))))
  all_goals (first | (simp; done) | (simp [foldl_fixed, foldl_fixed_fst, apply_ite State.fixed, *]; done) | rfl)

@[simp] theorem State.ownerWrite_fixed (s : State) (v : Nat) : (State.ownerWrite s v).state.fixed = s.fixed := by
  unfold State.ownerWrite
  (try dsimp only)
  repeat' (split; (try (rename_i hq; (try (have hq' := congrArg Prod.fst hq; dsimp only at hq'; subst hq')))))
  all_goals (first | (simp; done) | (simp [foldl_fixed, foldl_fixed_fst, apply_ite State.fixed, *]; done) | rfl)

@[simp] theorem State.ppsWrite_fixed (s : State) (r : ObjRow) (v : Nat) : (State.ppsWrite s r v).state.fixed = s.fixed := by
  unfold State.ppsWrite
  (try dsimp only)
  repeat' (split; (try (rename_i hq; (try (have hq' := congrArg Prod.fst hq; dsimp only at hq'; subst hq')))))
  all_goals (first | (simp; done) | (simp [foldl_fixed, foldl_fixed_fst, apply_ite State.fixed, *]; done) | rfl)

@[simp] theorem State.writeTime_fixed (s : State) (r : ObjRow) (idx sub v : Nat) : (State.writeTime s r idx sub v).state.fixed = s.fixed := by
  unfold State.writeTime
  (try dsimp only)
  repeat' (split; (try (rename_i hq; (try (have hq' := congrArg Prod.fst hq; dsimp only at hq'; subst hq')))))
  all_goals (first | (simp; done) | (simp [foldl_fixed, foldl_fixed_fst, apply_ite State.fixed, *]; done) | rfl)

@[simp] theorem State.portWrite_fixed (s : State) (r : ObjRow) (n sub v : Nat) : (State.portWrite s r n sub v).state.fixed = s.fixed := by
  unfold State.portWrite
  (try dsimp only)
  repeat' (split; (try (rename_i hq; (try (have hq' := congrArg Prod.fst hq; dsimp only at hq'; subst hq')))))
  all_goals (first | (simp; done) | (simp [foldl_fixed, foldl_fixed_fst, apply_ite State.fixed, *]; done) | rfl)

@[simp] theorem State.queueWrite_fixed (s : State) (q sub v : Nat) : (State.queueWrite s q sub v).state.fixed = s.fixed := by
  unfold State.queueWrite
  (try dsimp only)
  repeat' (split; (try (rename_i hq; (try (have hq' := congrArg Prod.fst hq; dsimp only at hq'; subst hq')))))
  all_goals (first | (simp; done) | (simp [foldl_fixed, foldl_fixed_fst, apply_ite State.fixed, *]; done) | rfl)

@[simp] theorem State.writeNet_fixed (s : State) (r : ObjRow) (idx sub v : Nat) : (State.writeNet s r idx sub v).state.fixed = s.fixed := by
  unfold State.writeNet
  (try dsimp only)
  repeat' (split; (try (rename_i hq; (try (have hq' := congrArg Prod.fst hq; dsimp only at hq'; subst hq')))))
  all_goals (first | (simp; done) | (simp [foldl_fixed, foldl_fixed_fst, apply_ite State.fixed, *]; done) | rfl)

@[simp] theorem State.releaseScopes_fixed (s : State) (source : Nat) (ended : List Scope) : (State.releaseScopes s source ended).fixed = s.fixed := by
  unfold State.releaseScopes
  (try dsimp only)
  repeat' (split; (try (rename_i hq; (try (have hq' := congrArg Prod.fst hq; dsimp only at hq'; subst hq')))))
  all_goals (first | (simp; done) | (simp [foldl_fixed, foldl_fixed_fst, apply_ite State.fixed, *]; done) | rfl)

@[simp] theorem State.clearSource_fixed (s : State) (o : Origin) (i : Nat) : (State.clearSource s o i).state.fixed = s.fixed := by
  unfold State.clearSource
  (try dsimp only)
  repeat' (split; (try (rename_i hq; (try (have hq' := congrArg Prod.fst hq; dsimp only at hq'; subst hq')))))
  all_goals (first | (simp; done) | (simp [foldl_fixed, foldl_fixed_fst, apply_ite State.fixed, *]; done) | rfl)

@[simp] theorem State.clearAllSources_fixed (s : State) (o : Origin) : (State.clearAllSources s o).state.fixed = s.fixed := by
  unfold State.clearAllSources
  (try dsimp only)
  repeat' (split; (try (rename_i hq; (try (have hq' := congrArg Prod.fst hq; dsimp only at hq'; subst hq')))))
  all_goals (first | (simp; done) | (simp [foldl_fixed, foldl_fixed_fst, apply_ite State.fixed, *]; done) | rfl)

@[simp] theorem State.clearRecord_fixed (s : State) (o : Origin) : (State.clearRecord s o).state.fixed = s.fixed := by
  unfold State.clearRecord
  (try dsimp only)
  repeat' (split; (try (rename_i hq; (try (have hq' := congrArg Prod.fst hq; dsimp only at hq'; subst hq')))))
  all_goals (first | (simp; done) | (simp [foldl_fixed, foldl_fixed_fst, apply_ite State.fixed, *]; done) | rfl)

@[simp] theorem State.acknowledge_fixed (s : State) (o : Origin) (i : Nat) : (State.acknowledge s o i).state.fixed = s.fixed := by
  unfold State.acknowledge
  (try dsimp only)
  repeat' (split; (try (rename_i hq; (try (have hq' := congrArg Prod.fst hq; dsimp only at hq'; subst hq')))))
  all_goals (first | (simp; done) | (simp [foldl_fixed, foldl_fixed_fst, apply_ite State.fixed, *]; done) | rfl)

@[simp] theorem State.ceilingWrite_fixed (s : State) (r : ObjRow) (i v : Nat) : (State.ceilingWrite s r i v).state.fixed = s.fixed := by
  unfold State.ceilingWrite
  (try dsimp only)
  repeat' (split; (try (rename_i hq; (try (have hq' := congrArg Prod.fst hq; dsimp only at hq'; subst hq')))))
  all_goals (first | (simp; done) | (simp [foldl_fixed, foldl_fixed_fst, apply_ite State.fixed, *]; done) | rfl)

@[simp] theorem State.forceWrite_fixed (s : State) (v : Nat) : (State.forceWrite s v).state.fixed = s.fixed := by
  unfold State.forceWrite
  (try dsimp only)
  repeat' (split; (try (rename_i hq; (try (have hq' := congrArg Prod.fst hq; dsimp only at hq'; subst hq')))))
  all_goals (first | (simp; done) | (simp [foldl_fixed, foldl_fixed_fst, apply_ite State.fixed, *]; done) | rfl)

@[simp] theorem State.senseTest_fixed (s : State) (level : Bool) : (State.senseTest s level).fixed = s.fixed := by
  unfold State.senseTest
  (try dsimp only)
  repeat' (split; (try (rename_i hq; (try (have hq' := congrArg Prod.fst hq; dsimp only at hq'; subst hq')))))
  all_goals (first | (simp; done) | (simp [foldl_fixed, foldl_fixed_fst, apply_ite State.fixed, *]; done) | rfl)

@[simp] theorem State.keyStep_fixed (s : State) (o : Origin) (v : Nat) : (State.keyStep s o v).state.fixed = s.fixed := by
  unfold State.keyStep
  (try dsimp only)
  repeat' (split; (try (rename_i hq; (try (have hq' := congrArg Prod.fst hq; dsimp only at hq'; subst hq')))))
  all_goals (first | (simp; done) | (simp [foldl_fixed, foldl_fixed_fst, apply_ite State.fixed, *]; done) | rfl)

@[simp] theorem State.inject_fixed (s : State) (v : Nat) : (State.inject s v).state.fixed = s.fixed := by
  unfold State.inject
  (try dsimp only)
  repeat' (split; (try (rename_i hq; (try (have hq' := congrArg Prod.fst hq; dsimp only at hq'; subst hq')))))
  all_goals (first | (simp; done) | (simp [foldl_fixed, foldl_fixed_fst, apply_ite State.fixed, *]; done) | rfl)

@[simp] theorem State.writeCollector_fixed (s : State) (r : ObjRow) (o : Origin) (idx sub v : Nat) : (State.writeCollector s r o idx sub v).state.fixed = s.fixed := by
  unfold State.writeCollector
  split <;> (try split) <;> simp
@[simp] theorem State.notify_base (s : State) (ns : List Notice) : (State.notify s ns).base = s.base := base_of_fixed (State.notify_fixed s ns)
@[simp] theorem State.notify_wf (s : State) (ns : List Notice) : Memory.wf (State.notify s ns) = Memory.wf s := wf_of_fixed (State.notify_fixed s ns)
@[simp] theorem State.after_base (s : State) (f : Hub → Hub) (ns : List Notice) : (State.after s f ns).base = s.base := base_of_fixed (State.after_fixed s f ns)
@[simp] theorem State.after_wf (s : State) (f : Hub → Hub) (ns : List Notice) : Memory.wf (State.after s f ns) = Memory.wf s := wf_of_fixed (State.after_fixed s f ns)
@[simp] theorem State.storeSave_base (s : State) : (State.storeSave s).base = s.base := base_of_fixed (State.storeSave_fixed s)
@[simp] theorem State.storeSave_wf (s : State) : Memory.wf (State.storeSave s) = Memory.wf s := wf_of_fixed (State.storeSave_fixed s)
@[simp] theorem State.storeNext_base (s : State) : (State.storeNext s).base = s.base := base_of_fixed (State.storeNext_fixed s)
@[simp] theorem State.storeNext_wf (s : State) : Memory.wf (State.storeNext s) = Memory.wf s := wf_of_fixed (State.storeNext_fixed s)
@[simp] theorem State.flushDone_base (s : State) : (State.flushDone s).base = s.base := base_of_fixed (State.flushDone_fixed s)
@[simp] theorem State.flushDone_wf (s : State) : Memory.wf (State.flushDone s) = Memory.wf s := wf_of_fixed (State.flushDone_fixed s)
@[simp] theorem State.storeDone_base (s : State) (verified : Bool) : (State.storeDone s verified).base = s.base := base_of_fixed (State.storeDone_fixed s verified)
@[simp] theorem State.storeDone_wf (s : State) (verified : Bool) : Memory.wf (State.storeDone s verified) = Memory.wf s := wf_of_fixed (State.storeDone_fixed s verified)
@[simp] theorem State.journalWrite_base (s : State) : (State.journalWrite s).base = s.base := base_of_fixed (State.journalWrite_fixed s)
@[simp] theorem State.journalWrite_wf (s : State) : Memory.wf (State.journalWrite s) = Memory.wf s := wf_of_fixed (State.journalWrite_fixed s)
@[simp] theorem State.post_base (s : State) (data : List Byte) : (State.post s data).base = s.base := base_of_fixed (State.post_fixed s data)
@[simp] theorem State.post_wf (s : State) (data : List Byte) : Memory.wf (State.post s data) = Memory.wf s := wf_of_fixed (State.post_fixed s data)
@[simp] theorem State.sendTo_base (s : State) (path : Option NetPath) (data : List Byte) : (State.sendTo s path data).base = s.base := base_of_fixed (State.sendTo_fixed s path data)
@[simp] theorem State.sendTo_wf (s : State) (path : Option NetPath) (data : List Byte) : Memory.wf (State.sendTo s path data) = Memory.wf s := wf_of_fixed (State.sendTo_fixed s path data)
@[simp] theorem State.doAfter_base (s : State) (a : After) : (State.doAfter s a).base = s.base := base_of_fixed (State.doAfter_fixed s a)
@[simp] theorem State.doAfter_wf (s : State) (a : After) : Memory.wf (State.doAfter s a) = Memory.wf s := wf_of_fixed (State.doAfter_fixed s a)
@[simp] theorem State.flush_base (s : State) (n : Nat) : (State.flush s n).base = s.base := base_of_fixed (State.flush_fixed s n)
@[simp] theorem State.flush_wf (s : State) (n : Nat) : Memory.wf (State.flush s n) = Memory.wf s := wf_of_fixed (State.flush_fixed s n)
@[simp] theorem State.build_base (s : State) (o : Origin) (body : List Byte) : (State.build s o body).1.base = s.base := base_of_fixed (State.build_fixed s o body)
@[simp] theorem State.build_wf (s : State) (o : Origin) (body : List Byte) : Memory.wf (State.build s o body).1 = Memory.wf s := wf_of_fixed (State.build_fixed s o body)
@[simp] theorem State.answerNow_base (s : State) (o : Origin) (status : Nat) (fields : List Byte) (after : After := {}) : (State.answerNow s o status fields after).base = s.base := base_of_fixed (State.answerNow_fixed s o status fields after)
@[simp] theorem State.answerNow_wf (s : State) (o : Origin) (status : Nat) (fields : List Byte) (after : After := {}) : Memory.wf (State.answerNow s o status fields after) = Memory.wf s := wf_of_fixed (State.answerNow_fixed s o status fields after)
@[simp] theorem State.respond_base (s : State) (o : Origin) (status : Nat) (fields : List Byte := []) (after : After := {}) : (State.respond s o status fields after).base = s.base := base_of_fixed (State.respond_fixed s o status fields after)
@[simp] theorem State.respond_wf (s : State) (o : Origin) (status : Nat) (fields : List Byte := []) (after : After := {}) : Memory.wf (State.respond s o status fields after) = Memory.wf s := wf_of_fixed (State.respond_fixed s o status fields after)
@[simp] theorem State.accept_base (s : State) : (State.accept s).state.base = s.base := base_of_fixed (State.accept_fixed s)
@[simp] theorem State.accept_wf (s : State) : Memory.wf (State.accept s).state = Memory.wf s := wf_of_fixed (State.accept_fixed s)
@[simp] theorem State.deny_base (s : State) (code : Nat) : (State.deny s code).state.base = s.base := base_of_fixed (State.deny_fixed s code)
@[simp] theorem State.deny_wf (s : State) (code : Nat) : Memory.wf (State.deny s code).state = Memory.wf s := wf_of_fixed (State.deny_fixed s code)
@[simp] theorem State.await_base (s : State) (ids : List (Nat × Nat)) : (State.await s ids).state.base = s.base := base_of_fixed (State.await_fixed s ids)
@[simp] theorem State.await_wf (s : State) (ids : List (Nat × Nat)) : Memory.wf (State.await s ids).state = Memory.wf s := wf_of_fixed (State.await_fixed s ids)
@[simp] theorem State.command_base (s : State) (orders : List Order) : (State.command s orders).state.base = s.base := base_of_fixed (State.command_fixed s orders)
@[simp] theorem State.command_wf (s : State) (orders : List Order) : Memory.wf (State.command s orders).state = Memory.wf s := wf_of_fixed (State.command_fixed s orders)
@[simp] theorem Written.finish_base (w : Written) (o : Origin) : (Written.finish w o).base = w.state.base := base_of_fixed (Written.finish_fixed w o)
@[simp] theorem Written.finish_wf (w : Written) (o : Origin) : Memory.wf (Written.finish w o) = Memory.wf w.state := wf_of_fixed (Written.finish_fixed w o)
@[simp] theorem State.answerWaiting_base (s : State) (done : List (Nat × Nat)) (status : Nat) : (State.answerWaiting s done status).base = s.base := base_of_fixed (State.answerWaiting_fixed s done status)
@[simp] theorem State.answerWaiting_wf (s : State) (done : List (Nat × Nat)) (status : Nat) : Memory.wf (State.answerWaiting s done status) = Memory.wf s := wf_of_fixed (State.answerWaiting_fixed s done status)
@[simp] theorem State.join_base (s : State) (pacer : Nat) : (State.join s pacer).base = s.base := base_of_fixed (State.join_fixed s pacer)
@[simp] theorem State.join_wf (s : State) (pacer : Nat) : Memory.wf (State.join s pacer) = Memory.wf s := wf_of_fixed (State.join_fixed s pacer)
@[simp] theorem State.form_base (s : State) : (State.form s).base = s.base := base_of_fixed (State.form_fixed s)
@[simp] theorem State.form_wf (s : State) : Memory.wf (State.form s) = Memory.wf s := wf_of_fixed (State.form_fixed s)
@[simp] theorem State.elect_base (s : State) : (State.elect s).1.base = s.base := base_of_fixed (State.elect_fixed s)
@[simp] theorem State.elect_wf (s : State) : Memory.wf (State.elect s).1 = Memory.wf s := wf_of_fixed (State.elect_fixed s)
@[simp] theorem State.cancel_base (s : State) (reason : Nat) (f : IntentEntry → Bool) : (State.cancel s reason f).base = s.base := base_of_fixed (State.cancel_fixed s reason f)
@[simp] theorem State.cancel_wf (s : State) (reason : Nat) (f : IntentEntry → Bool) : Memory.wf (State.cancel s reason f) = Memory.wf s := wf_of_fixed (State.cancel_fixed s reason f)
@[simp] theorem State.propose_base (s : State) (lane : Nat) : (State.propose s lane).base = s.base := base_of_fixed (State.propose_fixed s lane)
@[simp] theorem State.propose_wf (s : State) (lane : Nat) : Memory.wf (State.propose s lane) = Memory.wf s := wf_of_fixed (State.propose_fixed s lane)
@[simp] theorem State.withdraw_base (s : State) (lane : Nat) : (State.withdraw s lane).base = s.base := base_of_fixed (State.withdraw_fixed s lane)
@[simp] theorem State.withdraw_wf (s : State) (lane : Nat) : Memory.wf (State.withdraw s lane) = Memory.wf s := wf_of_fixed (State.withdraw_fixed s lane)
@[simp] theorem State.judge_base (s : State) : (State.judge s).1.base = s.base := base_of_fixed (State.judge_fixed s)
@[simp] theorem State.judge_wf (s : State) : Memory.wf (State.judge s).1 = Memory.wf s := wf_of_fixed (State.judge_fixed s)
@[simp] theorem State.teamSince_base (old s : State) (f : State → State × List Notice) (hf : ∀ s, (f s).1.base = s.base) :
    (State.teamSince old s f).base = s.base := by
  unfold State.teamSince
  simp only [State.notify_base, State.onHub_base, State.mk_base]
  rw [State.base_eta, State.judge_base, hf]
@[simp] theorem State.teamSince_wf (old s : State) (f : State → State × List Notice) (hf : ∀ s, Memory.wf s = true → Memory.wf (f s).1 = true)
    (wf : Memory.wf s = true) : Memory.wf (State.teamSince old s f) = true := by
  unfold State.teamSince
  simp only [State.notify_wf, State.onHub_wf, State.mk_wf, State.judge_wf]
  exact hf s wf
@[simp] theorem State.team_base (s : State) (f : State → State × List Notice) (hf : ∀ s, (f s).1.base = s.base) : (s.team f).base = s.base :=
  State.teamSince_base s s f hf
@[simp] theorem State.team_wf (s : State) (f : State → State × List Notice) (hf : ∀ s, Memory.wf s = true → Memory.wf (f s).1 = true) (wf : Memory.wf s = true) :
    Memory.wf (s.team f) = true := State.teamSince_wf s s f hf wf
@[simp] theorem State.keep_base (s : State) (r : ObjRow) (idx sub v : Nat) : (State.keep s r idx sub v).base = s.base := base_of_fixed (State.keep_fixed s r idx sub v)
@[simp] theorem State.keep_wf (s : State) (r : ObjRow) (idx sub v : Nat) : Memory.wf (State.keep s r idx sub v) = Memory.wf s := wf_of_fixed (State.keep_fixed s r idx sub v)
@[simp] theorem State.cancelSchedule_base (s : State) (n : Nat) : (State.cancelSchedule s n).1.base = s.base := base_of_fixed (State.cancelSchedule_fixed s n)
@[simp] theorem State.cancelSchedule_wf (s : State) (n : Nat) : Memory.wf (State.cancelSchedule s n).1 = Memory.wf s := wf_of_fixed (State.cancelSchedule_fixed s n)
@[simp] theorem State.laneCommand_base (s : State) (n : Nat) (d : Drive) : (State.laneCommand s n d).state.base = s.base := base_of_fixed (State.laneCommand_fixed s n d)
@[simp] theorem State.laneCommand_wf (s : State) (n : Nat) (d : Drive) : Memory.wf (State.laneCommand s n d).state = Memory.wf s := wf_of_fixed (State.laneCommand_fixed s n d)
@[simp] theorem State.laneUnlock_base (s : State) (n : Nat) : (State.laneUnlock s n).state.base = s.base := base_of_fixed (State.laneUnlock_fixed s n)
@[simp] theorem State.laneUnlock_wf (s : State) (n : Nat) : Memory.wf (State.laneUnlock s n).state = Memory.wf s := wf_of_fixed (State.laneUnlock_fixed s n)
@[simp] theorem State.laneSnapshot_base (s : State) (n : Nat) : (State.laneSnapshot s n).state.base = s.base := base_of_fixed (State.laneSnapshot_fixed s n)
@[simp] theorem State.laneSnapshot_wf (s : State) (n : Nat) : Memory.wf (State.laneSnapshot s n).state = Memory.wf s := wf_of_fixed (State.laneSnapshot_fixed s n)
@[simp] theorem State.offLanes_base (s : State) (lanes : List Nat) : (State.offLanes s lanes).1.base = s.base := base_of_fixed (State.offLanes_fixed s lanes)
@[simp] theorem State.offLanes_wf (s : State) (lanes : List Nat) : Memory.wf (State.offLanes s lanes).1 = Memory.wf s := wf_of_fixed (State.offLanes_fixed s lanes)
@[simp] theorem State.patternCommand_base (s : State) (chans lanes : List Nat) (v : Nat) : (State.patternCommand s chans lanes v).state.base = s.base := base_of_fixed (State.patternCommand_fixed s chans lanes v)
@[simp] theorem State.patternCommand_wf (s : State) (chans lanes : List Nat) (v : Nat) : Memory.wf (State.patternCommand s chans lanes v).state = Memory.wf s := wf_of_fixed (State.patternCommand_fixed s chans lanes v)
@[simp] theorem State.lanePattern_base (s : State) (n v : Nat) : (State.lanePattern s n v).state.base = s.base := base_of_fixed (State.lanePattern_fixed s n v)
@[simp] theorem State.lanePattern_wf (s : State) (n v : Nat) : Memory.wf (State.lanePattern s n v).state = Memory.wf s := wf_of_fixed (State.lanePattern_fixed s n v)
@[simp] theorem State.bankPatternWrite_base (s : State) (b v : Nat) : (State.bankPatternWrite s b v).state.base = s.base := base_of_fixed (State.bankPatternWrite_fixed s b v)
@[simp] theorem State.bankPatternWrite_wf (s : State) (b v : Nat) : Memory.wf (State.bankPatternWrite s b v).state = Memory.wf s := wf_of_fixed (State.bankPatternWrite_fixed s b v)
@[simp] theorem State.resolveNow_base (s : State) (n at_ : Nat) : (State.resolveNow s n at_).base = s.base := base_of_fixed (State.resolveNow_fixed s n at_)
@[simp] theorem State.resolveNow_wf (s : State) (n at_ : Nat) : Memory.wf (State.resolveNow s n at_) = Memory.wf s := wf_of_fixed (State.resolveNow_fixed s n at_)
@[simp] theorem State.scheduleWrite_base (s : State) (n v : Nat) : (State.scheduleWrite s n v).state.base = s.base := base_of_fixed (State.scheduleWrite_fixed s n v)
@[simp] theorem State.scheduleWrite_wf (s : State) (n v : Nat) : Memory.wf (State.scheduleWrite s n v).state = Memory.wf s := wf_of_fixed (State.scheduleWrite_fixed s n v)
@[simp] theorem State.shedPriority_base (s : State) (r : ObjRow) (n v : Nat) : (State.shedPriority s r n v).base = s.base := base_of_fixed (State.shedPriority_fixed s r n v)
@[simp] theorem State.shedPriority_wf (s : State) (r : ObjRow) (n v : Nat) : Memory.wf (State.shedPriority s r n v) = Memory.wf s := wf_of_fixed (State.shedPriority_fixed s r n v)
@[simp] theorem State.writeLane_base (s : State) (r : ObjRow) (n g sub v : Nat) : (State.writeLane s r n g sub v).state.base = s.base := base_of_fixed (State.writeLane_fixed s r n g sub v)
@[simp] theorem State.writeLane_wf (s : State) (r : ObjRow) (n g sub v : Nat) : Memory.wf (State.writeLane s r n g sub v).state = Memory.wf s := wf_of_fixed (State.writeLane_fixed s r n g sub v)
@[simp] theorem State.commitWrite_base (s : State) : (State.commitWrite s).state.base = s.base := base_of_fixed (State.commitWrite_fixed s)
@[simp] theorem State.commitWrite_wf (s : State) : Memory.wf (State.commitWrite s).state = Memory.wf s := wf_of_fixed (State.commitWrite_fixed s)
@[simp] theorem State.applyMap_base (s : State) (m : List Nat) (code : Nat) : (State.applyMap s m code).1.base = s.base := base_of_fixed (State.applyMap_fixed s m code)
@[simp] theorem State.applyMap_wf (s : State) (m : List Nat) (code : Nat) : Memory.wf (State.applyMap s m code).1 = Memory.wf s := wf_of_fixed (State.applyMap_fixed s m code)
@[simp] theorem State.commitApply_base (s : State) : (State.commitApply s).base = s.base := base_of_fixed (State.commitApply_fixed s)
@[simp] theorem State.commitApply_wf (s : State) : Memory.wf (State.commitApply s) = Memory.wf s := wf_of_fixed (State.commitApply_fixed s)
@[simp] theorem State.slotWrite_base (s : State) (r : ObjRow) (slot sub v : Nat) : (State.slotWrite s r slot sub v).state.base = s.base := base_of_fixed (State.slotWrite_fixed s r slot sub v)
@[simp] theorem State.slotWrite_wf (s : State) (r : ObjRow) (slot sub v : Nat) : Memory.wf (State.slotWrite s r slot sub v).state = Memory.wf s := wf_of_fixed (State.slotWrite_fixed s r slot sub v)
@[simp] theorem State.writeMap_base (s : State) (r : ObjRow) (idx sub v : Nat) : (State.writeMap s r idx sub v).state.base = s.base := base_of_fixed (State.writeMap_fixed s r idx sub v)
@[simp] theorem State.writeMap_wf (s : State) (r : ObjRow) (idx sub v : Nat) : Memory.wf (State.writeMap s r idx sub v).state = Memory.wf s := wf_of_fixed (State.writeMap_fixed s r idx sub v)
@[simp] theorem State.dogForce_base (s : State) (kind : Nat) : (State.dogForce s kind).base = s.base := base_of_fixed (State.dogForce_fixed s kind)
@[simp] theorem State.dogForce_wf (s : State) (kind : Nat) : Memory.wf (State.dogForce s kind) = Memory.wf s := wf_of_fixed (State.dogForce_fixed s kind)
@[simp] theorem State.dogMiss_base (s : State) (kind next : Nat) : (State.dogMiss s kind next).base = s.base := base_of_fixed (State.dogMiss_fixed s kind next)
@[simp] theorem State.dogMiss_wf (s : State) (kind next : Nat) : Memory.wf (State.dogMiss s kind next) = Memory.wf s := wf_of_fixed (State.dogMiss_fixed s kind next)
@[simp] theorem State.dogLate_base (s : State) (at_ n : Nat) : (s.dogLate at_ n).base = s.base := base_of_fixed (State.dogLate_fixed s at_ n)
@[simp] theorem State.dogLate_wf (s : State) (at_ n : Nat) : Memory.wf (s.dogLate at_ n) = Memory.wf s := wf_of_fixed (State.dogLate_fixed s at_ n)
@[simp] theorem State.dogRelease_base (s : State) : (State.dogRelease s).1.base = s.base := base_of_fixed (State.dogRelease_fixed s)
@[simp] theorem State.dogRelease_wf (s : State) : Memory.wf (State.dogRelease s).1 = Memory.wf s := wf_of_fixed (State.dogRelease_fixed s)
@[simp] theorem State.dogArm_base (s : State) (o : Origin) (seed : Nat) : (State.dogArm s o seed).state.base = s.base := base_of_fixed (State.dogArm_fixed s o seed)
@[simp] theorem State.dogArm_wf (s : State) (o : Origin) (seed : Nat) : Memory.wf (State.dogArm s o seed).state = Memory.wf s := wf_of_fixed (State.dogArm_fixed s o seed)
@[simp] theorem State.dogDisarm_base (s : State) (o : Origin) : (State.dogDisarm s o).state.base = s.base := base_of_fixed (State.dogDisarm_fixed s o)
@[simp] theorem State.dogDisarm_wf (s : State) (o : Origin) : Memory.wf (State.dogDisarm s o).state = Memory.wf s := wf_of_fixed (State.dogDisarm_fixed s o)
@[simp] theorem State.dogToken_base (s : State) (o : Origin) (v : Nat) : (State.dogToken s o v).state.base = s.base := base_of_fixed (State.dogToken_fixed s o v)
@[simp] theorem State.dogToken_wf (s : State) (o : Origin) (v : Nat) : Memory.wf (State.dogToken s o v).state = Memory.wf s := wf_of_fixed (State.dogToken_fixed s o v)
@[simp] theorem State.dogBegin_base (s : State) : (State.dogBegin s).base = s.base := base_of_fixed (State.dogBegin_fixed s)
@[simp] theorem State.dogBegin_wf (s : State) : Memory.wf (State.dogBegin s) = Memory.wf s := wf_of_fixed (State.dogBegin_fixed s)
@[simp] theorem State.dogDeadline_base (s : State) : (State.dogDeadline s).base = s.base := base_of_fixed (State.dogDeadline_fixed s)
@[simp] theorem State.dogDeadline_wf (s : State) : Memory.wf (State.dogDeadline s) = Memory.wf s := wf_of_fixed (State.dogDeadline_fixed s)
@[simp] theorem State.transportWrite_base (s : State) (r : ObjRow) (sub v : Nat) : (State.transportWrite s r sub v).state.base = s.base := base_of_fixed (State.transportWrite_fixed s r sub v)
@[simp] theorem State.transportWrite_wf (s : State) (r : ObjRow) (sub v : Nat) : Memory.wf (State.transportWrite s r sub v).state = Memory.wf s := wf_of_fixed (State.transportWrite_fixed s r sub v)
@[simp] theorem State.keyWritten_base (s : State) (role : Role) (key : Nat) : (State.keyWritten s role key).state.base = s.base := base_of_fixed (State.keyWritten_fixed s role key)
@[simp] theorem State.keyWritten_wf (s : State) (role : Role) (key : Nat) : Memory.wf (State.keyWritten s role key).state = Memory.wf s := wf_of_fixed (State.keyWritten_fixed s role key)
@[simp] theorem State.writeComm_base (s : State) (r : ObjRow) (idx sub v : Nat) : (State.writeComm s r idx sub v).state.base = s.base := base_of_fixed (State.writeComm_fixed s r idx sub v)
@[simp] theorem State.writeComm_wf (s : State) (r : ObjRow) (idx sub v : Nat) : Memory.wf (State.writeComm s r idx sub v).state = Memory.wf s := wf_of_fixed (State.writeComm_fixed s r idx sub v)
@[simp] theorem State.resetWrite_base (s : State) (sub v : Nat) : (State.resetWrite s sub v).state.base = s.base := base_of_fixed (State.resetWrite_fixed s sub v)
@[simp] theorem State.resetWrite_wf (s : State) (sub v : Nat) : Memory.wf (State.resetWrite s sub v).state = Memory.wf s := wf_of_fixed (State.resetWrite_fixed s sub v)
@[simp] theorem State.readmitWrite_base (s : State) (v : Nat) : (State.readmitWrite s v).state.base = s.base := base_of_fixed (State.readmitWrite_fixed s v)
@[simp] theorem State.readmitWrite_wf (s : State) (v : Nat) : Memory.wf (State.readmitWrite s v).state = Memory.wf s := wf_of_fixed (State.readmitWrite_fixed s v)
@[simp] theorem State.levelWrite_base (s : State) (r : ObjRow) (sub v : Nat) : (State.levelWrite s r sub v).state.base = s.base := base_of_fixed (State.levelWrite_fixed s r sub v)
@[simp] theorem State.levelWrite_wf (s : State) (r : ObjRow) (sub v : Nat) : Memory.wf (State.levelWrite s r sub v).state = Memory.wf s := wf_of_fixed (State.levelWrite_fixed s r sub v)
@[simp] theorem State.permitWrite_base (s : State) (r : ObjRow) (sub v : Nat) : (State.permitWrite s r sub v).state.base = s.base := base_of_fixed (State.permitWrite_fixed s r sub v)
@[simp] theorem State.permitWrite_wf (s : State) (r : ObjRow) (sub v : Nat) : Memory.wf (State.permitWrite s r sub v).state = Memory.wf s := wf_of_fixed (State.permitWrite_fixed s r sub v)
@[simp] theorem State.holdWrite_base (s : State) (r : ObjRow) (sub v : Nat) : (State.holdWrite s r sub v).state.base = s.base := base_of_fixed (State.holdWrite_fixed s r sub v)
@[simp] theorem State.holdWrite_wf (s : State) (r : ObjRow) (sub v : Nat) : Memory.wf (State.holdWrite s r sub v).state = Memory.wf s := wf_of_fixed (State.holdWrite_fixed s r sub v)
@[simp] theorem State.dogWrite_base (s : State) (r : ObjRow) (o : Origin) (sub v : Nat) : (State.dogWrite s r o sub v).state.base = s.base := base_of_fixed (State.dogWrite_fixed s r o sub v)
@[simp] theorem State.dogWrite_wf (s : State) (r : ObjRow) (o : Origin) (sub v : Nat) : Memory.wf (State.dogWrite s r o sub v).state = Memory.wf s := wf_of_fixed (State.dogWrite_fixed s r o sub v)
@[simp] theorem State.lapSnapshot_base (s : State) : (State.lapSnapshot s).base = s.base := base_of_fixed (State.lapSnapshot_fixed s)
@[simp] theorem State.lapSnapshot_wf (s : State) : Memory.wf (State.lapSnapshot s) = Memory.wf s := wf_of_fixed (State.lapSnapshot_fixed s)
@[simp] theorem State.presetWrite_base (s : State) (r : ObjRow) (v : Nat) : (State.presetWrite s r v).state.base = s.base := base_of_fixed (State.presetWrite_fixed s r v)
@[simp] theorem State.presetWrite_wf (s : State) (r : ObjRow) (v : Nat) : Memory.wf (State.presetWrite s r v).state = Memory.wf s := wf_of_fixed (State.presetWrite_fixed s r v)
@[simp] theorem State.armCapture_base (s : State) : (State.armCapture s).state.base = s.base := base_of_fixed (State.armCapture_fixed s)
@[simp] theorem State.armCapture_wf (s : State) : Memory.wf (State.armCapture s).state = Memory.wf s := wf_of_fixed (State.armCapture_fixed s)
@[simp] theorem State.captureWrite_base (s : State) (v : Nat) : (State.captureWrite s v).state.base = s.base := base_of_fixed (State.captureWrite_fixed s v)
@[simp] theorem State.captureWrite_wf (s : State) (v : Nat) : Memory.wf (State.captureWrite s v).state = Memory.wf s := wf_of_fixed (State.captureWrite_fixed s v)
@[simp] theorem State.q7Write_base (s : State) (v : Nat) : (State.q7Write s v).state.base = s.base := base_of_fixed (State.q7Write_fixed s v)
@[simp] theorem State.q7Write_wf (s : State) (v : Nat) : Memory.wf (State.q7Write s v).state = Memory.wf s := wf_of_fixed (State.q7Write_fixed s v)
@[simp] theorem State.writeDevice_base (s : State) (r : ObjRow) (o : Origin) (idx sub v : Nat) : (State.writeDevice s r o idx sub v).state.base = s.base := base_of_fixed (State.writeDevice_fixed s r o idx sub v)
@[simp] theorem State.writeDevice_wf (s : State) (r : ObjRow) (o : Origin) (idx sub v : Nat) : Memory.wf (State.writeDevice s r o idx sub v).state = Memory.wf s := wf_of_fixed (State.writeDevice_fixed s r o idx sub v)
@[simp] theorem State.pumpQ3_base (s : State) : (State.pumpQ3 s).base = s.base := base_of_fixed (State.pumpQ3_fixed s)
@[simp] theorem State.pumpQ3_wf (s : State) : Memory.wf (State.pumpQ3 s) = Memory.wf s := wf_of_fixed (State.pumpQ3_fixed s)
@[simp] theorem State.startPort_base (s : State) (i : Nat) : (State.startPort s i).base = s.base := base_of_fixed (State.startPort_fixed s i)
@[simp] theorem State.startPort_wf (s : State) (i : Nat) : Memory.wf (State.startPort s i) = Memory.wf s := wf_of_fixed (State.startPort_fixed s i)
@[simp] theorem State.stopPort_base (s : State) (i : Nat) (inReset : Bool) : (State.stopPort s i inReset).base = s.base := base_of_fixed (State.stopPort_fixed s i inReset)
@[simp] theorem State.stopPort_wf (s : State) (i : Nat) (inReset : Bool) : Memory.wf (State.stopPort s i inReset) = Memory.wf s := wf_of_fixed (State.stopPort_fixed s i inReset)
@[simp] theorem State.onTime_base (s : State) (f : TimeDomains → TimeDomains × List Notice) : (State.onTime s f).base = s.base := base_of_fixed (State.onTime_fixed s f)
@[simp] theorem State.onTime_wf (s : State) (f : TimeDomains → TimeDomains × List Notice) : Memory.wf (State.onTime s f) = Memory.wf s := wf_of_fixed (State.onTime_fixed s f)
@[simp] theorem State.gptpWrite_base (s : State) (r : ObjRow) (sub v : Nat) : (State.gptpWrite s r sub v).state.base = s.base := base_of_fixed (State.gptpWrite_fixed s r sub v)
@[simp] theorem State.gptpWrite_wf (s : State) (r : ObjRow) (sub v : Nat) : Memory.wf (State.gptpWrite s r sub v).state = Memory.wf s := wf_of_fixed (State.gptpWrite_fixed s r sub v)
@[simp] theorem State.incrementSet_base (s : State) (v : Nat) : (State.incrementSet s v).state.base = s.base := base_of_fixed (State.incrementSet_fixed s v)
@[simp] theorem State.incrementSet_wf (s : State) (v : Nat) : Memory.wf (State.incrementSet s v).state = Memory.wf s := wf_of_fixed (State.incrementSet_fixed s v)
@[simp] theorem State.ownerWrite_base (s : State) (v : Nat) : (State.ownerWrite s v).state.base = s.base := base_of_fixed (State.ownerWrite_fixed s v)
@[simp] theorem State.ownerWrite_wf (s : State) (v : Nat) : Memory.wf (State.ownerWrite s v).state = Memory.wf s := wf_of_fixed (State.ownerWrite_fixed s v)
@[simp] theorem State.ppsWrite_base (s : State) (r : ObjRow) (v : Nat) : (State.ppsWrite s r v).state.base = s.base := base_of_fixed (State.ppsWrite_fixed s r v)
@[simp] theorem State.ppsWrite_wf (s : State) (r : ObjRow) (v : Nat) : Memory.wf (State.ppsWrite s r v).state = Memory.wf s := wf_of_fixed (State.ppsWrite_fixed s r v)
@[simp] theorem State.writeTime_base (s : State) (r : ObjRow) (idx sub v : Nat) : (State.writeTime s r idx sub v).state.base = s.base := base_of_fixed (State.writeTime_fixed s r idx sub v)
@[simp] theorem State.writeTime_wf (s : State) (r : ObjRow) (idx sub v : Nat) : Memory.wf (State.writeTime s r idx sub v).state = Memory.wf s := wf_of_fixed (State.writeTime_fixed s r idx sub v)
@[simp] theorem State.portWrite_base (s : State) (r : ObjRow) (n sub v : Nat) : (State.portWrite s r n sub v).state.base = s.base := base_of_fixed (State.portWrite_fixed s r n sub v)
@[simp] theorem State.portWrite_wf (s : State) (r : ObjRow) (n sub v : Nat) : Memory.wf (State.portWrite s r n sub v).state = Memory.wf s := wf_of_fixed (State.portWrite_fixed s r n sub v)
@[simp] theorem State.queueWrite_base (s : State) (q sub v : Nat) : (State.queueWrite s q sub v).state.base = s.base := base_of_fixed (State.queueWrite_fixed s q sub v)
@[simp] theorem State.queueWrite_wf (s : State) (q sub v : Nat) : Memory.wf (State.queueWrite s q sub v).state = Memory.wf s := wf_of_fixed (State.queueWrite_fixed s q sub v)
@[simp] theorem State.writeNet_base (s : State) (r : ObjRow) (idx sub v : Nat) : (State.writeNet s r idx sub v).state.base = s.base := base_of_fixed (State.writeNet_fixed s r idx sub v)
@[simp] theorem State.writeNet_wf (s : State) (r : ObjRow) (idx sub v : Nat) : Memory.wf (State.writeNet s r idx sub v).state = Memory.wf s := wf_of_fixed (State.writeNet_fixed s r idx sub v)
@[simp] theorem State.releaseScopes_base (s : State) (source : Nat) (ended : List Scope) : (State.releaseScopes s source ended).base = s.base := base_of_fixed (State.releaseScopes_fixed s source ended)
@[simp] theorem State.releaseScopes_wf (s : State) (source : Nat) (ended : List Scope) : Memory.wf (State.releaseScopes s source ended) = Memory.wf s := wf_of_fixed (State.releaseScopes_fixed s source ended)
@[simp] theorem State.clearSource_base (s : State) (o : Origin) (i : Nat) : (State.clearSource s o i).state.base = s.base := base_of_fixed (State.clearSource_fixed s o i)
@[simp] theorem State.clearSource_wf (s : State) (o : Origin) (i : Nat) : Memory.wf (State.clearSource s o i).state = Memory.wf s := wf_of_fixed (State.clearSource_fixed s o i)
@[simp] theorem State.clearAllSources_base (s : State) (o : Origin) : (State.clearAllSources s o).state.base = s.base := base_of_fixed (State.clearAllSources_fixed s o)
@[simp] theorem State.clearAllSources_wf (s : State) (o : Origin) : Memory.wf (State.clearAllSources s o).state = Memory.wf s := wf_of_fixed (State.clearAllSources_fixed s o)
@[simp] theorem State.clearRecord_base (s : State) (o : Origin) : (State.clearRecord s o).state.base = s.base := base_of_fixed (State.clearRecord_fixed s o)
@[simp] theorem State.clearRecord_wf (s : State) (o : Origin) : Memory.wf (State.clearRecord s o).state = Memory.wf s := wf_of_fixed (State.clearRecord_fixed s o)
@[simp] theorem State.acknowledge_base (s : State) (o : Origin) (i : Nat) : (State.acknowledge s o i).state.base = s.base := base_of_fixed (State.acknowledge_fixed s o i)
@[simp] theorem State.acknowledge_wf (s : State) (o : Origin) (i : Nat) : Memory.wf (State.acknowledge s o i).state = Memory.wf s := wf_of_fixed (State.acknowledge_fixed s o i)
@[simp] theorem State.ceilingWrite_base (s : State) (r : ObjRow) (i v : Nat) : (State.ceilingWrite s r i v).state.base = s.base := base_of_fixed (State.ceilingWrite_fixed s r i v)
@[simp] theorem State.ceilingWrite_wf (s : State) (r : ObjRow) (i v : Nat) : Memory.wf (State.ceilingWrite s r i v).state = Memory.wf s := wf_of_fixed (State.ceilingWrite_fixed s r i v)
@[simp] theorem State.forceWrite_base (s : State) (v : Nat) : (State.forceWrite s v).state.base = s.base := base_of_fixed (State.forceWrite_fixed s v)
@[simp] theorem State.forceWrite_wf (s : State) (v : Nat) : Memory.wf (State.forceWrite s v).state = Memory.wf s := wf_of_fixed (State.forceWrite_fixed s v)
@[simp] theorem State.senseTest_base (s : State) (level : Bool) : (State.senseTest s level).base = s.base := base_of_fixed (State.senseTest_fixed s level)
@[simp] theorem State.senseTest_wf (s : State) (level : Bool) : Memory.wf (State.senseTest s level) = Memory.wf s := wf_of_fixed (State.senseTest_fixed s level)
@[simp] theorem State.keyStep_base (s : State) (o : Origin) (v : Nat) : (State.keyStep s o v).state.base = s.base := base_of_fixed (State.keyStep_fixed s o v)
@[simp] theorem State.keyStep_wf (s : State) (o : Origin) (v : Nat) : Memory.wf (State.keyStep s o v).state = Memory.wf s := wf_of_fixed (State.keyStep_fixed s o v)
@[simp] theorem State.inject_base (s : State) (v : Nat) : (State.inject s v).state.base = s.base := base_of_fixed (State.inject_fixed s v)
@[simp] theorem State.inject_wf (s : State) (v : Nat) : Memory.wf (State.inject s v).state = Memory.wf s := wf_of_fixed (State.inject_fixed s v)
@[simp] theorem State.writeCollector_base (s : State) (r : ObjRow) (o : Origin) (idx sub v : Nat) : (State.writeCollector s r o idx sub v).state.base = s.base := base_of_fixed (State.writeCollector_fixed s r o idx sub v)
@[simp] theorem State.writeCollector_wf (s : State) (r : ObjRow) (o : Origin) (idx sub v : Nat) : Memory.wf (State.writeCollector s r o idx sub v).state = Memory.wf s := wf_of_fixed (State.writeCollector_fixed s r o idx sub v)

end Sys2Proof.Machine
end

