-- ==== Sys2Proof/Laws/Keeps.lean ====
section
/-! SUPPORT. What the operations behind the meanings leave alone: the queue of commands, the clock and the runtime version (`State.base`), and that
they keep the canonical form of the memories. -/

set_option linter.all false

namespace Sys2Proof.Machine

@[simp] theorem State.writeTrailer_base (s : State) (i : Nat) (active : Bool) (seq : Nat) : (State.writeTrailer s i active seq).base = s.base := by
  unfold State.writeTrailer
  (try dsimp only)
  repeat' (split; (try (rename_i hq; (try (have hq' := congrArg Prod.fst hq; dsimp only at hq'; subst hq')))))
  all_goals (first | (simp; done) | (simp [foldl_base, foldl_base_fst, apply_ite State.base, *]; done) | rfl)
@[simp] theorem State.writeTrailer_wf (s : State) (i : Nat) (active : Bool) (seq : Nat) (wf : Memory.wf s = true) : Memory.wf (State.writeTrailer s i active seq) = true := by
  unfold State.writeTrailer
  (try dsimp only)
  repeat' (split; (try (rename_i hq; (try (have hq' := congrArg Prod.fst hq; dsimp only at hq'; subst hq')))))
  all_goals (first | (simp [*]; done) | (simp [foldl_wf, foldl_wf_fst, *]; done))

@[simp] theorem State.verifySlot_base (s : State) : (State.verifySlot s).base = s.base := by
  unfold State.verifySlot
  (try dsimp only)
  repeat' (split; (try (rename_i hq; (try (have hq' := congrArg Prod.fst hq; dsimp only at hq'; subst hq')))))
  all_goals (first | (simp; done) | (simp [foldl_base, foldl_base_fst, apply_ite State.base, *]; done) | rfl)
@[simp] theorem State.verifySlot_wf (s : State) (wf : Memory.wf s = true) : Memory.wf (State.verifySlot s) = true := by
  unfold State.verifySlot
  (try dsimp only)
  repeat' (split; (try (rename_i hq; (try (have hq' := congrArg Prod.fst hq; dsimp only at hq'; subst hq')))))
  all_goals (first | (simp [*]; done) | (simp [foldl_wf, foldl_wf_fst, *]; done))

@[simp] theorem State.patchWrite_base (s : State) (v : Nat) : (State.patchWrite s v).state.base = s.base := by
  unfold State.patchWrite
  (try dsimp only)
  repeat' (split; (try (rename_i hq; (try (have hq' := congrArg Prod.fst hq; dsimp only at hq'; subst hq')))))
  all_goals (first | (simp; done) | (simp [foldl_base, foldl_base_fst, apply_ite State.base, *]; done) | rfl)
@[simp] theorem State.patchWrite_wf (s : State) (v : Nat) (wf : Memory.wf s = true) : Memory.wf (State.patchWrite s v).state = true := by
  unfold State.patchWrite
  (try dsimp only)
  repeat' (split; (try (rename_i hq; (try (have hq' := congrArg Prod.fst hq; dsimp only at hq'; subst hq')))))
  all_goals (first | (simp [*]; done) | (simp [foldl_wf, foldl_wf_fst, *]; done))

@[simp] theorem State.patchImage_base (s : State) (data : List Byte) : (State.patchImage s data).base = s.base := by
  unfold State.patchImage
  (try dsimp only)
  repeat' (split; (try (rename_i hq; (try (have hq' := congrArg Prod.fst hq; dsimp only at hq'; subst hq')))))
  all_goals (first | (simp; done) | (simp [foldl_base, foldl_base_fst, apply_ite State.base, *]; done) | rfl)
@[simp] theorem State.patchImage_wf (s : State) (data : List Byte) (wf : Memory.wf s = true) : Memory.wf (State.patchImage s data) = true := by
  unfold State.patchImage
  (try dsimp only)
  repeat' (split; (try (rename_i hq; (try (have hq' := congrArg Prod.fst hq; dsimp only at hq'; subst hq')))))
  all_goals (first | (simp [*]; done) | (simp [foldl_wf, foldl_wf_fst, *]; done))

@[simp] theorem State.serviceRequest_base (s : State) (b v : Nat) : (State.serviceRequest s b v).state.base = s.base := by
  unfold State.serviceRequest
  (try dsimp only)
  repeat' (split; (try (rename_i hq; (try (have hq' := congrArg Prod.fst hq; dsimp only at hq'; subst hq')))))
  all_goals (first | (simp; done) | (simp [foldl_base, foldl_base_fst, apply_ite State.base, *]; done) | rfl)
@[simp] theorem State.serviceRequest_wf (s : State) (b v : Nat) (wf : Memory.wf s = true) : Memory.wf (State.serviceRequest s b v).state = true := by
  unfold State.serviceRequest
  (try dsimp only)
  repeat' (split; (try (rename_i hq; (try (have hq' := congrArg Prod.fst hq; dsimp only at hq'; subst hq')))))
  all_goals (first | (simp [*]; done) | (simp [foldl_wf, foldl_wf_fst, *]; done))

@[simp] theorem State.retireWrite_base (s : State) (r : ObjRow) (ch v : Nat) : (State.retireWrite s r ch v).state.base = s.base := by
  unfold State.retireWrite
  (try dsimp only)
  repeat' (split; (try (rename_i hq; (try (have hq' := congrArg Prod.fst hq; dsimp only at hq'; subst hq')))))
  all_goals (first | (simp; done) | (simp [foldl_base, foldl_base_fst, apply_ite State.base, *]; done) | rfl)
@[simp] theorem State.retireWrite_wf (s : State) (r : ObjRow) (ch v : Nat) (wf : Memory.wf s = true) : Memory.wf (State.retireWrite s r ch v).state = true := by
  unfold State.retireWrite
  (try dsimp only)
  repeat' (split; (try (rename_i hq; (try (have hq' := congrArg Prod.fst hq; dsimp only at hq'; subst hq')))))
  all_goals (first | (simp [*]; done) | (simp [foldl_wf, foldl_wf_fst, *]; done))

@[simp] theorem State.migrationStart_base (s : State) : (State.migrationStart s).state.base = s.base := by
  unfold State.migrationStart
  (try dsimp only)
  repeat' (split; (try (rename_i hq; (try (have hq' := congrArg Prod.fst hq; dsimp only at hq'; subst hq')))))
  all_goals (first | (simp; done) | (simp [foldl_base, foldl_base_fst, apply_ite State.base, *]; done) | rfl)
@[simp] theorem State.migrationStart_wf (s : State) (wf : Memory.wf s = true) : Memory.wf (State.migrationStart s).state = true := by
  unfold State.migrationStart
  (try dsimp only)
  repeat' (split; (try (rename_i hq; (try (have hq' := congrArg Prod.fst hq; dsimp only at hq'; subst hq')))))
  all_goals (first | (simp [*]; done) | (simp [foldl_wf, foldl_wf_fst, *]; done))

@[simp] theorem State.abortGrow_base (s : State) : (State.abortGrow s).base = s.base := by
  unfold State.abortGrow
  (try dsimp only)
  repeat' (split; (try (rename_i hq; (try (have hq' := congrArg Prod.fst hq; dsimp only at hq'; subst hq')))))
  all_goals (first | (simp; done) | (simp [foldl_base, foldl_base_fst, apply_ite State.base, *]; done) | rfl)
@[simp] theorem State.abortGrow_wf (s : State) (wf : Memory.wf s = true) : Memory.wf (State.abortGrow s) = true := by
  unfold State.abortGrow
  (try dsimp only)
  repeat' (split; (try (rename_i hq; (try (have hq' := congrArg Prod.fst hq; dsimp only at hq'; subst hq')))))
  all_goals (first | (simp [*]; done) | (simp [foldl_wf, foldl_wf_fst, *]; done))

@[simp] theorem State.journalClear_base (s : State) (o : Origin) : (State.journalClear s o).base = s.base := by
  unfold State.journalClear
  (try dsimp only)
  repeat' (split; (try (rename_i hq; (try (have hq' := congrArg Prod.fst hq; dsimp only at hq'; subst hq')))))
  all_goals (first | (simp; done) | (simp [foldl_base, foldl_base_fst, apply_ite State.base, *]; done) | rfl)
@[simp] theorem State.journalClear_wf (s : State) (o : Origin) (wf : Memory.wf s = true) : Memory.wf (State.journalClear s o) = true := by
  unfold State.journalClear
  (try dsimp only)
  repeat' (split; (try (rename_i hq; (try (have hq' := congrArg Prod.fst hq; dsimp only at hq'; subst hq')))))
  all_goals (first | (simp [*]; done) | (simp [foldl_wf, foldl_wf_fst, *]; done))

@[simp] theorem State.cursorWrite_base (s : State) (v : Nat) : (State.cursorWrite s v).state.base = s.base := by
  unfold State.cursorWrite
  (try dsimp only)
  repeat' (split; (try (rename_i hq; (try (have hq' := congrArg Prod.fst hq; dsimp only at hq'; subst hq')))))
  all_goals (first | (simp; done) | (simp [foldl_base, foldl_base_fst, apply_ite State.base, *]; done) | rfl)
@[simp] theorem State.cursorWrite_wf (s : State) (v : Nat) (wf : Memory.wf s = true) : Memory.wf (State.cursorWrite s v).state = true := by
  unfold State.cursorWrite
  (try dsimp only)
  repeat' (split; (try (rename_i hq; (try (have hq' := congrArg Prod.fst hq; dsimp only at hq'; subst hq')))))
  all_goals (first | (simp [*]; done) | (simp [foldl_wf, foldl_wf_fst, *]; done))

@[simp] theorem State.writeService_base (s : State) (r : ObjRow) (o : Origin) (idx sub v : Nat) : (State.writeService s r o idx sub v).state.base = s.base := by
  unfold State.writeService
  (try dsimp only)
  repeat' (split; (try (rename_i hq; (try (have hq' := congrArg Prod.fst hq; dsimp only at hq'; subst hq')))))
  all_goals (first | (simp; done) | (simp [foldl_base, foldl_base_fst, apply_ite State.base, *]; done) | rfl)
@[simp] theorem State.writeService_wf (s : State) (r : ObjRow) (o : Origin) (idx sub v : Nat) (wf : Memory.wf s = true) : Memory.wf (State.writeService s r o idx sub v).state = true := by
  unfold State.writeService
  (try dsimp only)
  repeat' (split; (try (rename_i hq; (try (have hq' := congrArg Prod.fst hq; dsimp only at hq'; subst hq')))))
  all_goals (first | (simp [*]; done) | (simp [foldl_wf, foldl_wf_fst, *]; done))

@[simp] theorem State.writeTeam_base (s : State) (r : ObjRow) (idx sub v : Nat) : (State.writeTeam s r idx sub v).state.base = s.base := by
  unfold State.writeTeam
  (try dsimp only)
  repeat' (split; (try (rename_i hq; (try (have hq' := congrArg Prod.fst hq; dsimp only at hq'; subst hq')))))
  all_goals (first | (simp; done) | (simp [foldl_base, foldl_base_fst, apply_ite State.base, *]; done) | rfl)
@[simp] theorem State.writeTeam_wf (s : State) (r : ObjRow) (idx sub v : Nat) (wf : Memory.wf s = true) : Memory.wf (State.writeTeam s r idx sub v).state = true := by
  unfold State.writeTeam
  (try dsimp only)
  repeat' (split; (try (rename_i hq; (try (have hq' := congrArg Prod.fst hq; dsimp only at hq'; subst hq')))))
  all_goals (first | (simp [*]; done) | (simp [foldl_wf, foldl_wf_fst, *]; done))

@[simp] theorem State.store_base (s : State) (o : Origin) (r : ObjRow) (idx sub : Nat) (data : List Byte) : (State.store s o r idx sub data).state.base = s.base := by
  unfold State.store
  (try dsimp only)
  repeat' (split; (try (rename_i hq; (try (have hq' := congrArg Prod.fst hq; dsimp only at hq'; subst hq')))))
  all_goals (first | (simp; done) | (simp [foldl_base, foldl_base_fst, apply_ite State.base, *]; done) | rfl)
@[simp] theorem State.store_wf (s : State) (o : Origin) (r : ObjRow) (idx sub : Nat) (data : List Byte) (wf : Memory.wf s = true) : Memory.wf (State.store s o r idx sub data).state = true := by
  unfold State.store
  (try dsimp only)
  repeat' (split; (try (rename_i hq; (try (have hq' := congrArg Prod.fst hq; dsimp only at hq'; subst hq')))))
  all_goals (first | (simp [*]; done) | (simp [foldl_wf, foldl_wf_fst, *]; done))

@[simp] theorem State.dictWrite_base (s : State) (o : Origin) (whole : Bool) (idx sub : Nat) (data : List Byte) : (State.dictWrite s o whole idx sub data).state.base = s.base := by
  unfold State.dictWrite
  (try dsimp only)
  repeat' (split; (try (rename_i hq; (try (have hq' := congrArg Prod.fst hq; dsimp only at hq'; subst hq')))))
  all_goals (first | (simp; done) | (simp [foldl_base, foldl_base_fst, apply_ite State.base, *]; done) | rfl)
@[simp] theorem State.dictWrite_wf (s : State) (o : Origin) (whole : Bool) (idx sub : Nat) (data : List Byte) (wf : Memory.wf s = true) : Memory.wf (State.dictWrite s o whole idx sub data).state = true := by
  unfold State.dictWrite
  (try dsimp only)
  repeat' (split; (try (rename_i hq; (try (have hq' := congrArg Prod.fst hq; dsimp only at hq'; subst hq')))))
  all_goals (first | (simp [*]; done) | (simp [foldl_wf, foldl_wf_fst, *]; done))

@[simp] theorem State.writeRow_base (s : State) (k idx sub : Nat) (data : List Byte) : (State.writeRow s k idx sub data).base = s.base := by
  unfold State.writeRow
  (try dsimp only)
  repeat' (split; (try (rename_i hq; (try (have hq' := congrArg Prod.fst hq; dsimp only at hq'; subst hq')))))
  all_goals (first | (simp; done) | (simp [foldl_base, foldl_base_fst, apply_ite State.base, *]; done) | rfl)
@[simp] theorem State.writeRow_wf (s : State) (k idx sub : Nat) (data : List Byte) (wf : Memory.wf s = true) : Memory.wf (State.writeRow s k idx sub data) = true := by
  unfold State.writeRow
  (try dsimp only)
  repeat' (split; (try (rename_i hq; (try (have hq' := congrArg Prod.fst hq; dsimp only at hq'; subst hq')))))
  all_goals (first | (simp [*]; done) | (simp [foldl_wf, foldl_wf_fst, *]; done))

@[simp] theorem State.writeNum_base (s : State) (k idx sub v : Nat) : (State.writeNum s k idx sub v).base = s.base := by
  unfold State.writeNum
  (try dsimp only)
  repeat' (split; (try (rename_i hq; (try (have hq' := congrArg Prod.fst hq; dsimp only at hq'; subst hq')))))
  all_goals (first | (simp; done) | (simp [foldl_base, foldl_base_fst, apply_ite State.base, *]; done) | rfl)
@[simp] theorem State.writeNum_wf (s : State) (k idx sub v : Nat) (wf : Memory.wf s = true) : Memory.wf (State.writeNum s k idx sub v) = true := by
  unfold State.writeNum
  (try dsimp only)
  repeat' (split; (try (rename_i hq; (try (have hq' := congrArg Prod.fst hq; dsimp only at hq'; subst hq')))))
  all_goals (first | (simp [*]; done) | (simp [foldl_wf, foldl_wf_fst, *]; done))

@[simp] theorem State.writeLaneNum_base (s : State) (k n g sub v : Nat) : (State.writeLaneNum s k n g sub v).base = s.base := by
  unfold State.writeLaneNum
  (try dsimp only)
  repeat' (split; (try (rename_i hq; (try (have hq' := congrArg Prod.fst hq; dsimp only at hq'; subst hq')))))
  all_goals (first | (simp; done) | (simp [foldl_base, foldl_base_fst, apply_ite State.base, *]; done) | rfl)
@[simp] theorem State.writeLaneNum_wf (s : State) (k n g sub v : Nat) (wf : Memory.wf s = true) : Memory.wf (State.writeLaneNum s k n g sub v) = true := by
  unfold State.writeLaneNum
  (try dsimp only)
  repeat' (split; (try (rename_i hq; (try (have hq' := congrArg Prod.fst hq; dsimp only at hq'; subst hq')))))
  all_goals (first | (simp [*]; done) | (simp [foldl_wf, foldl_wf_fst, *]; done))

@[simp] theorem State.serve_base (s : State) (via : Transport) (c : Nat) (f : Request → Origin → State → State) (hf : ∀ a b s, (f a b s).base = s.base) : (State.serve s via c f).base = s.base := by
  unfold State.serve
  (try dsimp only)
  repeat' (split; (try (rename_i hq; (try (have hq' := congrArg Prod.fst hq; dsimp only at hq'; subst hq')))))
  all_goals (first | (simp; done) | (simp [foldl_base, foldl_base_fst, apply_ite State.base, *]; done) | rfl)
@[simp] theorem State.serve_wf (s : State) (via : Transport) (c : Nat) (f : Request → Origin → State → State) (hf : ∀ a b s, Memory.wf s = true → Memory.wf (f a b s) = true) (wf : Memory.wf s = true) : Memory.wf (State.serve s via c f) = true := by
  unfold State.serve
  (try dsimp only)
  repeat' (split; (try (rename_i hq; (try (have hq' := congrArg Prod.fst hq; dsimp only at hq'; subst hq')))))
  all_goals (first | (simp [*]; done) | (simp [foldl_wf, foldl_wf_fst, *]; done))

@[simp] theorem State.serveFree_base (s : State) (via : Transport) (c len : Nat) (f : Request → Origin → State → State) (hf : ∀ a b s, (f a b s).base = s.base) : (State.serveFree s via c len f).base = s.base := by
  unfold State.serveFree
  (try dsimp only)
  repeat' (split; (try (rename_i hq; (try (have hq' := congrArg Prod.fst hq; dsimp only at hq'; subst hq')))))
  all_goals (first | (simp; done) | (simp [foldl_base, foldl_base_fst, apply_ite State.base, *]; done) | rfl)
@[simp] theorem State.serveFree_wf (s : State) (via : Transport) (c len : Nat) (f : Request → Origin → State → State) (hf : ∀ a b s, Memory.wf s = true → Memory.wf (f a b s) = true) (wf : Memory.wf s = true) : Memory.wf (State.serveFree s via c len f) = true := by
  unfold State.serveFree
  apply State.serve_wf _ _ _ _ _ wf
  intro a b s wf
  repeat' (split; (try (rename_i hq; (try (have hq' := congrArg Prod.fst hq; dsimp only at hq'; subst hq')))))
  all_goals (first | (simp; done) | (simp [*]; done))

@[simp] theorem State.tagFailure_base (s : State) (n : Nat) (confirming : Bool) : (State.tagFailure s n confirming).base = s.base := by
  unfold State.tagFailure
  (try dsimp only)
  repeat' (split; (try (rename_i hq; (try (have hq' := congrArg Prod.fst hq; dsimp only at hq'; subst hq')))))
  all_goals (first | (simp; done) | (simp [foldl_base, foldl_base_fst, apply_ite State.base, *]; done) | rfl)
@[simp] theorem State.tagFailure_wf (s : State) (n : Nat) (confirming : Bool) (wf : Memory.wf s = true) : Memory.wf (State.tagFailure s n confirming) = true := by
  unfold State.tagFailure
  (try dsimp only)
  repeat' (split; (try (rename_i hq; (try (have hq' := congrArg Prod.fst hq; dsimp only at hq'; subst hq')))))
  all_goals (first | (simp [*]; done) | (simp [foldl_wf, foldl_wf_fst, *]; done))

@[simp] theorem State.serveIn_base (s : State) (via : Transport) (c : Nat) (role : Role) (fits : List Byte → Bool) (f : Request → Origin → State → State) (hf : ∀ a b s, (f a b s).base = s.base) : (State.serveIn s via c role fits f).base = s.base := by
  unfold State.serveIn
  apply State.serve_base
  intro a b s
  dsimp only
  repeat' (split; (try (rename_i hq; (try (have hq' := congrArg Prod.fst hq; dsimp only at hq'; subst hq')))))
  all_goals (first | (simp; done) | (simp [*]; done))
@[simp] theorem State.serveIn_wf (s : State) (via : Transport) (c : Nat) (role : Role) (fits : List Byte → Bool) (f : Request → Origin → State → State) (hf : ∀ a b s, Memory.wf s = true → Memory.wf (f a b s) = true) (wf : Memory.wf s = true) : Memory.wf (State.serveIn s via c role fits f) = true := by
  unfold State.serveIn
  apply State.serve_wf _ _ _ _ _ wf
  intro a b s wf
  dsimp only
  repeat' (split; (try (rename_i hq; (try (have hq' := congrArg Prod.fst hq; dsimp only at hq'; subst hq')))))
  all_goals (first | (simp; done) | (simp [*]; done))

@[simp] theorem State.answerDiscover_base (s : State) (o : Origin) : (State.answerDiscover s o).base = s.base := by
  unfold State.answerDiscover
  (try dsimp only)
  repeat' (split; (try (rename_i hq; (try (have hq' := congrArg Prod.fst hq; dsimp only at hq'; subst hq')))))
  all_goals (first | (simp; done) | (simp [foldl_base, foldl_base_fst, apply_ite State.base, *]; done) | rfl)
@[simp] theorem State.answerDiscover_wf (s : State) (o : Origin) (wf : Memory.wf s = true) : Memory.wf (State.answerDiscover s o) = true := by
  unfold State.answerDiscover
  (try dsimp only)
  repeat' (split; (try (rename_i hq; (try (have hq' := congrArg Prod.fst hq; dsimp only at hq'; subst hq')))))
  all_goals (first | (simp [*]; done) | (simp [foldl_wf, foldl_wf_fst, *]; done))

@[simp] theorem State.reclaim_base (s : State) (n : Nat) : (State.reclaim s n).base = s.base := by
  unfold State.reclaim
  (try dsimp only)
  repeat' (split; (try (rename_i hq; (try (have hq' := congrArg Prod.fst hq; dsimp only at hq'; subst hq')))))
  all_goals (first | (simp; done) | (simp [foldl_base, foldl_base_fst, apply_ite State.base, *]; done) | rfl)
@[simp] theorem State.reclaim_wf (s : State) (n : Nat) (wf : Memory.wf s = true) : Memory.wf (State.reclaim s n) = true := by
  unfold State.reclaim
  (try dsimp only)
  repeat' (split; (try (rename_i hq; (try (have hq' := congrArg Prod.fst hq; dsimp only at hq'; subst hq')))))
  all_goals (first | (simp [*]; done) | (simp [foldl_wf, foldl_wf_fst, *]; done))

@[simp] theorem State.openAs_base (s : State) (q : Request) (o : Origin) (n : Nat) (role : Role) : (State.openAs s q o n role).base = s.base := by
  unfold State.openAs
  (try dsimp only)
  repeat' (split; (try (rename_i hq; (try (have hq' := congrArg Prod.fst hq; dsimp only at hq'; subst hq')))))
  all_goals (first | (simp; done) | (simp [foldl_base, foldl_base_fst, apply_ite State.base, *]; done) | rfl)
@[simp] theorem State.openAs_wf (s : State) (q : Request) (o : Origin) (n : Nat) (role : Role) (wf : Memory.wf s = true) : Memory.wf (State.openAs s q o n role) = true := by
  unfold State.openAs
  (try dsimp only)
  repeat' (split; (try (rename_i hq; (try (have hq' := congrArg Prod.fst hq; dsimp only at hq'; subst hq')))))
  all_goals (first | (simp [*]; done) | (simp [foldl_wf, foldl_wf_fst, *]; done))

@[simp] theorem State.answerOpen_base (s : State) (via : Transport) (q : Request) (o : Origin) : (State.answerOpen s via q o).base = s.base := by
  unfold State.answerOpen
  (try dsimp only)
  repeat' (split; (try (rename_i hq; (try (have hq' := congrArg Prod.fst hq; dsimp only at hq'; subst hq')))))
  all_goals (first | (simp; done) | (simp [foldl_base, foldl_base_fst, apply_ite State.base, *]; done) | rfl)
@[simp] theorem State.answerOpen_wf (s : State) (via : Transport) (q : Request) (o : Origin) (wf : Memory.wf s = true) : Memory.wf (State.answerOpen s via q o) = true := by
  unfold State.answerOpen
  (try dsimp only)
  repeat' (split; (try (rename_i hq; (try (have hq' := congrArg Prod.fst hq; dsimp only at hq'; subst hq')))))
  all_goals (first | (simp [*]; done) | (simp [foldl_wf, foldl_wf_fst, *]; done))

@[simp] theorem State.answerProvision_base (s : State) (via : Transport) (q : Request) (o : Origin) : (State.answerProvision s via q o).base = s.base := by
  unfold State.answerProvision
  (try dsimp only)
  repeat' (split; (try (rename_i hq; (try (have hq' := congrArg Prod.fst hq; dsimp only at hq'; subst hq')))))
  all_goals (first | (simp; done) | (simp [foldl_base, foldl_base_fst, apply_ite State.base, *]; done) | rfl)
@[simp] theorem State.answerProvision_wf (s : State) (via : Transport) (q : Request) (o : Origin) (wf : Memory.wf s = true) : Memory.wf (State.answerProvision s via q o) = true := by
  unfold State.answerProvision
  (try dsimp only)
  repeat' (split; (try (rename_i hq; (try (have hq' := congrArg Prod.fst hq; dsimp only at hq'; subst hq')))))
  all_goals (first | (simp [*]; done) | (simp [foldl_wf, foldl_wf_fst, *]; done))

@[simp] theorem State.answerConfirm_base (s : State) (q : Request) (o : Origin) : (State.answerConfirm s q o).base = s.base := by
  unfold State.answerConfirm
  (try dsimp only)
  repeat' (split; (try (rename_i hq; (try (have hq' := congrArg Prod.fst hq; dsimp only at hq'; subst hq')))))
  all_goals (first | (simp; done) | (simp [foldl_base, foldl_base_fst, apply_ite State.base, *]; done) | rfl)
@[simp] theorem State.answerConfirm_wf (s : State) (q : Request) (o : Origin) (wf : Memory.wf s = true) : Memory.wf (State.answerConfirm s q o) = true := by
  unfold State.answerConfirm
  (try dsimp only)
  repeat' (split; (try (rename_i hq; (try (have hq' := congrArg Prod.fst hq; dsimp only at hq'; subst hq')))))
  all_goals (first | (simp [*]; done) | (simp [foldl_wf, foldl_wf_fst, *]; done))

@[simp] theorem State.answerClose_base (s : State) (q : Request) (o : Origin) : (State.answerClose s q o).base = s.base := by
  unfold State.answerClose
  (try dsimp only)
  repeat' (split; (try (rename_i hq; (try (have hq' := congrArg Prod.fst hq; dsimp only at hq'; subst hq')))))
  all_goals (first | (simp; done) | (simp [foldl_base, foldl_base_fst, apply_ite State.base, *]; done) | rfl)
@[simp] theorem State.answerClose_wf (s : State) (q : Request) (o : Origin) (wf : Memory.wf s = true) : Memory.wf (State.answerClose s q o) = true := by
  unfold State.answerClose
  (try dsimp only)
  repeat' (split; (try (rename_i hq; (try (have hq' := congrArg Prod.fst hq; dsimp only at hq'; subst hq')))))
  all_goals (first | (simp [*]; done) | (simp [foldl_wf, foldl_wf_fst, *]; done))

@[simp] theorem State.answerRead_base (s : State) (q : Request) (o : Origin) : (State.answerRead s q o).base = s.base := by
  unfold State.answerRead
  (try dsimp only)
  repeat' (split; (try (rename_i hq; (try (have hq' := congrArg Prod.fst hq; dsimp only at hq'; subst hq')))))
  all_goals (first | (simp; done) | (simp [foldl_base, foldl_base_fst, apply_ite State.base, *]; done) | rfl)
@[simp] theorem State.answerRead_wf (s : State) (q : Request) (o : Origin) (wf : Memory.wf s = true) : Memory.wf (State.answerRead s q o) = true := by
  unfold State.answerRead
  (try dsimp only)
  repeat' (split; (try (rename_i hq; (try (have hq' := congrArg Prod.fst hq; dsimp only at hq'; subst hq')))))
  all_goals (first | (simp [*]; done) | (simp [foldl_wf, foldl_wf_fst, *]; done))

@[simp] theorem State.answerWrite_base (s : State) (q : Request) (o : Origin) : (State.answerWrite s q o).base = s.base := by
  unfold State.answerWrite
  (try dsimp only)
  repeat' (split; (try (rename_i hq; (try (have hq' := congrArg Prod.fst hq; dsimp only at hq'; subst hq')))))
  all_goals (first | (simp; done) | (simp [foldl_base, foldl_base_fst, apply_ite State.base, *]; done) | rfl)
@[simp] theorem State.answerWrite_wf (s : State) (q : Request) (o : Origin) (wf : Memory.wf s = true) : Memory.wf (State.answerWrite s q o) = true := by
  unfold State.answerWrite
  (try dsimp only)
  repeat' (split; (try (rename_i hq; (try (have hq' := congrArg Prod.fst hq; dsimp only at hq'; subst hq')))))
  all_goals (first | (simp [*]; done) | (simp [foldl_wf, foldl_wf_fst, *]; done))

@[simp] theorem State.giveSegment_base (s : State) (o : Origin) (via : Transport) (data : List Byte) (at_ most : Nat) : (State.giveSegment s o via data at_ most).base = s.base := by
  unfold State.giveSegment
  (try dsimp only)
  repeat' (split; (try (rename_i hq; (try (have hq' := congrArg Prod.fst hq; dsimp only at hq'; subst hq')))))
  all_goals (first | (simp; done) | (simp [foldl_base, foldl_base_fst, apply_ite State.base, *]; done) | rfl)
@[simp] theorem State.giveSegment_wf (s : State) (o : Origin) (via : Transport) (data : List Byte) (at_ most : Nat) (wf : Memory.wf s = true) : Memory.wf (State.giveSegment s o via data at_ most) = true := by
  unfold State.giveSegment
  (try dsimp only)
  repeat' (split; (try (rename_i hq; (try (have hq' := congrArg Prod.fst hq; dsimp only at hq'; subst hq')))))
  all_goals (first | (simp [*]; done) | (simp [foldl_wf, foldl_wf_fst, *]; done))

@[simp] theorem State.answerSegmentRead_base (s : State) (via : Transport) (q : Request) (o : Origin) : (State.answerSegmentRead s via q o).base = s.base := by
  unfold State.answerSegmentRead
  (try dsimp only)
  repeat' (split; (try (rename_i hq; (try (have hq' := congrArg Prod.fst hq; dsimp only at hq'; subst hq')))))
  all_goals (first | (simp; done) | (simp [foldl_base, foldl_base_fst, apply_ite State.base, *]; done) | rfl)
@[simp] theorem State.answerSegmentRead_wf (s : State) (via : Transport) (q : Request) (o : Origin) (wf : Memory.wf s = true) : Memory.wf (State.answerSegmentRead s via q o) = true := by
  unfold State.answerSegmentRead
  (try dsimp only)
  repeat' (split; (try (rename_i hq; (try (have hq' := congrArg Prod.fst hq; dsimp only at hq'; subst hq')))))
  all_goals (first | (simp [*]; done) | (simp [foldl_wf, foldl_wf_fst, *]; done))

@[simp] theorem State.takeSegment_base (s : State) (o : Origin) (n idx sub total : Nat) (data : List Byte) : (State.takeSegment s o n idx sub total data).base = s.base := by
  unfold State.takeSegment
  (try dsimp only)
  repeat' (split; (try (rename_i hq; (try (have hq' := congrArg Prod.fst hq; dsimp only at hq'; subst hq')))))
  all_goals (first | (simp; done) | (simp [foldl_base, foldl_base_fst, apply_ite State.base, *]; done) | rfl)
@[simp] theorem State.takeSegment_wf (s : State) (o : Origin) (n idx sub total : Nat) (data : List Byte) (wf : Memory.wf s = true) : Memory.wf (State.takeSegment s o n idx sub total data) = true := by
  unfold State.takeSegment
  (try dsimp only)
  repeat' (split; (try (rename_i hq; (try (have hq' := congrArg Prod.fst hq; dsimp only at hq'; subst hq')))))
  all_goals (first | (simp [*]; done) | (simp [foldl_wf, foldl_wf_fst, *]; done))

@[simp] theorem State.answerSegmentWrite_base (s : State) (via : Transport) (q : Request) (o : Origin) : (State.answerSegmentWrite s via q o).base = s.base := by
  unfold State.answerSegmentWrite
  (try dsimp only)
  repeat' (split; (try (rename_i hq; (try (have hq' := congrArg Prod.fst hq; dsimp only at hq'; subst hq')))))
  all_goals (first | (simp; done) | (simp [foldl_base, foldl_base_fst, apply_ite State.base, *]; done) | rfl)
@[simp] theorem State.answerSegmentWrite_wf (s : State) (via : Transport) (q : Request) (o : Origin) (wf : Memory.wf s = true) : Memory.wf (State.answerSegmentWrite s via q o) = true := by
  unfold State.answerSegmentWrite
  (try dsimp only)
  repeat' (split; (try (rename_i hq; (try (have hq' := congrArg Prod.fst hq; dsimp only at hq'; subst hq')))))
  all_goals (first | (simp [*]; done) | (simp [foldl_wf, foldl_wf_fst, *]; done))

@[simp] theorem State.answerQueueRead_base (s : State) (via : Transport) (q : Request) (o : Origin) : (State.answerQueueRead s via q o).base = s.base := by
  unfold State.answerQueueRead
  (try dsimp only)
  repeat' (split; (try (rename_i hq; (try (have hq' := congrArg Prod.fst hq; dsimp only at hq'; subst hq')))))
  all_goals (first | (simp; done) | (simp [foldl_base, foldl_base_fst, apply_ite State.base, *]; done) | rfl)
@[simp] theorem State.answerQueueRead_wf (s : State) (via : Transport) (q : Request) (o : Origin) (wf : Memory.wf s = true) : Memory.wf (State.answerQueueRead s via q o) = true := by
  unfold State.answerQueueRead
  (try dsimp only)
  repeat' (split; (try (rename_i hq; (try (have hq' := congrArg Prod.fst hq; dsimp only at hq'; subst hq')))))
  all_goals (first | (simp [*]; done) | (simp [foldl_wf, foldl_wf_fst, *]; done))

@[simp] theorem State.answerQueueWrite_base (s : State) (via : Transport) (q : Request) (o : Origin) : (State.answerQueueWrite s via q o).base = s.base := by
  unfold State.answerQueueWrite
  (try dsimp only)
  repeat' (split; (try (rename_i hq; (try (have hq' := congrArg Prod.fst hq; dsimp only at hq'; subst hq')))))
  all_goals (first | (simp; done) | (simp [foldl_base, foldl_base_fst, apply_ite State.base, *]; done) | rfl)
@[simp] theorem State.answerQueueWrite_wf (s : State) (via : Transport) (q : Request) (o : Origin) (wf : Memory.wf s = true) : Memory.wf (State.answerQueueWrite s via q o) = true := by
  unfold State.answerQueueWrite
  (try dsimp only)
  repeat' (split; (try (rename_i hq; (try (have hq' := congrArg Prod.fst hq; dsimp only at hq'; subst hq')))))
  all_goals (first | (simp [*]; done) | (simp [foldl_wf, foldl_wf_fst, *]; done))

@[simp] theorem State.answerBufferRead_base (s : State) (via : Transport) (q : Request) (o : Origin) : (State.answerBufferRead s via q o).base = s.base := by
  unfold State.answerBufferRead
  (try dsimp only)
  repeat' (split; (try (rename_i hq; (try (have hq' := congrArg Prod.fst hq; dsimp only at hq'; subst hq')))))
  all_goals (first | (simp; done) | (simp [foldl_base, foldl_base_fst, apply_ite State.base, *]; done) | rfl)
@[simp] theorem State.answerBufferRead_wf (s : State) (via : Transport) (q : Request) (o : Origin) (wf : Memory.wf s = true) : Memory.wf (State.answerBufferRead s via q o) = true := by
  unfold State.answerBufferRead
  (try dsimp only)
  repeat' (split; (try (rename_i hq; (try (have hq' := congrArg Prod.fst hq; dsimp only at hq'; subst hq')))))
  all_goals (first | (simp [*]; done) | (simp [foldl_wf, foldl_wf_fst, *]; done))

@[simp] theorem State.answerBufferWrite_base (s : State) (via : Transport) (q : Request) (o : Origin) : (State.answerBufferWrite s via q o).base = s.base := by
  unfold State.answerBufferWrite
  (try dsimp only)
  repeat' (split; (try (rename_i hq; (try (have hq' := congrArg Prod.fst hq; dsimp only at hq'; subst hq')))))
  all_goals (first | (simp; done) | (simp [foldl_base, foldl_base_fst, apply_ite State.base, *]; done) | rfl)
@[simp] theorem State.answerBufferWrite_wf (s : State) (via : Transport) (q : Request) (o : Origin) (wf : Memory.wf s = true) : Memory.wf (State.answerBufferWrite s via q o) = true := by
  unfold State.answerBufferWrite
  (try dsimp only)
  repeat' (split; (try (rename_i hq; (try (have hq' := congrArg Prod.fst hq; dsimp only at hq'; subst hq')))))
  all_goals (first | (simp [*]; done) | (simp [foldl_wf, foldl_wf_fst, *]; done))

@[simp] theorem State.spiTransaction_base (s : State) (sck : Bool) (out : List Byte) (discarded : Bool) : (State.spiTransaction s sck out discarded).base = s.base := by
  unfold State.spiTransaction
  (try dsimp only)
  repeat' (split; (try (rename_i hq; (try (have hq' := congrArg Prod.fst hq; dsimp only at hq'; subst hq')))))
  all_goals (first | (simp; done) | (simp [foldl_base, foldl_base_fst, apply_ite State.base, *]; done) | rfl)
@[simp] theorem State.spiTransaction_wf (s : State) (sck : Bool) (out : List Byte) (discarded : Bool) (wf : Memory.wf s = true) : Memory.wf (State.spiTransaction s sck out discarded) = true := by
  unfold State.spiTransaction
  (try dsimp only)
  repeat' (split; (try (rename_i hq; (try (have hq' := congrArg Prod.fst hq; dsimp only at hq'; subst hq')))))
  all_goals (first | (simp [*]; done) | (simp [foldl_wf, foldl_wf_fst, *]; done))

@[simp] theorem State.onNet_base (s : State) (f : Net → Net × List Notice) : (State.onNet s f).base = s.base := by
  unfold State.onNet
  (try dsimp only)
  repeat' (split; (try (rename_i hq; (try (have hq' := congrArg Prod.fst hq; dsimp only at hq'; subst hq')))))
  all_goals (first | (simp; done) | (simp [foldl_base, foldl_base_fst, apply_ite State.base, *]; done) | rfl)
@[simp] theorem State.onNet_wf (s : State) (f : Net → Net × List Notice) (wf : Memory.wf s = true) : Memory.wf (State.onNet s f) = true := by
  unfold State.onNet
  (try dsimp only)
  repeat' (split; (try (rename_i hq; (try (have hq' := congrArg Prod.fst hq; dsimp only at hq'; subst hq')))))
  all_goals (first | (simp [*]; done) | (simp [foldl_wf, foldl_wf_fst, *]; done))

@[simp] theorem State.onNetTime_base (s : State) (f : Net → TimeDomains → Net × TimeDomains × List Notice) : (State.onNetTime s f).base = s.base := by
  unfold State.onNetTime
  (try dsimp only)
  repeat' (split; (try (rename_i hq; (try (have hq' := congrArg Prod.fst hq; dsimp only at hq'; subst hq')))))
  all_goals (first | (simp; done) | (simp [foldl_base, foldl_base_fst, apply_ite State.base, *]; done) | rfl)
@[simp] theorem State.onNetTime_wf (s : State) (f : Net → TimeDomains → Net × TimeDomains × List Notice) (wf : Memory.wf s = true) : Memory.wf (State.onNetTime s f) = true := by
  unfold State.onNetTime
  (try dsimp only)
  repeat' (split; (try (rename_i hq; (try (have hq' := congrArg Prod.fst hq; dsimp only at hq'; subst hq')))))
  all_goals (first | (simp [*]; done) | (simp [foldl_wf, foldl_wf_fst, *]; done))

@[simp] theorem State.clockTick_base (s : State) (runs : Bool) (f : TimeDomains → TimeDomains × List Notice) : (State.clockTick s runs f).base = s.base := by
  unfold State.clockTick
  (try dsimp only)
  repeat' (split; (try (rename_i hq; (try (have hq' := congrArg Prod.fst hq; dsimp only at hq'; subst hq')))))
  all_goals (first | (simp; done) | (simp [foldl_base, foldl_base_fst, apply_ite State.base, *]; done) | rfl)
@[simp] theorem State.clockTick_wf (s : State) (runs : Bool) (f : TimeDomains → TimeDomains × List Notice) (wf : Memory.wf s = true) : Memory.wf (State.clockTick s runs f) = true := by
  unfold State.clockTick
  (try dsimp only)
  repeat' (split; (try (rename_i hq; (try (have hq' := congrArg Prod.fst hq; dsimp only at hq'; subst hq')))))
  all_goals (first | (simp [*]; done) | (simp [foldl_wf, foldl_wf_fst, *]; done))

@[simp] theorem State.selectMaster_base (s : State) (second : Bool) : (State.selectMaster s second).base = s.base := by
  unfold State.selectMaster
  (try dsimp only)
  repeat' (split; (try (rename_i hq; (try (have hq' := congrArg Prod.fst hq; dsimp only at hq'; subst hq')))))
  all_goals (first | (simp; done) | (simp [foldl_base, foldl_base_fst, apply_ite State.base, *]; done) | rfl)
@[simp] theorem State.selectMaster_wf (s : State) (second : Bool) (wf : Memory.wf s = true) : Memory.wf (State.selectMaster s second) = true := by
  unfold State.selectMaster
  (try dsimp only)
  repeat' (split; (try (rename_i hq; (try (have hq' := congrArg Prod.fst hq; dsimp only at hq'; subst hq')))))
  all_goals (first | (simp [*]; done) | (simp [foldl_wf, foldl_wf_fst, *]; done))

@[simp] theorem State.onLap_base (s : State) (f : Lap → LapCfg → Lap × List Notice) : (State.onLap s f).base = s.base := by
  unfold State.onLap
  (try dsimp only)
  repeat' (split; (try (rename_i hq; (try (have hq' := congrArg Prod.fst hq; dsimp only at hq'; subst hq')))))
  all_goals (first | (simp; done) | (simp [foldl_base, foldl_base_fst, apply_ite State.base, *]; done) | rfl)
@[simp] theorem State.onLap_wf (s : State) (f : Lap → LapCfg → Lap × List Notice) (wf : Memory.wf s = true) : Memory.wf (State.onLap s f) = true := by
  unfold State.onLap
  (try dsimp only)
  repeat' (split; (try (rename_i hq; (try (have hq' := congrArg Prod.fst hq; dsimp only at hq'; subst hq')))))
  all_goals (first | (simp [*]; done) | (simp [foldl_wf, foldl_wf_fst, *]; done))

@[simp] theorem State.noteBoundary_base (s : State) : (State.noteBoundary s).base = s.base := by
  unfold State.noteBoundary
  (try dsimp only)
  repeat' (split; (try (rename_i hq; (try (have hq' := congrArg Prod.fst hq; dsimp only at hq'; subst hq')))))
  all_goals (first | (simp; done) | (simp [foldl_base, foldl_base_fst, apply_ite State.base, *]; done) | rfl)
@[simp] theorem State.noteBoundary_wf (s : State) (wf : Memory.wf s = true) : Memory.wf (State.noteBoundary s) = true := by
  unfold State.noteBoundary
  (try dsimp only)
  repeat' (split; (try (rename_i hq; (try (have hq' := congrArg Prod.fst hq; dsimp only at hq'; subst hq')))))
  all_goals (first | (simp [*]; done) | (simp [foldl_wf, foldl_wf_fst, *]; done))

@[simp] theorem State.onCollector_base (s : State) (f : Collector → CollectorCfg → Collector × List Notice) : (State.onCollector s f).base = s.base := by
  unfold State.onCollector
  (try dsimp only)
  repeat' (split; (try (rename_i hq; (try (have hq' := congrArg Prod.fst hq; dsimp only at hq'; subst hq')))))
  all_goals (first | (simp; done) | (simp [foldl_base, foldl_base_fst, apply_ite State.base, *]; done) | rfl)
@[simp] theorem State.onCollector_wf (s : State) (f : Collector → CollectorCfg → Collector × List Notice) (wf : Memory.wf s = true) : Memory.wf (State.onCollector s f) = true := by
  unfold State.onCollector
  (try dsimp only)
  repeat' (split; (try (rename_i hq; (try (have hq' := congrArg Prod.fst hq; dsimp only at hq'; subst hq')))))
  all_goals (first | (simp [*]; done) | (simp [foldl_wf, foldl_wf_fst, *]; done))

@[simp] theorem State.acceptError_base (s : State) (source kind origin address : Nat) : (State.acceptError s source kind origin address).base = s.base := by
  unfold State.acceptError
  (try dsimp only)
  repeat' (split; (try (rename_i hq; (try (have hq' := congrArg Prod.fst hq; dsimp only at hq'; subst hq')))))
  all_goals (first | (simp; done) | (simp [foldl_base, foldl_base_fst, apply_ite State.base, *]; done) | rfl)
@[simp] theorem State.acceptError_wf (s : State) (source kind origin address : Nat) (wf : Memory.wf s = true) : Memory.wf (State.acceptError s source kind origin address) = true := by
  unfold State.acceptError
  (try dsimp only)
  repeat' (split; (try (rename_i hq; (try (have hq' := congrArg Prod.fst hq; dsimp only at hq'; subst hq')))))
  all_goals (first | (simp [*]; done) | (simp [foldl_wf, foldl_wf_fst, *]; done))

@[simp] theorem State.takeStep_base (s : State) (source step : Nat) : (State.takeStep s source step).base = s.base := by
  unfold State.takeStep
  (try dsimp only)
  repeat' (split; (try (rename_i hq; (try (have hq' := congrArg Prod.fst hq; dsimp only at hq'; subst hq')))))
  all_goals (first | (simp; done) | (simp [foldl_base, foldl_base_fst, apply_ite State.base, *]; done) | rfl)
@[simp] theorem State.takeStep_wf (s : State) (source step : Nat) (wf : Memory.wf s = true) : Memory.wf (State.takeStep s source step) = true := by
  unfold State.takeStep
  (try dsimp only)
  repeat' (split; (try (rename_i hq; (try (have hq' := congrArg Prod.fst hq; dsimp only at hq'; subst hq')))))
  all_goals (first | (simp [*]; done) | (simp [foldl_wf, foldl_wf_fst, *]; done))

@[simp] theorem State.escalate_base (s : State) (source : Nat) : (State.escalate s source).base = s.base := by
  unfold State.escalate
  (try dsimp only)
  repeat' (split; (try (rename_i hq; (try (have hq' := congrArg Prod.fst hq; dsimp only at hq'; subst hq')))))
  all_goals (first | (simp; done) | (simp [foldl_base, foldl_base_fst, apply_ite State.base, *]; done) | rfl)
@[simp] theorem State.escalate_wf (s : State) (source : Nat) (wf : Memory.wf s = true) : Memory.wf (State.escalate s source) = true := by
  unfold State.escalate
  (try dsimp only)
  repeat' (split; (try (rename_i hq; (try (have hq' := congrArg Prod.fst hq; dsimp only at hq'; subst hq')))))
  all_goals (first | (simp [*]; done) | (simp [foldl_wf, foldl_wf_fst, *]; done))

@[simp] theorem State.takeDue_base (s : State) : (State.takeDue s).base = s.base := by
  unfold State.takeDue
  refine foldl_base _ _ _ fun s i => ?_
  split
  · exact State.takeStep_base _ _ _
  · rfl
@[simp] theorem State.takeDue_wf (s : State) (wf : Memory.wf s = true) : Memory.wf (State.takeDue s) = true := by
  unfold State.takeDue
  refine foldl_wf _ _ _ wf fun s i wf => ?_
  split
  · exact State.takeStep_wf _ _ _ wf
  · exact wf

@[simp] theorem State.dropSchedulesOf_base (s : State) (b : Nat) : (State.dropSchedulesOf s b).base = s.base := by
  unfold State.dropSchedulesOf
  (try dsimp only)
  repeat' (split; (try (rename_i hq; (try (have hq' := congrArg Prod.fst hq; dsimp only at hq'; subst hq')))))
  all_goals (first | (simp; done) | (simp [foldl_base, foldl_base_fst, apply_ite State.base, *]; done) | rfl)
@[simp] theorem State.dropSchedulesOf_wf (s : State) (b : Nat) (wf : Memory.wf s = true) : Memory.wf (State.dropSchedulesOf s b) = true := by
  unfold State.dropSchedulesOf
  (try dsimp only)
  repeat' (split; (try (rename_i hq; (try (have hq' := congrArg Prod.fst hq; dsimp only at hq'; subst hq')))))
  all_goals (first | (simp [*]; done) | (simp [foldl_wf, foldl_wf_fst, *]; done))

@[simp] theorem State.bankGone_base (s : State) (b : Nat) : (State.bankGone s b).base = s.base := by
  unfold State.bankGone
  (try dsimp only)
  repeat' (split; (try (rename_i hq; (try (have hq' := congrArg Prod.fst hq; dsimp only at hq'; subst hq')))))
  all_goals (first | (simp; done) | (simp [foldl_base, foldl_base_fst, apply_ite State.base, *]; done) | rfl)
@[simp] theorem State.bankGone_wf (s : State) (b : Nat) (wf : Memory.wf s = true) : Memory.wf (State.bankGone s b) = true := by
  unfold State.bankGone
  (try dsimp only)
  repeat' (split; (try (rename_i hq; (try (have hq' := congrArg Prod.fst hq; dsimp only at hq'; subst hq')))))
  all_goals (first | (simp [*]; done) | (simp [foldl_wf, foldl_wf_fst, *]; done))

@[simp] theorem State.hubTemp_base (s : State) (temp : Int) : (State.hubTemp s temp).base = s.base := by
  unfold State.hubTemp
  (try dsimp only)
  repeat' (split; (try (rename_i hq; (try (have hq' := congrArg Prod.fst hq; dsimp only at hq'; subst hq')))))
  all_goals (first | (simp; done) | (simp [foldl_base, foldl_base_fst, apply_ite State.base, *]; done) | rfl)
@[simp] theorem State.hubTemp_wf (s : State) (temp : Int) (wf : Memory.wf s = true) : Memory.wf (State.hubTemp s temp) = true := by
  unfold State.hubTemp
  (try dsimp only)
  repeat' (split; (try (rename_i hq; (try (have hq' := congrArg Prod.fst hq; dsimp only at hq'; subst hq')))))
  all_goals (first | (simp [*]; done) | (simp [foldl_wf, foldl_wf_fst, *]; done))

@[simp] theorem State.notePermit_base (s : State) : (State.notePermit s).base = s.base := by
  unfold State.notePermit
  (try dsimp only)
  repeat' (split; (try (rename_i hq; (try (have hq' := congrArg Prod.fst hq; dsimp only at hq'; subst hq')))))
  all_goals (first | (simp; done) | (simp [foldl_base, foldl_base_fst, apply_ite State.base, *]; done) | rfl)
@[simp] theorem State.notePermit_wf (s : State) (wf : Memory.wf s = true) : Memory.wf (State.notePermit s) = true := by
  unfold State.notePermit
  (try dsimp only)
  repeat' (split; (try (rename_i hq; (try (have hq' := congrArg Prod.fst hq; dsimp only at hq'; subst hq')))))
  all_goals (first | (simp [*]; done) | (simp [foldl_wf, foldl_wf_fst, *]; done))

@[simp] theorem State.senseLands_base (s : State) (r : HubReadings) : (State.senseLands s r).base = s.base := by
  unfold State.senseLands
  (try dsimp only)
  repeat' (split; (try (rename_i hq; (try (have hq' := congrArg Prod.fst hq; dsimp only at hq'; subst hq')))))
  all_goals (first | (simp; done) | (simp [foldl_base, foldl_base_fst, apply_ite State.base, *]; done) | rfl)
@[simp] theorem State.senseLands_wf (s : State) (r : HubReadings) (wf : Memory.wf s = true) : Memory.wf (State.senseLands s r) = true := by
  unfold State.senseLands
  (try dsimp only)
  repeat' (split; (try (rename_i hq; (try (have hq' := congrArg Prod.fst hq; dsimp only at hq'; subst hq')))))
  all_goals (first | (simp [*]; done) | (simp [foldl_wf, foldl_wf_fst, *]; done))

@[simp] theorem State.sense_base (s : State) (r : HubReadings) : (State.sense s r).base = s.base := by
  unfold State.sense
  (try dsimp only)
  repeat' (split; (try (rename_i hq; (try (have hq' := congrArg Prod.fst hq; dsimp only at hq'; subst hq')))))
  all_goals (first | (simp; done) | (simp [foldl_base, foldl_base_fst, apply_ite State.base, *]; done) | rfl)
@[simp] theorem State.sense_wf (s : State) (r : HubReadings) (wf : Memory.wf s = true) : Memory.wf (State.sense s r) = true := by
  unfold State.sense
  (try dsimp only)
  have h : ∀ t : State, Memory.wf t = true → Memory.wf ((t.hubTemp r.temp).notePermit) = true :=
    fun t wf => State.notePermit_wf _ (State.hubTemp_wf _ _ wf)
  repeat' (split; (try (rename_i hq; (try (have hq' := congrArg Prod.fst hq; dsimp only at hq'; subst hq')))))
  all_goals (first | (simp [*]; done) | exact h _ (State.senseLands_wf _ _ wf))

@[simp] theorem State.startRuntime_base (s : State) : (State.startRuntime s).base = s.base := by
  unfold State.startRuntime
  dsimp only
  simp only [State.notify_base, State.onHub_base]
  have e : ∀ (c : Prop) [Decidable c] (s : State) (m : Mram), (if c then { s with mram := m } else s).base = s.base := by
    intro c _ s m; split <;> rfl
  split <;> simp only [State.writeTrailer_base, e, State.drawBytes_base, State.drawBit_base]
@[simp] theorem State.startRuntime_wf (s : State) (wf : Memory.wf s = true) : Memory.wf (State.startRuntime s) = true := by
  unfold State.startRuntime
  dsimp only
  simp only [State.notify_wf, State.onHub_wf]
  have e : ∀ (c : Prop) [Decidable c] (s : State) (m : Mram), Memory.wf (if c then { s with mram := m } else s) = Memory.wf s := by
    intro c _ s m; split <;> rfl
  split
  · apply State.writeTrailer_wf
    simpa only [e, State.drawBytes_wf, State.drawBit_wf] using wf
  · simpa only [e, State.drawBytes_wf, State.drawBit_wf] using wf

@[simp] theorem State.reportSupply_base (s : State) : (State.reportSupply s).base = s.base := by
  unfold State.reportSupply
  (try dsimp only)
  repeat' (split; (try (rename_i hq; (try (have hq' := congrArg Prod.fst hq; dsimp only at hq'; subst hq')))))
  all_goals (first | (simp; done) | (simp [foldl_base, foldl_base_fst, apply_ite State.base, *]; done) | rfl)
@[simp] theorem State.reportSupply_wf (s : State) (wf : Memory.wf s = true) : Memory.wf (State.reportSupply s) = true := by
  unfold State.reportSupply
  (try dsimp only)
  repeat' (split; (try (rename_i hq; (try (have hq' := congrArg Prod.fst hq; dsimp only at hq'; subst hq')))))
  all_goals (first | (simp [*]; done) | (simp [foldl_wf, foldl_wf_fst, *]; done))

@[simp] theorem State.startPorts_base (s : State) : (State.startPorts s).base = s.base := by
  unfold State.startPorts
  (try dsimp only)
  repeat' (split; (try (rename_i hq; (try (have hq' := congrArg Prod.fst hq; dsimp only at hq'; subst hq')))))
  all_goals (first | (simp; done) | (simp [foldl_base, foldl_base_fst, apply_ite State.base, *]; done) | rfl)
@[simp] theorem State.startPorts_wf (s : State) (wf : Memory.wf s = true) : Memory.wf (State.startPorts s) = true := by
  unfold State.startPorts
  (try dsimp only)
  repeat' (split; (try (rename_i hq; (try (have hq' := congrArg Prod.fst hq; dsimp only at hq'; subst hq')))))
  all_goals (first | (simp [*]; done) | (simp [foldl_wf, foldl_wf_fst, *]; done))

@[simp] theorem State.setTier_base (s : State) (mv : Nat) : (State.setTier s mv).base = s.base := by
  unfold State.setTier
  (try dsimp only)
  repeat' (split; (try (rename_i hq; (try (have hq' := congrArg Prod.fst hq; dsimp only at hq'; subst hq')))))
  all_goals (first | (simp; done) | (simp [foldl_base, foldl_base_fst, apply_ite State.base, *]; done) | rfl)
@[simp] theorem State.setTier_wf (s : State) (mv : Nat) (wf : Memory.wf s = true) : Memory.wf (State.setTier s mv) = true := by
  unfold State.setTier
  (try dsimp only)
  repeat' (split; (try (rename_i hq; (try (have hq' := congrArg Prod.fst hq; dsimp only at hq'; subst hq')))))
  all_goals (first | (simp [*]; done) | (simp [foldl_wf, foldl_wf_fst, *]; done))

@[simp] theorem State.lapBegin_base (s : State) : (State.lapBegin s).base = s.base := by
  unfold State.lapBegin
  (try dsimp only)
  repeat' (split; (try (rename_i hq; (try (have hq' := congrArg Prod.fst hq; dsimp only at hq'; subst hq')))))
  all_goals (first | (simp; done) | (simp [foldl_base, foldl_base_fst, apply_ite State.base, *]; done) | rfl)
@[simp] theorem State.lapBegin_wf (s : State) (wf : Memory.wf s = true) : Memory.wf (State.lapBegin s) = true := by
  unfold State.lapBegin
  (try dsimp only)
  repeat' (split; (try (rename_i hq; (try (have hq' := congrArg Prod.fst hq; dsimp only at hq'; subst hq')))))
  all_goals (first | (simp [*]; done) | (simp [foldl_wf, foldl_wf_fst, *]; done))

@[simp] theorem State.wakeUp_base (s : State) : (State.wakeUp s).base = s.base := by
  unfold State.wakeUp
  (try dsimp only)
  repeat' (split; (try (rename_i hq; (try (have hq' := congrArg Prod.fst hq; dsimp only at hq'; subst hq')))))
  all_goals (first | (simp; done) | (simp [foldl_base, foldl_base_fst, apply_ite State.base, *]; done) | rfl)
@[simp] theorem State.wakeUp_wf (s : State) (wf : Memory.wf s = true) : Memory.wf (State.wakeUp s) = true := by
  unfold State.wakeUp
  (try dsimp only)
  repeat' (split; (try (rename_i hq; (try (have hq' := congrArg Prod.fst hq; dsimp only at hq'; subst hq')))))
  all_goals (first | (simp [*]; done) | (simp [foldl_wf, foldl_wf_fst, *]; done))

@[simp] theorem State.startSteps_base (s : State) (romOk selfOk : Bool) : (State.startSteps s romOk selfOk).base = s.base := by
  unfold State.startSteps
  (try dsimp only)
  repeat' (split; (try (rename_i hq; (try (have hq' := congrArg Prod.fst hq; dsimp only at hq'; subst hq')))))
  all_goals (first | (simp; done) | (simp [foldl_base, foldl_base_fst, apply_ite State.base, *]; done) | rfl)
@[simp] theorem State.startSteps_wf (s : State) (romOk selfOk : Bool) (wf : Memory.wf s = true) : Memory.wf (State.startSteps s romOk selfOk) = true := by
  unfold State.startSteps
  (try dsimp only)
  repeat' (split; (try (rename_i hq; (try (have hq' := congrArg Prod.fst hq; dsimp only at hq'; subst hq')))))
  all_goals (first | (simp [*]; done) | (simp [foldl_wf, foldl_wf_fst, *]; done))

@[simp] theorem State.hubStart_base (s : State) (samples : List Nat) (romOk selfOk : Bool) (temp : Int) : (State.hubStart s samples romOk selfOk temp).base = s.base := by
  unfold State.hubStart
  (try dsimp only)
  repeat' (split; (try (rename_i hq; (try (have hq' := congrArg Prod.fst hq; dsimp only at hq'; subst hq')))))
  all_goals (first | (simp; done) | (simp [foldl_base, foldl_base_fst, apply_ite State.base, *]; done) | rfl)
@[simp] theorem State.hubStart_wf (s : State) (samples : List Nat) (romOk selfOk : Bool) (temp : Int) (wf : Memory.wf s = true) : Memory.wf (State.hubStart s samples romOk selfOk temp) = true := by
  unfold State.hubStart
  (try dsimp only)
  repeat' (split; (try (rename_i hq; (try (have hq' := congrArg Prod.fst hq; dsimp only at hq'; subst hq')))))
  all_goals (first | (simp [*]; done) | (simp [foldl_wf, foldl_wf_fst, *]; done))

@[simp] theorem State.turnSlots_base (s : State) (k : Planned) : (State.turnSlots s k).base = s.base := by
  unfold State.turnSlots
  dsimp only
  cases k <;> dsimp only <;> (try split) <;> simp only [State.writeTrailer_base]
@[simp] theorem State.turnSlots_wf (s : State) (k : Planned) (wf : Memory.wf s = true) : Memory.wf (State.turnSlots s k) = true := by
  unfold State.turnSlots
  dsimp only
  cases k <;> dsimp only <;> (try split) <;> simp only [State.writeTrailer_wf, wf]

@[simp] theorem State.restart_base (s : State) (k : Planned) : (State.restart s k).base = s.base := by
  unfold State.restart
  (try dsimp only)
  repeat' (split; (try (rename_i hq; (try (have hq' := congrArg Prod.fst hq; dsimp only at hq'; subst hq')))))
  all_goals (first | (simp; done) | (simp [foldl_base, foldl_base_fst, apply_ite State.base, *]; done) | rfl)
@[simp] theorem State.restart_wf (s : State) (k : Planned) (wf : Memory.wf s = true) : Memory.wf (State.restart s k) = true := by
  unfold State.restart
  (try dsimp only)
  repeat' (split; (try (rename_i hq; (try (have hq' := congrArg Prod.fst hq; dsimp only at hq'; subst hq')))))
  all_goals (first | (simp [*]; done) | (simp [foldl_wf, foldl_wf_fst, *]; done))

@[simp] theorem State.sleep_base (s : State) : (State.sleep s).base = s.base := by
  unfold State.sleep
  (try dsimp only)
  repeat' (split; (try (rename_i hq; (try (have hq' := congrArg Prod.fst hq; dsimp only at hq'; subst hq')))))
  all_goals (first | (simp; done) | (simp [foldl_base, foldl_base_fst, apply_ite State.base, *]; done) | rfl)
@[simp] theorem State.sleep_wf (s : State) (wf : Memory.wf s = true) : Memory.wf (State.sleep s) = true := by
  unfold State.sleep
  (try dsimp only)
  repeat' (split; (try (rename_i hq; (try (have hq' := congrArg Prod.fst hq; dsimp only at hq'; subst hq')))))
  all_goals (first | (simp [*]; done) | (simp [foldl_wf, foldl_wf_fst, *]; done))

@[simp] theorem State.announce_base (s : State) (x : Stop) : (State.announce s x).base = s.base := by
  unfold State.announce
  (try dsimp only)
  repeat' (split; (try (rename_i hq; (try (have hq' := congrArg Prod.fst hq; dsimp only at hq'; subst hq')))))
  all_goals (first | (simp; done) | (simp [foldl_base, foldl_base_fst, apply_ite State.base, *]; done) | rfl)
@[simp] theorem State.announce_wf (s : State) (x : Stop) (wf : Memory.wf s = true) : Memory.wf (State.announce s x) = true := by
  unfold State.announce
  (try dsimp only)
  repeat' (split; (try (rename_i hq; (try (have hq' := congrArg Prod.fst hq; dsimp only at hq'; subst hq')))))
  all_goals (first | (simp [*]; done) | (simp [foldl_wf, foldl_wf_fst, *]; done))

@[simp] theorem State.abandonStop_base (s : State) (k : Planned) : (State.abandonStop s k).base = s.base := by
  unfold State.abandonStop
  (try dsimp only)
  repeat' (split; (try (rename_i hq; (try (have hq' := congrArg Prod.fst hq; dsimp only at hq'; subst hq')))))
  all_goals (first | (simp; done) | (simp [foldl_base, foldl_base_fst, apply_ite State.base, *]; done) | rfl)
@[simp] theorem State.abandonStop_wf (s : State) (k : Planned) (wf : Memory.wf s = true) : Memory.wf (State.abandonStop s k) = true := by
  unfold State.abandonStop
  (try dsimp only)
  repeat' (split; (try (rename_i hq; (try (have hq' := congrArg Prod.fst hq; dsimp only at hq'; subst hq')))))
  all_goals (first | (simp [*]; done) | (simp [foldl_wf, foldl_wf_fst, *]; done))

@[simp] theorem State.endStop_base (s : State) : (State.endStop s).base = s.base := by
  unfold State.endStop
  (try dsimp only)
  repeat' (split; (try (rename_i hq; (try (have hq' := congrArg Prod.fst hq; dsimp only at hq'; subst hq')))))
  all_goals (first | (simp; done) | (simp [foldl_base, foldl_base_fst, apply_ite State.base, *]; done) | rfl)
@[simp] theorem State.endStop_wf (s : State) (wf : Memory.wf s = true) : Memory.wf (State.endStop s) = true := by
  unfold State.endStop
  (try dsimp only)
  repeat' (split; (try (rename_i hq; (try (have hq' := congrArg Prod.fst hq; dsimp only at hq'; subst hq')))))
  all_goals (first | (simp [*]; done) | (simp [foldl_wf, foldl_wf_fst, *]; done))

@[simp] theorem State.advanceStop_base (s : State) : (State.advanceStop s).base = s.base := by
  unfold State.advanceStop
  (try dsimp only)
  repeat' (split; (try (rename_i hq; (try (have hq' := congrArg Prod.fst hq; dsimp only at hq'; subst hq')))))
  all_goals (first | (simp; done) | (simp [foldl_base, foldl_base_fst, apply_ite State.base, *]; done) | rfl)
@[simp] theorem State.advanceStop_wf (s : State) (wf : Memory.wf s = true) : Memory.wf (State.advanceStop s) = true := by
  unfold State.advanceStop
  (try dsimp only)
  repeat' (split; (try (rename_i hq; (try (have hq' := congrArg Prod.fst hq; dsimp only at hq'; subst hq')))))
  all_goals (first | (simp [*]; done) | (simp [foldl_wf, foldl_wf_fst, *]; done))

@[simp] theorem State.beginStop_base (s : State) (k : Planned) : (State.beginStop s k).base = s.base := by
  unfold State.beginStop
  (try dsimp only)
  repeat' (split; (try (rename_i hq; (try (have hq' := congrArg Prod.fst hq; dsimp only at hq'; subst hq')))))
  all_goals (first | (simp; done) | (simp [foldl_base, foldl_base_fst, apply_ite State.base, *]; done) | rfl)
@[simp] theorem State.beginStop_wf (s : State) (k : Planned) (wf : Memory.wf s = true) : Memory.wf (State.beginStop s k) = true := by
  unfold State.beginStop
  (try dsimp only)
  repeat' (split; (try (rename_i hq; (try (have hq' := congrArg Prod.fst hq; dsimp only at hq'; subst hq')))))
  all_goals (first | (simp [*]; done) | (simp [foldl_wf, foldl_wf_fst, *]; done))

@[simp] theorem State.execute_base (s : State) (k : Planned) : (State.execute s k).base = s.base := by
  unfold State.execute
  (try dsimp only)
  repeat' (split; (try (rename_i hq; (try (have hq' := congrArg Prod.fst hq; dsimp only at hq'; subst hq')))))
  all_goals (first | (simp; done) | (simp [foldl_base, foldl_base_fst, apply_ite State.base, *]; done) | rfl)
@[simp] theorem State.execute_wf (s : State) (k : Planned) (wf : Memory.wf s = true) : Memory.wf (State.execute s k) = true := by
  unfold State.execute
  (try dsimp only)
  repeat' (split; (try (rename_i hq; (try (have hq' := congrArg Prod.fst hq; dsimp only at hq'; subst hq')))))
  all_goals (first | (simp [*]; done) | (simp [foldl_wf, foldl_wf_fst, *]; done))

@[simp] theorem State.executePlanned_base (s : State) : (State.executePlanned s).base = s.base := by
  unfold State.executePlanned
  (try dsimp only)
  repeat' (split; (try (rename_i hq; (try (have hq' := congrArg Prod.fst hq; dsimp only at hq'; subst hq')))))
  all_goals (first | (simp; done) | (simp [foldl_base, foldl_base_fst, apply_ite State.base, *]; done) | rfl)
@[simp] theorem State.executePlanned_wf (s : State) (wf : Memory.wf s = true) : Memory.wf (State.executePlanned s) = true := by
  unfold State.executePlanned
  refine foldl_wf _ _ _ (by simpa using wf) fun s a wf => ?_
  split <;> simp [wf]

@[simp] theorem State.serviceEnd_base (s : State) (b code : Nat) (m : ServiceMode) (faults : List Notice) : (State.serviceEnd s b code m faults).base = s.base := by
  unfold State.serviceEnd
  (try dsimp only)
  repeat' (split; (try (rename_i hq; (try (have hq' := congrArg Prod.fst hq; dsimp only at hq'; subst hq')))))
  all_goals (first | (simp; done) | (simp [foldl_base, foldl_base_fst, apply_ite State.base, *]; done) | rfl)
@[simp] theorem State.serviceEnd_wf (s : State) (b code : Nat) (m : ServiceMode) (faults : List Notice) (wf : Memory.wf s = true) : Memory.wf (State.serviceEnd s b code m faults) = true := by
  unfold State.serviceEnd
  (try dsimp only)
  repeat' (split; (try (rename_i hq; (try (have hq' := congrArg Prod.fst hq; dsimp only at hq'; subst hq')))))
  all_goals (first | (simp [*]; done) | (simp [foldl_wf, foldl_wf_fst, *]; done))

@[simp] theorem State.isolate_base (s : State) (b : Nat) : (State.isolate s b).base = s.base := by
  unfold State.isolate
  (try dsimp only)
  repeat' (split; (try (rename_i hq; (try (have hq' := congrArg Prod.fst hq; dsimp only at hq'; subst hq')))))
  all_goals (first | (simp; done) | (simp [foldl_base, foldl_base_fst, apply_ite State.base, *]; done) | rfl)
@[simp] theorem State.isolate_wf (s : State) (b : Nat) (wf : Memory.wf s = true) : Memory.wf (State.isolate s b) = true := by
  unfold State.isolate
  simp only [State.mk_wf]
  refine foldl_wf _ _ _ wf fun s a wf => ?_
  split <;> simp [wf]

@[simp] theorem State.retireBank_base (s : State) (b : Nat) (v : Bool) : (State.retireBank s b v).1.base = s.base := by
  unfold State.retireBank
  (try dsimp only)
  repeat' (split; (try (rename_i hq; (try (have hq' := congrArg Prod.fst hq; dsimp only at hq'; subst hq')))))
  all_goals (first | (simp; done) | (simp [foldl_base, foldl_base_fst, apply_ite State.base, *]; done) | rfl)
@[simp] theorem State.retireBank_wf (s : State) (b : Nat) (v : Bool) (wf : Memory.wf s = true) : Memory.wf (State.retireBank s b v).1 = true := by
  unfold State.retireBank
  (try dsimp only)
  repeat' (split; (try (rename_i hq; (try (have hq' := congrArg Prod.fst hq; dsimp only at hq'; subst hq')))))
  all_goals (first | (simp [*]; done) | (simp [foldl_wf, foldl_wf_fst, *]; done))

@[simp] theorem State.returnBank_base (s : State) (b : Nat) : (State.returnBank s b).base = s.base := by
  unfold State.returnBank
  (try dsimp only)
  repeat' (split; (try (rename_i hq; (try (have hq' := congrArg Prod.fst hq; dsimp only at hq'; subst hq')))))
  all_goals (first | (simp; done) | (simp [foldl_base, foldl_base_fst, apply_ite State.base, *]; done) | rfl)
@[simp] theorem State.returnBank_wf (s : State) (b : Nat) (wf : Memory.wf s = true) : Memory.wf (State.returnBank s b) = true := by
  unfold State.returnBank
  (try dsimp only)
  repeat' (split; (try (rename_i hq; (try (have hq' := congrArg Prod.fst hq; dsimp only at hq'; subst hq')))))
  all_goals (first | (simp [*]; done) | (simp [foldl_wf, foldl_wf_fst, *]; done))

@[simp] theorem State.serviceApply_base (s : State) : (State.serviceApply s).base = s.base := by
  unfold State.serviceApply
  (try dsimp only)
  repeat' (split; (try (rename_i hq; (try (have hq' := congrArg Prod.fst hq; dsimp only at hq'; subst hq')))))
  all_goals (first | (simp; done) | (simp [foldl_base, foldl_base_fst, apply_ite State.base, *]; done) | rfl)
@[simp] theorem State.serviceApply_wf (s : State) (wf : Memory.wf s = true) : Memory.wf (State.serviceApply s) = true := by
  unfold State.serviceApply
  (try dsimp only)
  repeat' (split; (try (rename_i hq; (try (have hq' := congrArg Prod.fst hq; dsimp only at hq'; subst hq')))))
  all_goals (first | (simp [*]; done) | (simp [foldl_wf, foldl_wf_fst, *]; done))

@[simp] theorem State.migrationBegin_base (s : State) : (State.migrationBegin s).base = s.base := by
  unfold State.migrationBegin
  (try dsimp only)
  repeat' (split; (try (rename_i hq; (try (have hq' := congrArg Prod.fst hq; dsimp only at hq'; subst hq')))))
  all_goals (first | (simp; done) | (simp [foldl_base, foldl_base_fst, apply_ite State.base, *]; done) | rfl)
@[simp] theorem State.migrationBegin_wf (s : State) (wf : Memory.wf s = true) : Memory.wf (State.migrationBegin s) = true := by
  unfold State.migrationBegin
  (try dsimp only)
  repeat' (split; (try (rename_i hq; (try (have hq' := congrArg Prod.fst hq; dsimp only at hq'; subst hq')))))
  all_goals (first | (simp [*]; done) | (simp [foldl_wf, foldl_wf_fst, *]; done))

@[simp] theorem State.migrationEnd_base (s : State) : (State.migrationEnd s).base = s.base := by
  unfold State.migrationEnd
  (try dsimp only)
  repeat' (split; (try (rename_i hq; (try (have hq' := congrArg Prod.fst hq; dsimp only at hq'; subst hq')))))
  all_goals (first | (simp; done) | (simp [foldl_base, foldl_base_fst, apply_ite State.base, *]; done) | rfl)
@[simp] theorem State.migrationEnd_wf (s : State) (wf : Memory.wf s = true) : Memory.wf (State.migrationEnd s) = true := by
  unfold State.migrationEnd
  (try dsimp only)
  repeat' (split; (try (rename_i hq; (try (have hq' := congrArg Prod.fst hq; dsimp only at hq'; subst hq')))))
  all_goals (first | (simp [*]; done) | (simp [foldl_wf, foldl_wf_fst, *]; done))

@[simp] theorem State.migrationNext_base (s : State) : (State.migrationNext s).base = s.base := by
  unfold State.migrationNext
  (try dsimp only)
  repeat' (split; (try (rename_i hq; (try (have hq' := congrArg Prod.fst hq; dsimp only at hq'; subst hq')))))
  all_goals (first | (simp; done) | (simp [foldl_base, foldl_base_fst, apply_ite State.base, *]; done) | rfl)
@[simp] theorem State.migrationNext_wf (s : State) (wf : Memory.wf s = true) : Memory.wf (State.migrationNext s) = true := by
  unfold State.migrationNext
  (try dsimp only)
  repeat' (split; (try (rename_i hq; (try (have hq' := congrArg Prod.fst hq; dsimp only at hq'; subst hq')))))
  all_goals (first | (simp [*]; done) | (simp [foldl_wf, foldl_wf_fst, *]; done))

@[simp] theorem State.leaveTeam_base (s : State) : (State.leaveTeam s).base = s.base := by
  unfold State.leaveTeam
  (try dsimp only)
  repeat' (split; (try (rename_i hq; (try (have hq' := congrArg Prod.fst hq; dsimp only at hq'; subst hq')))))
  all_goals (first | (simp; done) | (simp [foldl_base, foldl_base_fst, apply_ite State.base, *]; done) | rfl)
@[simp] theorem State.leaveTeam_wf (s : State) (wf : Memory.wf s = true) : Memory.wf (State.leaveTeam s) = true := by
  unfold State.leaveTeam
  (try dsimp only)
  repeat' (split; (try (rename_i hq; (try (have hq' := congrArg Prod.fst hq; dsimp only at hq'; subst hq')))))
  all_goals (first | (simp [*]; done) | (simp [foldl_wf, foldl_wf_fst, *]; done))

@[simp] theorem State.refit_base (s : State) (b : Nat) : (s.refit b).1.base = s.base := by
  unfold State.refit
  dsimp only
  split
  · simp only [State.cancel_base]
  · simp only [State.mk_base, State.base_eta, State.cancel_base]
@[simp] theorem State.refit_wf (s : State) (b : Nat) (wf : Memory.wf s = true) : Memory.wf (s.refit b).1 = true := by
  unfold State.refit
  dsimp only
  split
  · simpa only [State.cancel_wf] using wf
  · simpa only [State.mk_wf, State.cancel_wf] using wf
theorem ite_wf {c : Prop} [Decidable c] {s : State} {f : Hub → Hub} (wf : Memory.wf s = true) : Memory.wf (if c then s.onHub f else s) = true := by
  split <;> exact wf
/-- The lowered budgets in order, with the notices of each. -/
theorem State.refits_base (before : Hub) (s : State) : (s.refits before).1.base = s.base := by
  unfold State.refits
  refine (foldl_base_fst _ _ _ ?_).trans rfl
  intro s a
  dsimp only
  exact State.refit_base _ _
theorem State.refits_wf (before : Hub) (s : State) (wf : Memory.wf s = true) : Memory.wf (s.refits before).1 = true := by
  unfold State.refits
  refine foldl_wf_fst _ _ _ wf ?_
  intro s a wf
  dsimp only
  exact State.refit_wf _ _ wf
@[simp] theorem State.teamApply_base (before : Hub) (s : State) : (State.teamApply before s).base = s.base := by
  unfold State.teamApply
  dsimp only
  split
  · exact State.team_base _ _ fun s => (by dsimp only; exact State.form_base s)
  · split
    · exact State.team_base _ _ fun s => (by dsimp only; exact State.leaveTeam_base s)
    · split
      · exact State.team_base _ _ (State.refits_base before)
      · rfl
@[simp] theorem State.teamApply_wf (before : Hub) (s : State) (wf : Memory.wf s = true) : Memory.wf (State.teamApply before s) = true := by
  unfold State.teamApply
  dsimp only
  split
  · exact State.team_wf _ _ (fun s wf => by dsimp only; rw [State.form_wf]; exact wf) wf
  · split
    · exact State.team_wf _ _ (fun s wf => by dsimp only; exact State.leaveTeam_wf s wf) wf
    · split
      · exact State.team_wf _ _ (State.refits_wf before) wf
      · exact wf

@[simp] theorem State.boundaryValues_base (s : State) : (State.boundaryValues s).base = s.base := by
  unfold State.boundaryValues
  (try dsimp only)
  repeat' (split; (try (rename_i hq; (try (have hq' := congrArg Prod.fst hq; dsimp only at hq'; subst hq')))))
  all_goals (first | (simp; done) | (simp [foldl_base, foldl_base_fst, apply_ite State.base, *]; done) | rfl)
@[simp] theorem State.boundaryValues_wf (s : State) (wf : Memory.wf s = true) : Memory.wf (State.boundaryValues s) = true := by
  unfold State.boundaryValues
  (try dsimp only)
  repeat' (split; (try (rename_i hq; (try (have hq' := congrArg Prod.fst hq; dsimp only at hq'; subst hq')))))
  all_goals (first | (simp [*]; done) | (simp [foldl_wf, foldl_wf_fst, *]; done))

@[simp] theorem State.boundaryWork_base (before : Hub) (s : State) : (State.boundaryWork before s).base = s.base := by
  have e : ∀ (c : Prop) [Decidable c] (s t : State), s.base = t.base → (if c then s else t).base = t.base := by
    intro c _ s t h; split
    · exact h
    · rfl
  unfold State.boundaryWork
  split
  · rfl
  · dsimp only
    rw [e _ _ _ (State.migrationBegin_base _), e _ _ _ (State.serviceApply_base _), e _ _ _ (State.commitApply_base _), State.teamApply_base]
@[simp] theorem State.boundaryWork_wf (before : Hub) (s : State) (wf : Memory.wf s = true) : Memory.wf (State.boundaryWork before s) = true := by
  have e : ∀ (c : Prop) [Decidable c] (s t : State), Memory.wf t = true → Memory.wf s = true → Memory.wf (if c then s else t) = true := by
    intro c _ s t h h'; split
    · exact h'
    · exact h
  unfold State.boundaryWork
  split
  · exact wf
  · dsimp only
    have h1 := State.teamApply_wf before s wf
    have h2 := e (s.hub.run.boundary.commit = true) _ _ h1 ((State.commitApply_wf (s.teamApply before)).trans h1)
    have h3 := e (s.hub.run.boundary.service = true) _ _ h2 (State.serviceApply_wf _ h2)
    exact e (s.hub.run.boundary.migration = true) _ _ h3 (State.migrationBegin_wf _ h3)

@[simp] theorem State.downlink_base (s : State) (b : Nat) : (State.downlink s b).base = s.base := by
  unfold State.downlink
  (try dsimp only)
  repeat' (split; (try (rename_i hq; (try (have hq' := congrArg Prod.fst hq; dsimp only at hq'; subst hq')))))
  all_goals (first | (simp; done) | (simp [foldl_base, foldl_base_fst, apply_ite State.base, *]; done) | rfl)
@[simp] theorem State.downlink_wf (s : State) (b : Nat) (wf : Memory.wf s = true) : Memory.wf (State.downlink s b) = true := by
  unfold State.downlink
  (try dsimp only)
  repeat' (split; (try (rename_i hq; (try (have hq' := congrArg Prod.fst hq; dsimp only at hq'; subst hq')))))
  all_goals (first | (simp [*]; done) | (simp [foldl_wf, foldl_wf_fst, *]; done))

@[simp] theorem State.countDiscards_base (s : State) (b n : Nat) : (State.countDiscards s b n).base = s.base := by
  unfold State.countDiscards
  (try dsimp only)
  repeat' (split; (try (rename_i hq; (try (have hq' := congrArg Prod.fst hq; dsimp only at hq'; subst hq')))))
  all_goals (first | (simp; done) | (simp [foldl_base, foldl_base_fst, apply_ite State.base, *]; done) | rfl)
@[simp] theorem State.countDiscards_wf (s : State) (b n : Nat) (wf : Memory.wf s = true) : Memory.wf (State.countDiscards s b n) = true := by
  unfold State.countDiscards
  (try dsimp only)
  repeat' (split; (try (rename_i hq; (try (have hq' := congrArg Prod.fst hq; dsimp only at hq'; subst hq')))))
  all_goals (first | (simp [*]; done) | (simp [foldl_wf, foldl_wf_fst, *]; done))

@[simp] theorem State.bankStarted_base (s : State) (b : Nat) : (State.bankStarted s b).base = s.base := by
  unfold State.bankStarted
  (try dsimp only)
  repeat' (split; (try (rename_i hq; (try (have hq' := congrArg Prod.fst hq; dsimp only at hq'; subst hq')))))
  all_goals (first | (simp; done) | (simp [foldl_base, foldl_base_fst, apply_ite State.base, *]; done) | rfl)
@[simp] theorem State.bankStarted_wf (s : State) (b : Nat) (wf : Memory.wf s = true) : Memory.wf (State.bankStarted s b) = true := by
  unfold State.bankStarted
  (try dsimp only)
  repeat' (split; (try (rename_i hq; (try (have hq' := congrArg Prod.fst hq; dsimp only at hq'; subst hq')))))
  all_goals (first | (simp [*]; done) | (simp [foldl_wf, foldl_wf_fst, *]; done))

@[simp] theorem State.bankMessage_base (b : Nat) (s : State) (m : FaultMsg) : (State.bankMessage b s m).base = s.base := by
  unfold State.bankMessage
  (try dsimp only)
  repeat' (split; (try (rename_i hq; (try (have hq' := congrArg Prod.fst hq; dsimp only at hq'; subst hq')))))
  all_goals (first | (simp; done) | (simp [foldl_base, foldl_base_fst, apply_ite State.base, *]; done) | rfl)
@[simp] theorem State.bankMessage_wf (b : Nat) (s : State) (m : FaultMsg) (wf : Memory.wf s = true) : Memory.wf (State.bankMessage b s m) = true := by
  unfold State.bankMessage
  (try dsimp only)
  repeat' (split; (try (rename_i hq; (try (have hq' := congrArg Prod.fst hq; dsimp only at hq'; subst hq')))))
  all_goals (first | (simp [*]; done) | (simp [foldl_wf, foldl_wf_fst, *]; done))

@[simp] theorem State.snapshotsDone_base (s : State) : (State.snapshotsDone s).base = s.base := by
  unfold State.snapshotsDone
  (try dsimp only)
  repeat' (split; (try (rename_i hq; (try (have hq' := congrArg Prod.fst hq; dsimp only at hq'; subst hq')))))
  all_goals (first | (simp; done) | (simp [foldl_base, foldl_base_fst, apply_ite State.base, *]; done) | rfl)
@[simp] theorem State.snapshotsDone_wf (s : State) (wf : Memory.wf s = true) : Memory.wf (State.snapshotsDone s) = true := by
  unfold State.snapshotsDone
  (try dsimp only)
  repeat' (split; (try (rename_i hq; (try (have hq' := congrArg Prod.fst hq; dsimp only at hq'; subst hq')))))
  all_goals (first | (simp [*]; done) | (simp [foldl_wf, foldl_wf_fst, *]; done))

@[simp] theorem State.acknowledged_base (s : State) (b : Nat) (acks : List Nat) : (State.acknowledged s b acks).base = s.base := by
  unfold State.acknowledged
  (try dsimp only)
  repeat' (split; (try (rename_i hq; (try (have hq' := congrArg Prod.fst hq; dsimp only at hq'; subst hq')))))
  all_goals (first | (simp; done) | (simp [foldl_base, foldl_base_fst, apply_ite State.base, *]; done) | rfl)
@[simp] theorem State.acknowledged_wf (s : State) (b : Nat) (acks : List Nat) (wf : Memory.wf s = true) : Memory.wf (State.acknowledged s b acks) = true := by
  unfold State.acknowledged
  (try dsimp only)
  repeat' (split; (try (rename_i hq; (try (have hq' := congrArg Prod.fst hq; dsimp only at hq'; subst hq')))))
  all_goals (first | (simp [*]; done) | (simp [foldl_wf, foldl_wf_fst, *]; done))

@[simp] theorem State.scheduleReports_base (s : State) (b : Nat) (ran : List (Nat × Bool)) : (State.scheduleReports s b ran).base = s.base := by
  unfold State.scheduleReports
  (try dsimp only)
  repeat' (split; (try (rename_i hq; (try (have hq' := congrArg Prod.fst hq; dsimp only at hq'; subst hq')))))
  all_goals (first | (simp; done) | (simp [foldl_base, foldl_base_fst, apply_ite State.base, *]; done) | rfl)
@[simp] theorem State.scheduleReports_wf (s : State) (b : Nat) (ran : List (Nat × Bool)) (wf : Memory.wf s = true) : Memory.wf (State.scheduleReports s b ran) = true := by
  unfold State.scheduleReports
  refine foldl_wf _ _ _ wf fun s a wf => ?_
  dsimp only
  split <;> simp [wf]

@[simp] theorem State.telemetry_base (s : State) (b : Nat) (old new : BankCore) : (State.telemetry s b old new).base = s.base := by
  unfold State.telemetry
  (try dsimp only)
  repeat' (split; (try (rename_i hq; (try (have hq' := congrArg Prod.fst hq; dsimp only at hq'; subst hq')))))
  all_goals (first | (simp; done) | (simp [foldl_base, foldl_base_fst, apply_ite State.base, *]; done) | rfl)
@[simp] theorem State.telemetry_wf (s : State) (b : Nat) (old new : BankCore) (wf : Memory.wf s = true) : Memory.wf (State.telemetry s b old new) = true := by
  unfold State.telemetry
  dsimp only
  apply State.migrationNext_wf
  apply State.snapshotsDone_wf
  repeat' split
  all_goals (first | (apply State.serviceEnd_wf; simpa using wf) | simpa using wf)

@[simp] theorem State.uplink_base (s : State) (b : Nat) (f : UpFrame) : (State.uplink s b f).base = s.base := by
  have e : ∀ (c : Prop) [Decidable c] (s t : State), s.base = t.base → (if c then s else t).base = t.base := by
    intro c _ s t h; split
    · exact h
    · rfl
  unfold State.uplink
  dsimp only
  have key : ∀ s0 : State, ((((f.msgs.foldl (State.bankMessage b) s0).acknowledged b f.acks).scheduleReports b f.schedRan)).base = s0.base := by
    intro s0
    rw [State.scheduleReports_base, State.acknowledged_base, foldl_base _ _ _ fun s a => State.bankMessage_base _ s a]
  split
  · rw [State.telemetry_base, key, State.onHub_base, State.countDiscards_base, e _ _ _ (State.bankStarted_base s b)]
  · rw [e _ _ _ (State.onHub_base _ _), key, State.onHub_base, State.countDiscards_base, e _ _ _ (State.bankStarted_base s b)]
@[simp] theorem State.uplink_wf (s : State) (b : Nat) (f : UpFrame) (wf : Memory.wf s = true) : Memory.wf (State.uplink s b f) = true := by
  unfold State.uplink
  dsimp only
  have h0 : Memory.wf (if f.first = true then s.bankStarted b else s) = true := by
    split
    · exact State.bankStarted_wf s b wf
    · exact wf
  have h1 := State.countDiscards_wf _ b ((Hub.link (if f.first = true then s.bankStarted b else s).hub b).newDiscards f.discards) h0
  have h2 := foldl_wf (State.bankMessage b) f.msgs _ ((State.onHub_wf _ (fun h => h.onLink b fun l => { l with reported := some f.discards })).trans h1)
    fun s a wf => State.bankMessage_wf _ s a wf
  have h3 := State.scheduleReports_wf _ b f.schedRan (State.acknowledged_wf _ b f.acks h2)
  split
  · exact State.telemetry_wf _ _ _ _ h3
  · exact ite_wf h3

@[simp] theorem State.gaveUp_base (s : State) (b : Nat) (stale : List LinkReq) : (State.gaveUp s b stale).base = s.base := by
  unfold State.gaveUp
  (try dsimp only)
  repeat' (split; (try (rename_i hq; (try (have hq' := congrArg Prod.fst hq; dsimp only at hq'; subst hq')))))
  all_goals (first | (simp; done) | (simp [foldl_base, foldl_base_fst, apply_ite State.base, *]; done) | rfl)
@[simp] theorem State.gaveUp_wf (s : State) (b : Nat) (stale : List LinkReq) (wf : Memory.wf s = true) : Memory.wf (State.gaveUp s b stale) = true := by
  unfold State.gaveUp
  (try dsimp only)
  repeat' (split; (try (rename_i hq; (try (have hq' := congrArg Prod.fst hq; dsimp only at hq'; subst hq')))))
  all_goals (first | (simp [*]; done) | (simp [foldl_wf, foldl_wf_fst, *]; done))

@[simp] theorem State.adoptValue_base (s : State) (idx sub v : Nat) : (State.adoptValue s idx sub v).base = s.base := by
  unfold State.adoptValue
  (try dsimp only)
  repeat' (split; (try (rename_i hq; (try (have hq' := congrArg Prod.fst hq; dsimp only at hq'; subst hq')))))
  all_goals (first | (simp; done) | (simp [foldl_base, foldl_base_fst, apply_ite State.base, *]; done) | rfl)
@[simp] theorem State.adoptValue_wf (s : State) (idx sub v : Nat) (wf : Memory.wf s = true) : Memory.wf (State.adoptValue s idx sub v) = true := by
  unfold State.adoptValue
  (try dsimp only)
  repeat' (split; (try (rename_i hq; (try (have hq' := congrArg Prod.fst hq; dsimp only at hq'; subst hq')))))
  all_goals (first | (simp [*]; done) | (simp [foldl_wf, foldl_wf_fst, *]; done))

@[simp] theorem State.adoptStore_base (s : State) (b : Nat) (c : BankCore) : (State.adoptStore s b c).base = s.base := by
  unfold State.adoptStore
  (try dsimp only)
  repeat' (split; (try (rename_i hq; (try (have hq' := congrArg Prod.fst hq; dsimp only at hq'; subst hq')))))
  all_goals (first | (simp; done) | (simp [foldl_base, foldl_base_fst, apply_ite State.base, *]; done) | rfl)
@[simp] theorem State.adoptStore_wf (s : State) (b : Nat) (c : BankCore) (wf : Memory.wf s = true) : Memory.wf (State.adoptStore s b c) = true := by
  unfold State.adoptStore
  apply State.adoptValue_wf
  apply State.adoptValue_wf
  refine foldl_wf _ _ _ wf fun s a wf => ?_
  apply State.adoptValue_wf
  exact foldl_wf _ _ _ wf fun s a wf => State.adoptValue_wf _ _ _ _ wf

@[simp] theorem State.claimStore_base (s : State) (b : Nat) (c : BankCore) : (State.claimStore s b c).base = s.base := by
  unfold State.claimStore
  (try dsimp only)
  repeat' (split; (try (rename_i hq; (try (have hq' := congrArg Prod.fst hq; dsimp only at hq'; subst hq')))))
  all_goals (first | (simp; done) | (simp [foldl_base, foldl_base_fst, apply_ite State.base, *]; done) | rfl)
@[simp] theorem State.claimStore_wf (s : State) (b : Nat) (c : BankCore) (wf : Memory.wf s = true) : Memory.wf (State.claimStore s b c) = true := by
  unfold State.claimStore
  (try dsimp only)
  repeat' (split; (try (rename_i hq; (try (have hq' := congrArg Prod.fst hq; dsimp only at hq'; subst hq')))))
  all_goals (first | (simp [*]; done) | (simp [foldl_wf, foldl_wf_fst, *]; done))

@[simp] theorem State.claimLane_base (s : State) (n : Nat) : (State.claimLane s n).base = s.base := by
  unfold State.claimLane
  (try dsimp only)
  repeat' (split; (try (rename_i hq; (try (have hq' := congrArg Prod.fst hq; dsimp only at hq'; subst hq')))))
  all_goals (first | (simp; done) | (simp [foldl_base, foldl_base_fst, apply_ite State.base, *]; done) | rfl)
@[simp] theorem State.claimLane_wf (s : State) (n : Nat) (wf : Memory.wf s = true) : Memory.wf (State.claimLane s n) = true := by
  unfold State.claimLane
  (try dsimp only)
  repeat' (split; (try (rename_i hq; (try (have hq' := congrArg Prod.fst hq; dsimp only at hq'; subst hq')))))
  all_goals (first | (simp [*]; done) | (simp [foldl_wf, foldl_wf_fst, *]; done))

@[simp] theorem State.claimLanes_base (s : State) (b : Nat) : (State.claimLanes s b).base = s.base := by
  unfold State.claimLanes
  (try dsimp only)
  repeat' (split; (try (rename_i hq; (try (have hq' := congrArg Prod.fst hq; dsimp only at hq'; subst hq')))))
  all_goals (first | (simp; done) | (simp [foldl_base, foldl_base_fst, apply_ite State.base, *]; done) | rfl)
@[simp] theorem State.claimLanes_wf (s : State) (b : Nat) (wf : Memory.wf s = true) : Memory.wf (State.claimLanes s b) = true := by
  unfold State.claimLanes
  dsimp only
  split
  · simpa using wf
  · simp only [State.mk_wf]
    exact foldl_wf _ _ _ wf fun s a wf => State.claimLane_wf s a wf

@[simp] theorem State.claimGlide_base (s : State) (b : Nat) (c : BankCore) : (State.claimGlide s b c).base = s.base := by
  unfold State.claimGlide
  (try dsimp only)
  repeat' (split; (try (rename_i hq; (try (have hq' := congrArg Prod.fst hq; dsimp only at hq'; subst hq')))))
  all_goals (first | (simp; done) | (simp [foldl_base, foldl_base_fst, apply_ite State.base, *]; done) | rfl)
@[simp] theorem State.claimGlide_wf (s : State) (b : Nat) (c : BankCore) (wf : Memory.wf s = true) : Memory.wf (State.claimGlide s b c) = true := by
  unfold State.claimGlide
  (try dsimp only)
  repeat' (split; (try (rename_i hq; (try (have hq' := congrArg Prod.fst hq; dsimp only at hq'; subst hq')))))
  all_goals (first | (simp [*]; done) | (simp [foldl_wf, foldl_wf_fst, *]; done))

@[simp] theorem State.claimCause_base (b : Nat) (s : State) (e : Nat × Nat × Nat) : (State.claimCause b s e).base = s.base := by
  unfold State.claimCause
  (try dsimp only)
  repeat' (split; (try (rename_i hq; (try (have hq' := congrArg Prod.fst hq; dsimp only at hq'; subst hq')))))
  all_goals (first | (simp; done) | (simp [foldl_base, foldl_base_fst, apply_ite State.base, *]; done) | rfl)
@[simp] theorem State.claimCause_wf (b : Nat) (s : State) (e : Nat × Nat × Nat) (wf : Memory.wf s = true) : Memory.wf (State.claimCause b s e) = true := by
  unfold State.claimCause
  (try dsimp only)
  repeat' (split; (try (rename_i hq; (try (have hq' := congrArg Prod.fst hq; dsimp only at hq'; subst hq')))))
  all_goals (first | (simp [*]; done) | (simp [foldl_wf, foldl_wf_fst, *]; done))

@[simp] theorem State.claimCauses_base (s : State) (b : Nat) (c : BankCore) : (State.claimCauses s b c).base = s.base := by
  unfold State.claimCauses
  (try dsimp only)
  repeat' (split; (try (rename_i hq; (try (have hq' := congrArg Prod.fst hq; dsimp only at hq'; subst hq')))))
  all_goals (first | (simp; done) | (simp [foldl_base, foldl_base_fst, apply_ite State.base, *]; done) | rfl)
@[simp] theorem State.claimCauses_wf (s : State) (b : Nat) (c : BankCore) (wf : Memory.wf s = true) : Memory.wf (State.claimCauses s b c) = true := by
  unfold State.claimCauses
  simp only [State.notify_wf]
  exact foldl_wf _ _ _ wf fun s a wf => State.claimCause_wf _ s a wf

@[simp] theorem State.claimService_base (s : State) (b : Nat) (c : BankCore) : (State.claimService s b c).base = s.base := by
  unfold State.claimService
  (try dsimp only)
  repeat' (split; (try (rename_i hq; (try (have hq' := congrArg Prod.fst hq; dsimp only at hq'; subst hq')))))
  all_goals (first | (simp; done) | (simp [foldl_base, foldl_base_fst, apply_ite State.base, *]; done) | rfl)
@[simp] theorem State.claimService_wf (s : State) (b : Nat) (c : BankCore) (wf : Memory.wf s = true) : Memory.wf (State.claimService s b c) = true := by
  unfold State.claimService
  (try dsimp only)
  repeat' (split; (try (rename_i hq; (try (have hq' := congrArg Prod.fst hq; dsimp only at hq'; subst hq')))))
  all_goals (first | (simp [*]; done) | (simp [foldl_wf, foldl_wf_fst, *]; done))

@[simp] theorem State.claim_base (s : State) (b : Nat) (c : BankCore) : (State.claim s b c).base = s.base := by
  unfold State.claim
  (try dsimp only)
  repeat' (split; (try (rename_i hq; (try (have hq' := congrArg Prod.fst hq; dsimp only at hq'; subst hq')))))
  all_goals (first | (simp; done) | (simp [foldl_base, foldl_base_fst, apply_ite State.base, *]; done) | rfl)
@[simp] theorem State.claim_wf (s : State) (b : Nat) (c : BankCore) (wf : Memory.wf s = true) : Memory.wf (State.claim s b c) = true := by
  unfold State.claim
  dsimp only
  simp only [State.notify_wf]
  apply State.claimService_wf
  apply State.claimCauses_wf
  apply State.claimGlide_wf
  simp only [State.mk_wf]
  apply State.claimLanes_wf
  apply State.claimStore_wf
  simpa using wf

@[simp] theorem State.requestAgain_base (s : State) (q : StepRequest) : (State.requestAgain s q).base = s.base := by
  unfold State.requestAgain
  (try dsimp only)
  repeat' (split; (try (rename_i hq; (try (have hq' := congrArg Prod.fst hq; dsimp only at hq'; subst hq')))))
  all_goals (first | (simp; done) | (simp [foldl_base, foldl_base_fst, apply_ite State.base, *]; done) | rfl)
@[simp] theorem State.requestAgain_wf (s : State) (q : StepRequest) (wf : Memory.wf s = true) : Memory.wf (State.requestAgain s q) = true := by
  unfold State.requestAgain
  (try dsimp only)
  repeat' (split; (try (rename_i hq; (try (have hq' := congrArg Prod.fst hq; dsimp only at hq'; subst hq')))))
  all_goals (first | (simp [*]; done) | (simp [foldl_wf, foldl_wf_fst, *]; done))

@[simp] theorem State.resumeSteps_base (s : State) : (State.resumeSteps s).base = s.base := by
  unfold State.resumeSteps
  dsimp only
  refine (foldl_base _ _ _ fun s a => ?_).trans ?_
  · split <;> simp
  · refine (foldl_base _ _ _ fun s a => State.requestAgain_base s a).trans ?_
    simp
@[simp] theorem State.resumeSteps_wf (s : State) (wf : Memory.wf s = true) : Memory.wf (State.resumeSteps s) = true := by
  unfold State.resumeSteps
  dsimp only
  refine foldl_wf _ _ _ ?_ fun s a wf => ?_
  · exact foldl_wf _ _ _ (by simpa using wf) fun s a wf => State.requestAgain_wf s a wf
  · split <;> simp [wf]

@[simp] theorem State.readyRecords_base (s : State) : (State.readyRecords s).base = s.base := by
  unfold State.readyRecords
  (try dsimp only)
  repeat' (split; (try (rename_i hq; (try (have hq' := congrArg Prod.fst hq; dsimp only at hq'; subst hq')))))
  all_goals (first | (simp; done) | (simp [foldl_base, foldl_base_fst, apply_ite State.base, *]; done) | rfl)
@[simp] theorem State.readyRecords_wf (s : State) (wf : Memory.wf s = true) : Memory.wf (State.readyRecords s) = true := by
  unfold State.readyRecords
  (try dsimp only)
  repeat' (split; (try (rename_i hq; (try (have hq' := congrArg Prod.fst hq; dsimp only at hq'; subst hq')))))
  all_goals (first | (simp [*]; done) | (simp [foldl_wf, foldl_wf_fst, *]; done))

@[simp] theorem State.dictionaryReady_base (s : State) : (State.dictionaryReady s).base = s.base := by
  unfold State.dictionaryReady
  (try dsimp only)
  repeat' (split; (try (rename_i hq; (try (have hq' := congrArg Prod.fst hq; dsimp only at hq'; subst hq')))))
  all_goals (first | (simp; done) | (simp [foldl_base, foldl_base_fst, apply_ite State.base, *]; done) | rfl)
@[simp] theorem State.dictionaryReady_wf (s : State) (wf : Memory.wf s = true) : Memory.wf (State.dictionaryReady s) = true := by
  unfold State.dictionaryReady
  dsimp only
  simp only [State.storeNext_wf]
  apply State.resumeSteps_wf
  apply State.startPorts_wf
  simp only [State.dogBegin_wf, State.onHub_wf, State.notify_wf]
  apply State.readyRecords_wf
  simpa using wf

@[simp] theorem State.onTeamFrame_base (s : State) (type : Nat) (f : TeamFrame → State → State × List Notice) (note : TeamFrame → Nat → Hub → Hub)
    (hf : ∀ a s, (f a s).1.base = s.base) : (State.onTeamFrame s type f note).base = s.base := by
  unfold State.onTeamFrame
  split
  · rfl
  · dsimp only
    split
    · simp
    · exact (State.teamSince_base _ _ _ fun s => hf _ _).trans (by simp)
@[simp] theorem State.onTeamFrame_wf (s : State) (type : Nat) (f : TeamFrame → State → State × List Notice) (note : TeamFrame → Nat → Hub → Hub)
    (hf : ∀ a s, Memory.wf s = true → Memory.wf (f a s).1 = true) (wf : Memory.wf s = true) : Memory.wf (State.onTeamFrame s type f note) = true := by
  unfold State.onTeamFrame
  split
  · exact wf
  · dsimp only
    split
    · simpa using wf
    · exact State.teamSince_wf _ _ _ (fun s wf => hf _ _ wf) (by simpa using wf)

@[simp] theorem State.teamTick_base (s : State) (due : Bool) (f : State → State × List Notice) (hf : ∀ s, (f s).1.base = s.base) : (State.teamTick s due f).base = s.base := by
  unfold State.teamTick
  split
  · exact State.team_base _ _ hf
  · rfl
@[simp] theorem State.teamTick_wf (s : State) (due : Bool) (f : State → State × List Notice) (hf : ∀ s, Memory.wf s = true → Memory.wf (f s).1 = true) (wf : Memory.wf s = true) : Memory.wf (State.teamTick s due f) = true := by
  unfold State.teamTick
  split
  · exact State.team_wf _ _ hf wf
  · exact wf

@[simp] theorem State.changePacer_base (s : State) (m : Nat) : (State.changePacer s m).1.base = s.base := by
  unfold State.changePacer
  (try dsimp only)
  repeat' (split; (try (rename_i hq; (try (have hq' := congrArg Prod.fst hq; dsimp only at hq'; subst hq')))))
  all_goals (first | (simp; done) | (simp [foldl_base, foldl_base_fst, apply_ite State.base, *]; done) | rfl)
@[simp] theorem State.changePacer_wf (s : State) (m : Nat) (wf : Memory.wf s = true) : Memory.wf (State.changePacer s m).1 = true := by
  unfold State.changePacer
  (try dsimp only)
  repeat' (split; (try (rename_i hq; (try (have hq' := congrArg Prod.fst hq; dsimp only at hq'; subst hq')))))
  all_goals (first | (simp [*]; done) | (simp [foldl_wf, foldl_wf_fst, *]; done))

@[simp] theorem State.hearPacer_base (s : State) (fr : TeamFrame) (known : Bool) : (State.hearPacer s fr known).1.base = s.base := by
  unfold State.hearPacer
  (try dsimp only)
  repeat' (split; (try (rename_i hq; (try (have hq' := congrArg Prod.fst hq; dsimp only at hq'; subst hq')))))
  all_goals (first | (simp; done) | (simp [foldl_base, foldl_base_fst, apply_ite State.base, *]; done) | rfl)
@[simp] theorem State.hearPacer_wf (s : State) (fr : TeamFrame) (known : Bool) (wf : Memory.wf s = true) : Memory.wf (State.hearPacer s fr known).1 = true := by
  unfold State.hearPacer
  (try dsimp only)
  repeat' (split; (try (rename_i hq; (try (have hq' := congrArg Prod.fst hq; dsimp only at hq'; subst hq')))))
  all_goals (first | (simp [*]; done) | (simp [foldl_wf, foldl_wf_fst, *]; done))

@[simp] theorem State.pacerJudges_base (s : State) (m : Nat) : (State.pacerJudges s m).base = s.base := by
  unfold State.pacerJudges
  (try dsimp only)
  repeat' (split; (try (rename_i hq; (try (have hq' := congrArg Prod.fst hq; dsimp only at hq'; subst hq')))))
  all_goals (first | (simp; done) | (simp [foldl_base, foldl_base_fst, apply_ite State.base, *]; done) | rfl)
@[simp] theorem State.pacerJudges_wf (s : State) (m : Nat) (wf : Memory.wf s = true) : Memory.wf (State.pacerJudges s m) = true := by
  unfold State.pacerJudges
  (try dsimp only)
  repeat' (split; (try (rename_i hq; (try (have hq' := congrArg Prod.fst hq; dsimp only at hq'; subst hq')))))
  all_goals (first | (simp [*]; done) | (simp [foldl_wf, foldl_wf_fst, *]; done))

@[simp] theorem State.memberGone_base (s : State) (m : Nat) : (State.memberGone s m).1.base = s.base := by
  unfold State.memberGone
  (try dsimp only)
  repeat' (split; (try (rename_i hq; (try (have hq' := congrArg Prod.fst hq; dsimp only at hq'; subst hq')))))
  all_goals (first | (simp; done) | (simp [foldl_base, foldl_base_fst, apply_ite State.base, *]; done) | rfl)
@[simp] theorem State.memberGone_wf (s : State) (m : Nat) (wf : Memory.wf s = true) : Memory.wf (State.memberGone s m).1 = true := by
  unfold State.memberGone
  (try dsimp only)
  repeat' (split; (try (rename_i hq; (try (have hq' := congrArg Prod.fst hq; dsimp only at hq'; subst hq')))))
  all_goals (first | (simp [*]; done) | (simp [foldl_wf, foldl_wf_fst, *]; done))

@[simp] theorem State.memberLost_base (s : State) (m : Nat) : (State.memberLost s m).1.base = s.base := by
  unfold State.memberLost
  (try dsimp only)
  repeat' (split; (try (rename_i hq; (try (have hq' := congrArg Prod.fst hq; dsimp only at hq'; subst hq')))))
  all_goals (first | (simp; done) | (simp [foldl_base, foldl_base_fst, apply_ite State.base, *]; done) | rfl)
@[simp] theorem State.memberLost_wf (s : State) (m : Nat) (wf : Memory.wf s = true) : Memory.wf (State.memberLost s m).1 = true := by
  unfold State.memberLost
  (try dsimp only)
  repeat' (split; (try (rename_i hq; (try (have hq' := congrArg Prod.fst hq; dsimp only at hq'; subst hq')))))
  all_goals (first | (simp [*]; done) | (simp [foldl_wf, foldl_wf_fst, *]; done))

end Sys2Proof.Machine
end

