-- ==== Sys2Proof/Laws/Notify.lean ====
section
/-! SUPPORT. What a report changes: the collector, Q2, the pending events and the shadow of the journal, and nothing else, unless it resets the hub. -/

namespace Sys2Proof.Machine

/-- A report that cannot reset the hub: neither a reset nor a fault of source 0x30. -/
def Notice.quiet : Notice → Bool
  | .resetHub _ => false
  | .fault source _ _ => decide (source ≠ 0x30)
  | _ => true

/-- What a quiet report leaves alone. -/
def State.still (s : State) : List Instr × Nat × Nat × Nat × Supplies × Lands × Mram × List Bank × Hub × List Host.Cell × List Host.Cell :=
  (s.pending, s.now, s.free, s.rtVersion, s.pwr, s.lands, s.mram, s.banks, s.hub.calm, s.bufs, s.patches)

theorem Net.record_rest (n : Net) (time c type w2 w3 : Nat) :
    ({ (n.record time c type w2 w3).1 with q2 := {}, q2Seq := 0, q2Gap := false } : Net) = { n with q2 := {}, q2Seq := 0, q2Gap := false } := by
  unfold Net.record
  dsimp only
  repeat' split
  all_goals rfl

theorem State.record_still (s : State) (n type w2 w3 : Nat) : (s.record n type w2 w3).1.still = s.still := by
  unfold State.record
  dsimp only
  split
  · unfold State.still Hub.calm Hub.setPending
    dsimp only
    rw [Net.record_rest]
  · rfl

theorem State.foldl_still {α : Type} (f : State → α → State) (l : List α) (s : State) (h : ∀ s, ∀ a ∈ l, (f s a).still = s.still) :
    (l.foldl f s).still = s.still := by
  induction l generalizing s with
  | nil => rfl
  | cons a l ih => exact (ih _ (fun s b hb => h s b (List.mem_cons_of_mem _ hb))).trans (h s a (List.mem_cons_self ..))

theorem Collector.raise_quiet (c : Collector) (g : CollectorCfg) (source kind address now sec ns : Nat) (h : source ≠ 0x30) :
    ∀ n ∈ (c.raise g source kind address now sec ns).2, Notice.quiet n = true := by
  intro n hn
  unfold Collector.raise Collector.accept at hn
  dsimp only at hn
  split at hn
  · exact absurd hn List.not_mem_nil
  split at hn
  · exact absurd hn List.not_mem_nil
  split at hn
  · unfold Collector.acceptS at hn
    simp only [h, if_false, List.append_nil, List.mem_append, List.mem_map, List.mem_singleton] at hn
    obtain ⟨e, -, rfl⟩ | rfl := hn <;> rfl
  · unfold Collector.acceptD at hn
    dsimp only at hn
    split at hn
    · simp only [List.mem_map] at hn
      obtain ⟨e, -, rfl⟩ := hn; rfl
    · exact absurd hn List.not_mem_nil

theorem State.handle_still (d : Nat) (s : State) (n : Notice) (h : n.quiet = true) : (State.handle d s n).still = s.still := by
  induction d generalizing s n with
  | zero => rfl
  | succ d ih =>
    unfold State.handle
    cases n with
    | fault source kind address =>
      dsimp only
      have hq : source ≠ 0x30 := by simpa [Notice.quiet] using h
      split
      · rw [State.foldl_still _ _ _ fun s a ha => ih s a (Collector.raise_quiet _ _ _ _ _ _ _ _ hq a ha)]
        rfl
      · rfl
    | gone source => dsimp only; split <;> rfl
    | event e idx sub =>
      dsimp only
      split
      · rw [ih _ _ rfl, State.record_still]
      · rw [State.record_still]
    | faultEvent e m =>
      dsimp only
      generalize hw : (if m.source < 64 then _ else _ : Nat) = w
      split
      · rw [ih _ _ rfl, State.record_still]
      · rw [State.record_still]
    | journal cls code payload =>
      dsimp only
      split
      · split
        · rfl
        · rw [ih _ _ rfl]; rfl
      · rfl
    | resetHub cause => simp [Notice.quiet] at h

theorem State.notify_still (s : State) (ns : List Notice) (h : ∀ n ∈ ns, Notice.quiet n = true) : (s.notify ns).still = s.still :=
  State.foldl_still _ _ _ fun s a ha => State.handle_still 6 s a (h a ha)

/-! ## Field by field -/

theorem State.notify_pending (s : State) (ns : List Notice) (h : ∀ n ∈ ns, Notice.quiet n = true) : (s.notify ns).pending = s.pending :=
  congrArg (fun k => k.1) (s.notify_still ns h)
theorem State.notify_now (s : State) (ns : List Notice) (h : ∀ n ∈ ns, Notice.quiet n = true) : (s.notify ns).now = s.now :=
  congrArg (fun k => k.2.1) (s.notify_still ns h)
theorem State.notify_free (s : State) (ns : List Notice) (h : ∀ n ∈ ns, Notice.quiet n = true) : (s.notify ns).free = s.free :=
  congrArg (fun k => k.2.2.1) (s.notify_still ns h)
theorem State.notify_rtVersion (s : State) (ns : List Notice) (h : ∀ n ∈ ns, Notice.quiet n = true) : (s.notify ns).rtVersion = s.rtVersion :=
  congrArg (fun k => k.2.2.2.1) (s.notify_still ns h)
theorem State.notify_pwr (s : State) (ns : List Notice) (h : ∀ n ∈ ns, Notice.quiet n = true) : (s.notify ns).pwr = s.pwr :=
  congrArg (fun k => k.2.2.2.2.1) (s.notify_still ns h)
theorem State.notify_lands (s : State) (ns : List Notice) (h : ∀ n ∈ ns, Notice.quiet n = true) : (s.notify ns).lands = s.lands :=
  congrArg (fun k => k.2.2.2.2.2.1) (s.notify_still ns h)
theorem State.notify_mram (s : State) (ns : List Notice) (h : ∀ n ∈ ns, Notice.quiet n = true) : (s.notify ns).mram = s.mram :=
  congrArg (fun k => k.2.2.2.2.2.2.1) (s.notify_still ns h)
theorem State.notify_banks (s : State) (ns : List Notice) (h : ∀ n ∈ ns, Notice.quiet n = true) : (s.notify ns).banks = s.banks :=
  congrArg (fun k => k.2.2.2.2.2.2.2.1) (s.notify_still ns h)
theorem State.notify_bufs (s : State) (ns : List Notice) (h : ∀ n ∈ ns, Notice.quiet n = true) : (s.notify ns).bufs = s.bufs :=
  congrArg (fun k => k.2.2.2.2.2.2.2.2.2.1) (s.notify_still ns h)
theorem State.notify_patches (s : State) (ns : List Notice) (h : ∀ n ∈ ns, Notice.quiet n = true) : (s.notify ns).patches = s.patches :=
  congrArg (fun k => k.2.2.2.2.2.2.2.2.2.2) (s.notify_still ns h)
theorem State.notify_calm (s : State) (ns : List Notice) (h : ∀ n ∈ ns, Notice.quiet n = true) : (s.notify ns).hub.calm = s.hub.calm :=
  congrArg (fun k => k.2.2.2.2.2.2.2.2.1) (s.notify_still ns h)
theorem State.notify_hub_phase (s : State) (ns : List Notice) (h : ∀ n ∈ ns, Notice.quiet n = true) : (s.notify ns).hub.phase = s.hub.phase :=
  congrArg (fun k => k.phase) (s.notify_calm ns h)
theorem State.notify_hub_cause (s : State) (ns : List Notice) (h : ∀ n ∈ ns, Notice.quiet n = true) : (s.notify ns).hub.cause = s.hub.cause :=
  congrArg (fun k => k.cause) (s.notify_calm ns h)
theorem State.notify_hub_startAt (s : State) (ns : List Notice) (h : ∀ n ∈ ns, Notice.quiet n = true) : (s.notify ns).hub.startAt = s.hub.startAt :=
  congrArg (fun k => k.startAt) (s.notify_calm ns h)
theorem State.notify_hub_failures (s : State) (ns : List Notice) (h : ∀ n ∈ ns, Notice.quiet n = true) : (s.notify ns).hub.failures = s.hub.failures :=
  congrArg (fun k => k.failures) (s.notify_calm ns h)
theorem State.notify_hub_stepsAt (s : State) (ns : List Notice) (h : ∀ n ∈ ns, Notice.quiet n = true) : (s.notify ns).hub.stepsAt = s.hub.stepsAt :=
  congrArg (fun k => k.stepsAt) (s.notify_calm ns h)
theorem State.notify_hub_tier (s : State) (ns : List Notice) (h : ∀ n ∈ ns, Notice.quiet n = true) : (s.notify ns).hub.tier = s.hub.tier :=
  congrArg (fun k => k.tier) (s.notify_calm ns h)
theorem State.notify_hub_synth (s : State) (ns : List Notice) (h : ∀ n ∈ ns, Notice.quiet n = true) : (s.notify ns).hub.synth = s.hub.synth :=
  congrArg (fun k => k.synth) (s.notify_calm ns h)
theorem State.notify_hub_calTemp (s : State) (ns : List Notice) (h : ∀ n ∈ ns, Notice.quiet n = true) : (s.notify ns).hub.calTemp = s.hub.calTemp :=
  congrArg (fun k => k.calTemp) (s.notify_calm ns h)
theorem State.notify_hub_temp (s : State) (ns : List Notice) (h : ∀ n ∈ ns, Notice.quiet n = true) : (s.notify ns).hub.temp = s.hub.temp :=
  congrArg (fun k => k.temp) (s.notify_calm ns h)
theorem State.notify_hub_windowCode (s : State) (ns : List Notice) (h : ∀ n ∈ ns, Notice.quiet n = true) : (s.notify ns).hub.windowCode = s.hub.windowCode :=
  congrArg (fun k => k.windowCode) (s.notify_calm ns h)
theorem State.notify_hub_flushing (s : State) (ns : List Notice) (h : ∀ n ∈ ns, Notice.quiet n = true) : (s.notify ns).hub.flushing = s.hub.flushing :=
  congrArg (fun k => k.flushing) (s.notify_calm ns h)
theorem State.notify_hub_calibrations (s : State) (ns : List Notice) (h : ∀ n ∈ ns, Notice.quiet n = true) : (s.notify ns).hub.calibrations = s.hub.calibrations :=
  congrArg (fun k => k.calibrations) (s.notify_calm ns h)
theorem State.notify_hub_tierChanges (s : State) (ns : List Notice) (h : ∀ n ∈ ns, Notice.quiet n = true) : (s.notify ns).hub.tierChanges = s.hub.tierChanges :=
  congrArg (fun k => k.tierChanges) (s.notify_calm ns h)
theorem State.notify_hub_strapValue (s : State) (ns : List Notice) (h : ∀ n ∈ ns, Notice.quiet n = true) : (s.notify ns).hub.strapValue = s.hub.strapValue :=
  congrArg (fun k => k.strapValue) (s.notify_calm ns h)
theorem State.notify_hub_strapStatus (s : State) (ns : List Notice) (h : ∀ n ∈ ns, Notice.quiet n = true) : (s.notify ns).hub.strapStatus = s.hub.strapStatus :=
  congrArg (fun k => k.strapStatus) (s.notify_calm ns h)
theorem State.notify_hub_startReport (s : State) (ns : List Notice) (h : ∀ n ∈ ns, Notice.quiet n = true) : (s.notify ns).hub.startReport = s.hub.startReport :=
  congrArg (fun k => k.startReport) (s.notify_calm ns h)
theorem State.notify_hub_startCause (s : State) (ns : List Notice) (h : ∀ n ∈ ns, Notice.quiet n = true) : (s.notify ns).hub.startCause = s.hub.startCause :=
  congrArg (fun k => k.startCause) (s.notify_calm ns h)
theorem State.notify_hub_duration (s : State) (ns : List Notice) (h : ∀ n ∈ ns, Notice.quiet n = true) : (s.notify ns).hub.duration = s.hub.duration :=
  congrArg (fun k => k.duration) (s.notify_calm ns h)
theorem State.notify_hub_copySel (s : State) (ns : List Notice) (h : ∀ n ∈ ns, Notice.quiet n = true) : (s.notify ns).hub.copySel = s.hub.copySel :=
  congrArg (fun k => k.copySel) (s.notify_calm ns h)
theorem State.notify_hub_statusA (s : State) (ns : List Notice) (h : ∀ n ∈ ns, Notice.quiet n = true) : (s.notify ns).hub.statusA = s.hub.statusA :=
  congrArg (fun k => k.statusA) (s.notify_calm ns h)
theorem State.notify_hub_statusB (s : State) (ns : List Notice) (h : ∀ n ∈ ns, Notice.quiet n = true) : (s.notify ns).hub.statusB = s.hub.statusB :=
  congrArg (fun k => k.statusB) (s.notify_calm ns h)
theorem State.notify_hub_copySeq (s : State) (ns : List Notice) (h : ∀ n ∈ ns, Notice.quiet n = true) : (s.notify ns).hub.copySeq = s.hub.copySeq :=
  congrArg (fun k => k.copySeq) (s.notify_calm ns h)
theorem State.notify_hub_shadowFlag (s : State) (ns : List Notice) (h : ∀ n ∈ ns, Notice.quiet n = true) : (s.notify ns).hub.shadowFlag = s.hub.shadowFlag :=
  congrArg (fun k => k.shadowFlag) (s.notify_calm ns h)
theorem State.notify_hub_chgperm (s : State) (ns : List Notice) (h : ∀ n ∈ ns, Notice.quiet n = true) : (s.notify ns).hub.chgperm = s.hub.chgperm :=
  congrArg (fun k => k.chgperm) (s.notify_calm ns h)
theorem State.notify_hub_dogMisses (s : State) (ns : List Notice) (h : ∀ n ∈ ns, Notice.quiet n = true) : (s.notify ns).hub.dogMisses = s.hub.dogMisses :=
  congrArg (fun k => k.dogMisses) (s.notify_calm ns h)
theorem State.notify_hub_lap (s : State) (ns : List Notice) (h : ∀ n ∈ ns, Notice.quiet n = true) : (s.notify ns).hub.lap = s.hub.lap :=
  congrArg (fun k => k.lap) (s.notify_calm ns h)
theorem State.notify_hub_capture (s : State) (ns : List Notice) (h : ∀ n ∈ ns, Notice.quiet n = true) : (s.notify ns).hub.capture = s.hub.capture :=
  congrArg (fun k => k.capture) (s.notify_calm ns h)
theorem State.notify_hub_time (s : State) (ns : List Notice) (h : ∀ n ∈ ns, Notice.quiet n = true) : (s.notify ns).hub.time = s.hub.time :=
  congrArg (fun k => k.time) (s.notify_calm ns h)
theorem State.notify_hub_links (s : State) (ns : List Notice) (h : ∀ n ∈ ns, Notice.quiet n = true) : (s.notify ns).hub.links = s.hub.links :=
  congrArg (fun k => k.links) (s.notify_calm ns h)
theorem State.notify_hub_views (s : State) (ns : List Notice) (h : ∀ n ∈ ns, Notice.quiet n = true) : (s.notify ns).hub.views = s.hub.views :=
  congrArg (fun k => k.views) (s.notify_calm ns h)
theorem State.notify_hub_revisions (s : State) (ns : List Notice) (h : ∀ n ∈ ns, Notice.quiet n = true) : (s.notify ns).hub.revisions = s.hub.revisions :=
  congrArg (fun k => k.revisions) (s.notify_calm ns h)
theorem State.notify_hub_inbox (s : State) (ns : List Notice) (h : ∀ n ∈ ns, Notice.quiet n = true) : (s.notify ns).hub.inbox = s.hub.inbox :=
  congrArg (fun k => k.inbox) (s.notify_calm ns h)
theorem State.notify_hub_q5Held (s : State) (ns : List Notice) (h : ∀ n ∈ ns, Notice.quiet n = true) : (s.notify ns).hub.q5Held = s.hub.q5Held :=
  congrArg (fun k => k.q5Held) (s.notify_calm ns h)
theorem State.notify_hub_agreeSince (s : State) (ns : List Notice) (h : ∀ n ∈ ns, Notice.quiet n = true) : (s.notify ns).hub.agreeSince = s.hub.agreeSince :=
  congrArg (fun k => k.agreeSince) (s.notify_calm ns h)
theorem State.notify_hub_spiBad (s : State) (ns : List Notice) (h : ∀ n ∈ ns, Notice.quiet n = true) : (s.notify ns).hub.spiBad = s.hub.spiBad :=
  congrArg (fun k => k.spiBad) (s.notify_calm ns h)
theorem State.notify_hub_romOk (s : State) (ns : List Notice) (h : ∀ n ∈ ns, Notice.quiet n = true) : (s.notify ns).hub.romOk = s.hub.romOk :=
  congrArg (fun k => k.romOk) (s.notify_calm ns h)
theorem State.notify_hub_selfOk (s : State) (ns : List Notice) (h : ∀ n ∈ ns, Notice.quiet n = true) : (s.notify ns).hub.selfOk = s.hub.selfOk :=
  congrArg (fun k => k.selfOk) (s.notify_calm ns h)
theorem State.notify_hub_patchDue (s : State) (ns : List Notice) (h : ∀ n ∈ ns, Notice.quiet n = true) : (s.notify ns).hub.patchDue = s.hub.patchDue :=
  congrArg (fun k => k.patchDue) (s.notify_calm ns h)
theorem State.notify_hub_wakeDue (s : State) (ns : List Notice) (h : ∀ n ∈ ns, Notice.quiet n = true) : (s.notify ns).hub.wakeDue = s.hub.wakeDue :=
  congrArg (fun k => k.wakeDue) (s.notify_calm ns h)
theorem State.notify_hub_lastReply (s : State) (ns : List Notice) (h : ∀ n ∈ ns, Notice.quiet n = true) : (s.notify ns).hub.lastReply = s.hub.lastReply :=
  congrArg (fun k => k.lastReply) (s.notify_calm ns h)
theorem State.notify_hub_spiOut (s : State) (ns : List Notice) (h : ∀ n ∈ ns, Notice.quiet n = true) : (s.notify ns).hub.spiOut = s.hub.spiOut :=
  congrArg (fun k => k.spiOut) (s.notify_calm ns h)
theorem State.notify_hub_run_ready (s : State) (ns : List Notice) (h : ∀ n ∈ ns, Notice.quiet n = true) : (s.notify ns).hub.run.ready = s.hub.run.ready :=
  congrArg (fun k => k.run.ready) (s.notify_calm ns h)
theorem State.notify_hub_run_readyAt (s : State) (ns : List Notice) (h : ∀ n ∈ ns, Notice.quiet n = true) : (s.notify ns).hub.run.readyAt = s.hub.run.readyAt :=
  congrArg (fun k => k.run.readyAt) (s.notify_calm ns h)
theorem State.notify_hub_run_accepted (s : State) (ns : List Notice) (h : ∀ n ∈ ns, Notice.quiet n = true) : (s.notify ns).hub.run.accepted = s.hub.run.accepted :=
  congrArg (fun k => k.run.accepted) (s.notify_calm ns h)
theorem State.notify_hub_run_inForce (s : State) (ns : List Notice) (h : ∀ n ∈ ns, Notice.quiet n = true) : (s.notify ns).hub.run.inForce = s.hub.run.inForce :=
  congrArg (fun k => k.run.inForce) (s.notify_calm ns h)
theorem State.notify_hub_run_sessions (s : State) (ns : List Notice) (h : ∀ n ∈ ns, Notice.quiet n = true) : (s.notify ns).hub.run.sessions = s.hub.run.sessions :=
  congrArg (fun k => k.run.sessions) (s.notify_calm ns h)
theorem State.notify_hub_run_waiting (s : State) (ns : List Notice) (h : ∀ n ∈ ns, Notice.quiet n = true) : (s.notify ns).hub.run.waiting = s.hub.run.waiting :=
  congrArg (fun k => k.run.waiting) (s.notify_calm ns h)
theorem State.notify_hub_run_held (s : State) (ns : List Notice) (h : ∀ n ∈ ns, Notice.quiet n = true) : (s.notify ns).hub.run.held = s.hub.run.held :=
  congrArg (fun k => k.run.held) (s.notify_calm ns h)
theorem State.notify_hub_run_reclaimed (s : State) (ns : List Notice) (h : ∀ n ∈ ns, Notice.quiet n = true) : (s.notify ns).hub.run.reclaimed = s.hub.run.reclaimed :=
  congrArg (fun k => k.run.reclaimed) (s.notify_calm ns h)
theorem State.notify_hub_run_badTags (s : State) (ns : List Notice) (h : ∀ n ∈ ns, Notice.quiet n = true) : (s.notify ns).hub.run.badTags = s.hub.run.badTags :=
  congrArg (fun k => k.run.badTags) (s.notify_calm ns h)
theorem State.notify_hub_run_badQ0 (s : State) (ns : List Notice) (h : ∀ n ∈ ns, Notice.quiet n = true) : (s.notify ns).hub.run.badQ0 = s.hub.run.badQ0 :=
  congrArg (fun k => k.run.badQ0) (s.notify_calm ns h)
theorem State.notify_hub_run_badNet (s : State) (ns : List Notice) (h : ∀ n ∈ ns, Notice.quiet n = true) : (s.notify ns).hub.run.badNet = s.hub.run.badNet :=
  congrArg (fun k => k.run.badNet) (s.notify_calm ns h)
theorem State.notify_hub_run_ipId (s : State) (ns : List Notice) (h : ∀ n ∈ ns, Notice.quiet n = true) : (s.notify ns).hub.run.ipId = s.hub.run.ipId :=
  congrArg (fun k => k.run.ipId) (s.notify_calm ns h)
theorem State.notify_hub_run_dog (s : State) (ns : List Notice) (h : ∀ n ∈ ns, Notice.quiet n = true) : (s.notify ns).hub.run.dog = s.hub.run.dog :=
  congrArg (fun k => k.run.dog) (s.notify_calm ns h)
theorem State.notify_hub_run_schedules (s : State) (ns : List Notice) (h : ∀ n ∈ ns, Notice.quiet n = true) : (s.notify ns).hub.run.schedules = s.hub.run.schedules :=
  congrArg (fun k => k.run.schedules) (s.notify_calm ns h)
theorem State.notify_hub_run_sync (s : State) (ns : List Notice) (h : ∀ n ∈ ns, Notice.quiet n = true) : (s.notify ns).hub.run.sync = s.hub.run.sync :=
  congrArg (fun k => k.run.sync) (s.notify_calm ns h)
theorem State.notify_hub_run_commitWait (s : State) (ns : List Notice) (h : ∀ n ∈ ns, Notice.quiet n = true) : (s.notify ns).hub.run.commitWait = s.hub.run.commitWait :=
  congrArg (fun k => k.run.commitWait) (s.notify_calm ns h)
theorem State.notify_hub_run_commitResult (s : State) (ns : List Notice) (h : ∀ n ∈ ns, Notice.quiet n = true) : (s.notify ns).hub.run.commitResult = s.hub.run.commitResult :=
  congrArg (fun k => k.run.commitResult) (s.notify_calm ns h)
theorem State.notify_hub_run_commitLane (s : State) (ns : List Notice) (h : ∀ n ∈ ns, Notice.quiet n = true) : (s.notify ns).hub.run.commitLane = s.hub.run.commitLane :=
  congrArg (fun k => k.run.commitLane) (s.notify_calm ns h)
theorem State.notify_hub_run_planned (s : State) (ns : List Notice) (h : ∀ n ∈ ns, Notice.quiet n = true) : (s.notify ns).hub.run.planned = s.hub.run.planned :=
  congrArg (fun k => k.run.planned) (s.notify_calm ns h)
theorem State.notify_hub_run_stop (s : State) (ns : List Notice) (h : ∀ n ∈ ns, Notice.quiet n = true) : (s.notify ns).hub.run.stop = s.hub.run.stop :=
  congrArg (fun k => k.run.stop) (s.notify_calm ns h)
theorem State.notify_hub_run_shed (s : State) (ns : List Notice) (h : ∀ n ∈ ns, Notice.quiet n = true) : (s.notify ns).hub.run.shed = s.hub.run.shed :=
  congrArg (fun k => k.run.shed) (s.notify_calm ns h)
theorem State.notify_hub_run_shedDue (s : State) (ns : List Notice) (h : ∀ n ∈ ns, Notice.quiet n = true) : (s.notify ns).hub.run.shedDue = s.hub.run.shedDue :=
  congrArg (fun k => k.run.shedDue) (s.notify_calm ns h)
theorem State.notify_hub_run_service (s : State) (ns : List Notice) (h : ∀ n ∈ ns, Notice.quiet n = true) : (s.notify ns).hub.run.service = s.hub.run.service :=
  congrArg (fun k => k.run.service) (s.notify_calm ns h)
theorem State.notify_hub_run_serviceReq (s : State) (ns : List Notice) (h : ∀ n ∈ ns, Notice.quiet n = true) : (s.notify ns).hub.run.serviceReq = s.hub.run.serviceReq :=
  congrArg (fun k => k.run.serviceReq) (s.notify_calm ns h)
theorem State.notify_hub_run_serviceOps (s : State) (ns : List Notice) (h : ∀ n ∈ ns, Notice.quiet n = true) : (s.notify ns).hub.run.serviceOps = s.hub.run.serviceOps :=
  congrArg (fun k => k.run.serviceOps) (s.notify_calm ns h)
theorem State.notify_hub_run_migration (s : State) (ns : List Notice) (h : ∀ n ∈ ns, Notice.quiet n = true) : (s.notify ns).hub.run.migration = s.hub.run.migration :=
  congrArg (fun k => k.run.migration) (s.notify_calm ns h)
theorem State.notify_hub_run_team (s : State) (ns : List Notice) (h : ∀ n ∈ ns, Notice.quiet n = true) : (s.notify ns).hub.run.team = s.hub.run.team :=
  congrArg (fun k => k.run.team) (s.notify_calm ns h)
theorem State.notify_hub_run_store (s : State) (ns : List Notice) (h : ∀ n ∈ ns, Notice.quiet n = true) : (s.notify ns).hub.run.store = s.hub.run.store :=
  congrArg (fun k => k.run.store) (s.notify_calm ns h)
theorem State.notify_hub_run_cursor (s : State) (ns : List Notice) (h : ∀ n ∈ ns, Notice.quiet n = true) : (s.notify ns).hub.run.cursor = s.hub.run.cursor :=
  congrArg (fun k => k.run.cursor) (s.notify_calm ns h)
theorem State.notify_hub_run_clearDue (s : State) (ns : List Notice) (h : ∀ n ∈ ns, Notice.quiet n = true) : (s.notify ns).hub.run.clearDue = s.hub.run.clearDue :=
  congrArg (fun k => k.run.clearDue) (s.notify_calm ns h)
theorem State.notify_hub_run_slotState (s : State) (ns : List Notice) (h : ∀ n ∈ ns, Notice.quiet n = true) : (s.notify ns).hub.run.slotState = s.hub.run.slotState :=
  congrArg (fun k => k.run.slotState) (s.notify_calm ns h)
theorem State.notify_hub_run_snapCycle (s : State) (ns : List Notice) (h : ∀ n ∈ ns, Notice.quiet n = true) : (s.notify ns).hub.run.snapCycle = s.hub.run.snapCycle :=
  congrArg (fun k => k.run.snapCycle) (s.notify_calm ns h)
theorem State.notify_hub_run_snaps (s : State) (ns : List Notice) (h : ∀ n ∈ ns, Notice.quiet n = true) : (s.notify ns).hub.run.snaps = s.hub.run.snaps :=
  congrArg (fun k => k.run.snaps) (s.notify_calm ns h)
theorem State.notify_hub_run_snapWait (s : State) (ns : List Notice) (h : ∀ n ∈ ns, Notice.quiet n = true) : (s.notify ns).hub.run.snapWait = s.hub.run.snapWait :=
  congrArg (fun k => k.run.snapWait) (s.notify_calm ns h)
theorem State.notify_hub_net_port0 (s : State) (ns : List Notice) (h : ∀ n ∈ ns, Notice.quiet n = true) : (s.notify ns).hub.net.port0 = s.hub.net.port0 :=
  congrArg (fun k => k.net.port0) (s.notify_calm ns h)
theorem State.notify_hub_net_port1 (s : State) (ns : List Notice) (h : ∀ n ∈ ns, Notice.quiet n = true) : (s.notify ns).hub.net.port1 = s.hub.net.port1 :=
  congrArg (fun k => k.net.port1) (s.notify_calm ns h)
theorem State.notify_hub_net_learned (s : State) (ns : List Notice) (h : ∀ n ∈ ns, Notice.quiet n = true) : (s.notify ns).hub.net.learned = s.hub.net.learned :=
  congrArg (fun k => k.net.learned) (s.notify_calm ns h)
theorem State.notify_hub_net_q0 (s : State) (ns : List Notice) (h : ∀ n ∈ ns, Notice.quiet n = true) : (s.notify ns).hub.net.q0 = s.hub.net.q0 :=
  congrArg (fun k => k.net.q0) (s.notify_calm ns h)
theorem State.notify_hub_net_q1 (s : State) (ns : List Notice) (h : ∀ n ∈ ns, Notice.quiet n = true) : (s.notify ns).hub.net.q1 = s.hub.net.q1 :=
  congrArg (fun k => k.net.q1) (s.notify_calm ns h)
theorem State.notify_hub_net_q3 (s : State) (ns : List Notice) (h : ∀ n ∈ ns, Notice.quiet n = true) : (s.notify ns).hub.net.q3 = s.hub.net.q3 :=
  congrArg (fun k => k.net.q3) (s.notify_calm ns h)
theorem State.notify_hub_net_q3Head (s : State) (ns : List Notice) (h : ∀ n ∈ ns, Notice.quiet n = true) : (s.notify ns).hub.net.q3Head = s.hub.net.q3Head :=
  congrArg (fun k => k.net.q3Head) (s.notify_calm ns h)
theorem State.notify_hub_net_q4 (s : State) (ns : List Notice) (h : ∀ n ∈ ns, Notice.quiet n = true) : (s.notify ns).hub.net.q4 = s.hub.net.q4 :=
  congrArg (fun k => k.net.q4) (s.notify_calm ns h)
theorem State.notify_hub_net_q4Out (s : State) (ns : List Notice) (h : ∀ n ∈ ns, Notice.quiet n = true) : (s.notify ns).hub.net.q4Out = s.hub.net.q4Out :=
  congrArg (fun k => k.net.q4Out) (s.notify_calm ns h)
theorem State.notify_hub_net_q5 (s : State) (ns : List Notice) (h : ∀ n ∈ ns, Notice.quiet n = true) : (s.notify ns).hub.net.q5 = s.hub.net.q5 :=
  congrArg (fun k => k.net.q5) (s.notify_calm ns h)
theorem State.notify_hub_net_q5At (s : State) (ns : List Notice) (h : ∀ n ∈ ns, Notice.quiet n = true) : (s.notify ns).hub.net.q5At = s.hub.net.q5At :=
  congrArg (fun k => k.net.q5At) (s.notify_calm ns h)
theorem State.notify_hub_net_classify (s : State) (ns : List Notice) (h : ∀ n ∈ ns, Notice.quiet n = true) : (s.notify ns).hub.net.classify = s.hub.net.classify :=
  congrArg (fun k => k.net.classify) (s.notify_calm ns h)
theorem State.notify_hub_net_q6 (s : State) (ns : List Notice) (h : ∀ n ∈ ns, Notice.quiet n = true) : (s.notify ns).hub.net.q6 = s.hub.net.q6 :=
  congrArg (fun k => k.net.q6) (s.notify_calm ns h)
theorem State.notify_hub_net_gapFrom (s : State) (ns : List Notice) (h : ∀ n ∈ ns, Notice.quiet n = true) : (s.notify ns).hub.net.gapFrom = s.hub.net.gapFrom :=
  congrArg (fun k => k.net.gapFrom) (s.notify_calm ns h)
theorem State.notify_hub_net_gapTo (s : State) (ns : List Notice) (h : ∀ n ∈ ns, Notice.quiet n = true) : (s.notify ns).hub.net.gapTo = s.hub.net.gapTo :=
  congrArg (fun k => k.net.gapTo) (s.notify_calm ns h)
theorem State.notify_hub_net_spiBad (s : State) (ns : List Notice) (h : ∀ n ∈ ns, Notice.quiet n = true) : (s.notify ns).hub.net.spiBad = s.hub.net.spiBad :=
  congrArg (fun k => k.net.spiBad) (s.notify_calm ns h)

end Sys2Proof.Machine
end

