-- ==== Sys2Proof/Laws/Orders.lean ====
section
/-! SUPPORT. What queuing commands on the bank links does (R22, R42): it changes the links alone, and every command for a present bank that no later
one replaces is on its link. -/

namespace Sys2Proof.Machine

theorem Hub.onLink_link (h : Hub) (b c : Nat) (f : Link → Link) (hb : b < h.links.length) :
    (h.onLink b f).link c = if b = c then f (h.link c) else h.link c := by
  unfold Hub.onLink Hub.link
  dsimp only
  by_cases e : b = c
  · subst e; rw [if_pos rfl, editAt_getD_same _ _ _ _ hb]
  · rw [if_neg e, editAt_getD_other _ _ _ _ _ e]

/-- The links are all that orders change. -/
theorem Hub.order_rest (os : List Order) (h : Hub) : (h.order os).1 = { h with links := (h.order os).1.links } := by
  induction os generalizing h with
  | nil => rfl
  | cons o os ih =>
    unfold Hub.order
    split
    · exact (ih _).trans rfl
    · exact ih h

theorem Hub.order_length (os : List Order) (h : Hub) : (h.order os).1.links.length = h.links.length := by
  induction os generalizing h with
  | nil => rfl
  | cons o os ih =>
    unfold Hub.order
    split
    · exact (ih _).trans (editAt_length _ _ _)
    · exact ih h

@[simp] theorem Hub.order_present (os : List Order) (h : Hub) (b : Nat) : (h.order os).1.present b = h.present b := by
  rw [Hub.order_rest]; rfl

/-- Commands that go to other banks leave a link alone. -/
theorem Hub.order_link_other (os : List Order) (h : Hub) (b : Nat) (ho : ∀ o ∈ os, o.bank ≠ b) : (h.order os).1.link b = h.link b := by
  induction os generalizing h with
  | nil => rfl
  | cons o os ih =>
    unfold Hub.order
    split
    · refine (ih _ fun x hx => ho x (List.mem_cons_of_mem _ hx)).trans ?_
      exact editAt_getD_other _ _ _ _ _ (ho o (List.mem_cons_self ..))
    · exact ih h fun x hx => ho x (List.mem_cons_of_mem _ hx)

/-- A request that is on a link stays there under commands that do not replace it. -/
theorem Hub.order_keeps (os : List Order) (h : Hub) (b : Nat) (r : LinkReq) (hb : b < h.links.length) (hr : r ∈ (h.link b).queue)
    (hn : ∀ o ∈ os, o.bank = b → r.superseded o.tag o.resolved o.cmd = r) : r ∈ ((h.order os).1.link b).queue := by
  induction os generalizing h with
  | nil => exact hr
  | cons o os ih =>
    have hn' := fun x hx => hn x (List.mem_cons_of_mem _ hx)
    unfold Hub.order
    split
    · refine ih _ (by simpa [Hub.onLink] using hb) ?_ hn'
      by_cases e : o.bank = b
      · subst e
        rw [Hub.onLink_link _ _ _ _ hb, if_pos rfl]
        exact List.mem_append_left _ (List.mem_map.2 ⟨r, hr, hn o (List.mem_cons_self ..) rfl⟩)
      · unfold Hub.onLink Hub.link
        dsimp only
        rw [editAt_getD_other _ _ _ _ _ e]
        exact hr
    · exact ih h hb hr hn'

/-- A command for a present bank is on its link, while no planned stop holds commands back, unless a later one of the same orders replaces it (R42). -/
theorem Hub.order_sends (pre post : List Order) (o : Order) (h : Hub) (hs : h.stopping = false) (hp : h.present o.bank = true)
    (hb : o.bank < h.links.length)
    (hn : ∀ x ∈ post, x.bank = o.bank → o.resolved = true ∨ x.resolved = true ∨ o.cmd.target = none ∨ o.cmd.target ≠ x.cmd.target) :
    ∃ r ∈ ((h.order (pre ++ o :: post)).1.link o.bank).queue,
      r.cmd.cmd = o.cmd ∧ r.cmd.tag = o.tag ∧ r.cmd.resolved = o.resolved ∧ r.cmd.lane = o.lane ∧ r.source = o.source := by
  induction pre generalizing h with
  | nil =>
    rw [List.nil_append]
    unfold Hub.order
    rw [if_pos (by rw [hp, hs]; rfl)]
    dsimp only
    refine ⟨_, Hub.order_keeps post _ o.bank
      { cmd := { id := (h.link o.bank).nextId, lane := o.lane, tag := o.tag, resolved := o.resolved, cmd := o.cmd }, source := o.source }
      (by simpa [Hub.onLink] using hb) ?_ ?_, rfl, rfl, rfl, rfl, rfl⟩
    · rw [Hub.onLink_link _ _ _ _ hb, if_pos rfl]
      exact List.mem_append_right _ (List.mem_singleton.2 rfl)
    · intro x hx e
      unfold LinkReq.superseded
      rw [if_neg]
      rcases hn x hx e with c | c | c | c
      · simp [c]
      · simp [c]
      · cases x.cmd.target <;> simp [c]
      · simp [c]
  | cons y ys ih =>
    rw [List.cons_append]
    unfold Hub.order
    split
    · exact ih _ hs hp (by simpa [Hub.onLink] using hb)
    · exact ih h hs hp hb

end Sys2Proof.Machine
end

