-- ==== Sys2Proof/Laws/Stands.lean ====
section
/-! SUPPORT. A fault that a block reports stands in the collector, whatever the further reports it gives rise to. -/

namespace Sys2Proof.Machine

theorem putBit_getLsbD {w : Nat} (x : BitVec w) (i j : Nat) (v : Bool) (h : i < w) : (putBit x i v).getLsbD j = if j = i then v else x.getLsbD j := by
  unfold putBit
  by_cases hj : j < w
  · by_cases e : j = i
    · subst e; cases v <;> simp [hj]
    · cases v <;> simp [hj, e] <;> omega
  · have h1 : ∀ y : BitVec w, y.getLsbD j = false := fun y => BitVec.getLsbD_of_ge y j (by omega)
    rw [h1, h1, if_neg (by omega)]

theorem State.record_collector (s : State) (n type w2 w3 : Nat) : (s.record n type w2 w3).1.hub.collector = s.hub.collector := by
  unfold State.record
  dsimp only
  split <;> rfl

theorem Collector.edit_stands (c : Collector) (k : Nat) (f : SourceRec → SourceRec) (x : Nat) : (c.edit k f).stands x = c.stands x := rfl

theorem Collector.pulse_stands (c : Collector) (g : CollectorCfg) (k now x : Nat) : (c.pulse g k now).stands x = c.stands x := by
  unfold Collector.pulse
  split <;> rfl

theorem Collector.acceptS_stands (c : Collector) (g : CollectorCfg) (m : FaultMsg) (i : Bool) (now sec ns x : Nat) (h : m.source < 0x40) :
    (c.acceptS g m i now sec ns).1.stands x = (decide (x = m.source) || c.stands x) := by
  unfold Collector.acceptS
  dsimp only
  have e : ∀ (y : Collector) (b : Bool) (f : SourceRec → SourceRec), (if b then y.edit m.source f else y).stands x = y.stands x := by
    intro y b f; cases b <;> rfl
  rw [e, Collector.pulse_stands, Collector.edit_stands]
  unfold Collector.stands
  dsimp only
  split
  · rw [putBit_getLsbD _ _ _ _ h]
    by_cases hx : x = m.source <;> simp [hx]
  · have : x ≠ m.source := by omega
    simp [this]

theorem Collector.acceptD_stands (c : Collector) (g : CollectorCfg) (m : FaultMsg) (x : Nat) (h : 0x40 ≤ m.source) (h' : m.source < 0x60) :
    (c.acceptD g m).1.stands x = (decide (x = m.source) || c.stands x) := by
  unfold Collector.acceptD
  dsimp only
  rw [Collector.edit_stands]
  unfold Collector.stands
  dsimp only
  split
  · have : x ≠ m.source := by omega
    simp [this]
  · rw [putBit_getLsbD _ _ _ _ (by omega)]
    by_cases hx : x = m.source
    · simp [hx]
    · have : x - 0x40 ≠ m.source - 0x40 := by omega
      simp [hx, this]

/-- Taking a number for a message changes nothing that stands. -/
theorem Collector.stamp_stands (c : Collector) (origin x : Nat) : (c.stamp origin).1.stands x = c.stands x := by
  unfold Collector.stamp
  split <;> rfl

theorem Collector.raiseGone_stands (c : Collector) (source x : Nat) : (c.raiseGone source).stands x = c.stands x := by
  unfold Collector.raiseGone
  rw [← c.stamp_stands (sourceOrigin source) x]
  unfold Collector.acceptGone
  split <;> rfl

theorem Collector.raise_stands (c : Collector) (g : CollectorCfg) (source kind address now sec ns x : Nat) (h : c.stands x = true) :
    (c.raise g source kind address now sec ns).1.stands x = true := by
  unfold Collector.raise Collector.accept
  dsimp only
  split
  · exact (c.stamp_stands _ x).trans h
  rename_i hr
  split
  · rename_i h0; exact absurd h0 (by decide)
  have h6 : source < 0x60 := by
    simp only [Bool.or_eq_true, not_or, decide_eq_true_eq] at hr; omega
  split
  · rename_i h4; rw [Collector.acceptS_stands _ _ _ _ _ _ _ _ h4, Collector.stamp_stands, h, Bool.or_true]
  · rename_i h4; rw [Collector.acceptD_stands _ _ _ _ (by dsimp only; omega) h6, Collector.stamp_stands, h, Bool.or_true]

theorem Collector.raise_new (c : Collector) (g : CollectorCfg) (source kind address now sec ns : Nat) (h : reservedSource source = false)
    (h6 : source < 0x60) (hk : kind ≠ 0) : (c.raise g source kind address now sec ns).1.stands source = true := by
  unfold Collector.raise Collector.accept
  dsimp only
  rw [if_neg (by simp [h, hk]; omega), if_neg (by decide)]
  split
  · rename_i h4; rw [Collector.acceptS_stands _ _ _ _ _ _ _ _ h4]; simp
  · rename_i h4; rw [Collector.acceptD_stands _ _ _ _ (by dsimp only; omega) h6]; simp

theorem State.foldl_stands {α : Type} (f : State → α → State) (l : List α) (x : Nat) (s : State)
    (h : ∀ s, ∀ a ∈ l, s.hub.collector.stands x = true → (f s a).hub.collector.stands x = true) (h0 : s.hub.collector.stands x = true) :
    (l.foldl f s).hub.collector.stands x = true := by
  induction l generalizing s with
  | nil => exact h0
  | cons a l ih => exact ih _ (fun s b hb => h s b (List.mem_cons_of_mem _ hb)) (h s a (List.mem_cons_self ..) h0)

/-- A fault that stands goes on standing through a quiet report. -/
theorem State.handle_stands (d : Nat) (s : State) (n : Notice) (x : Nat) (h : n.quiet = true) (h0 : s.hub.collector.stands x = true) :
    (State.handle d s n).hub.collector.stands x = true := by
  induction d generalizing s n with
  | zero => exact h0
  | succ d ih =>
    unfold State.handle
    cases n with
    | fault source kind address =>
      dsimp only
      have hq : source ≠ 0x30 := by simpa [Notice.quiet] using h
      split
      · exact State.foldl_stands _ _ _ _ (fun s a ha h1 => ih s a (Collector.raise_quiet _ _ _ _ _ _ _ _ hq a ha) h1)
          (Collector.raise_stands _ _ _ _ _ _ _ _ _ h0)
      · exact h0
    | gone source =>
      dsimp only
      split
      · exact (Collector.raiseGone_stands _ _ _).trans h0
      · exact h0
    | event e idx sub =>
      dsimp only
      split
      · exact ih _ _ rfl (by rw [State.record_collector]; exact h0)
      · rw [State.record_collector]; exact h0
    | faultEvent e m =>
      dsimp only
      generalize hw : (if m.source < 64 then _ else _ : Nat) = w
      split
      · exact ih _ _ rfl (by rw [State.record_collector]; exact h0)
      · rw [State.record_collector]; exact h0
    | journal cls code payload =>
      dsimp only
      split
      · split
        · exact h0
        · exact ih _ _ rfl h0
      · exact h0
    | resetHub cause => simp [Notice.quiet] at h

theorem State.notify_stands (s : State) (ns : List Notice) (x : Nat) (h : ∀ n ∈ ns, Notice.quiet n = true) (h0 : s.hub.collector.stands x = true) :
    (s.notify ns).hub.collector.stands x = true :=
  State.foldl_stands _ _ _ _ (fun s a ha h1 => State.handle_stands 6 s a x (h a ha) h1) h0

/-- A fault that a block of a hub out of reset reports stands. -/
theorem State.notify_fault (s : State) (source kind address : Nat) (ns : List Notice) (h : reservedSource source = false) (h6 : source < 0x60)
    (h0 : source ≠ 0x30) (hk : kind ≠ 0) (ho : s.hub.outOfReset = true) (hn : ∀ n ∈ ns, Notice.quiet n = true) :
    (s.notify (.fault source kind address :: ns)).hub.collector.stands source = true := by
  show (State.notify (State.handle 6 s (.fault source kind address)) ns).hub.collector.stands source = true
  refine State.notify_stands _ _ _ hn ?_
  unfold State.handle
  dsimp only
  rw [if_pos ho]
  exact State.foldl_stands _ _ _ _ (fun s a ha h1 => State.handle_stands 5 s a source (Collector.raise_quiet _ _ _ _ _ _ _ _ h0 a ha) h1)
    (Collector.raise_new _ _ _ _ _ _ _ _ h h6 hk)

end Sys2Proof.Machine
end

