-- ==== Sys2Proof/Laws/Write.lean ====
section
/-! SUPPORT. Bytes and values as a write carries them, and a write row as one operation: where the session may write the object, the row does what the
object does with the value, and answers. -/

namespace Sys2Proof.Machine

theorem leNat_map_range (n v : Nat) (k : Nat) :
    leNat ((List.range n).map fun i => BitVec.ofNat 8 (v / 256 ^ (k + i))) = v / 256 ^ k % 256 ^ n := by
  induction n generalizing k with
  | zero => simp [leNat, Nat.mod_one]
  | succ n ih =>
    rw [List.range_succ_eq_map, List.map_cons, List.map_map, leNat, Nat.add_zero]
    have e : ((fun i => BitVec.ofNat 8 (v / 256 ^ (k + i))) ∘ Nat.succ) = fun i => BitVec.ofNat 8 (v / 256 ^ (k + 1 + i)) := by
      funext i; simp only [Function.comp_apply, Nat.succ_eq_add_one]; rw [show k + (i + 1) = k + 1 + i by omega]
    rw [e, ih, BitVec.toNat_ofNat, Nat.pow_succ 256 k, ← Nat.div_div_eq_div_mul, Nat.pow_succ 256 n, Nat.mul_comm (256 ^ n) 256, Nat.mod_mul]

/-- The bytes of a number that fits give the number back (R12). -/
theorem leNat_leBytes (n v : Nat) (h : v < 256 ^ n) : leNat (leBytes n v) = v := by
  have e := leNat_map_range n v 0
  simp only [Nat.zero_add, Nat.pow_zero, Nat.div_one] at e
  exact e.trans (Nat.mod_eq_of_lt h)

@[simp] theorem leBytes_length (n v : Nat) : (leBytes n v).length = n := by simp [leBytes]

/-- A value written is the value read, and other values stay. -/
theorem Values.get?_put (vs : Values) (k v j : Nat) : (vs.put k v).get? j = if j = k then some v else vs.get? j := by
  induction vs with
  | nil =>
    unfold Values.put Values.get?
    by_cases e : j = k
    · subst e; simp
    · rw [if_neg e]; simp [Ne.symm e]
  | cons a as ih =>
    obtain ⟨x, y⟩ := a
    unfold Values.get? at ih ⊢
    unfold Values.put
    by_cases e : j = k
    · subst e
      rw [if_pos rfl] at ih ⊢
      split
      · simp
      · split
        · simp
        · rename_i h1 h2
          have : x ≠ j := by omega
          simpa [List.find?_cons, this] using ih
    · rw [if_neg e] at ih ⊢
      split
      · simp [Ne.symm e]
      · split
        · rename_i h1 h2
          subst h2
          simp [Ne.symm e]
        · by_cases e2 : x = j
          · subst e2; simp
          · simpa [List.find?_cons, e2] using ih

/-- A write row of a session that may write the object (R39, R391, R407): the session is used now, the object takes the value, and the row answers. A user
slot that a lane selects takes none (R142). -/
theorem State.writeRow_eq (s : State) (k idx sub : Nat) (data : List Byte) (h : Ready.mayWriteBytes s k idx sub data = true)
    (hf : s.hub.slotTaken idx = false) :
    ∃ r, rowOf s.rtVersion idx sub = some r ∧ s.writeRow k idx sub data =
      ((s.onHub fun h => h.onSession k fun x => { x with lastUsed := s.now }).store { session := k, arrival := s.now } r idx sub data).finish
        { session := k, arrival := s.now } := by
  unfold Ready.mayWriteBytes Ready.mayWrite at h
  simp only [Bool.and_eq_true, decide_eq_true_eq] at h
  obtain ⟨⟨⟨ht, hw⟩, hv⟩, hl⟩ := h
  cases hr : rowOf s.rtVersion idx sub with
  | none => simp [hr] at hl
  | some r =>
    simp only [hr, Bool.and_eq_true, decide_eq_true_eq] at hl hv
    obtain ⟨⟨⟨ha, hs⟩, _⟩, hg⟩ := hv
    refine ⟨r, rfl, ?_⟩
    have hacc : (s.onHub fun h => h.onSession k fun x => { x with lastUsed := s.now }).accessCode { session := k, arrival := s.now } r idx sub = 0 := by
      refine Eq.trans ?_ ha
      unfold State.accessCode
      have e : ∀ j, (((s.onHub fun h => h.onSession k fun x => { x with lastUsed := s.now }).hub.session j).endpoint = (s.hub.session j).endpoint)
          ∧ (((s.onHub fun h => h.onSession k fun x => { x with lastUsed := s.now }).hub.session j).role = (s.hub.session j).role) := by
        intro j
        unfold State.onHub Hub.onSession Hub.onRun Hub.session
        dsimp only
        by_cases e : k = j
        · subst e
          by_cases hk : k < s.hub.run.sessions.length
          · rw [editAt_getD_same _ _ _ _ hk]; exact ⟨rfl, rfl⟩
          · simp [List.getD_eq_getElem?_getD, editAt_getElem?, List.getElem?_eq_none (Nat.le_of_not_lt hk)]
        · rw [editAt_getD_other _ _ _ _ _ e]; exact ⟨rfl, rfl⟩
      dsimp only
      rw [(e k).1, (e k).2]
    unfold State.writeRow State.dictWrite valueCode
    rw [if_neg (by simp [ht])]
    dsimp only
    rw [if_neg (by simp [hw])]
    rw [show (s.onHub fun h => h.onSession k fun x => { x with lastUsed := s.now }).rtVersion = s.rtVersion from rfl, hr]
    dsimp only
    rw [hacc, show (s.onHub fun h => h.onSession k fun x => { x with lastUsed := s.now }).hub.slotTaken idx = false from hf]
    simp [hl, hg, Nat.not_lt.2 hs]

end Sys2Proof.Machine
end

