-- ==== Sys2Proof/WellFormed.lean ====
section
/-! DEFINITION. Well-formed commands: every operand names a thing the device has. -/

namespace Sys2Proof

/-- Banks A to D (R4). -/
def isBank (b : Nat) : Bool := decide (b < 4)

/-- Physical channels (R14). -/
def isChan (ch : Nat) : Bool := decide (ch < 48)

/-- Lanes (R15). -/
def isLane (lane : Nat) : Bool := decide (lane < 48)

/-- Network ports (R355). -/
def isPort (n : Nat) : Bool := decide (n < 2)

/-- Sessions (R395). -/
def isSession (k : Nat) : Bool := decide (k < 16)

/-- Fault sources (Table 10-4). -/
def isSource (x : Nat) : Bool := decide (x < 96)

/-- Team members (R438). -/
def isMember (m : Nat) : Bool := decide (m < 8)

/-- Hardware queues that have indices in the dictionary (R367). -/
def isRing (q : Nat) : Bool := decide (q < 7)

/-- Readings of one bank: twelve channels, fourteen sensors. -/
def Readings.wf (r : Readings) : Bool := decide (r.current.length = 12) && decide (r.output.length = 12) && decide (r.sensors.length = 14)

/-- A command whose operands are in range. -/
def Instr.wf : Instr → Bool
  | .downlinkFrameSend b _ | .bankDownlinkFrameRx b _ | .uplinkFrameRx b _ | .commandGiveUp b | .holdTimerExpiry b
    | .restartHoldExpiry b | .vsupPresent b _ _ _ _ _ | .vsupAbsent b _ _ | .vsupOvervoltageWarning b _ _ | .vsupOvervoltageClear b _
    | .bankClaim b | .limpClassificationAdopt b _ _ _ | .taggedCommandApply b | .bankDisturbanceEnd b
    | .snapshotCapture b | .bankThermalWarning b _ _ | .bankThermalNormal b _ _ | .bankSheddingEnter b _ _
    | .bankSheddingLeave b _ _ | .shedGroup b | .restoreGroup b | .bankShedHoldClear b | .bankThermalTrip b _ _
    | .bankTripLeave b _ _ | .retrimComplete b _ => isBank b
  | .bankUplinkSend b readings => isBank b && readings.wf
  | .clampDecay b samples => isBank b && decide (samples.length ≤ 12)
  | .eventAcknowledge k mask => isSession k && decide (mask < 2 ^ 32)
  | .vcorePresent _ _ | .vioPresent _ _ | .vphyPresent _ _ | .tierLower _ _ | .tierRaise _ _ | .synthLock _ | .calibrationStart _
    | .rstnReset _ | .wakeExitStandby _ | .mramWindowClose _ | .mramWindowOpen _ _ | .deferralMarker _
    | .chgpermHigh _ | .captureSample _ _ _ | .announceReceiptTimeout _ | .spiWriteQ0 _ _ | .spiReadQ1 _ _
    | .requestDiscard _ | .discover _ | .openSession _ | .confirm _ | .close _ | .keepalive _ | .provision _ | .read _ | .write _
    | .segmentRead _ | .segmentWrite _ | .queueRead _ | .queueWrite _ | .bufferRead _ | .bufferWrite _ | .storeWriteComplete _
    | .vioAbsent _ _ | .vphyAbsent _ _ | .calibrationEnd | .referenceClockLoss _ | .referenceClockRestored _ | .runtimeWatchdogExpiry _
    | .dictionaryReady | .lapBoundaryApply | .chgpermLow | .watchdogLateMiss | .armDeadlineExpiry | .votedCrossing | .lapOrigin
    | .missingCrossing | .captureStart | .errnPulseEnd | .stepConfirmTimeout | .factoryTestExit | .hostServoTimeout
    | .syncReceiptTimeout _ | .holdoverLimit | .ppsMissing | .ppsOutputRise | .ppsOutputFall | .q3LaunchEligible
    | .mediumWaitTimeout | .q4Handover | .q5Classify | .spiStatus _ | .spiTransactionDiscard _ | .responsePostResume | .arpRequest
    | .icmpEcho | .teamStatusSend | .teamStatusRx | .teamJoinRx | .teamJoinReplyRx | .teamLeaveRx | .teamProposeRx
    | .teamWithdrawRx | .teamIntentRx | .teamCommitRx | .teamCancelRx | .teamRejectRx | .formationWindowEnd | .pacerClaimTimeout
    | .joinReplyTimeout | .joinRetry | .publicationTime | .commitSendTime | .commitDeadline | .entryTargetReached
    | .saveDelayExpiry | .journalRecordWrite | .restartHoldAckTimeout => true
  | .vcoreAbsent _ _ step _ => decide (step < 8)
  | .hubResetRelease straps _ _ _ | .startRetry straps _ _ _ => decide (straps.length = 3)
  | .resetRequestRuntimeRestart k | .resetRequestHubReset k | .resetRequestWholeDevice k | .standbyRequest k | .mapCommit k
    | .sensorReadmit k _ | .permitRequestWrite k _ | .watchdogArm k _ | .watchdogDisarm k | .strideToken k _ | .lapSnapshot k
    | .lapCountPreset k _ | .captureArm k | .captureAbort k | .q7ReadIndexWrite k _ | .clearAll k | .recordClear k
    | .factoryTestKey k _ _ | .faultInject k _ | .groupDForceWrite k _ | .incrementWrite k _ | .servoOwnerTake k
    | .servoOwnerReturn k | .ppsModeWrite k _ | .teamEnable k | .teamDisable k | .saveRequest k | .journalClear k
    | .journalCursorWrite k _ | .patchVerify k | .patchErase k | .patchActivate k | .patchRevert k | .migrationStart k => isSession k
  | .resetRequestPortReset k n | .portEnable k n | .portDisable k n => isSession k && isPort n
  | .inEdgeAccept pin _ _ => decide (pin < 16)
  | .senseStarved ch _ | .sprintStepBoundary ch | .sprintFreezeLimit ch | .rampTargetReached ch | .rampHoldExpiry ch
    | .rampComplete ch _ | .rampZeroTurnOff ch | .rampStallFlag ch | .rampStallEnd ch | .shortCircuitLimitEnter ch _ _ _
    | .shortCircuitTrip ch | .overloadTrip ch | .scDetectionTrip ch _ _ | .tripTimerReset ch | .backoffEnd ch | .latchOffClear ch
    | .retryCounterReset ch | .latchCountReset ch | .clampEnd ch _ | .onStateOpenLoad ch _ _ | .onStateOpenLoadClear ch _ _
    | .offStateSourceOn ch | .offStateOpenLoad ch _ _ | .offStateOpenLoadClear ch _ _ | .offStateZeroUpdate ch _
    | .crossMeasurement ch _ _ _ | .staleOffsetEnter ch | .thermalWarning ch _ | .thermalWarningClear ch _
    | .thermalShutdown ch _ | .thermalShutdownExit ch _ | .thermalLatchClear ch | .thermalCountReset ch
    | .overloadLimitingEnter ch _ _ _ | .currentLimitingLeave ch | .senseStarvedClear ch _ | .turnOffEdgeEnd ch => isChan ch
  | .laneCommandOff k lane | .laneCommandOn k lane | .laneCommandFollow k lane | .rampTargetWrite k lane _ _ | .unlock k lane
    | .snapshotTrigger k lane | .sheddingPriorityWrite k lane _ | .patternEntryWrite k lane _ _ | .laneFailsafeEnter k lane
    | .laneReleaseAsStored k lane | .laneReleaseToOff k lane | .scheduleArm k lane _ | .scheduleCancel k lane => isSession k && isLane lane
  | .profileSlotWrite k slot sub _ => isSession k && decide (slot < 16) && decide (sub < 256)
  | .wireModelUpdate b currents => isBank b && decide (currents.length = 12)
  | .sensorBroken b sensor _ _ | .sensorCircuitFault b sensor _ _ => isBank b && decide (sensor < 14)
  | .bankFailsafeEnter k b | .bankReleaseAsStored k b | .bankReleaseToOff k b | .bankIsolate k b | .bankResetRequest k b
    | .bankRetrim k b | .bankRetire k b | .bankReturnToService k b => isSession k && isBank b
  | .zxEdgeAccept input _ _ => decide (input < 2)
  | .scheduleResolve lane => isLane lane
  | .scheduleApply b lane => isBank b && isLane lane
  | .syncWindowEnd lane currents unblanked => isLane lane && decide (currents.length = unblanked.length)
  | .faultErrorAcceptS source kind _ address => decide (source < 64) && decide (kind < 16) && decide (address < 256)
  | .faultErrorAcceptD source kind _ address => decide (64 ≤ source) && decide (source < 96) && decide (kind < 16) && decide (address < 256)
  | .faultState0Accept source | .graceExpiry source | .escalationStep source => isSource source
  | .clearSource k source | .acknowledgeSource k source => isSession k && isSource source
  | .escalationCeilingWrite k source _ => isSession k && decide (source < 64)
  | .timeSet k seconds nanos => isSession k && decide (seconds < 2 ^ 64) && decide (nanos < 2 ^ 32)
  | .stepAdjust k ns => isSession k && decide (-(2 ^ 31) ≤ ns) && decide (ns < 2 ^ 31)
  | .gptpSyncRx n _ _ | .secondDomainSample n _ _ | .gptpPdelayExchange n _ _ | .transmitOpportunity n _ | .transmitAbort n
    | .frameTransmitEnd n | .beaconLost n | .frameIngress n _ _ | .beaconSeen n | .gptpSyncSend n _ | .gptpAnnounceSend n
    | .receiveErrorRateClear n | .gptpAnnounceRx n _ _ _ => isPort n
  | .ppsEdgeCapture low => decide (low < 2 ^ 32)
  | .queueProducerWrite k queue _ | .queueConsumerWrite k queue _ | .overflowFlagClear k queue => isSession k && isRing queue
  | .learnEntryAgeOut mac => decide (mac < 2 ^ 48)
  | .plcaSettingWrite k n sub _ => isSession k && isPort n && decide (sub < 256)
  | .confirmTimeout n | .sessionReclaim n | .segmentTimeout n => isSession n
  | .sessionCloseObject k n => isSession k && isSession n
  | .keyWrite k _ key => isSession k && decide (key.length = 32)
  | .transportConfigWrite k sub _ => isSession k && decide (sub < 256)
  | .memberTimeout m | .awayTimeout m => isMember m
  | .channelRetireWrite k ch _ => isSession k && isChan ch
  | .registerWrite k idx sub _ => isSession k && decide (idx < 2 ^ 16) && decide (sub < 256)

end Sys2Proof
end

