-- ==== Sys2Proof/Tests/Slice0.lean ====
section
/-! SUPPORT. Tests of the model: for every statement one theorem whose states and operands meet all its hypotheses, clause by clause and at
boundary values; terms that well-formedness refuses; small tests of single steps. -/

open Sys2Proof Sys2Proof.Machine

namespace Sys2Proof.Tests

set_option Elab.async false

/-! ## States to test with -/

/-- The clock of the test states. -/
def clk : Nat := 10000000000000

/-- A running bank, its inputs valid. -/
def core0 : BankCore := { factoryBank.core with running := true, supply := 24000, inputValid := true }

/-- An open session on the SPI port. -/
def sess (r : Role) : Session := { mode := .opened, role := r, lastUsed := clk }

/-- Sessions 0 to 2 are open as service, operator and observer. -/
def sessions0 : List Session := [sess .service, sess .operator, sess .observer] ++ List.replicate 13 ({} : Session)

def hub0 : Hub :=
  { phase := .running, tier := 120, synth := 1, views := List.replicate 4 (some core0), run := { ready := true, sessions := sessions0 }
    net := { port0 := { running := true }, port1 := { running := true } }, collector := { handed := true } }

/-- A device that serves: every supply present, four banks claimed. -/
def live : State :=
  { State.reset with now := clk, pwr := { vcore := true, vio := true, vphy := true, vcoreMv := 1100, vioMv := 1800, vphyMv := 3300 }
                     banks := List.replicate 4 { core := core0 }, hub := hub0 }

def onB (f : Bank → Bank) (s : State := live) : State := s.onBank 0 f
def onK (f : BankCore → BankCore) (s : State := live) : State := onB (fun b => { b with core := f b.core }) s
def onC (f : Chan → Chan) (s : State := live) : State := onK (fun k => { k with chans := editAt k.chans 0 f }) s
def onH (f : Hub → Hub) (s : State := live) : State := s.onHub f
def onR (f : Run → Run) (s : State := live) : State := onH (fun h => { h with run := f h.run }) s
def onN (f : Net → Net) (s : State := live) : State := onH (fun h => { h with net := f h.net }) s
def onP (f : Port → Port) (s : State := live) : State := onN (fun n => { n with port0 := f n.port0 }) s
def onT (f : TimeDomains → TimeDomains) (s : State := live) : State := onH (fun h => { h with time := f h.time }) s
def onLap (f : Lap → Lap) (s : State := live) : State := onH (fun h => { h with lap := f h.lap }) s
def onCol (f : Collector → Collector) (s : State := live) : State := onH (fun h => { h with collector := f h.collector }) s
def onTeam (f : Team → Team) (s : State := live) : State := onR (fun r => { r with team := f r.team }) s

/-- Values of objects, accepted and in force. -/
def vals (l : List (Nat × Nat × Nat)) (s : State := live) : State :=
  onR (fun r => { r with accepted := l.foldl (fun v e => Values.put v (objKey e.1 e.2.1) e.2.2) r.accepted
                         inForce := l.foldl (fun v e => Values.put v (objKey e.1 e.2.1) e.2.2) r.inForce }) s

/-- A channel that is on in normal operation. -/
def lit (f : Chan → Chan := id) (s : State := live) : State :=
  onC (fun c => f { c with io := { c.io with normal := .on, on := true, demandOffSince := none } }) s

/-- An IPv4 header of an ICMP datagram of 30 bytes from 10.0.0.1 to 10.0.0.2. -/
def ipHeader : List Byte :=
  let h (sum : List Byte) : List Byte :=
    [0x45#8, 0#8, 0#8, 30#8, 0#8, 0#8, 0#8, 0#8, 64#8, 1#8] ++ sum ++ [10#8, 0#8, 0#8, 1#8, 10#8, 0#8, 0#8, 2#8]
  h (beBytes 2 (inetSum (h [0#8, 0#8])))

/-- A request without a tag, and one with the tag of its session; the state in which a request waits in Q0, or has come over the network. -/
def plain (service session : Nat) (body : List Byte) : List Byte :=
  [1#8, 1#8, BitVec.ofNat 8 service, BitVec.ofNat 8 session, 5#8, 0#8] ++ leBytes 2 body.length ++ leBytes 4 7 ++ body
def signed (service session : Nat) (body : List Byte) : List Byte :=
  let header : List Byte := [1#8, 0x21#8, BitVec.ofNat 8 service, BitVec.ofNat 8 session, 5#8, 0#8] ++ leBytes 2 body.length ++ leBytes 4 7
  header ++ body ++ live.hub.tagOf (live.hub.session session) header body
def posed (data : List Byte) (s : State := live) : State :=
  onN (fun n => { n with q0 := { prod := 1, entries := [{ payload := data, length := data.length, at_ := clk }] } }) s
def asked (data : List Byte) : Request := { data := data, at_ := clk }
def road : NetPath := { mac := 2, endpoint := .raw 2, arrival := clk }
def sent (data : List Byte) (s : State := live) : State := onH (fun h => { h with inbox := [.phoden road data] }) s
def heard (data : List Byte) : Request := { data := data, path := some road, at_ := clk }

/-- A team frame that waits in the inbox, from member 3, and a member that has been heard. -/
def flagged (mac type : Nat) (body : List Byte) (s : State := live) : State :=
  onH (fun h => { h with inbox := [.team mac ([2#8, 1#8, BitVec.ofNat 8 type, 3#8] ++ List.replicate 12 0#8 ++ leBytes 2 body.length ++ [0#8, 0#8] ++ body)] }) s
def known : Member := { mode := .member, mac := 9, hash := 5, heardAt := some (clk - 1), rank := 7 }

/-! ## What holds whatever the unit's own address is -/

theorem ownMac_lt : ownMac < 2 ^ 48 := Nat.mod_lt _ (by decide)

/-- Of two addresses, one is not the unit's own. -/
theorem twoMacs {p : Prop} (f : ∀ mac : Nat, mac = 2 ∨ mac = 3 → mac ≠ ownMac → p) : p := by
  by_cases h : (2 : Nat) = ownMac
  · exact f 3 (.inr rfl) (by omega)
  · exact f 2 (.inl rfl) h

/-- A relay sends Sync on the port from which it does not take time. -/
theorem relays (h : Hub) (n : Nat) (second : Bool) (up : h.gptpPort n = true)
    (r : (decide (h.timeCfg.inst = 2) && (h.time.domain second).grandmaster.isSome && (h.time.domain second).slavePort == some (1 - n)) = true) :
    h.sendsSync n second = true := by simp [Hub.sendsSync, up, r]

/-- A grandmaster whose identity is no MAC address is another unit. -/
theorem notOwn (s : State) (second : Bool) (g : Nat) (e : (s.hub.time.domain second).grandmaster = some g) (far : 2 ^ 48 ≤ g % 2 ^ 64) :
    s.hub.ownMaster second = false := by
  have := ownMac_lt
  simp only [Hub.ownMaster, TimeDomains.ownMaster, e, decide_eq_false_iff_not]
  omega

theorem announceDue (s : State) (second : Bool) (g : Nat) (e : (s.hub.time.domain second).grandmaster = some g) (far : 2 ^ 48 ≤ g % 2 ^ 64)
    (r : (s.hub.runtimeOn && decide ((s.hub.time.domain second).grandmaster = some g)
      && !((s.hub.time.domain second).live s.hub.timeCfg s.now).any fun x => decide (x.vector % 2 ^ 64 = g % 2 ^ 64)) = true) :
    Ready.announceTimeout s second g = true := by
  simpa [Ready.announceTimeout, notOwn s second g e far] using r

theorem syncDue (s : State) (second : Bool) (g : Nat) (e : (s.hub.time.domain second).grandmaster = some g) (far : 2 ^ 48 ≤ g % 2 ^ 64)
    (r : (s.hub.runtimeOn && !(s.hub.time.domain second).timeout
      && elapsed (s.hub.time.domain second).lastSync (s.hub.timeCfg.syncCount * (s.hub.time.domain second).intervalNs) s.now) = true) :
    Ready.syncTimeout s second = true := by
  simpa [Ready.syncTimeout, notOwn s second g e far] using r

/-! ## Hypotheses that are met: one theorem for each statement -/

theorem witness_LandsInputsAndStarvation :
  (∃ (s : State) (b : Nat) (held : Nat), Ready.limpClassificationAdopt s b held = true)
  ∧ (∃ (s : State) (pin : Nat), Ready.inEdgeAccept s pin = true)
  ∧ (∃ (s : State) (ch : Nat) (without : Nat), Ready.senseStarved s ch without = true)
  ∧ (∃ (s : State) (ch : Nat) (interval : Nat), Ready.senseStarvedClear s ch interval = true) :=
  ⟨⟨live, 0, 100000, by decide +kernel⟩,
   ⟨live, 15, by decide +kernel⟩,
   ⟨lit id, 0, 10000000, by decide +kernel⟩,
   ⟨lit fun c => { c with sense := { c.sense with starved := true } }, 0, 20000, by decide +kernel⟩⟩

theorem witness_CommandsActAtTheirMoment :
  (∃ (s : State) (b : Nat), Ready.bankRuns s b = true)
  ∧ (∃ (s : State) (b : Nat), Ready.bankRuns s b = true)
  ∧ (∃ (s : State) (b : Nat) (lane : Nat) (c : LinkCmd) (p : Nat) (d : Drive) (r : Nat) (at_ : Nat), Ready.bankRuns s b = true ∧ p < 12 ∧ (s.bank b).tagged.filter (Ready.dueSchedule s lane) = [c] ∧ c.cmd = .setNormal p d ∧ (s.bank b).core.lastValidRx = some r ∧ c.tag = some at_ ∧ (s.hub.serving && s.hub.scheduleRefused lane) = false)
  ∧ (∃ (s : State) (b : Nat) (lane : Nat) (c : LinkCmd), Ready.bankRuns s b = true ∧ (s.bank b).tagged.filter (Ready.dueSchedule s lane) = [c] ∧ s.hub.serving = true ∧ s.hub.scheduleRefused lane = true) :=
  ⟨⟨onB fun b => { b with tagged := [{ id := 5, tag := some clk, cmd := .snapshot 7 }] }, 0, by decide +kernel⟩,
   ⟨onB fun b => { b with tagged := [{ id := 5, tag := some clk, cmd := .snapshot 7 }] }, 0, by decide +kernel⟩,
   ⟨onB (fun b => { b with tagged := [{ id := 5, lane := 3, tag := some clk, resolved := true, cmd := .setNormal 2 .on }] }) (onK fun k => { k with lastValidRx := some (clk - 200000) }), 0, 3, { id := 5, lane := 3, tag := some clk, resolved := true, cmd := .setNormal 2 .on }, 2, .on, clk - 200000, clk, by decide +kernel⟩,
   ⟨onB (fun b => { b with tagged := [{ id := 5, lane := 3, tag := some clk, resolved := true, cmd := .setNormal 2 .on }] }) (vals [(0x3402, 4, 0xFFFF)] (onR fun r => { r with schedules := editAt r.schedules 3 fun x => { x with status := 2, cmd := .on } })), 0, 3, { id := 5, lane := 3, tag := some clk, resolved := true, cmd := .setNormal 2 .on }, by decide +kernel⟩⟩

theorem witness_SprintWindowsStepAndEnd :
  (∃ (s : State) (ch : Nat), Ready.sprintStepBoundary s ch = true)
  ∧ (∃ (s : State) (ch : Nat), Ready.sprintFreezeLimit s ch = true) :=
  ⟨⟨lit fun c => { c with window := { step := 1, table := [(6000, 10), (5000, 20)], timer := { acc := 990000 } } }, 0, by decide +kernel⟩,
   ⟨lit fun c => { c with window := { step := 1, table := [(6000, 10)], frozen := true, freezeRun := { acc := 2000000 } } }, 0, by decide +kernel⟩⟩

theorem witness_RampsHoldStallAndComplete :
  (∃ (s : State) (ch : Nat), Ready.rampTargetReached s ch = true)
  ∧ (∃ (s : State) (ch : Nat), Ready.rampHoldExpiry s ch = true)
  ∧ (∃ (s : State) (ch : Nat) (mv : Nat), Ready.rampComplete s ch mv = true ∧ ((s.chan ch).window.running = true ∨ (s.chan ch).trip.olTimer.value s.now < tripOver (classOf ch)))
  ∧ (∃ (s : State) (ch : Nat) (mv : Nat), Ready.rampComplete s ch mv = true ∧ (s.chan ch).window.running = false ∧ tripOver (classOf ch) ≤ (s.chan ch).trip.olTimer.value s.now)
  ∧ (∃ (s : State) (ch : Nat), Ready.rampZeroTurnOff s ch = true)
  ∧ (∃ (s : State) (ch : Nat), Ready.rampStallFlag s ch = true)
  ∧ (∃ (s : State) (ch : Nat), Ready.rampStallEnd s ch = true) :=
  ⟨⟨lit fun c => { c with cfg := { c.cfg with load := { loadType := 5, rampTarget := 999 } }, ramp := { regulating := true, target := 999, reference := 999 * 24000000 } }, 0, by decide +kernel⟩,
   ⟨lit fun c => { c with cfg := { c.cfg with load := { loadType := 5, rampTarget := 999 } }, ramp := { regulating := true, target := 999, reference := 999 * 24000000, holdTimer := some (clk - 500000000) } }, 0, by decide +kernel⟩,
   ⟨lit fun c => { c with cfg := { c.cfg with load := { loadType := 5, rampTarget := 1000 } }, ramp := { regulating := true, target := 1000, reference := 1000 * 24000000 } }, 0, 23520, by decide +kernel⟩,
   ⟨lit fun c => { c with cfg := { c.cfg with load := { loadType := 5, rampTarget := 1000 } }, ramp := { regulating := true, target := 1000 }, trip := { c.trip with overload := true, olTimer := { acc := 10000000 } } }, 0, 23520, by decide +kernel⟩,
   ⟨lit fun c => { c with cfg := { c.cfg with load := { loadType := 5, rampTarget := 0 } }, ramp := { regulating := true, target := 0, reference := 0 * 24000000 } }, 0, by decide +kernel⟩,
   ⟨lit fun c => { c with cfg := { c.cfg with load := { loadType := 5, rampTarget := 500 } }, ramp := { regulating := true, target := 500, reference := 500 * 24000000, stallFrom := some (clk - 100001) } }, 0, by decide +kernel⟩,
   ⟨lit fun c => { c with cfg := { c.cfg with load := { loadType := 5, rampTarget := 500 } }, ramp := { regulating := true, target := 500, reference := 500 * 24000000, stallFrom := some (clk - 200000), freeFrom := some (clk - 100000), stalled := true } }, 0, by decide +kernel⟩⟩

theorem witness_CurrentLimitingAndDisturbances :
  (∃ (s : State) (ch : Nat) (mv : Nat) (risen : Nat) (ma : Nat), Ready.shortCircuitLimitEnter s ch mv risen ma = true)
  ∧ (∃ (s : State) (ch : Nat) (mv : Nat) (risen : Nat) (ma : Nat), Ready.overloadLimitingEnter s ch mv risen ma = true)
  ∧ (∃ (s : State) (ch : Nat), Ready.currentLimitingLeave s ch = true)
  ∧ (∃ (s : State) (b : Nat), Ready.bankDisturbanceEnd s b = true) :=
  ⟨⟨lit id, 0, 5999, 479, 60000, by decide +kernel⟩,
   ⟨lit id, 0, 6000, 0, 60000, by decide +kernel⟩,
   ⟨lit fun c => { c with trip := { c.trip with overload := true } }, 0, by decide +kernel⟩,
   ⟨onK fun k => { k with disturbed := true, shortLeft := clk - 50000 }, 0, by decide +kernel⟩⟩

theorem witness_TripsTurnChannelsOffUntilTheirTimersEnd :
  (∃ (s : State) (ch : Nat), Ready.shortCircuitTrip s ch = true)
  ∧ (∃ (s : State) (ch : Nat), Ready.overloadTrip s ch = true)
  ∧ (∃ (s : State) (ch : Nat) (ma : Nat) (held : Nat), Ready.scDetectionTrip s ch ma held = true)
  ∧ (∃ (s : State) (ch : Nat), Ready.tripTimerReset s ch = true)
  ∧ (∃ (s : State) (ch : Nat), Ready.backoffEnd s ch = true)
  ∧ (∃ (s : State) (ch : Nat), Ready.latchOffClear s ch = true)
  ∧ (∃ (s : State) (ch : Nat), Ready.retryCounterReset s ch = true)
  ∧ (∃ (s : State) (ch : Nat), Ready.latchCountReset s ch = true) :=
  ⟨⟨lit fun c => { c with trip := { c.trip with shortCct := true, scTimer := { acc := 475000 } } }, 0, by decide +kernel⟩,
   ⟨lit fun c => { c with trip := { c.trip with overload := true, olTimer := { acc := 9500000 } } }, 0, by decide +kernel⟩,
   ⟨lit id, 0, 60001, 1000, by decide +kernel⟩,
   ⟨lit fun c => { c with trip := { c.trip with olTimer := { acc := 5 }, olGone := some (clk - 1000000), scGone := some (clk - 1000000) } }, 0, by decide +kernel⟩,
   ⟨onC fun c => { c with io := { c.io with normal := .on, demandOffSince := none }, trip := { c.trip with backoff := some clk, retryCount := 1 } }, 0, by decide +kernel⟩,
   ⟨onC fun c => { c with io := { c.io with demandOffSince := some (clk - 10000000) }, trip := { c.trip with latchedAt := some (clk - 10000000), retryCount := 3 } }, 0, by decide +kernel⟩,
   ⟨lit fun c => { c with trip := { c.trip with retryCount := 2, healthyT := { acc := 1000000000 } } }, 0, by decide +kernel⟩,
   ⟨onC fun c => { c with trip := { c.trip with latchCount := 2, latchT := { acc := 600000000000 } } }, 0, by decide +kernel⟩⟩

theorem witness_ClampEnergyIsIntegrated :
  (∃ (s : State) (ch : Nat), Ready.clampEnd s ch = true)
  ∧ (∃ (s : State) (ch : Nat), Ready.turnOffEdgeEnd s ch = true)
  ∧ (∃ (s : State) (b : Nat), Ready.bankRuns s b = true) :=
  ⟨⟨onC fun c => { c with io := { c.io with turningOff := true } }, 0, by decide +kernel⟩,
   ⟨onC fun c => { c with io := { c.io with turningOff := true }, clamp := { energy := 10000000 } }, 0, by decide +kernel⟩,
   ⟨onC fun c => { c with clamp := { energy := 4096 } }, 0, by decide +kernel⟩⟩

theorem witness_WireModelFollowsItsRule :
  (∃ (s : State) (b : Nat), Ready.bankRuns s b = true) :=
  ⟨lit fun c => { c with cfg := { c.cfg with prot := { c.cfg.prot with wireI := 1000, wireRise := 0 } } }, 0, by decide +kernel⟩

theorem witness_OpenLoadsAndSenseOffsetsAreTracked :
  (∃ (s : State) (ch : Nat) (ua : Nat) (held : Nat), Ready.onStateOpenLoad s ch ua held = true)
  ∧ (∃ (s : State) (ch : Nat) (ua : Nat) (held : Nat), Ready.onStateOpenLoadClear s ch ua held = true)
  ∧ (∃ (s : State) (ch : Nat), Ready.offStateSourceOn s ch = true)
  ∧ (∃ (s : State) (ch : Nat) (mv : Nat) (held : Nat), Ready.offStateOpenLoad s ch mv held = true)
  ∧ (∃ (s : State) (ch : Nat) (mv : Nat) (held : Nat), Ready.offStateOpenLoadClear s ch mv held = true)
  ∧ (∃ (s : State) (ch : Nat), Ready.offStateZeroUpdate s ch = true)
  ∧ (∃ (s : State) (ch : Nat), Ready.crossMeasurement s ch = true)
  ∧ (∃ (s : State) (ch : Nat), Ready.staleOffsetEnter s ch = true) :=
  ⟨⟨lit fun c => { c with cfg := { c.cfg with prot := { c.cfg.prot with openStd := 100 } } }, 0, 99999, 10000000, by decide +kernel⟩,
   ⟨lit fun c => { c with cfg := { c.cfg with prot := { c.cfg.prot with openStd := 100 } }, sense := { c.sense with openOn := true } }, 0, 110000, 10000000, by decide +kernel⟩,
   ⟨onC fun c => { c with cfg := { c.cfg with prot := { c.cfg.prot with offCheck := true } }, io := { c.io with blankUntil := clk - 1000000 } }, 0, by decide +kernel⟩,
   ⟨onC fun c => { c with cfg := { c.cfg with prot := { c.cfg.prot with offCheck := true } }, sense := { c.sense with sourceOn := true } }, 0, 2001, 10000000, by decide +kernel⟩,
   ⟨onC fun c => { c with cfg := { c.cfg with prot := { c.cfg.prot with offCheck := true } }, sense := { c.sense with sourceOn := true, openOff := true } }, 0, 2000, 10000000, by decide +kernel⟩,
   ⟨onC fun c => { c with io := { c.io with blankUntil := clk - 250000 } }, 0, by decide +kernel⟩,
   ⟨lit fun c => { c with sense := { c.sense with crossAt := clk - 100000000 } }, 0, by decide +kernel⟩,
   ⟨live, 0, by decide +kernel⟩⟩

theorem witness_ChannelTemperatureActions :
  (∃ (s : State) (ch : Nat) (temp : Int), Ready.thermalWarning s ch temp = true)
  ∧ (∃ (s : State) (ch : Nat) (temp : Int), Ready.thermalWarningClear s ch temp = true)
  ∧ (∃ (s : State) (ch : Nat) (temp : Int), Ready.thermalShutdown s ch temp = true)
  ∧ (∃ (s : State) (ch : Nat) (temp : Int), Ready.thermalShutdownExit s ch temp = true)
  ∧ (∃ (s : State) (ch : Nat), Ready.thermalLatchClear s ch = true)
  ∧ (∃ (s : State) (ch : Nat), Ready.thermalCountReset s ch = true) :=
  ⟨⟨live, 0, 1500, by decide +kernel⟩,
   ⟨onC fun c => { c with thermal := { c.thermal with warned := true } }, 0, 1449, by decide +kernel⟩,
   ⟨lit fun c => { c with thermal := { c.thermal with streak := 15 } }, 0, 1750, by decide +kernel⟩,
   ⟨onC fun c => { c with thermal := { c.thermal with shutdown := true } }, 0, 1599, by decide +kernel⟩,
   ⟨onC fun c => { c with io := { c.io with demandOffSince := some (clk - 10000000) }, thermal := { c.thermal with latchedAt := some (clk - 10000000), streak := 3 } }, 0, by decide +kernel⟩,
   ⟨onC fun c => { c with thermal := { c.thermal with streak := 3, streakT := { acc := 1000000000 } } }, 0, by decide +kernel⟩⟩

theorem witness_BankTemperatureStates :
  (∃ (s : State) (b : Nat) (r1 : Int) (r2 : Int), Ready.bankThermalWarning s b r1 r2 = true)
  ∧ (∃ (s : State) (b : Nat) (r1 : Int) (r2 : Int), Ready.bankThermalNormal s b r1 r2 = true)
  ∧ (∃ (s : State) (b : Nat) (r1 : Int) (r2 : Int), Ready.bankSheddingEnter s b r1 r2 = true)
  ∧ (∃ (s : State) (b : Nat) (r1 : Int) (r2 : Int), Ready.bankSheddingLeave s b r1 r2 = true)
  ∧ (∃ (s : State) (b : Nat) (r1 : Int) (r2 : Int), Ready.bankThermalTrip s b r1 r2 = true)
  ∧ (∃ (s : State) (b : Nat) (r1 : Int) (r2 : Int), Ready.bankTripLeave s b r1 r2 = true)
  ∧ (∃ (s : State) (b : Nat), Ready.bankShedHoldClear s b = true)
  ∧ (∃ (s : State) (b : Nat) (sensor : Nat) (kind : SensorFault) (held : Nat), Ready.sensorBroken s b sensor kind held = true)
  ∧ (∃ (s : State) (b : Nat) (sensor : Nat), Ready.bankRuns s b = true ∧ sensor < 14) :=
  ⟨⟨onK fun k => { k with thermal := .normal }, 0, 1500, 250, by decide +kernel⟩,
   ⟨onK fun k => { k with thermal := .warning }, 0, 1449, 250, by decide +kernel⟩,
   ⟨onK fun k => { k with thermal := .warning }, 0, 1600, 250, by decide +kernel⟩,
   ⟨onK fun k => { k with thermal := .shedding }, 0, 1599, 250, by decide +kernel⟩,
   ⟨onK fun k => { k with thermal := .shedding }, 0, 1700, 250, by decide +kernel⟩,
   ⟨onK fun k => { k with thermal := .tripped }, 0, 1549, 250, by decide +kernel⟩,
   ⟨onK fun k => { k with silent := true, coolFrom := some (clk - 10000000000) }, 0, by decide +kernel⟩,
   ⟨onK fun k => { k with sensors := editAt k.sensors 3 fun x => { x with reading := 2500 } }, 0, 3, .outOfRange, 10000000, by decide +kernel⟩,
   ⟨live, 0, 13, by decide +kernel⟩⟩

theorem witness_DownlinkFramesCarryCommands :
  (∃ (s : State) (b : Nat), Ready.downlinkFrameSend s b = true)
  ∧ (∃ (s : State) (b : Nat) (f : DownFrame), Ready.arrived s b f = true)
  ∧ (∃ (s : State) (b : Nat) (f : DownFrame), Ready.arrived s b f = true ∧ f.cmds = [] ∧ (s.bank b).lostMsgs = 0)
  ∧ (∃ (s : State) (b : Nat) (f : DownFrame) (c : LinkCmd) (p : Nat) (d : Drive), Ready.arrived s b f = true ∧ f.cmds = [c] ∧ c.cmd = .setNormal p d ∧ c.tag = none ∧ p < 12 ∧ (s.bank b).acked.contains c.id = false) :=
  ⟨⟨live, 0, by decide +kernel⟩,
   ⟨onB fun b => { b with down := some { startAt := clk - 12800, cmds := [], hold := false, msgAcks := [] } }, 0, { startAt := clk - 12800, cmds := [], hold := false, msgAcks := [] }, by decide +kernel⟩,
   ⟨onB fun b => { b with down := some { startAt := clk - 12800, cmds := [], hold := false, msgAcks := [] } }, 0, { startAt := clk - 12800, cmds := [], hold := false, msgAcks := [] }, by decide +kernel⟩,
   ⟨onB fun b => { b with down := some { startAt := clk - 12800, cmds := [{ id := 9, cmd := .setNormal 11 .follow }], hold := false, msgAcks := [] } }, 0, { startAt := clk - 12800, cmds := [{ id := 9, cmd := .setNormal 11 .follow }], hold := false, msgAcks := [] }, { id := 9, cmd := .setNormal 11 .follow }, 11, .follow, by decide +kernel⟩⟩

theorem witness_UplinkFramesReportTheBank :
  (∃ (s : State) (b : Nat), Ready.bankUplinkSend s b = true)
  ∧ (∃ (s : State) (b : Nat) (f : UpFrame), Ready.uplinkArrived s b f = true ∧ s.hub.runtimeOn = true ∧ (Ready.recentDiscards s b).length < 15)
  ∧ (∃ (s : State) (b : Nat) (f : UpFrame), Ready.uplinkArrived s b f = true ∧ s.hub.runtimeOn = true ∧ 15 ≤ (Ready.recentDiscards s b).length)
  ∧ (∃ (s : State) (b : Nat) (f : UpFrame), Ready.telemetry s b f = true) :=
  ⟨⟨onB fun b => { b with detected := some (clk - 25000), msgs := [] }, 0, by decide +kernel⟩,
   ⟨onB (fun b => { b with up := some { startAt := clk - 12800, acks := [4], msgs := [], first := false, discards := 0, schedRan := [], core := core0 } }) (onH fun h => h), 0, { startAt := clk - 12800, acks := [4], msgs := [], first := false, discards := 0, schedRan := [], core := core0 }, by decide +kernel⟩,
   ⟨onB (fun b => { b with up := some { startAt := clk - 12800, acks := [4], msgs := [], first := false, discards := 0, schedRan := [], core := core0 } }) (onH fun h => { h with links := editAt h.links 0 fun l => { l with discards := List.replicate 15 clk } }), 0, { startAt := clk - 12800, acks := [4], msgs := [], first := false, discards := 0, schedRan := [], core := core0 }, by decide +kernel⟩,
   ⟨onB (fun b => { b with up := some { startAt := clk - 12800, acks := [4], msgs := [], first := false, discards := 0, schedRan := [], core := core0 } }) (onH fun h => h), 0, { startAt := clk - 12800, acks := [4], msgs := [], first := false, discards := 0, schedRan := [], core := core0 }, by decide +kernel⟩⟩

theorem witness_LostLinksEndInFailSafe :
  (∃ (s : State) (b : Nat), Ready.holdTimerExpiry s b = true)
  ∧ (∃ (s : State) (b : Nat), Ready.restartHoldExpiry s b = true)
  ∧ (∃ (s : State) (b : Nat), Ready.commandGiveUp s b = true) :=
  ⟨⟨onK fun k => { k with holdFrom := some (clk - 50000000) }, 0, by decide +kernel⟩,
   ⟨onK fun k => { k with restartHold := true, holdFrom := some (clk - 150000000) }, 0, by decide +kernel⟩,
   ⟨onH fun h => { h with links := editAt h.links 0 fun l => { l with queue := [{ cmd := { id := 1, cmd := .setC 0 true }, first := some (clk - 1000000) }] } }, 0, by decide +kernel⟩⟩

theorem witness_HubSuppliesComeAndGo :
  (∃ (s : State) (mv : Nat) (held : Nat), s.pwr.vcore = false ∧ 880 ≤ mv ∧ 1000 ≤ held)
  ∧ (∃ (s : State) (mv : Nat) (held : Nat), s.pwr.vcore = true ∧ mv ≤ 880 ∧ 1000 ≤ held ∧ 1 ≤ s.hub.cause)
  ∧ (∃ (s : State) (mv : Nat) (held : Nat), s.shaped = true ∧ s.pwr.vio = false ∧ 1680 ≤ mv ∧ 5000 ≤ held)
  ∧ (∃ (s : State) (mv : Nat) (held : Nat), s.shaped = true ∧ s.pwr.vio = true ∧ mv ≤ 1700 ∧ 5000 ≤ held)
  ∧ (∃ (s : State) (mv : Nat) (held : Nat), s.pwr.vphy = false ∧ 2880 ≤ mv ∧ 5000 ≤ held)
  ∧ (∃ (s : State) (mv : Nat) (held : Nat), s.pwr.vphy = true ∧ mv ≤ 2880 ∧ 5000 ≤ held)
  ∧ (∃ (held : Nat), held < 1000)
  ∧ (∃ (held : Nat), held < 5000) :=
  ⟨⟨State.reset, 880, 1000, by decide +kernel⟩,
   ⟨live, 880, 1000, by decide +kernel⟩,
   ⟨State.reset, 1680, 5000, by decide +kernel⟩,
   ⟨live, 1700, 5000, by decide +kernel⟩,
   ⟨State.reset, 2880, 5000, by decide +kernel⟩,
   ⟨live, 2880, 5000, by decide +kernel⟩,
   ⟨999, by decide +kernel⟩,
   ⟨4999, by decide +kernel⟩⟩

theorem witness_BankSuppliesStartAndStopBanks :
  (∃ (s : State) (b : Nat) (mv : Nat) (held : Nat), b < 4 ∧ s.shaped = true ∧ (s.bank b).core.running = false ∧ ((s.bank b).core.starting = true ∨ (4250 ≤ mv ∧ 20000 ≤ held)))
  ∧ (∃ (s : State) (b : Nat) (mv : Nat) (held : Nat), b < 4 ∧ s.shaped = true ∧ s.hub.shaped = true ∧ (s.bank b).core.running = true ∧ mv ≤ 4150 ∧ 20000 ≤ held)
  ∧ (∃ (s : State) (b : Nat) (mv : Nat) (held : Nat), Ready.bankRuns s b = true ∧ 59000 ≤ mv ∧ 20000 ≤ held)
  ∧ (∃ (s : State) (b : Nat) (mv : Nat), Ready.bankRuns s b = true ∧ (s.bank b).core.overvoltage = true ∧ mv < 59000) :=
  ⟨⟨State.reset, 3, 4250, 20000, by decide +kernel⟩,
   ⟨live, 0, 4150, 20000, by decide +kernel⟩,
   ⟨live, 0, 59000, 20000, by decide +kernel⟩,
   ⟨onK fun k => { k with overvoltage := true }, 0, 58999, by decide +kernel⟩⟩

theorem witness_ClockTierAndSynthesiser :
  (∃ (s : State) (mv : Nat) (held : Nat), s.hub.serves = true ∧ s.pwr.vcore = true ∧ tierOf mv < s.hub.tier ∧ 1000 ≤ held)
  ∧ (∃ (s : State) (mv : Nat) (held : Nat), s.hub.serves = true ∧ s.pwr.vcore = true ∧ s.hub.tier < tierOf mv ∧ 1000000 ≤ held)
  ∧ (∃ (s : State), s.hub.phase = .settling)
  ∧ (∃ (s : State), s.hub.phase = .waking)
  ∧ (∃ (s : State) (temp : Int), s.hub.serves = true ∧ s.hub.synth = 1 ∧ 300 < (temp - s.hub.calTemp).natAbs)
  ∧ (∃ (s : State), s.hub.synth = 2)
  ∧ (∃ (s : State) (silent : Nat), Ready.fresh s = true ∧ 4000 ≤ silent)
  ∧ (∃ (s : State) (running : Nat), s.hub.phase = .noClock ∧ 1000000 ≤ running) :=
  ⟨⟨live, 1049, 1000, by decide +kernel⟩,
   ⟨live, 1200, 1000000, by decide +kernel⟩,
   ⟨onH fun h => { h with phase := .settling }, by decide +kernel⟩,
   ⟨onH fun h => { h with phase := .waking }, by decide +kernel⟩,
   ⟨live, 551, by decide +kernel⟩,
   ⟨onH fun h => { h with synth := 2 }, by decide +kernel⟩,
   ⟨live, 4000, by decide +kernel⟩,
   ⟨onH fun h => { h with phase := .noClock }, 1000000, by decide +kernel⟩⟩

theorem witness_ResetsAndReleaseOfTheHub :
  (∃ (s : State) (width : Nat), s.pwr.vio = true ∧ Ready.fresh s = true ∧ 10000 ≤ width)
  ∧ (∃ (width : Nat), width < 1000)
  ∧ (∃ (s : State) (silent : Nat), Ready.fresh s = true ∧ s.hub.runtimeOn = true ∧ 20000000 ≤ silent ∧ s.hub.stepsAt + silent ≤ s.now)
  ∧ (∃ (s : State), s.hub.phase = .held)
  ∧ (∃ (s : State) (romOk : Bool) (selfOk : Bool), s.hub.phase = .held ∧ (romOk && selfOk) = false)
  ∧ (∃ (s : State), s.hub.phase = .restarting)
  ∧ (∃ (s : State), s.hub.phase = .failed ∧ s.hub.failures < 3 ∧ s.hub.stepsAt + 100000000 ≤ s.now) :=
  ⟨⟨live, 10000, by decide +kernel⟩,
   ⟨999, by decide +kernel⟩,
   ⟨live, 20000000, by decide +kernel⟩,
   ⟨onH fun h => { h with phase := .held }, by decide +kernel⟩,
   ⟨onH fun h => { h with phase := .held }, false, true, by decide +kernel⟩,
   ⟨onH fun h => { h with phase := .restarting }, by decide +kernel⟩,
   ⟨onH fun h => { h with phase := .failed, failures := 2, stepsAt := clk - 100000000 }, by decide +kernel⟩⟩

theorem witness_BanksAreClaimedAndTheDictionaryServed :
  (∃ (s : State) (b : Nat) (c : BankCore), Ready.bankClaim s b c = true)
  ∧ (∃ (s : State), Ready.dictionaryReady s = true) :=
  ⟨⟨onH fun h => { h with phase := .claiming, views := List.replicate 4 none, links := editAt h.links 0 fun l => { l with heard := some core0 } }, 0, core0, by decide +kernel⟩,
   ⟨onH fun h => { h with phase := .claiming, startAt := clk - 5000000 }, by decide +kernel⟩⟩

theorem witness_StandbyStoreRetrimsAndLapBoundaries :
  (∃ (s : State) (held : Nat), s.pwr.vio = true ∧ 50000 ≤ held ∧ (s.lands.wake = false ∨ ∃ rose, s.lands.wakeAt = some rose ∧ s.now ≤ rose + held) ∧ s.hub.phase = .standby)
  ∧ (∃ (s : State), s.lands.wake = true ∧ s.lands.wakeAt = none)
  ∧ (∃ (s : State), s.hub.serving = true ∧ s.hub.run.store.dirty = true ∧ s.hub.run.store.writing = false ∧ s.hub.windowCode = 0 ∧ s.hub.flushesRecords = false ∧ s.hub.run.store.lastWrite + s.hub.act 0x7000 2 1000 * 1000000 ≤ s.now)
  ∧ (∃ (s : State), s.hub.runtimeOn = true ∧ Ready.storeCalm s = true ∧ s.hub.run.store.writing = true ∧ s.hub.run.store.mirror = false)
  ∧ (∃ (s : State), s.hub.runtimeOn = true ∧ Ready.storeCalm s = true ∧ s.hub.run.store.writing = true)
  ∧ (∃ (s : State) (e : JournalEntry) (rest : List JournalEntry), s.hub.runtimeOn = true ∧ Ready.storeCalm s = true ∧ s.hub.run.store.writing = false ∧ s.hub.run.clearDue = false ∧ s.hub.run.shadow = e :: rest)
  ∧ (∃ (s : State) (x : Stop), Ready.restartHoldAckTimeout s x = true)
  ∧ (∃ (s : State) (b : Nat), Ready.bankRuns s b = true ∧ s.hub.shaped = true ∧ (s.bank b).retrimming = true)
  ∧ (∃ (s : State), Ready.boundary s = true ∧ s.hub.run.boundary.planned = [])
  ∧ (∃ (s : State), Ready.boundary s = true ∧ s.hub.run.boundary.planned = [.hubReset] ∧ s.pwr.vcore = true) :=
  ⟨⟨onH fun h => { h with phase := .standby }, 50000, by decide +kernel⟩,
   ⟨{ live with lands := { wake := true } }, by decide +kernel⟩,
   ⟨onR fun r => { r with store := { r.store with dirty := true, lastWrite := clk - 1000000000 } }, by decide +kernel⟩,
   ⟨onR fun r => { r with store := { r.store with writing := true, imageSeq := 7 } }, by decide +kernel⟩,
   ⟨onR fun r => { r with store := { r.store with writing := true, imageSeq := 4294967295 } }, by decide +kernel⟩,
   ⟨onR fun r => { r with shadow := [{ seconds := 1, nanos := 2, cls := 3, code := 4, payload := [] }] }, { seconds := 1, nanos := 2, cls := 3, code := 4, payload := [] }, [], by decide +kernel⟩,
   ⟨onR fun r => { r with stop := some { kind := .activate, announced := true, since := some (clk - 1000000) } }, { kind := .activate, announced := true, since := some (clk - 1000000) }, by decide +kernel⟩,
   ⟨onB (fun b => { b with retrimming := true }) (onR fun r => { r with service := editAt r.service 0 fun _ => .retrimming }), 0, by decide +kernel⟩,
   ⟨onLap (fun l => { l with boundaryDue := true }) (onR fun r => { r with boundary := { r.boundary with values := [(objKey 0x2041 1, 6000)] } }), by decide +kernel⟩,
   ⟨onLap (fun l => { l with boundaryDue := true }) (onR fun r => { r with boundary := { r.boundary with planned := [.hubReset] } }), by decide +kernel⟩⟩

theorem witness_FaultsAreAccepted :
  (∃ (s : State) (source : Nat) (kind : Nat), Ready.acceptsS s source kind = true)
  ∧ (∃ (s : State) (kind : Nat), s.hub.outOfReset = true ∧ s.pwr.vcore = true ∧ kind ≠ 0)
  ∧ (∃ (s : State) (source : Nat) (kind : Nat), Ready.acceptsD s source kind = true)
  ∧ (∃ (s : State) (source : Nat), s.hub.outOfReset = true ∧ source < 0x5B ∧ reservedSource source = false)
  ∧ (∃ (s : State) (p : Nat), s.hub.outOfReset = true ∧ s.hub.collector.pulseTo = some p ∧ p ≤ s.now) :=
  ⟨⟨live, 0x3A, 1, by decide +kernel⟩,
   ⟨live, 1, by decide +kernel⟩,
   ⟨live, 0x5A, 1, by decide +kernel⟩,
   ⟨onCol fun c => { c with cause := 1 }, 0, by decide +kernel⟩,
   ⟨onCol fun c => { c with pulseTo := some clk }, clk, by decide +kernel⟩⟩

theorem witness_FaultsEscalateStepByStep :
  (∃ (s : State) (source : Nat), Ready.escalates s source = true ∧ (s.hub.collector.source source).step = 0 ∧ Ready.firstStep s source ≤ s.hub.collCfg.ceiling source ∧ s.hub.free = true)
  ∧ (∃ (s : State) (source : Nat), Ready.escalates s source = true ∧ (s.hub.collector.source source).step = 0 ∧ Ready.firstStep s source ≤ s.hub.collCfg.ceiling source ∧ s.hub.free = false)
  ∧ (∃ (s : State) (source : Nat), Ready.escalates s source = true ∧ (s.hub.collector.source source).step = 0 ∧ s.hub.collCfg.ceiling source < Ready.firstStep s source)
  ∧ (∃ (s : State) (source : Nat) (k : Nat), Ready.escalates s source = true ∧ (s.hub.collector.source source).step = k ∧ k ≠ 0 ∧ k < 3 ∧ k < s.hub.collCfg.ceiling source ∧ s.hub.free = true)
  ∧ (∃ (s : State), s.hub.serving = true ∧ s.pwr.vcore = true ∧ s.hub.collector.overdueRequest s.now = true) :=
  ⟨⟨vals [(0x5011, 2, 3)] (onCol (fun c => { c with status := 2, sources := editAt c.sources 1 fun x => { x with graceAt := some clk, step := 0 } })), 1, by decide +kernel⟩,
   ⟨vals [(0x5011, 2, 3)] (onCol (fun c => { c with status := 2, sources := editAt c.sources 1 fun x => { x with graceAt := some clk, step := 0 } }) (onR fun r => { r with stop := some { kind := .activate } })), 1, by decide +kernel⟩,
   ⟨vals [(0x5011, 2, 0)] (onCol fun c => { c with status := 2, sources := editAt c.sources 1 fun x => { x with graceAt := some clk, step := 0 } }), 1, by decide +kernel⟩,
   ⟨vals [(0x5011, 2, 3)] (onCol (fun c => { c with status := 2, sources := editAt c.sources 1 fun x => { x with graceAt := some clk, step := 2 } })), 1, 2, by decide +kernel⟩,
   ⟨onCol fun c => { c with requests := [{ source := 1, step := 1, at_ := clk - 2000000, banks := [0] }] }, by decide +kernel⟩⟩

theorem witness_SheddingWindowAndPermission :
  (∃ (s : State) (b : Nat) (c : BankCore), Ready.shedGroup s b c = true)
  ∧ (∃ (s : State) (b : Nat) (c : BankCore), Ready.restoreGroup s b c = true ∧ s.hub.run.shed.getD b [] ≠ [])
  ∧ (∃ (s : State) (temp : Int), s.hub.serves = true ∧ s.hub.windowCode = 0 ∧ windowOf temp ≠ 0)
  ∧ (∃ (s : State) (temp : Int) (held : Nat), s.hub.serves = true ∧ s.hub.windowCode ≠ 0 ∧ -380 ≤ temp ∧ temp ≤ 1270 ∧ 1000000000 ≤ held ∧ (temp < 1270 ∨ 1270 ≤ s.hub.temp))
  ∧ (∃ (s : State) (temp : Int), s.hub.serves = true ∧ s.hub.temp < 1270 ∧ 1270 ≤ temp)
  ∧ (∃ (s : State), s.hub.chgperm = true ∧ (s.hub.permLost = true ∨ s.permAll 0 = false))
  ∧ (∃ (s : State) (held : Nat) (since : Nat), s.hub.chgperm = false ∧ s.permAll 50 = true ∧ 1000000000 ≤ held ∧ s.hub.permFrom = some since ∧ since + 1000000000 ≤ s.now) :=
  ⟨⟨vals [(laneIdx 0 5, 2, 3)] (onH fun h => { h with views := List.replicate 4 (some { core0 with thermal := .shedding }) }), 0, { core0 with thermal := .shedding }, by decide +kernel⟩,
   ⟨vals [(laneIdx 0 5, 2, 3)] (onR (fun r => { r with shed := [[(3, [0])], [], [], []] }) (onH fun h => { h with views := List.replicate 4 (some { core0 with coolFrom := some (clk - 10000000000) }) })), 0, { core0 with coolFrom := some (clk - 10000000000) }, by decide +kernel⟩,
   ⟨live, 1301, by decide +kernel⟩,
   ⟨onH fun h => { h with windowCode := 1, temp := 1301 }, 1270, 1000000000, by decide +kernel⟩,
   ⟨live, 1270, by decide +kernel⟩,
   ⟨onH fun h => { h with chgperm := true, views := List.replicate 4 (some { core0 with thermal := .tripped }) }, by decide +kernel⟩,
   ⟨vals [(0x2025, 5, 1)] (onH fun h => { h with permFrom := some (clk - 1000000000) }), 1000000000, clk - 1000000000, by decide +kernel⟩⟩

theorem witness_CrossingsOriginsAndLaps :
  (∃ (s : State) (input : Nat) (level : Bool) (at_ : Nat), Ready.zxEdge s input level at_ = true)
  ∧ (∃ (s : State) (v : Vote), s.hub.serves = true ∧ s.hub.lap.voteDue s.hub.lapCfg s.now = true ∧ s.hub.lap.vote s.hub.lapCfg = some v)
  ∧ (∃ (s : State) (v : Vote), Ready.lockedVote s v = true ∧ Ready.inGate s v = true)
  ∧ (∃ (s : State) (v : Vote), Ready.lockedVote s v = true ∧ Ready.inGate s v = false)
  ∧ (∃ (s : State), Ready.gateEnds s = true ∧ s.hub.lap.missed < 3)
  ∧ (∃ (s : State), Ready.gateEnds s = true ∧ 3 ≤ s.hub.lap.missed)
  ∧ (∃ (s : State), Ready.lapOrigin s = true) :=
  ⟨⟨live, 1, true, clk - 100000, by decide +kernel⟩,
   ⟨onLap fun l => { l with zxa := { candidate := some (clk - 20000000 : Nat) } }, ⟨(clk - 20000000 : Nat), .used, .none, false⟩, by decide +kernel⟩,
   ⟨onLap fun l => { l with mode := .locked, originAt := (clk - 2000000 : Nat), zxa := { candidate := some (clk - 2200000 : Nat) } }, ⟨(clk - 2200000 : Nat), .used, .none, false⟩, by decide +kernel⟩,
   ⟨onLap fun l => { l with mode := .locked, originAt := (clk - 20000000 : Nat), zxa := { candidate := some (clk - 5000000 : Nat) } }, ⟨(clk - 5000000 : Nat), .used, .none, false⟩, by decide +kernel⟩,
   ⟨onLap fun l => { l with mode := .locked, missed := 2, originAt := (clk - 625000 : Nat) }, by decide +kernel⟩,
   ⟨onLap fun l => { l with mode := .locked, missed := 3, originAt := (clk - 625000 : Nat) }, by decide +kernel⟩,
   ⟨onLap fun l => { l with originAt := (clk - 20000000 : Nat) }, by decide +kernel⟩⟩

theorem witness_SchedulesSensingAndCapture :
  (∃ (s : State) (lane : Nat) (at_ : Nat), Ready.scheduleDue s lane = true ∧ s.hub.targetTime (s.hub.schedule lane) = some at_ ∧ at_ ≤ s.now + 2000000)
  ∧ (∃ (s : State) (lane : Nat), Ready.scheduleDue s lane = true ∧ s.hub.targetTime (s.hub.schedule lane) = none)
  ∧ (∃ (s : State) (lane : Nat) (at_ : Nat), Ready.scheduleDue s lane = true ∧ s.hub.targetTime (s.hub.schedule lane) = some at_ ∧ s.now + 2000000 < at_)
  ∧ (∃ (s : State) (lane : Nat), Ready.scheduleArmed s lane = true ∧ s.hub.mayResolve s.cycle = false)
  ∧ (∃ (s : State) (lane : Nat), Ready.scheduleArmed s lane = true ∧ s.hub.mayResolve s.cycle = true ∧ s.hub.laneBanks lane = [])
  ∧ (∃ (s : State) (lane : Nat) (currents : List Nat) (unblanked : List Nat) (lap : Nat) (second : Bool) (disturbed : Bool) (stepped : Bool), Ready.syncWindow s lane currents unblanked lap second disturbed stepped = true)
  ∧ (∃ (s : State) (at_ : Rat), Ready.captureStart s at_ = true)
  ∧ (∃ (s : State), Ready.captureSample s = true ∧ s.hub.capture.count < 4096)
  ∧ (∃ (s : State), Ready.captureSample s = true ∧ 4096 ≤ s.hub.capture.count) :=
  ⟨⟨onLap (fun l => { l with originAt := (clk - 8000000 : Nat) }) (onR fun r => { r with schedules := editAt r.schedules 0 fun x => { x with status := 1, cmd := .on, phase := 0x8000 } }), 0, clk + 2000000, by decide +kernel⟩,
   ⟨onLap (fun l => { l with originAt := (clk - 8000000 : Nat), startPhase := 0x9000 }) (onR fun r => { r with schedules := editAt r.schedules 0 fun x => { x with status := 1, cmd := .on, phase := 0x8000 } }), 0, by decide +kernel⟩,
   ⟨onLap (fun l => { l with originAt := (clk - 7999999 : Nat) }) (onR fun r => { r with schedules := editAt r.schedules 0 fun x => { x with status := 1, cmd := .on, phase := 0x8000 } }), 0, clk + 2000001, by decide +kernel⟩,
   ⟨onLap (fun l => { l with originAt := (clk - 8000000 : Nat) }) (onR fun r => { r with schedules := editAt r.schedules 0 fun x => { x with status := 1, cmd := .on, phase := 0x8000 }, resolvedIn := (clk / 50000, 24) }), 0, by decide +kernel⟩,
   ⟨onH (fun h => { h with views := List.replicate 4 none }) (onLap (fun l => { l with originAt := (clk - 8000000 : Nat) }) (onR fun r => { r with schedules := editAt r.schedules 0 fun x => { x with status := 1, cmd := .on, phase := 0x8000 } })), 0, by decide +kernel⟩,
   ⟨vals [(laneIdx 0 7, 6, 1)] (onLap fun l => { l with originAt := (clk - 10000000 : Nat) }), 0, [5], [50], 0, false, false, false, by decide +kernel⟩,
   ⟨onLap (fun l => { l with originAt := (clk - 10000000 : Nat) }) (onH fun h => { h with capture := { h.capture with mode := .armed, phase := 0x8000, armedAt := clk - 250000, leadNs := 250000 } }), (clk : Nat), by decide +kernel⟩,
   ⟨onH fun h => { h with capture := { h.capture with mode := .running, startAt := clk - 102400000, written := 1023, count := 4095 } }, by decide +kernel⟩,
   ⟨onH fun h => { h with capture := { h.capture with mode := .running, startAt := clk - 100000, count := 4096 } }, by decide +kernel⟩⟩

theorem witness_WatchdogMissesForceTheBanks :
  (∃ (s : State), Ready.windowMissed s = true ∧ s.hub.run.dog.misses = 0 ∧ Ready.windowMissedTwice s = false)
  ∧ (∃ (s : State), Ready.windowMissed s = true ∧ (1 ≤ s.hub.run.dog.misses ∨ Ready.windowMissedTwice s = true) ∧ s.hub.shaped = true)
  ∧ (∃ (s : State), s.hub.serving = true ∧ s.hub.run.dog.mode = .awaiting ∧ s.hub.run.dog.deadline ≤ s.now ∧ s.hub.shaped = true) :=
  ⟨⟨onR fun r => { r with dog := { mode := .armed, windowAt := clk - 100000001 } }, by decide +kernel⟩,
   ⟨onR fun r => { r with dog := { mode := .armed, windowAt := clk - 200000001 } }, by decide +kernel⟩,
   ⟨onR fun r => { r with dog := { mode := .awaiting, deadline := clk } }, by decide +kernel⟩⟩

theorem witness_TimeFollowsItsReference :
  (∃ (s : State) (n : Nat) (interval : Nat), Ready.gptpSync s n interval = true ∧ s.hub.timeCfg.ppsMode ≠ 3 ∧ s.hub.time.hostOwned = true)
  ∧ (∃ (s : State) (n : Nat) (origin : Nat) (interval : Nat), Ready.gptpSync s n interval = true ∧ s.hub.timeCfg.ppsMode ≠ 3 ∧ s.hub.time.hostOwned = false ∧ (s.hub.timeCfg.servo.stepNs : Int) < (Ready.offsetP s n origin).natAbs)
  ∧ (∃ (s : State) (n : Nat) (origin : Nat) (interval : Nat), Ready.gptpSync s n interval = true ∧ s.hub.timeCfg.ppsMode ≠ 3 ∧ s.hub.time.hostOwned = false ∧ ((Ready.offsetP s n origin).natAbs : Int) ≤ s.hub.timeCfg.servo.stepNs)
  ∧ (∃ (s : State) (n : Nat) (interval : Nat), Ready.gptpSync s n interval = true ∧ s.hub.timeCfg.ppsMode = 3)
  ∧ (∃ (s : State) (n : Nat) (interval : Nat), Ready.secondSync s n interval = true)
  ∧ (∃ (s : State) (n : Nat) (second : Bool), Ready.hears s n second = true)
  ∧ (∃ (s : State) (n : Nat) (second : Bool) (vector : Nat), Ready.announced s n second vector = true)
  ∧ (∃ (s : State) (n : Nat), s.hub.runtimeOn = true ∧ s.hub.gptpPort n = true ∧ s.hub.time.maySend n delayKind 1000000000 s.now = true)
  ∧ (∃ (s : State) (n : Nat), s.hub.time.maySend n delayKind 1000000000 s.now = false)
  ∧ (∃ (s : State) (n : Nat) (second : Bool), s.hub.runtimeOn = true ∧ s.hub.sendsSync n second = true ∧ (s.hub.net.port n).class3.length ≤ 2 ∧ s.hub.time.maySend n (syncKind second) s.hub.timeCfg.syncNs s.now = true)
  ∧ (∃ (s : State) (n : Nat) (second : Bool), s.hub.time.maySend n (syncKind second) s.hub.timeCfg.syncNs s.now = false)
  ∧ (∃ (s : State) (n : Nat), s.hub.runtimeOn = true ∧ s.hub.gptpPort n = true ∧ (s.hub.net.port n).class3.length ≤ 2 ∧ s.hub.time.maySend n (announceKind false) 1000000000 s.now = true)
  ∧ (∃ (s : State) (n : Nat), s.hub.time.maySend n (announceKind false) 1000000000 s.now = false) :=
  ⟨⟨onT fun t => { t with hostOwned := true, first := { grandmaster := some (2 ^ 64 + 7), slavePort := some 0 } }, 0, 125000000, by decide +kernel⟩,
   ⟨onT fun t => { t with first := { grandmaster := some (2 ^ 64 + 7), slavePort := some 0 } }, 0, 1000001, 125000000, by decide +kernel⟩,
   ⟨onT fun t => { t with first := { grandmaster := some (2 ^ 64 + 7), slavePort := some 0 } }, 0, 1000000, 125000000, by decide +kernel⟩,
   ⟨vals [(0x4005, 1, 3)] (onT fun t => { t with first := { grandmaster := some (2 ^ 64 + 7), slavePort := some 0 } }), 0, 125000000, by decide +kernel⟩,
   ⟨vals [(0x4004, 3, 1)] (onT fun t => { t with second := { grandmaster := some (2 ^ 64 + 7), slavePort := some 0 } }), 0, 125000000, by decide +kernel⟩,
   ⟨live, 0, false, by decide +kernel⟩,
   ⟨live, 1, false, 9, by decide +kernel⟩,
   ⟨live, 1, by decide +kernel⟩,
   ⟨onT fun t => { t with sentAt := editAt t.sentAt 4 fun _ => some (clk - 999999999) }, 0, by decide +kernel⟩,
   ⟨vals [(0x4004, 1, 2)] (onT fun t => { t with first := { grandmaster := some (2 ^ 63), slavePort := some 1 } }), 0, false, by decide +kernel, relays _ _ _ (by decide +kernel) (by decide +kernel), by decide +kernel⟩,
   ⟨onT fun t => { t with sentAt := editAt t.sentAt 0 fun _ => some (clk - 1) }, 0, false, by decide +kernel⟩,
   ⟨live, 0, by decide +kernel⟩,
   ⟨onT fun t => { t with sentAt := editAt t.sentAt 2 fun _ => some (clk - 999999999) }, 0, by decide +kernel⟩⟩

theorem witness_TimeReferencesAreLostAndPpsServed :
  (∃ (s : State), s.hub.runtimeOn = true ∧ s.hub.time.hostOwned = true ∧ s.hub.time.hostStale = false ∧ s.hub.timeCfg.hostMs ≠ 0 ∧ s.hub.time.hostWrite + s.hub.timeCfg.hostMs * 1000000 ≤ s.now)
  ∧ (∃ (s : State) (second : Bool), Ready.syncTimeout s second = true)
  ∧ (∃ (s : State) (second : Bool) (g : Nat), Ready.announceTimeout s second g = true)
  ∧ (∃ (s : State) (second : Bool), s.hub.runtimeOn = true ∧ (s.hub.time.domain second).grandmaster = none ∧ (s.hub.time.domain second).lost = false ∧ s.hub.timeCfg.inst ≠ 0 ∧ (second = true → s.hub.timeCfg.secondOn = true) ∧ elapsed (s.hub.time.domain second).lastAnnounce (s.hub.timeCfg.announceS * 1000000000) s.now = true)
  ∧ (∃ (s : State), s.hub.runtimeOn = true ∧ s.hub.time.state = .holdover ∧ s.hub.time.limitHit = false ∧ elapsed s.hub.time.lostAt (s.hub.timeCfg.holdLimit * 1000000000) s.now = true)
  ∧ (∃ (s : State) (low : Nat), s.pwr.vio = true ∧ s.hub.serves = true ∧ (s.hub.timeCfg.ppsMode = 2 ∨ s.hub.timeCfg.ppsMode = 3) ∧ 100 ≤ low)
  ∧ (∃ (s : State), s.hub.runtimeOn = true ∧ s.hub.timeCfg.ppsMode = 3 ∧ s.hub.time.pps.missing = false ∧ elapsed s.hub.time.pps.lastEdge 1500000000 s.now = true)
  ∧ (∃ (s : State), s.pwr.vio = true ∧ s.hub.serves = true ∧ s.hub.timeCfg.ppsMode = 1 ∧ s.hub.time.pps.high = false ∧ ppsMarks s.hub.timeCfg s.hub.time.pps.since < ppsMarks s.hub.timeCfg s.hub.time.pNs)
  ∧ (∃ (s : State), s.pwr.vio = false)
  ∧ (∃ (s : State), s.hub.serves = true ∧ s.hub.time.pps.high = true ∧ s.hub.time.pps.riseAt + (s.hub.timeCfg.ppsWidth * 1000 : Nat) ≤ (s.hub.time.pNs : Int)) :=
  ⟨⟨onT fun t => { t with hostOwned := true, hostWrite := clk - 4000000000 }, by decide +kernel⟩,
   ⟨onT fun t => { t with state := .lockedGptp, first := { grandmaster := some (2 ^ 63), lastSync := some (clk - 375000000) } }, false, syncDue _ _ _ rfl (by decide) (by decide +kernel)⟩,
   ⟨onT fun t => { t with state := .lockedGptp, first := { grandmaster := some (2 ^ 63), candidates := [{ vector := 2 ^ 63, heardAt := clk - 3000000000 }] } }, false, 2 ^ 63, announceDue _ _ _ rfl (by decide) (by decide +kernel)⟩,
   ⟨onT fun t => { t with first := { lastAnnounce := some (clk - 3000000000) } }, false, by decide +kernel⟩,
   ⟨onT fun t => { t with state := .holdover, lostAt := some (clk - 60000000000) }, by decide +kernel⟩,
   ⟨vals [(0x4005, 1, 2)], 100, by decide +kernel⟩,
   ⟨vals [(0x4005, 1, 3)] (onT fun t => { t with state := .lockedPps, pps := { lastEdge := some (clk - 1500000000) } }), by decide +kernel⟩,
   ⟨vals [(0x4005, 1, 1)] (onT fun t => { t with p := 2000000000 * 2 ^ 24 }), by decide +kernel⟩,
   ⟨{ live with pwr := { live.pwr with vio := false } }, by decide +kernel⟩,
   ⟨onT fun t => { t with p := 100000000 * 2 ^ 24, pps := { high := true } }, by decide +kernel⟩⟩

theorem witness_TimedAndQueuedFramesAreServed :
  (∃ (s : State) (h : Q3Head), Ready.launches s h = true)
  ∧ (∃ (s : State) (d : Nat) (h : Q3Head), Ready.headWaits s d h = true)
  ∧ (∃ (s : State) (k : Nat), Ready.retryWaits s k = true)
  ∧ (∃ (s : State) (d : Nat), Ready.q4Head s d = true ∧ q4Invalid d (taggedFrame (Ready.q4Data s d)) = true)
  ∧ (∃ (s : State) (d : Nat), Ready.q4Head s d = true ∧ q4Invalid d (taggedFrame (Ready.q4Data s d)) = false ∧ Ready.q4Ports s d = [])
  ∧ (∃ (s : State) (d : Nat), Ready.q4Head s d = true ∧ q4Invalid d (taggedFrame (Ready.q4Data s d)) = false ∧ Ready.q4Ports s d ≠ [] ∧ (∀ p ∈ Ready.q4Ports s d, (s.hub.net.port p).room (highClass s.hub.netCfg (Ready.q4Data s d)) = true)) :=
  ⟨⟨onN fun n => { n with q3Head := some { launch := 40 * 2 ^ 24 } }, { launch := 40 * 2 ^ 24 }, by decide +kernel⟩,
   ⟨onN fun n => { n with q3 := { n.q3 with prod := 1, slots := editAt n.q3.slots 0 fun _ => 2 ^ 56 }, q3Head := some { eligible := some (clk - 10000) } }, 2 ^ 56, { eligible := some (clk - 10000) }, by decide +kernel⟩,
   ⟨onP (fun p => { p with waiting := some { frame := { source := .q3 0, length := 60 }, cls := 2, startAt := clk, startP := 0, coarse := false, attempts := 3, head := { eligible := some (clk - 10000) } } }) (onN fun n => { n with q3 := { n.q3 with slots := editAt n.q3.slots 0 fun _ => 2 ^ 56 } }), 0, by decide +kernel⟩,
   ⟨onN fun n => { n with q4 := { n.q4 with prod := 1, slots := editAt n.q4.slots 0 fun _ => 2 ^ 32 } }, 2 ^ 32, by decide +kernel⟩,
   ⟨onN fun n => { n with q4 := { n.q4 with prod := 1, slots := editAt n.q4.slots 0 fun _ => 60 * 2 ^ 32 + 2 ^ 9 }, port1 := { n.port1 with running := false } }, 60 * 2 ^ 32 + 2 ^ 9, by decide +kernel⟩,
   ⟨onN fun n => { n with q4 := { n.q4 with prod := 1, slots := editAt n.q4.slots 0 fun _ => 60 * 2 ^ 32 + 2 * 2 ^ 9 } }, 60 * 2 ^ 32 + 2 * 2 ^ 9, by decide +kernel⟩⟩

theorem witness_PortsTransmitByPriority :
  (∃ (s : State) (n : Nat) (id : Nat) (w : TxCurrent), Ready.opportunity s n id = true ∧ (s.hub.net.port n).waiting = some w)
  ∧ (∃ (s : State) (n : Nat) (id : Nat) (cls : Nat) (f : TxFrame), Ready.opportunity s n id = true ∧ (s.hub.net.port n).waiting = none ∧ s.hub.net.pick n = some (cls, f))
  ∧ (∃ (s : State) (n : Nat) (id : Nat), Ready.opportunity s n id = true ∧ (s.hub.net.port n).waiting = none ∧ s.hub.net.pick n = none)
  ∧ (∃ (s : State) (n : Nat) (id : Nat), s.hub.net.plcaActive s.hub.netCfg n = true ∧ s.hub.net.hasTurn s.hub.netCfg n id = false)
  ∧ (∃ (s : State) (n : Nat) (cur : TxCurrent), Ready.transmitting s n cur = true ∧ cur.attempts < 15)
  ∧ (∃ (s : State) (n : Nat) (cur : TxCurrent), Ready.transmitting s n cur = true ∧ 15 ≤ cur.attempts)
  ∧ (∃ (s : State) (n : Nat) (cur : TxCurrent), Ready.transmitting s n cur = true ∧ 15 ≤ (s.hub.net.port n).abortRun ∧ (s.hub.net.port n).linkDown = false)
  ∧ (∃ (s : State) (n : Nat) (cur : TxCurrent), Ready.transmitting s n cur = true) :=
  ⟨⟨onP fun p => { p with waiting := some { frame := { source := .q3 0, length := 60 }, cls := 2, startAt := clk, startP := 0, coarse := false, attempts := 3 } }, 0, 0, { frame := { source := .q3 0, length := 60 }, cls := 2, startAt := clk, startP := 0, coarse := false, attempts := 3 }, by decide +kernel⟩,
   ⟨onP fun p => { p with class1 := [{ source := .runtime, length := 60 }] }, 0, 0, 1, { source := .runtime, length := 60 }, by decide +kernel⟩,
   ⟨onP fun p => { p with burst := 2 }, 0, 0, by decide +kernel⟩,
   ⟨vals [(0x4401, 2, 3)] live, 0, 4, by decide +kernel⟩,
   ⟨onP fun p => { p with current := some { frame := { source := .q3 0, length := 60 }, cls := 2, startAt := clk, startP := 0, coarse := false, attempts := 14 } }, 0, { frame := { source := .q3 0, length := 60 }, cls := 2, startAt := clk, startP := 0, coarse := false, attempts := 14 }, by decide +kernel⟩,
   ⟨onP fun p => { p with current := some { frame := { source := .q3 0, length := 60 }, cls := 2, startAt := clk, startP := 0, coarse := false, attempts := 15 } }, 0, { frame := { source := .q3 0, length := 60 }, cls := 2, startAt := clk, startP := 0, coarse := false, attempts := 15 }, by decide +kernel⟩,
   ⟨onP fun p => { p with current := some { frame := { source := .q3 0, length := 60 }, cls := 2, startAt := clk, startP := 0, coarse := false, attempts := 3 }, abortRun := 15 }, 0, { frame := { source := .q3 0, length := 60 }, cls := 2, startAt := clk, startP := 0, coarse := false, attempts := 3 }, by decide +kernel⟩,
   ⟨onP fun p => { p with current := some { frame := { source := .q3 0, length := 60 }, cls := 2, startAt := clk, startP := 0, coarse := false, attempts := 3 } }, 0, { frame := { source := .q3 0, length := 60 }, cls := 2, startAt := clk, startP := 0, coarse := false, attempts := 3 }, by decide +kernel⟩⟩

theorem witness_PortsFollowTheirBeaconAndErrors :
  (∃ (s : State) (n : Nat), Ready.follower s n = true ∧ (s.hub.net.port n).beaconLost = false ∧ (s.hub.net.port n).lastBeacon + 4000000 ≤ s.now)
  ∧ (∃ (s : State) (n : Nat), Ready.follower s n = true)
  ∧ (∃ (s : State) (n : Nat), s.hub.serves = true ∧ n < 2)
  ∧ (∃ (s : State), s.hub.serves = true ∧ s.hub.netCfg.ageing ≠ 0) :=
  ⟨⟨vals [(0x4401, 2, 3)] (onP fun p => { p with lastBeacon := clk - 4000000 }), 0, by decide +kernel⟩,
   ⟨vals [(0x4401, 2, 3)] (onP fun p => { p with beaconLost := true }), 0, by decide +kernel⟩,
   ⟨onP fun p => { p with errorTimes := [clk - 1000000000, clk - 999999999], errorRate := true }, 0, by decide +kernel⟩,
   ⟨onN fun n => { n with learned := [{ mac := 7, port := 0, seen := clk - 300000000000 }] }, by decide +kernel⟩⟩

theorem witness_ReceivedFramesAreCheckedStoredAndClassified :
  (∃ (s : State) (n : Nat) (frame : List Byte) (lineError : Bool), Ready.receives s n = true ∧ ingressOk frame lineError = false)
  ∧ (∃ (s : State) (n : Nat) (frame : List Byte), Ready.receives s n = true ∧ Ready.forMe s frame = true ∧ s.hub.net.q5.full 64 = false)
  ∧ (∃ (s : State) (n : Nat) (frame : List Byte), Ready.receives s n = true ∧ Ready.forMe s frame = true ∧ s.hub.net.q5.full 64 = true)
  ∧ (∃ (s : State) (n : Nat) (frame : List Byte), Ready.receives s n = true ∧ ingressOk frame false = true ∧ linkLocal (netNat (Ready.frameData frame) 0 6) = true)
  ∧ (∃ (s : State), Ready.q5Behind s = true)
  ∧ (∃ (s : State), Ready.q5Free s = true)
  ∧ (∃ (s : State) (data : List Byte), s.hub.serving = true ∧ s.hub.inbox.find? NetItem.isArp = some (.arp data))
  ∧ (∃ (s : State) (data : List Byte) (src : Nat) (dst : Nat) (body : List Byte), s.hub.serving = true ∧ s.hub.inbox.find? NetItem.isIcmp = some (.icmp data) ∧ ipv4Parts (rxFrame data).payload = some (1, src, dst, body)) :=
  ⟨⟨live, 0, List.replicate 63 0#8, false, by decide +kernel⟩,
   ⟨live, 0, (List.replicate 6 0xFF#8 ++ List.replicate 58 0#8), by decide +kernel⟩,
   ⟨onN fun n => { n with q5 := { n.q5 with prod := 63 } }, 0, (List.replicate 6 0xFF#8 ++ List.replicate 58 0#8), by decide +kernel⟩,
   ⟨live, 0, ([1#8, 0x80#8, 0xC2#8, 0#8, 0#8, 0xF#8] ++ List.replicate 58 0#8), by decide +kernel⟩,
   ⟨onN fun n => { n with classify := 1, q5 := { n.q5 with prod := 2, slots := editAt n.q5.slots 0 fun _ => 2 ^ 54 } }, by decide +kernel⟩,
   ⟨onN fun n => { n with q5 := { n.q5 with prod := 1 } }, by decide +kernel⟩,
   ⟨vals [(0x1040, 2, 0x05050505)] (onH fun h => { h with inbox := [.arp (List.replicate 6 0xFF#8 ++ [2#8, 0#8, 0#8, 0#8, 0#8, 7#8, 8#8, 6#8, 0#8, 1#8, 8#8, 0#8, 6#8, 4#8, 0#8, 1#8] ++ List.replicate 20 5#8)] }), (List.replicate 6 0xFF#8 ++ [2#8, 0#8, 0#8, 0#8, 0#8, 7#8, 8#8, 6#8, 0#8, 1#8, 8#8, 0#8, 6#8, 4#8, 0#8, 1#8] ++ List.replicate 20 5#8), by decide +kernel⟩,
   ⟨onH fun h => { h with inbox := [.icmp (List.replicate 6 0xFF#8 ++ [2#8, 0#8, 0#8, 0#8, 0#8, 7#8, 8#8, 0#8] ++ ipHeader ++ [8#8, 0#8, 0#8, 0#8, 1#8, 2#8, 3#8, 4#8, 5#8, 6#8])] }, (List.replicate 6 0xFF#8 ++ [2#8, 0#8, 0#8, 0#8, 0#8, 7#8, 8#8, 0#8] ++ ipHeader ++ [8#8, 0#8, 0#8, 0#8, 1#8, 2#8, 3#8, 4#8, 5#8, 6#8]), 0x0A000001, 0x0A000002, [8#8, 0#8, 0#8, 0#8, 1#8, 2#8, 3#8, 4#8, 5#8, 6#8], by decide +kernel⟩⟩

theorem witness_EventsResetsAndStandbyAreRequested :
  (∃ (s : State) (k : Nat) (mask : Nat), Ready.mayWrite s k 0x1030 3 mask = true)
  ∧ (∃ (s : State) (k : Nat), Ready.mayWrite s k 0x2014 3 1 = true ∧ s.hub.shadowed = false)
  ∧ (∃ (s : State) (k : Nat), Ready.mayWrite s k 0x2014 3 1 = true ∧ s.hub.shadowed = true)
  ∧ (∃ (s : State) (k : Nat), Ready.mayWrite s k 0x2014 3 2 = true)
  ∧ (∃ (s : State) (k : Nat) (n : Nat), n < 2 ∧ Ready.mayWrite s k 0x2014 3 (3 + n) = true)
  ∧ (∃ (s : State) (k : Nat), Ready.mayWrite s k 0x2014 3 5 = true)
  ∧ (∃ (s : State) (k : Nat), Ready.mayWrite s k 0x2014 4 1 = true ∧ s.hub.windowCode = 0)
  ∧ (∃ (s : State) (k : Nat), Ready.mayWrite s k 0x2014 4 1 = true ∧ s.hub.windowCode ≠ 0) :=
  ⟨⟨onH fun h => { h with pending := 0xFFFF }, 0, 0x8001, by decide +kernel⟩,
   ⟨live, 0, by decide +kernel⟩,
   ⟨onR fun r => { r with shadow := [{ seconds := 1, nanos := 2, cls := 3, code := 4, payload := [] }] }, 0, by decide +kernel⟩,
   ⟨live, 0, by decide +kernel⟩,
   ⟨live, 0, 1, by decide +kernel⟩,
   ⟨live, 0, by decide +kernel⟩,
   ⟨live, 0, by decide +kernel⟩,
   ⟨onH fun h => { h with windowCode := 1 }, 0, by decide +kernel⟩⟩

theorem witness_LaneCommandsReachTheBanks :
  (∃ (s : State) (k : Nat) (lane : Nat), Ready.mayWrite s k (laneIdx lane 0) 1 0 = true ∧ Ready.laneFree s lane .off = true)
  ∧ (∃ (s : State) (k : Nat) (lane : Nat), Ready.mayWrite s k (laneIdx lane 0) 1 1 = true ∧ Ready.laneFree s lane .on = true)
  ∧ (∃ (s : State) (k : Nat) (lane : Nat), Ready.mayWrite s k (laneIdx lane 0) 1 2 = true ∧ Ready.laneFree s lane .follow = true)
  ∧ (∃ (s : State) (k : Nat) (lane : Nat), lane < 48 ∧ Ready.mayWrite s k (laneIdx lane 0) 1 1 = true ∧ s.hub.commandRefusal lane .on ≠ 0)
  ∧ (∃ (s : State) (k : Nat) (lane : Nat), Ready.mayWrite s k (laneIdx lane 4) 0x19 1 = true ∧ Ready.unlockable s lane = true)
  ∧ (∃ (s : State) (k : Nat) (lane : Nat), lane < 48 ∧ s.hub.shaped = true ∧ Ready.mayWrite s k (laneIdx lane 4) 0x1A 1 = true ∧ s.hub.needsBank lane = 0) :=
  ⟨⟨live, 0, 47, by decide +kernel⟩,
   ⟨live, 0, 0, by decide +kernel⟩,
   ⟨vals [(laneIdx 0 1, 1, 3)], 0, 0, by decide +kernel⟩,
   ⟨vals [(0x3402, 1, 0xFFFF)], 0, 0, by decide +kernel⟩,
   ⟨live, 0, 0, by decide +kernel⟩,
   ⟨live, 0, 47, by decide +kernel⟩⟩

theorem witness_MapSlotsAndLaneParametersAreWritten :
  (∃ (s : State) (k : Nat), Ready.mayWrite s k 0x3401 1 1 = true ∧ s.hub.patchWaits = false ∧ s.hub.mapFault s.hub.stagedMap = none)
  ∧ (∃ (s : State) (k : Nat) (code : Nat) (lane : Nat), Ready.mayWrite s k 0x3401 1 1 = true ∧ s.hub.patchWaits = false ∧ s.hub.mapFault s.hub.stagedMap = some (code, lane))
  ∧ (∃ (s : State) (k : Nat) (slot : Nat) (sub : Nat) (value : List Byte), Ready.mayWriteBytes s k (0x3800 + slot) sub value = true ∧ Ready.slotFree s slot = true ∧ Ready.slotValue s slot sub (leNat value) = true)
  ∧ (∃ (s : State) (k : Nat) (lane : Nat) (rate : Bool) (value : Nat), lane < 48 ∧ s.hub.shaped = true ∧ Ready.mayWrite s k (laneIdx lane 3) (if rate then 4 else 5) value = true)
  ∧ (∃ (s : State) (k : Nat) (lane : Nat) (priority : Nat), lane < 48 ∧ Ready.mayWrite s k (laneIdx lane 5) 2 priority = true)
  ∧ (∃ (s : State) (k : Nat) (value : Nat), Ready.mayWrite s k 0x2025 5 value = true)
  ∧ (∃ (s : State) (k : Nat) (lane : Nat) (glide : Bool) (value : Nat), lane < 48 ∧ s.hub.shaped = true ∧ Ready.mayWrite s k (laneIdx lane 6) (if glide then 2 else 1) value = true ∧ (value = 2 → s.hub.noInput lane = false)) :=
  ⟨⟨live, 0, by decide +kernel⟩,
   ⟨vals [(0x3400, 1, 0xFF01)], 0, 0x11, 0, by decide +kernel⟩,
   ⟨live, 0, 15, 1, [8#8], by decide +kernel⟩,
   ⟨live, 0, 0, true, 500, by decide +kernel⟩,
   ⟨onR fun r => { r with shed := [[(3, [0])], [], [], []] }, 0, 0, 0, by decide +kernel⟩,
   ⟨live, 0, 1, by decide +kernel⟩,
   ⟨live, 0, 0, true, 1, by decide +kernel⟩⟩

theorem witness_FailSafeAndReleaseReachTheChannels :
  (∃ (s : State) (k : Nat) (lane : Nat), Ready.mayWrite s k (laneIdx lane 6) 3 1 = true ∧ Ready.laneThere s lane = true)
  ∧ (∃ (s : State) (k : Nat) (lane : Nat), Ready.mayWrite s k (laneIdx lane 6) 3 2 = true ∧ Ready.laneThere s lane = true ∧ Ready.releasable s (s.hub.chansOf lane) = true ∧ (s.hub.chansOf lane).any s.hub.mayCarryCause = true)
  ∧ (∃ (s : State) (k : Nat) (lane : Nat), Ready.mayWrite s k (laneIdx lane 6) 3 3 = true ∧ Ready.laneThere s lane = true ∧ Ready.releasable s (s.hub.chansOf lane) = true ∧ (s.hub.chansOf lane).any s.hub.mayCarryCause = true)
  ∧ (∃ (s : State) (k : Nat) (b : Nat), b < 4 ∧ s.hub.shaped = true ∧ Ready.mayWrite s k 0x2031 (b + 1) 1 = true ∧ s.hub.present b = true)
  ∧ (∃ (s : State) (k : Nat) (b : Nat), b < 4 ∧ s.hub.shaped = true ∧ Ready.mayWrite s k 0x2031 (b + 1) 2 = true ∧ s.hub.present b = true ∧ Ready.releasable s (bankChans b) = true ∧ (bankChans b).any s.hub.mayCarryCause = true)
  ∧ (∃ (s : State) (k : Nat) (b : Nat), b < 4 ∧ s.hub.shaped = true ∧ Ready.mayWrite s k 0x2031 (b + 1) 3 = true ∧ s.hub.present b = true ∧ Ready.releasable s (bankChans b) = true ∧ (bankChans b).any s.hub.mayCarryCause = true)
  ∧ (∃ (s : State) (k : Nat) (lane : Nat), Ready.mayWrite s k (laneIdx lane 6) 3 2 = true ∧ Ready.laneThere s lane = true ∧ Ready.releasable s (s.hub.chansOf lane) = true ∧ (s.hub.chansOf lane).any s.hub.mayCarryCause = false)
  ∧ (∃ (s : State) (k : Nat) (lane : Nat), Ready.mayWrite s k (laneIdx lane 6) 3 3 = true ∧ Ready.laneThere s lane = true ∧ Ready.releasable s (s.hub.chansOf lane) = true ∧ (s.hub.chansOf lane).any s.hub.mayCarryCause = false)
  ∧ (∃ (s : State) (k : Nat) (b : Nat), b < 4 ∧ Ready.mayWrite s k 0x2031 (b + 1) 2 = true ∧ s.hub.present b = true ∧ Ready.releasable s (bankChans b) = true ∧ (bankChans b).any s.hub.mayCarryCause = false)
  ∧ (∃ (s : State) (k : Nat) (b : Nat), b < 4 ∧ Ready.mayWrite s k 0x2031 (b + 1) 3 = true ∧ s.hub.present b = true ∧ Ready.releasable s (bankChans b) = true ∧ (bankChans b).any s.hub.mayCarryCause = false) :=
  ⟨⟨live, 0, 0, by decide +kernel⟩,
   ⟨onH fun h => { h with links := editAt h.links 0 fun l => { l with queue := [{ cmd := { id := 1, cmd := .setC 0 true } }] } }, 0, 0, by decide +kernel⟩,
   ⟨onH fun h => { h with links := editAt h.links 0 fun l => { l with queue := [{ cmd := { id := 1, cmd := .setC 0 true } }] } }, 0, 0, by decide +kernel⟩,
   ⟨live, 0, 3, by decide +kernel⟩,
   ⟨onH fun h => { h with links := editAt h.links 0 fun l => { l with queue := [{ cmd := { id := 1, cmd := .setC 0 true } }] } }, 0, 0, by decide +kernel⟩,
   ⟨onH fun h => { h with links := editAt h.links 0 fun l => { l with queue := [{ cmd := { id := 1, cmd := .setC 0 true } }] } }, 0, 0, by decide +kernel⟩,
   ⟨live, 0, 0, by decide +kernel⟩,
   ⟨live, 0, 0, by decide +kernel⟩,
   ⟨live, 0, 3, by decide +kernel⟩,
   ⟨live, 0, 3, by decide +kernel⟩⟩

theorem witness_TheSerialWatchdogIsArmedFedAndDisarmed :
  (∃ (s : State) (k : Nat) (seed : Nat), Ready.mayWrite s k 0x2032 3 seed = true ∧ s.hub.mayArm k = true ∧ s.hub.shaped = true)
  ∧ (∃ (s : State) (k : Nat) (seed : Nat), Ready.mayWrite s k 0x2032 3 seed = true ∧ s.hub.mayArm k = false)
  ∧ (∃ (s : State) (k : Nat), Ready.mayWrite s k 0x2032 5 1 = true ∧ ((s.hub.session k).role = .service ∨ s.hub.run.dog.owner = k))
  ∧ (∃ (s : State) (k : Nat) (token : Nat), Ready.mayWrite s k 0x2032 4 token = true ∧ Ready.dogOwned s k = true ∧ s.hub.run.dog.windowAt + s.hub.run.dog.span / 4 ≤ s.now ∧ token = s.hub.run.dog.token)
  ∧ (∃ (s : State) (k : Nat) (token : Nat), Ready.mayWrite s k 0x2032 4 token = true ∧ Ready.dogOwned s k = true ∧ s.now < s.hub.run.dog.windowAt + s.hub.run.dog.span / 4)
  ∧ (∃ (s : State) (k : Nat) (token : Nat), Ready.mayWrite s k 0x2032 4 token = true ∧ Ready.dogOwned s k = true ∧ s.hub.run.dog.windowAt + s.hub.run.dog.span / 4 ≤ s.now ∧ token ≠ s.hub.run.dog.token) :=
  ⟨⟨onR fun r => { r with dog := { mode := .forced } }, 0, 1, by decide +kernel⟩,
   ⟨onR fun r => { r with dog := { mode := .armed, owner := 0 } }, 1, 1, by decide +kernel⟩,
   ⟨onR fun r => { r with dog := { mode := .armed, owner := 0, windowAt := clk } }, 0, by decide +kernel⟩,
   ⟨onR fun r => { r with dog := { mode := .armed, owner := 0, token := 7, misses := 1, windowAt := clk - 25000000 } }, 0, 7, by decide +kernel⟩,
   ⟨onR fun r => { r with dog := { mode := .armed, owner := 0, token := 7, windowAt := clk - 24999999 } }, 0, 7, by decide +kernel⟩,
   ⟨onR fun r => { r with dog := { mode := .armed, owner := 0, token := 7, windowAt := clk - 100000000 } }, 0, 8, by decide +kernel⟩⟩

theorem witness_TokensFollowTheShiftRegisterSequence :
  (∃ (v : Nat), v < 2 ^ 16)
  ∧ (∃ (s : State) (k : Nat) (seed : Nat), Ready.mayWrite s k 0x2032 3 seed = true ∧ s.hub.mayArm k = true)
  ∧ (∃ (s : State) (k : Nat) (token : Nat), Ready.mayWrite s k 0x2032 4 token = true ∧ Ready.dogOwned s k = true ∧ s.hub.run.dog.windowAt + s.hub.run.dog.span / 4 ≤ s.now ∧ token = s.hub.run.dog.token)
  ∧ (∃ (s : State) (k : Nat) (token : Nat), Ready.mayWrite s k 0x2032 4 token = true ∧ Ready.dogOwned s k = true ∧ (s.now < s.hub.run.dog.windowAt + s.hub.run.dog.span / 4 ∨ token ≠ s.hub.run.dog.token))
  ∧ (∃ (s : State), Ready.windowMissed s = true) :=
  ⟨⟨65535, by decide +kernel⟩,
   ⟨live, 0, 0xFFFF, by decide +kernel⟩,
   ⟨onR fun r => { r with dog := { mode := .armed, owner := 0, token := 7, windowAt := clk - 25000000 } }, 0, 7, by decide +kernel⟩,
   ⟨onR fun r => { r with dog := { mode := .armed, owner := 0, token := 7, windowAt := clk - 24999999 } }, 0, 7, by decide +kernel⟩,
   ⟨onR fun r => { r with dog := { mode := .armed, owner := 0, token := 7, windowAt := clk - 100000001 } }, by decide +kernel⟩⟩

theorem witness_LapSchedulesAndCaptureAreCommanded :
  (∃ (s : State) (k : Nat), Ready.mayWrite s k 0x2042 3 1 = true)
  ∧ (∃ (s : State) (k : Nat) (value : Nat), Ready.mayWrite s k 0x2042 8 value = true ∧ value % 65536 = 0)
  ∧ (∃ (s : State) (k : Nat) (value : Nat), Ready.mayWrite s k 0x2042 8 value = true ∧ value % 65536 ≠ 0)
  ∧ (∃ (s : State) (k : Nat) (lane : Nat) (d : Drive) (lap : Nat) (at_ : Rat), Ready.mayWrite s k (laneIdx lane 7) 4 (driveCode d) = true ∧ Ready.armable s lane d lap at_ = true ∧ ((s.now + 2000000 : Nat) : Rat) < at_)
  ∧ (∃ (s : State) (k : Nat) (lane : Nat) (d : Drive) (lap : Nat) (at_ : Rat), Ready.mayWrite s k (laneIdx lane 7) 4 (driveCode d) = true ∧ Ready.armable s lane d lap at_ = true ∧ Ready.resolvable s at_ = true ∧ s.hub.laneBanks lane ≠ [])
  ∧ (∃ (s : State) (k : Nat) (lane : Nat), lane < 48 ∧ s.hub.shaped = true ∧ Ready.mayWrite s k (laneIdx lane 7) 4 0xFF = true ∧ s.hub.committedLane lane = false ∧ (s.hub.schedule lane).status = 1)
  ∧ (∃ (s : State) (k : Nat) (lane : Nat), lane < 48 ∧ s.hub.shaped = true ∧ Ready.mayWrite s k (laneIdx lane 7) 4 0xFF = true ∧ s.hub.committedLane lane = false ∧ (s.hub.schedule lane).status = 2 ∧ (s.hub.schedule lane).governed = false)
  ∧ (∃ (s : State) (k : Nat), Ready.mayWrite s k 0x2044 5 1 = true ∧ s.hub.capture.mode ≠ .armed ∧ s.hub.capture.mode ≠ .running ∧ s.hub.present (s.hub.val 0x2044 1 0 / 12) = true)
  ∧ (∃ (s : State) (k : Nat), Ready.mayWrite s k 0x2044 5 2 = true ∧ (s.hub.capture.mode = .armed ∨ s.hub.capture.mode = .running))
  ∧ (∃ (s : State) (k : Nat) (value : Nat), Ready.mayWrite s k 0x2045 2 value = true ∧ value < 4096 ∧ (value + 4096 - s.hub.capture.readIdx) % 4096 ≤ s.hub.capture.count)
  ∧ (∃ (s : State) (k : Nat) (value : Nat), Ready.mayWrite s k 0x2045 2 value = true ∧ 4096 ≤ value)
  ∧ (∃ (s : State) (k : Nat) (lane : Nat) (d : Drive) (lap : Nat) (at_ : Rat), Ready.mayWrite s k (laneIdx lane 7) 4 (driveCode d) = true ∧ Ready.armable s lane d lap at_ = true ∧ Ready.resolvable s at_ = true ∧ s.hub.laneBanks lane = [])
  ∧ (∃ (s : State) (k : Nat) (lane : Nat), lane < 48 ∧ Ready.mayWrite s k (laneIdx lane 7) 4 0xFF = true ∧ s.hub.committedLane lane = true)
  ∧ (∃ (s : State) (k : Nat) (lane : Nat), lane < 48 ∧ Ready.mayWrite s k (laneIdx lane 7) 4 0xFF = true ∧ s.hub.committedLane lane = false ∧ (s.hub.schedule lane).status ≠ 1 ∧ (s.hub.schedule lane).status ≠ 2) :=
  ⟨⟨live, 0, by decide +kernel⟩,
   ⟨live, 0, 65536, by decide +kernel⟩,
   ⟨live, 0, 65537, by decide +kernel⟩,
   ⟨onLap fun l => { l with originAt := (clk - 8000000 : Nat) }, 0, 0, .on, 1, ((clk + 12000000 : Nat) : Rat), by decide +kernel⟩,
   ⟨onLap fun l => { l with originAt := (clk - 18000000 : Nat) }, 0, 0, .on, 1, ((clk + 2000000 : Nat) : Rat), by decide +kernel⟩,
   ⟨onR fun r => { r with schedules := editAt r.schedules 0 fun x => { x with status := 1 } }, 0, 0, by decide +kernel⟩,
   ⟨onR fun r => { r with schedules := editAt r.schedules 0 fun x => { x with status := 2 } }, 0, 0, by decide +kernel⟩,
   ⟨live, 0, by decide +kernel⟩,
   ⟨onH fun h => { h with capture := { h.capture with mode := .running } }, 0, by decide +kernel⟩,
   ⟨onH fun h => { h with capture := { h.capture with count := 5 } }, 0, 5, by decide +kernel⟩,
   ⟨live, 0, 4096, by decide +kernel⟩,
   ⟨onH (fun h => { h with views := List.replicate 4 none }) (onLap fun l => { l with originAt := (clk - 18000000 : Nat) }), 0, 0, .on, 1, ((clk + 2000000 : Nat) : Rat), by decide +kernel⟩,
   ⟨onTeam fun t => { t with mode := .member, intents := [{ seq := 0, target := 9, lapNs := 20000000, entries := [{ member := 0, lane := 0, cmd := 1, budget := 0, proposal := 0, current := 0 }], committed := true }] }, 0, 0, by decide +kernel⟩,
   ⟨live, 0, 0, by decide +kernel⟩⟩

theorem witness_FaultsAreClearedAcknowledgedAndForced :
  (∃ (s : State) (k : Nat) (source : Nat), Ready.mayWrite s k 0x5004 1 source = true ∧ reservedSource source = false ∧ s.hub.collector.stands source = true ∧ s.hub.collector.causeOf source = true)
  ∧ (∃ (s : State) (k : Nat) (source : Nat), Ready.mayWrite s k 0x5004 1 source = true ∧ reservedSource source = false ∧ s.hub.collector.stands source = true ∧ s.hub.collector.causeOf source = false ∧ s.hub.shaped = true ∧ Ready.clearsQuietly s source = true)
  ∧ (∃ (s : State) (k : Nat) (source : Nat), Ready.mayWrite s k 0x5004 1 source = true ∧ reservedSource source = false ∧ s.hub.collector.stands source = false)
  ∧ (∃ (s : State) (k : Nat) (source : Nat), Ready.mayWrite s k 0x5004 1 source = true ∧ reservedSource source = true)
  ∧ (∃ (s : State) (k : Nat) (source : Nat), Ready.mayWrite s k 0x5005 1 source = true ∧ source < 0x40 ∧ reservedSource source = false ∧ sourceClass source ≠ 0 ∧ (sourceClass source = 2 → (s.hub.session k).role = .service) ∧ s.hub.collector.status.getLsbD source = true ∧ s.hub.shaped = true)
  ∧ (∃ (s : State) (k : Nat) (source : Nat), Ready.mayWrite s k 0x5005 1 source = true ∧ reservedSource source = false ∧ (0x40 ≤ source ∨ sourceClass source = 0 ∨ (sourceClass source ≠ 2 ∧ s.hub.collector.status.getLsbD source = false)))
  ∧ (∃ (s : State) (k : Nat) (source : Nat), Ready.mayWrite s k 0x5005 1 source = true ∧ reservedSource source = false ∧ source < 0x40 ∧ sourceClass source = 2 ∧ (s.hub.session k).role ≠ .service)
  ∧ (∃ (s : State) (k : Nat) (source : Nat) (value : Nat), source < 64 ∧ sourceClass source = 1 ∧ Ready.mayWrite s k (0x5010 + source) 2 value = true ∧ (value = 0 ∨ startStep source true ≤ value) ∧ s.hub.shaped = true)
  ∧ (∃ (s : State) (k : Nat) (source : Nat) (value : Nat), source < 64 ∧ sourceClass source = 1 ∧ Ready.mayWrite s k (0x5010 + source) 2 value = true ∧ value ≠ 0 ∧ value < startStep source true)
  ∧ (∃ (s : State) (k : Nat) (word : Nat), Ready.mayWrite s k 0x5080 3 word = true ∧ s.hub.collector.testMode = true ∧ injectable word = true ∧ (injectedMsg word).error = true ∧ (injectedMsg word).source ≠ 0x30)
  ∧ (∃ (s : State) (k : Nat) (word : Nat), Ready.mayWrite s k 0x5080 3 word = true ∧ s.hub.collector.testMode = true ∧ injectable word = true ∧ (injectedMsg word).error = true ∧ (injectedMsg word).source = 0x30)
  ∧ (∃ (s : State) (k : Nat) (word : Nat), Ready.mayWrite s k 0x5080 3 word = true ∧ s.hub.collector.testMode = true ∧ injectable word = true ∧ (injectedMsg word).error = false)
  ∧ (∃ (s : State) (k : Nat) (word : Nat), Ready.mayWrite s k 0x5080 3 word = true ∧ s.hub.collector.testMode = true ∧ injectable word = false)
  ∧ (∃ (s : State) (k : Nat) (word : Nat), Ready.mayWrite s k 0x5080 3 word = true ∧ s.hub.collector.testMode = false)
  ∧ (∃ (s : State) (k : Nat) (value : Nat), Ready.mayWrite s k 0x5080 1 value = true)
  ∧ (∃ (s : State) (k : Nat) (value : Nat), Ready.mayWrite s k 0x5002 3 value = true ∧ value < 2 ^ 27)
  ∧ (∃ (s : State) (k : Nat) (value : Nat), Ready.mayWrite s k 0x5002 3 value = true ∧ 2 ^ 27 ≤ value) :=
  ⟨⟨onCol fun c => { c with status := 2, cause := 2 }, 0, 1, by decide +kernel⟩,
   ⟨onCol fun c => { c with status := 2 }, 0, 1, by decide +kernel⟩,
   ⟨live, 0, 1, by decide +kernel⟩,
   ⟨live, 0, 0x3F, by decide +kernel⟩,
   ⟨onCol fun c => { c with status := 2 }, 0, 1, by decide +kernel⟩,
   ⟨live, 0, 1, by decide +kernel⟩,
   ⟨live, 1, 0x31, by decide +kernel⟩,
   ⟨live, 0, 1, 3, by decide +kernel⟩,
   ⟨live, 0, 4, 1, by decide +kernel⟩,
   ⟨onCol fun c => { c with testMode := true }, 0, 2 ^ 31 + 0x101, by decide +kernel⟩,
   ⟨onCol fun c => { c with testMode := true }, 0, 2 ^ 31 + 0x130, by decide +kernel⟩,
   ⟨onCol fun c => { c with testMode := true }, 0, 0x101, by decide +kernel⟩,
   ⟨onCol fun c => { c with testMode := true }, 0, 2 ^ 31 + 0x13F, by decide +kernel⟩,
   ⟨live, 0, 2 ^ 31 + 0x101, by decide +kernel⟩,
   ⟨live, 0, 0x4B1E, by decide +kernel⟩,
   ⟨live, 0, 2 ^ 26, by decide +kernel⟩,
   ⟨live, 0, 2 ^ 27, by decide +kernel⟩⟩

theorem witness_TheFirstErrorRecordIsClearedAndFilledAgain :
  (∃ (s : State) (k : Nat), Ready.mayWrite s k 0x5003 9 1 = true ∧ (s.hub.collector.record.valid && s.hub.collector.status.getLsbD s.hub.collector.record.source) = false)
  ∧ (∃ (s : State) (k : Nat), Ready.mayWrite s k 0x5003 9 1 = true ∧ s.hub.collector.record.valid = true ∧ s.hub.collector.status.getLsbD s.hub.collector.record.source = true)
  ∧ (∃ (s : State) (source : Nat) (kind : Nat), Ready.acceptsS s source kind = true ∧ s.hub.collector.record = {}) :=
  ⟨⟨onCol fun c => { c with record := { valid := true, overflow := true, source := 1, later := 3 } }, 0, by decide +kernel⟩,
   ⟨onCol fun c => { c with status := 2, record := { valid := true, source := 1 } }, 0, by decide +kernel⟩,
   ⟨onCol fun c => { c with status := 2 }, 0x3A, 1, by decide +kernel⟩⟩

theorem witness_AClearOfAllClearsEverySourceWhoseCauseIsGone :
  (∃ (s : State) (k : Nat), Ready.mayWrite s k 0x5004 2 1 = true ∧ s.hub.shaped = true)
  ∧ (∃ (s : State) (k : Nat), s.rtVersion ≤ 0x0301 ∧ s.hub.taking = true ∧ s.hub.writerCode k = 0)
  ∧ (∃ (version : Nat), version ≤ 0x0301) :=
  ⟨⟨onCol fun c => { c with status := 6, cause := 4 }, 0, by decide +kernel⟩,
   ⟨{ live with rtVersion := 0x0301 }, 0, by decide +kernel⟩,
   ⟨0x0301, by decide +kernel⟩⟩

theorem witness_TimeQueuesPortsAndTeamsAreWritten :
  (∃ (s : State) (k : Nat) (seconds : Nat) (nanos : Nat), seconds < 2 ^ 48 ∧ Ready.mayWrite s k 0x4000 2 (seconds + nanos * 2 ^ 64) = true)
  ∧ (∃ (s : State) (k : Nat) (ns : Int), -(2 ^ 31) ≤ ns ∧ ns < 2 ^ 31 ∧ Ready.mayWrite s k 0x4000 3 (ofSigned 32 ns) = true)
  ∧ (∃ (s : State) (k : Nat) (value : Nat), Ready.mayWrite s k 0x4000 4 value = true ∧ 0x03FF7CEE ≤ value ∧ value ≤ 0x04008312 ∧ s.hub.time.hostOwned = true)
  ∧ (∃ (s : State) (k : Nat), Ready.mayWrite s k 0x4000 5 1 = true ∧ s.hub.time.hostOwned = false)
  ∧ (∃ (s : State) (k : Nat), Ready.mayWrite s k 0x4000 5 0 = true ∧ s.hub.time.hostOwned = true)
  ∧ (∃ (s : State) (k : Nat) (value : Nat), Ready.mayWrite s k 0x4005 1 value = true)
  ∧ (∃ (s : State) (k : Nat) (queue : Nat) (value : Nat), queue < 7 ∧ Ready.mayWrite s k (0x4410 + queue) 1 value = true ∧ s.hub.net.indexStatus queue 1 value = 0)
  ∧ (∃ (s : State) (k : Nat) (queue : Nat) (value : Nat), queue < 7 ∧ Ready.mayWrite s k (0x4410 + queue) 1 value = true ∧ s.hub.net.indexStatus queue 1 value ≠ 0)
  ∧ (∃ (s : State) (k : Nat) (queue : Nat) (value : Nat), queue < 7 ∧ Ready.mayWrite s k (0x4410 + queue) 2 value = true ∧ s.hub.net.indexStatus queue 2 value = 0)
  ∧ (∃ (s : State) (k : Nat) (queue : Nat), queue < 7 ∧ Ready.mayWrite s k (0x4410 + queue) 4 0 = true)
  ∧ (∃ (s : State) (k : Nat) (n : Nat), n < 2 ∧ Ready.mayWrite s k (0x4401 + n) 1 1 = true)
  ∧ (∃ (s : State) (k : Nat) (n : Nat), n < 2 ∧ Ready.mayWrite s k (0x4401 + n) 1 0 = true)
  ∧ (∃ (s : State) (k : Nat) (n : Nat) (sub : Nat) (value : Nat), n < 2 ∧ 2 ≤ sub ∧ sub ≤ 6 ∧ Ready.mayWrite s k (0x4401 + n) sub value = true ∧ (sub ≤ 4 → s.hub.plcaOk n sub value = true))
  ∧ (∃ (s : State) (k : Nat), Ready.mayWrite s k 0x6000 1 1 = true ∧ s.hub.val 0x6000 2 0 ≠ 0 ∧ (s.hub.key .service).isSome = true ∧ 0x0301 ≤ s.rtVersion)
  ∧ (∃ (s : State) (k : Nat), Ready.mayWrite s k 0x6000 1 0 = true)
  ∧ (∃ (s : State) (k : Nat) (seconds : Nat) (nanos : Nat), 2 ^ 48 ≤ seconds ∧ seconds < 2 ^ 64 ∧ Ready.mayWrite s k 0x4000 2 (seconds + nanos * 2 ^ 64) = true)
  ∧ (∃ (s : State) (k : Nat) (value : Nat), Ready.mayWrite s k 0x4000 4 value = true ∧ 0x03FF7CEE ≤ value ∧ value ≤ 0x04008312 ∧ s.hub.time.hostOwned = false)
  ∧ (∃ (s : State) (k : Nat) (value : Nat), Ready.mayWrite s k 0x4000 4 value = true ∧ (value < 0x03FF7CEE ∨ 0x04008312 < value))
  ∧ (∃ (s : State) (k : Nat) (n : Nat) (sub : Nat) (value : Nat), n < 2 ∧ 2 ≤ sub ∧ sub ≤ 4 ∧ Ready.mayWrite s k (0x4401 + n) sub value = true ∧ s.hub.plcaOk n sub value = false)
  ∧ (∃ (s : State) (k : Nat), Ready.mayWrite s k 0x6000 1 1 = true ∧ (s.hub.val 0x6000 2 0 = 0 ∨ s.hub.key .service = none ∨ s.rtVersion < 0x0301)) :=
  ⟨⟨live, 0, 2 ^ 48 - 1, 999999999, by decide +kernel⟩,
   ⟨live, 0, -999999999, by decide +kernel⟩,
   ⟨onT fun t => { t with hostOwned := true }, 0, 0x04008312, by decide +kernel⟩,
   ⟨live, 0, by decide +kernel⟩,
   ⟨onT fun t => { t with hostOwned := true }, 0, by decide +kernel⟩,
   ⟨live, 0, 3, by decide +kernel⟩,
   ⟨live, 0, 3, 15, by decide +kernel⟩,
   ⟨live, 0, 3, 16, by decide +kernel⟩,
   ⟨onN fun n => { n with q6 := { n.q6 with prod := 5 } }, 0, 6, 5, by decide +kernel⟩,
   ⟨onN fun n => { n with q2 := { n.q2 with overflow := true } }, 0, 2, by decide +kernel⟩,
   ⟨live, 0, 1, by decide +kernel⟩,
   ⟨live, 0, 1, by decide +kernel⟩,
   ⟨live, 0, 1, 2, 254, by decide +kernel⟩,
   ⟨vals [(0x6000, 2, 7), (0x1042, 3, 5)], 0, by decide +kernel⟩,
   ⟨live, 0, by decide +kernel⟩,
   ⟨live, 0, 2 ^ 48, 0, by decide +kernel⟩,
   ⟨live, 0, 0x04000000, by decide +kernel⟩,
   ⟨live, 0, 0x03FF7CED, by decide +kernel⟩,
   ⟨vals [(0x4402, 3, 2)], 0, 1, 2, 254, by decide +kernel⟩,
   ⟨live, 0, by decide +kernel⟩⟩

theorem witness_StoreJournalPatchesAndBankServiceAreWritten :
  (∃ (s : State) (k : Nat), Ready.mayWrite s k 0x7000 1 1 = true ∧ s.hub.run.store.dirty = true ∧ Ready.storeFree s = true)
  ∧ (∃ (s : State) (k : Nat), Ready.mayWrite s k 0x7000 1 1 = true ∧ s.hub.run.store.dirty = false)
  ∧ (∃ (s : State) (k : Nat), Ready.mayWrite s k 0x7001 8 1 = true ∧ Ready.mramFree s = true)
  ∧ (∃ (s : State) (k : Nat), Ready.mayWrite s k 0x7001 8 1 = true ∧ Ready.mramFree s = false)
  ∧ (∃ (s : State) (k : Nat) (value : Nat), Ready.mayWrite s k 0x7001 5 value = true ∧ (value + 2 ^ 32 - s.mram.oldest) % 2 ^ 32 < s.mram.records.length)
  ∧ (∃ (s : State) (k : Nat), Ready.mayWrite s k 0x7002 8 1 = true ∧ s.hub.slotsFree = true ∧ s.hub.shaped = true)
  ∧ (∃ (s : State) (k : Nat), Ready.mayWrite s k 0x7002 8 4 = true ∧ s.hub.slotsFree = true ∧ s.hub.shaped = true)
  ∧ (∃ (s : State) (k : Nat), Ready.mayWrite s k 0x7002 8 2 = true ∧ s.hub.slotsFree = true ∧ Ready.activateFree s = true)
  ∧ (∃ (s : State) (k : Nat), Ready.mayWrite s k 0x7002 8 3 = true ∧ s.hub.activeSlot.isSome = true ∧ s.hub.shadowed = false)
  ∧ (∃ (s : State) (k : Nat) (b : Nat), Ready.mayWrite s k 0x7003 (5 + b) 1 = true ∧ Ready.serviceFree s b 1 = true)
  ∧ (∃ (s : State) (k : Nat) (b : Nat), Ready.mayWrite s k 0x7003 (5 + b) 2 = true ∧ Ready.serviceFree s b 2 = true)
  ∧ (∃ (s : State) (k : Nat) (b : Nat), Ready.mayWrite s k 0x7003 (5 + b) 3 = true ∧ Ready.serviceFree s b 3 = true)
  ∧ (∃ (s : State) (k : Nat) (b : Nat), Ready.mayWrite s k 0x7003 (5 + b) 4 = true ∧ Ready.serviceFree s b 4 = true)
  ∧ (∃ (s : State) (k : Nat) (b : Nat), Ready.mayWrite s k 0x7003 (5 + b) 5 = true ∧ Ready.serviceFree s b 5 = true)
  ∧ (∃ (s : State) (k : Nat) (ch : Nat) (value : Nat), ch < 48 ∧ s.hub.shaped = true ∧ Ready.mayWrite s k 0x7004 (ch + 1) value = true ∧ (value = 1 → s.hub.owner ch = none) ∧ (value = 0 → s.hub.retiredBank (ch / 12) = false))
  ∧ (∃ (s : State) (k : Nat), Ready.mayWrite s k 0x7005 3 1 = true ∧ Ready.migrationFree s = true)
  ∧ (∃ (s : State) (k : Nat), Ready.mayWrite s k 0x7002 8 1 = true ∧ s.hub.slotsFree = false)
  ∧ (∃ (s : State) (k : Nat), Ready.mayWrite s k 0x7002 8 4 = true ∧ s.hub.slotsFree = false) :=
  ⟨⟨onR fun r => { r with store := { r.store with dirty := true } }, 0, by decide +kernel⟩,
   ⟨live, 0, by decide +kernel⟩,
   ⟨live, 0, by decide +kernel⟩,
   ⟨onR fun r => { r with store := { r.store with writing := true } }, 0, by decide +kernel⟩,
   ⟨{ live with mram := { live.mram with records := [{ number := 4, entry := { seconds := 1, nanos := 2, cls := 3, code := 4, payload := [] } }], next := 5 } }, 0, 4, by decide +kernel⟩,
   ⟨live, 0, by decide +kernel⟩,
   ⟨{ live with patches := [(slotBase 0, 5#8)] }, 0, by decide +kernel⟩,
   ⟨onR fun r => { r with slotState := [3, 0] }, 0, by decide +kernel⟩,
   ⟨onR fun r => { r with slotState := [4, 0] }, 0, by decide +kernel⟩,
   ⟨live, 0, 0, by decide +kernel⟩,
   ⟨onR fun r => { r with service := editAt r.service 0 fun _ => .isolated }, 0, 0, by decide +kernel⟩,
   ⟨onR fun r => { r with service := editAt r.service 0 fun _ => .isolated }, 0, 0, by decide +kernel⟩,
   ⟨vals ((List.range 12).map fun n => (0x3402, n + 1, 0xFFFF)) (onR fun r => { r with service := editAt r.service 0 fun _ => .isolated }), 0, 0, by decide +kernel⟩,
   ⟨onR fun r => { r with service := editAt r.service 0 fun _ => .retired }, 0, 0, by decide +kernel⟩,
   ⟨vals ((List.range 12).map fun n => (0x3402, n + 1, 0xFFFF)), 0, 0, 1, by decide +kernel⟩,
   ⟨vals [(0x3402, 2, 0xFFFF), (0x7005, 1, 0), (0x7005, 2, 0x0100)], 0, by decide +kernel⟩,
   ⟨onH fun h => { h with windowCode := 1 }, 0, by decide +kernel⟩,
   ⟨onH fun h => { h with windowCode := 1 }, 0, by decide +kernel⟩⟩

theorem witness_SensorsSessionsKeysAndObjectsAreWritten :
  (∃ (s : State) (k : Nat) (value : Nat) (c : BankCore), value / 16 < 4 ∧ value % 16 < 14 ∧ s.hub.shaped = true ∧ Ready.mayWrite s k 0x2023 5 value = true ∧ s.hub.view (value / 16) = some c ∧ (c.sensor (value % 16)).broken.isSome = true ∧ elapsed (s.hub.agreeSince.getD (14 * (value / 16) + value % 16) none) 1000000000 s.now = true)
  ∧ (∃ (s : State) (k : Nat) (value : Nat) (c : BankCore), value / 16 < 4 ∧ value % 16 < 14 ∧ Ready.mayWrite s k 0x2023 5 value = true ∧ s.hub.view (value / 16) = some c ∧ (c.sensor (value % 16)).broken = none)
  ∧ (∃ (s : State) (k : Nat) (n : Nat), n < 16 ∧ s.hub.shaped = true ∧ Ready.mayWrite s k (0x1100 + n) 7 1 = true)
  ∧ (∃ (s : State) (k : Nat) (key : List Byte), s.hub.shaped = true ∧ Ready.mayWriteBytes s k 0x1042 2 key = true)
  ∧ (∃ (s : State) (k : Nat) (key : List Byte), s.hub.shaped = true ∧ Ready.mayWriteBytes s k 0x1042 3 key = true)
  ∧ (∃ (s : State) (k : Nat) (sub : Nat) (value : List Byte), s.hub.shaped = true ∧ 1 ≤ sub ∧ sub ≤ 4 ∧ Ready.mayWriteBytes s k 0x1040 sub value = true)
  ∧ (∃ (s : State) (k : Nat) (idx : Nat) (sub : Nat) (value : List Byte), Ready.mayWriteBytes s k idx sub value = true ∧ Ready.plainObject idx sub = true)
  ∧ (∃ (s : State) (k : Nat) (idx : Nat) (sub : Nat) (r : ObjRow), s.hub.taking = true ∧ s.hub.writerCode k = 0 ∧ rowOf s.rtVersion idx sub = some r ∧ s.accessCode { session := k, arrival := s.now } r idx sub ≠ 0)
  ∧ (∃ (s : State) (k : Nat), s.hub.taking = true ∧ s.hub.writerCode k ≠ 0)
  ∧ (∃ (s : State) (k : Nat) (value : Nat) (c : BankCore), value / 16 < 4 ∧ value % 16 < 14 ∧ Ready.mayWrite s k 0x2023 5 value = true ∧ s.hub.view (value / 16) = some c ∧ (c.sensor (value % 16)).broken.isSome = true ∧ elapsed (s.hub.agreeSince.getD (14 * (value / 16) + value % 16) none) 1000000000 s.now = false)
  ∧ (∃ (s : State) (k : Nat) (value : Nat), value / 16 < 4 ∧ value % 16 < 14 ∧ Ready.mayWrite s k 0x2023 5 value = true ∧ s.hub.view (value / 16) = none)
  ∧ (∃ (s : State) (k : Nat) (value : Nat), (4 ≤ value / 16 ∨ 14 ≤ value % 16) ∧ Ready.mayWrite s k 0x2023 5 value = true)
  ∧ (∃ (s : State) (k : Nat) (idx : Nat) (sub : Nat) (value : List Byte) (r : ObjRow), s.hub.taking = true ∧ s.hub.writerCode k = 0 ∧ rowOf s.rtVersion idx sub = some r ∧ s.accessCode { session := k, arrival := s.now } r idx sub = 0 ∧ r.size ≤ 32 ∧ s.hub.slotTaken idx = false ∧ valueCode r value ≠ 0) :=
  ⟨⟨onH fun h => { h with views := [some ({ core0 with sensors := editAt core0.sensors 13 fun x => { x with broken := some .reference } }), none, none, none], agreeSince := editAt h.agreeSince 13 fun _ => some (clk - 1000000000) }, 0, 13, { core0 with sensors := editAt core0.sensors 13 fun x => { x with broken := some .reference } }, by decide +kernel⟩,
   ⟨live, 0, 61, core0, by decide +kernel⟩,
   ⟨live, 0, 2, by decide +kernel⟩,
   ⟨live, 0, List.replicate 32 9#8, by decide +kernel⟩,
   ⟨live, 0, List.replicate 32 9#8, by decide +kernel⟩,
   ⟨live, 0, 4, [0x20#8, 0xBE#8], by decide +kernel⟩,
   ⟨live, 0, 0x2040, 2, [3#8], by decide +kernel⟩,
   ⟨live, 0, 0x1008, 0, (rowOf 0x0302 0x1008 0).getD default, by decide +kernel⟩,
   ⟨live, 2, by decide +kernel⟩,
   ⟨onH fun h => { h with views := [some ({ core0 with sensors := editAt core0.sensors 13 fun x => { x with broken := some .reference } }), none, none, none], agreeSince := editAt h.agreeSince 13 fun _ => some (clk - 999999999) }, 0, 13, { core0 with sensors := editAt core0.sensors 13 fun x => { x with broken := some .reference } }, by decide +kernel⟩,
   ⟨onH fun h => { h with views := List.replicate 4 none }, 0, 61, by decide +kernel⟩,
   ⟨live, 0, 14, by decide +kernel⟩,
   ⟨live, 0, 0x2040, 2, [77#8], (rowOf 0x0302 0x2040 2).getD default, by decide +kernel⟩⟩

theorem witness_SpiTransactionsMoveEntries :
  (∃ (s : State) (data : List Byte), s.spiOn = true ∧ s.hub.q0Full = false ∧ 64 ≤ data.length)
  ∧ (∃ (s : State), s.spiOn = true ∧ s.hub.q0Full = true)
  ∧ (∃ (s : State) (data : List Byte), s.spiOn = true ∧ s.hub.q0Full = false ∧ data.length < 64)
  ∧ (∃ (s : State) (clocked : Nat), s.spiOn = true ∧ 64 ≤ clocked)
  ∧ (∃ (s : State) (clocked : Nat), s.spiOn = true ∧ clocked < 64)
  ∧ (∃ (s : State), s.spiOn = true)
  ∧ (∃ (s : State), s.spiOn = true)
  ∧ (∃ (s : State) (q : Request), s.hub.request .spi = some q ∧ q.formed = false)
  ∧ (∃ (s : State) (q : Request), s.hub.request .net = some q ∧ q.formed = false)
  ∧ (∃ (s : State), s.hub.serving = true) :=
  ⟨⟨live, List.replicate 64 1#8, by decide +kernel⟩,
   ⟨onN fun n => { n with q0 := { n.q0 with prod := 31, entries := List.replicate 31 {} } }, by decide +kernel⟩,
   ⟨live, List.replicate 63 1#8, by decide +kernel⟩,
   ⟨onN fun n => { n with q1 := { n.q1 with prod := 0, cons := 31, entries := [{ length := 3, payload := [1#8, 2#8, 3#8] }] } }, 64, by decide +kernel⟩,
   ⟨live, 63, by decide +kernel⟩,
   ⟨live, by decide +kernel⟩,
   ⟨live, by decide +kernel⟩,
   ⟨posed [2#8], asked [2#8], by decide +kernel⟩,
   ⟨sent [2#8], heard [2#8], by decide +kernel⟩,
   ⟨onR fun r => { r with held := [[1#8, 2#8]] }, by decide +kernel⟩⟩

theorem witness_SessionsAreOpenedConfirmedAndClosed :
  (∃ (s : State) (via : Transport) (q : Request), s.hub.request via = some q ∧ Ready.asksFree q 0x01 0 = true)
  ∧ (∃ (s : State) (via : Transport) (q : Request) (role : Role) (n : Nat), s.hub.request via = some q ∧ Ready.asksFree q 0x02 12 = true ∧ leField q.body 1 3 = 0 ∧ roleOf (leField q.body 0 1) = some role ∧ (role ≠ .observer → (s.hub.key role).isSome = true) ∧ s.hub.freeSession via = some n ∧ s.hub.shaped = true)
  ∧ (∃ (s : State) (via : Transport) (q : Request) (role : Role), s.hub.request via = some q ∧ Ready.asksFree q 0x02 12 = true ∧ leField q.body 1 3 = 0 ∧ roleOf (leField q.body 0 1) = some role ∧ role ≠ .observer ∧ s.hub.key role = none)
  ∧ (∃ (s : State) (via : Transport) (q : Request), s.hub.request via = some q ∧ Ready.asksIn s q 0x03 .observer = true ∧ q.body = [] ∧ (s.hub.session q.session).outstanding = 0)
  ∧ (∃ (s : State) (via : Transport) (q : Request), s.hub.request via = some q ∧ Ready.asksIn s q 0x04 .observer = true ∧ q.body = [] ∧ (s.hub.session q.session).outstanding = 0)
  ∧ (∃ (s : State) (via : Transport) (q : Request), s.hub.request via = some q ∧ Ready.asksIn s q 0x05 .observer = true ∧ q.body = [])
  ∧ (∃ (s : State) (q : Request), s.hub.request .spi = some q ∧ Ready.asksFree q 0x06 36 = true ∧ leField q.body 1 3 = 0 ∧ leField q.body 0 1 ≤ 1 ∧ s.hub.key (if leField q.body 0 1 = 1 then .service else .operator) = none)
  ∧ (∃ (s : State) (q : Request), s.hub.request .net = some q ∧ Ready.asksFree q 0x06 36 = true)
  ∧ (∃ (s : State) (n : Nat), s.hub.serving = true ∧ s.hub.shaped = true ∧ n < 16 ∧ (s.hub.session n).mode = .waiting ∧ (s.hub.session n).openedAt + 1000000000 ≤ s.now)
  ∧ (∃ (s : State) (n : Nat), s.hub.serving = true ∧ s.hub.shaped = true ∧ n < 16 ∧ (s.hub.session n).mode ≠ .free ∧ (s.hub.session n).outstanding = 0 ∧ s.hub.run.held.any (ofSession n) = false ∧ (s.hub.session n).lastUsed + s.hub.act 0x1041 1 10 * 1000000000 < s.now)
  ∧ (∃ (s : State) (n : Nat) (w : SegWrite), s.hub.serving = true ∧ s.hub.shaped = true ∧ (s.hub.session n).writing = some w ∧ w.last + 1000000000 ≤ s.now) :=
  ⟨⟨posed (plain 1 255 []), .spi, asked (plain 1 255 []), by decide +kernel⟩,
   ⟨posed (plain 2 255 ([0#8, 0#8, 0#8, 0#8] ++ List.replicate 8 9#8)), .spi, asked (plain 2 255 ([0#8, 0#8, 0#8, 0#8] ++ List.replicate 8 9#8)), .observer, 3, by decide +kernel⟩,
   ⟨posed (plain 2 255 ([1#8, 0#8, 0#8, 0#8] ++ List.replicate 8 9#8)), .spi, asked (plain 2 255 ([1#8, 0#8, 0#8, 0#8] ++ List.replicate 8 9#8)), .operator, by decide +kernel⟩,
   ⟨posed (signed 3 0 []) (onR fun r => { r with sessions := editAt r.sessions 0 fun x => { x with mode := .waiting, openedAt := clk - 1000000000 } }), .spi, asked (signed 3 0 []), by decide +kernel⟩,
   ⟨posed (signed 4 1 []), .spi, asked (signed 4 1 []), by decide +kernel⟩,
   ⟨posed (plain 5 2 []), .spi, asked (plain 5 2 []), by decide +kernel⟩,
   ⟨posed (plain 6 255 ([1#8, 0#8, 0#8, 0#8] ++ List.replicate 32 9#8)), asked (plain 6 255 ([1#8, 0#8, 0#8, 0#8] ++ List.replicate 32 9#8)), by decide +kernel⟩,
   ⟨sent (plain 6 0xFF (List.replicate 36 0#8)), heard (plain 6 0xFF (List.replicate 36 0#8)), by decide +kernel⟩,
   ⟨onR fun r => { r with sessions := editAt r.sessions 5 fun x => { x with mode := .waiting, openedAt := clk - 1000000000 } }, 5, by decide +kernel⟩,
   ⟨onR fun r => { r with sessions := editAt r.sessions 5 fun x => { x with mode := .opened, lastUsed := clk - 10000000001 } }, 5, by decide +kernel⟩,
   ⟨onR fun r => { r with sessions := editAt r.sessions 1 fun x => { x with writing := some { idx := 0x2041, sub := 1, total := 2, data := [0x88#8], last := clk - 1000000000 } } }, 1, { idx := 0x2041, sub := 1, total := 2, data := [0x88#8], last := clk - 1000000000 }, by decide +kernel⟩⟩

theorem witness_ObjectsAreReadAndWrittenByService :
  (∃ (s : State) (via : Transport) (q : Request) (r : ObjRow), s.hub.request via = some q ∧ Ready.asksIn s q 0x10 .observer = true ∧ q.body.length = 4 ∧ leField q.body 3 1 = 0 ∧ rowOf s.rtVersion (Ready.askedIdx q) (Ready.askedSub q) = some r ∧ r.acc ≠ .wo ∧ r.size ≤ 32)
  ∧ (∃ (s : State) (via : Transport) (q : Request) (r : ObjRow), s.hub.request via = some q ∧ Ready.asksIn s q 0x10 .observer = true ∧ q.body.length = 4 ∧ leField q.body 3 1 = 0 ∧ rowOf s.rtVersion (Ready.askedIdx q) (Ready.askedSub q) = some r ∧ r.acc = .wo)
  ∧ (∃ (s : State) (via : Transport) (q : Request), s.hub.request via = some q ∧ Ready.asksIn s q 0x11 .operator = true ∧ leField q.body 3 1 = 0 ∧ leField q.body 6 2 = 0 ∧ leField q.body 4 2 ≤ 32 ∧ q.body.length = 8 + leField q.body 4 2 ∧ (s.hub.session q.session).outstanding = 0 ∧ Ready.mayWriteBytes s q.session (Ready.askedIdx q) (Ready.askedSub q) (slice q.body 8 (leField q.body 4 2)) = true ∧ Ready.plainObject (Ready.askedIdx q) (Ready.askedSub q) = true)
  ∧ (∃ (s : State) (via : Transport) (q : Request) (r : ObjRow) (data : List Byte), s.hub.request via = some q ∧ Ready.asksIn s q 0x12 .observer = true ∧ q.body.length = 12 ∧ leField q.body 3 1 = 0 ∧ leField q.body 10 2 = 0 ∧ leField q.body 4 4 = 0 ∧ rowOf s.rtVersion (Ready.askedIdx q) (Ready.askedSub q) = some r ∧ r.acc ≠ .wo ∧ (Ready.taken s via q).objectBytes q.session r (Ready.askedIdx q) (Ready.askedSub q) = some data)
  ∧ (∃ (s : State) (via : Transport) (q : Request) (r : ObjRow) (data : List Byte), s.hub.request via = some q ∧ Ready.asksIn s q 0x12 .observer = true ∧ q.body.length = 12 ∧ leField q.body 3 1 = 0 ∧ leField q.body 10 2 = 0 ∧ leField q.body 4 4 ≠ 0 ∧ leField q.body 4 4 ≤ data.length ∧ rowOf s.rtVersion (Ready.askedIdx q) (Ready.askedSub q) = some r ∧ r.acc ≠ .wo ∧ (s.hub.session q.session).reading = some (objKey (Ready.askedIdx q) (Ready.askedSub q), data))
  ∧ (∃ (s : State) (via : Transport) (q : Request) (r : ObjRow), s.hub.request via = some q ∧ Ready.asksIn s q 0x13 .operator = true ∧ leField q.body 3 1 = 0 ∧ leField q.body 14 2 = 0 ∧ leField q.body 12 2 ≤ segmentMax via ∧ q.body.length = 16 + leField q.body 12 2 ∧ (s.hub.session q.session).outstanding = 0 ∧ (s.hub.session q.session).segLost = false ∧ (s.hub.session q.session).writing = none ∧ leField q.body 8 4 = 0 ∧ rowOf s.rtVersion (Ready.askedIdx q) (Ready.askedSub q) = some r ∧ s.accessCode { session := q.session } r (Ready.askedIdx q) (Ready.askedSub q) = 0 ∧ isPatch (Ready.askedIdx q) (Ready.askedSub q) = false ∧ leField q.body 4 4 = r.size ∧ leField q.body 12 2 < r.size)
  ∧ (∃ (s : State) (via : Transport) (q : Request) (r : ObjRow) (w : SegWrite), s.hub.request via = some q ∧ Ready.asksIn s q 0x13 .operator = true ∧ leField q.body 3 1 = 0 ∧ leField q.body 14 2 = 0 ∧ leField q.body 12 2 ≤ segmentMax via ∧ q.body.length = 16 + leField q.body 12 2 ∧ (s.hub.session q.session).outstanding = 0 ∧ (s.hub.session q.session).segLost = false ∧ (s.hub.session q.session).writing = some w ∧ w.idx = Ready.askedIdx q ∧ w.sub = Ready.askedSub q ∧ w.total = leField q.body 4 4 ∧ w.data.length = leField q.body 8 4 ∧ leField q.body 8 4 ≠ 0 ∧ q.at_ ≤ w.last + 1000000000 ∧ rowOf s.rtVersion (Ready.askedIdx q) (Ready.askedSub q) = some r ∧ Ready.mayWriteBytes s q.session (Ready.askedIdx q) (Ready.askedSub q) (w.data ++ slice q.body 16 (leField q.body 12 2)) = true ∧ w.total = r.size ∧ Ready.plainObject (Ready.askedIdx q) (Ready.askedSub q) = true) :=
  ⟨⟨posed (plain 16 2 [0x41#8, 0x20#8, 1#8, 0#8]), .spi, asked (plain 16 2 [0x41#8, 0x20#8, 1#8, 0#8]), (rowOf 0x0302 0x2041 1).getD default, by decide +kernel⟩,
   ⟨posed (plain 16 2 [0x42#8, 0x20#8, 3#8, 0#8]), .spi, asked (plain 16 2 [0x42#8, 0x20#8, 3#8, 0#8]), (rowOf 0x0302 0x2042 3).getD default, by decide +kernel⟩,
   ⟨posed (signed 17 1 [0x40#8, 0x20#8, 2#8, 0#8, 1#8, 0#8, 0#8, 0#8, 3#8]), .spi, asked (signed 17 1 [0x40#8, 0x20#8, 2#8, 0#8, 1#8, 0#8, 0#8, 0#8, 3#8]), by decide +kernel⟩,
   ⟨posed (plain 18 2 [0x41#8, 0x20#8, 1#8, 0#8, 0#8, 0#8, 0#8, 0#8, 24#8, 0#8, 0#8, 0#8]), .spi, asked (plain 18 2 [0x41#8, 0x20#8, 1#8, 0#8, 0#8, 0#8, 0#8, 0#8, 24#8, 0#8, 0#8, 0#8]), (rowOf 0x0302 0x2041 1).getD default, [0x88#8, 0x13#8], by decide +kernel⟩,
   ⟨posed (plain 18 2 [0x41#8, 0x20#8, 1#8, 0#8, 2#8, 0#8, 0#8, 0#8, 24#8, 0#8, 0#8, 0#8]) (onR fun r => { r with sessions := editAt r.sessions 2 fun x => { x with reading := some (objKey 0x2041 1, [0x88#8, 0x13#8]) } }), .spi, asked (plain 18 2 [0x41#8, 0x20#8, 1#8, 0#8, 2#8, 0#8, 0#8, 0#8, 24#8, 0#8, 0#8, 0#8]), (rowOf 0x0302 0x2041 1).getD default, [0x88#8, 0x13#8], by decide +kernel⟩,
   ⟨posed (signed 19 1 [0x41#8, 0x20#8, 1#8, 0#8, 2#8, 0#8, 0#8, 0#8, 0#8, 0#8, 0#8, 0#8, 1#8, 0#8, 0#8, 0#8, 0x88#8]), .spi, asked (signed 19 1 [0x41#8, 0x20#8, 1#8, 0#8, 2#8, 0#8, 0#8, 0#8, 0#8, 0#8, 0#8, 0#8, 1#8, 0#8, 0#8, 0#8, 0x88#8]), (rowOf 0x0302 0x2041 1).getD default, by decide +kernel⟩,
   ⟨posed (signed 19 1 [0x41#8, 0x20#8, 1#8, 0#8, 2#8, 0#8, 0#8, 0#8, 1#8, 0#8, 0#8, 0#8, 1#8, 0#8, 0#8, 0#8, 0x13#8]) (onR fun r => { r with sessions := editAt r.sessions 1 fun x => { x with writing := some { idx := 0x2041, sub := 1, total := 2, data := [0x88#8], last := clk - 1000000000 } } }), .spi, asked (signed 19 1 [0x41#8, 0x20#8, 1#8, 0#8, 2#8, 0#8, 0#8, 0#8, 1#8, 0#8, 0#8, 0#8, 1#8, 0#8, 0#8, 0#8, 0x13#8]), (rowOf 0x0302 0x2041 1).getD default, { idx := 0x2041, sub := 1, total := 2, data := [0x88#8], last := clk - 1000000000 }, by decide +kernel⟩⟩

theorem witness_QueuesAndBuffersAreReadAndWrittenByService :
  (∃ (s : State) (via : Transport) (q : Request) (size : Nat) (ring : Nat), s.hub.request via = some q ∧ Ready.asksIn s q 0x20 .observer = true ∧ q.body.length = 8 ∧ leField q.body 1 1 = 0 ∧ leField q.body 6 2 = 0 ∧ queueShape (Ready.askedQueue q) = some (size, ring) ∧ Ready.askedFirst q < ring ∧ Ready.askedCount q ≤ ring ∧ Ready.askedCount q * size ≤ blockMax via)
  ∧ (∃ (s : State) (via : Transport) (q : Request), s.hub.request via = some q ∧ Ready.asksIn s q 0x21 .operator = true ∧ leField q.body 1 1 = 0 ∧ leField q.body 6 2 = 0 ∧ Ready.askedQueue q = 3 ∧ Ready.askedCount q * 16 ≤ blockMax via ∧ q.body.length = 8 + Ready.askedCount q * 16 ∧ Ready.askedFirst q < 16 ∧ Ready.askedCount q ≤ 16 ∧ s.hub.net.q3.slots.length = 16)
  ∧ (∃ (s : State) (via : Transport) (q : Request), s.hub.request via = some q ∧ Ready.asksIn s q 0x21 .operator = true ∧ leField q.body 1 1 = 0 ∧ leField q.body 6 2 = 0 ∧ Ready.askedQueue q = 4 ∧ Ready.askedCount q * 16 ≤ blockMax via ∧ q.body.length = 8 + Ready.askedCount q * 16 ∧ Ready.askedFirst q < 32 ∧ Ready.askedCount q ≤ 32 ∧ s.hub.net.q4.slots.length = 32)
  ∧ (∃ (s : State) (via : Transport) (q : Request) (a : Nat), s.hub.request via = some q ∧ Ready.asksIn s q 0x22 .observer = true ∧ q.body.length = 8 ∧ leField q.body 6 2 = 0 ∧ leField q.body 4 2 ≤ blockMax via ∧ Ready.askedBuffer q = some a)
  ∧ (∃ (s : State) (via : Transport) (q : Request) (a : Nat), s.hub.request via = some q ∧ Ready.asksIn s q 0x23 .operator = true ∧ q.body.length = 8 + leField q.body 4 2 ∧ leField q.body 6 2 = 0 ∧ leField q.body 4 2 ≤ blockMax via ∧ leField q.body 0 1 = 0 ∧ Ready.askedBuffer q = some a)
  ∧ (∃ (s : State) (via : Transport) (q : Request), s.hub.request via = some q ∧ Ready.asksIn s q 0x23 .operator = true ∧ q.body.length = 8 + leField q.body 4 2 ∧ leField q.body 6 2 = 0 ∧ leField q.body 4 2 ≤ blockMax via ∧ leField q.body 0 1 ≠ 0) :=
  ⟨⟨posed (plain 32 2 [2#8, 0#8, 63#8, 0#8, 2#8, 0#8, 0#8, 0#8]), .spi, asked (plain 32 2 [2#8, 0#8, 63#8, 0#8, 2#8, 0#8, 0#8, 0#8]), 16, 64, by decide +kernel⟩,
   ⟨posed (signed 33 1 ([3#8, 0#8, 15#8, 0#8, 1#8, 0#8, 0#8, 0#8] ++ List.replicate 16 7#8)), .spi, asked (signed 33 1 ([3#8, 0#8, 15#8, 0#8, 1#8, 0#8, 0#8, 0#8] ++ List.replicate 16 7#8)), by decide +kernel⟩,
   ⟨posed (signed 33 1 ([4#8, 0#8, 31#8, 0#8, 1#8, 0#8, 0#8, 0#8] ++ List.replicate 16 7#8)), .spi, asked (signed 33 1 ([4#8, 0#8, 31#8, 0#8, 1#8, 0#8, 0#8, 0#8] ++ List.replicate 16 7#8)), by decide +kernel⟩,
   ⟨posed (plain 34 2 [1#8, 63#8, 0#8, 0#8, 32#8, 0#8, 0#8, 0#8]), .spi, asked (plain 34 2 [1#8, 63#8, 0#8, 0#8, 32#8, 0#8, 0#8, 0#8]), rxBase 63, by decide +kernel⟩,
   ⟨posed (signed 35 1 ([0#8, 47#8, 4#8, 0#8, 2#8, 0#8, 0#8, 0#8] ++ [7#8, 8#8])), .spi, asked (signed 35 1 ([0#8, 47#8, 4#8, 0#8, 2#8, 0#8, 0#8, 0#8] ++ [7#8, 8#8])), txBase 47 + 4, by decide +kernel⟩,
   ⟨posed (signed 35 1 ([1#8, 47#8, 4#8, 0#8, 2#8, 0#8, 0#8, 0#8] ++ [7#8, 8#8])), .spi, asked (signed 35 1 ([1#8, 47#8, 4#8, 0#8, 2#8, 0#8, 0#8, 0#8] ++ [7#8, 8#8])), by decide +kernel⟩⟩

theorem witness_TeamStatusAndMembership :
  (∃ (s : State) (mac : Nat) (num : Nat) (body : List Byte), Ready.teamFrame s 1 mac num body = true ∧ mac ≠ ownMac ∧ s.hub.numberTaken mac num s.now = false)
  ∧ (∃ (s : State) (mac : Nat) (num : Nat) (body : List Byte), Ready.teamFrame s 1 mac num body = true ∧ mac ≠ ownMac ∧ s.hub.numberTaken mac num s.now = true)
  ∧ (∃ (s : State), s.hub.serving = true ∧ s.hub.inTeam = true ∧ s.hub.run.team.mode ≠ .refused ∧ s.hub.run.team.statusAt ≤ s.now)
  ∧ (∃ (s : State) (mac : Nat) (num : Nat) (body : List Byte), Ready.teamFrame s 2 mac num body = true ∧ mac ≠ ownMac ∧ s.hub.run.team.mode = .pacer ∧ s.hub.numberTaken mac num s.now = false)
  ∧ (∃ (s : State) (mac : Nat) (num : Nat) (body : List Byte), Ready.teamFrame s 2 mac num body = true ∧ mac ≠ ownMac ∧ s.hub.run.team.mode = .pacer ∧ s.hub.numberTaken mac num s.now = true)
  ∧ (∃ (s : State) (mac : Nat) (num : Nat) (body : List Byte), Ready.teamFrame s 3 mac num body = true ∧ mac ≠ ownMac ∧ (s.hub.run.team.mode = .joining ∨ s.hub.run.team.mode = .refused) ∧ leField body 0 1 = s.hub.ownNumber ∧ leField body 1 1 = 0)
  ∧ (∃ (s : State) (mac : Nat) (num : Nat) (body : List Byte), Ready.teamFrame s 3 mac num body = true ∧ mac ≠ ownMac ∧ s.hub.run.team.mode = .joining ∧ leField body 0 1 = s.hub.ownNumber ∧ leField body 1 1 ≠ 0)
  ∧ (∃ (s : State) (mac : Nat) (num : Nat) (body : List Byte), Ready.teamFrame s 4 mac num body = true ∧ mac ≠ ownMac ∧ num ≠ s.hub.ownNumber ∧ (s.hub.member num).mac = mac ∧ leField body 0 1 = 0)
  ∧ (∃ (s : State) (mac : Nat) (num : Nat) (body : List Byte), Ready.teamFrame s 4 mac num body = true ∧ mac ≠ ownMac ∧ num ≠ s.hub.ownNumber ∧ (s.hub.member num).mac = mac ∧ leField body 0 1 ≠ 0)
  ∧ (∃ (s : State) (mac : Nat) (num : Nat) (body : List Byte), Ready.teamFrame s 2 mac num body = true ∧ s.hub.run.team.mode ≠ .pacer)
  ∧ (∃ (s : State) (mac : Nat) (num : Nat) (body : List Byte), Ready.teamFrame s 3 mac num body = true ∧ mac ≠ ownMac ∧ ¬((s.hub.run.team.mode = .joining ∨ s.hub.run.team.mode = .refused) ∧ leField body 0 1 = s.hub.ownNumber))
  ∧ (∃ (s : State) (mac : Nat) (num : Nat) (body : List Byte), Ready.teamFrame s 4 mac num body = true ∧ mac ≠ ownMac ∧ (num = s.hub.ownNumber ∨ (s.hub.member num).mac ≠ mac)) :=
  ⟨(twoMacs fun mac h n => ⟨flagged mac 1 (List.replicate 60 0#8) (onTeam fun t => { t with mode := .member }), mac, 3, (List.replicate 60 0#8), by rcases h with rfl | rfl <;> decide +kernel, n, by rcases h with rfl | rfl <;> decide +kernel⟩),
   (twoMacs fun mac h n => ⟨vals [(0x6000, 3, 3)] (flagged mac 1 (List.replicate 60 0#8) (onTeam fun t => { t with mode := .member })), mac, 3, (List.replicate 60 0#8), by rcases h with rfl | rfl <;> decide +kernel, n, by rcases h with rfl | rfl <;> decide +kernel⟩),
   ⟨onTeam fun t => { t with mode := .pacer, statusAt := clk }, by decide +kernel⟩,
   (twoMacs fun mac h n => ⟨flagged mac 2 (List.replicate 12 0#8) (onTeam fun t => { t with mode := .pacer }), mac, 3, (List.replicate 12 0#8), by rcases h with rfl | rfl <;> decide +kernel, n, by rcases h with rfl | rfl <;> decide +kernel⟩),
   (twoMacs fun mac h n => ⟨vals [(0x6000, 3, 3)] (flagged mac 2 (List.replicate 12 0#8) (onTeam fun t => { t with mode := .pacer })), mac, 3, (List.replicate 12 0#8), by rcases h with rfl | rfl <;> decide +kernel, n, by rcases h with rfl | rfl <;> decide +kernel⟩),
   (twoMacs fun mac h n => ⟨flagged mac 3 (List.replicate 60 0#8) (onTeam fun t => { t with mode := .joining }), mac, 3, (List.replicate 60 0#8), by rcases h with rfl | rfl <;> decide +kernel, n, by rcases h with rfl | rfl <;> decide +kernel⟩),
   (twoMacs fun mac h n => ⟨flagged mac 3 ([0#8, 1#8] ++ List.replicate 58 0#8) (onTeam fun t => { t with mode := .joining }), mac, 3, ([0#8, 1#8] ++ List.replicate 58 0#8), by rcases h with rfl | rfl <;> decide +kernel, n, by rcases h with rfl | rfl <;> decide +kernel⟩),
   (twoMacs fun mac h n => ⟨flagged mac 4 (List.replicate 4 0#8) (onTeam fun t => { t with mode := .pacer, members := editAt t.members 3 fun x => { x with mac := mac } }), mac, 3, (List.replicate 4 0#8), by rcases h with rfl | rfl <;> decide +kernel, n, by rcases h with rfl | rfl <;> decide +kernel⟩),
   (twoMacs fun mac h n => ⟨flagged mac 4 [1#8, 0#8, 0#8, 0#8] (onTeam fun t => { t with mode := .pacer, members := editAt t.members 3 fun x => { x with mac := mac } }), mac, 3, [1#8, 0#8, 0#8, 0#8], by rcases h with rfl | rfl <;> decide +kernel, n, by rcases h with rfl | rfl <;> decide +kernel⟩),
   ⟨flagged 2 2 (List.replicate 12 0#8) (onTeam fun t => { t with mode := .member }), 2, 3, (List.replicate 12 0#8), by decide +kernel⟩,
   (twoMacs fun mac h n => ⟨flagged mac 3 (List.replicate 24 0#8) (onTeam fun t => { t with mode := .member }), mac, 3, (List.replicate 24 0#8), by rcases h with rfl | rfl <;> decide +kernel, n, by rcases h with rfl | rfl <;> decide +kernel⟩),
   (twoMacs fun mac h n => ⟨flagged mac 4 (List.replicate 4 0#8) (onTeam fun t => { t with mode := .member }), mac, 3, (List.replicate 4 0#8), by rcases h with rfl | rfl <;> decide +kernel, n, by rcases h with rfl | rfl <;> decide +kernel⟩)⟩

theorem witness_TeamTimeoutsAndElections :
  (∃ (s : State) (m : Nat), Ready.member s m = true ∧ elapsed (s.hub.member m).heardAt s.hub.memberTimeout s.now = true ∧ (s.hub.member m).mode ≠ .none)
  ∧ (∃ (s : State) (m : Nat), Ready.member s m = true ∧ elapsed (s.hub.member m).heardAt s.hub.memberTimeout s.now = true ∧ (s.hub.member m).mode = .none)
  ∧ (∃ (s : State) (m : Nat), Ready.member s m = true ∧ (s.hub.member m).mode = .away ∧ (s.hub.member m).awayAt + 1000000000 ≤ s.now)
  ∧ (∃ (s : State), Ready.windowOver s = true ∧ Ready.winner s s.hub.run.team.excluded = some s.hub.ownNumber)
  ∧ (∃ (s : State) (m : Nat), Ready.windowOver s = true ∧ Ready.winner s s.hub.run.team.excluded = some m ∧ m ≠ s.hub.ownNumber)
  ∧ (∃ (s : State), Ready.windowOver s = true ∧ Ready.winner s s.hub.run.team.excluded = none)
  ∧ (∃ (s : State), Ready.claimLate s = true ∧ Ready.winner s (s.hub.run.team.winner :: s.hub.run.team.excluded) = some s.hub.ownNumber)
  ∧ (∃ (s : State) (m : Nat), Ready.claimLate s = true ∧ Ready.winner s (s.hub.run.team.winner :: s.hub.run.team.excluded) = some m ∧ m ≠ s.hub.ownNumber)
  ∧ (∃ (s : State), Ready.claimLate s = true ∧ Ready.winner s (s.hub.run.team.winner :: s.hub.run.team.excluded) = none)
  ∧ (∃ (s : State), s.hub.serving = true ∧ s.hub.run.team.mode = .joining ∧ s.hub.run.team.joinAt + s.hub.memberTimeout ≤ s.now)
  ∧ (∃ (s : State), s.hub.serving = true ∧ s.hub.run.team.mode = .refused ∧ s.hub.run.team.joinAt + 1000000000 ≤ s.now) :=
  ⟨⟨onTeam fun t => { t with mode := .member, members := editAt t.members 3 fun x => { x with mode := .member, heardAt := some (clk - 100000000) } }, 3, by decide +kernel⟩,
   ⟨onTeam fun t => { t with mode := .member, members := editAt t.members 3 fun x => { x with heardAt := some (clk - 100000000) } }, 3, by decide +kernel⟩,
   ⟨onTeam fun t => { t with mode := .member, members := editAt t.members 3 fun x => { x with mode := .away, awayAt := clk - 1000000000 } }, 3, by decide +kernel⟩,
   ⟨onTeam fun t => { t with mode := .forming, windowAt := clk - 200000000 }, by decide +kernel⟩,
   ⟨onTeam fun t => { t with mode := .forming, windowAt := clk - 200000000, excluded := [2], members := [{}, {}, known, known, {}, {}, {}, {}] }, 3, by decide +kernel⟩,
   ⟨onTeam fun t => { t with mode := .forming, windowAt := clk - 200000000, excluded := [2, 3], members := [{}, {}, known, known, {}, {}, {}, {}] }, by decide +kernel⟩,
   ⟨onTeam fun t => { t with mode := .forming, claimBy := some clk, winner := 3 }, by decide +kernel⟩,
   ⟨onTeam fun t => { t with mode := .forming, claimBy := some clk, winner := 2, members := [{}, {}, known, known, {}, {}, {}, {}] }, 3, by decide +kernel⟩,
   ⟨onTeam fun t => { t with mode := .forming, claimBy := some clk, winner := 2, excluded := [3], members := [{}, {}, known, known, {}, {}, {}, {}] }, by decide +kernel⟩,
   ⟨onTeam fun t => { t with mode := .joining, joinAt := clk - 100000000 }, by decide +kernel⟩,
   ⟨onTeam fun t => { t with mode := .refused, joinAt := clk - 1000000000 }, by decide +kernel⟩⟩

theorem witness_ProposalsAndIntentsTakeTheirCourse :
  (∃ (s : State) (mac : Nat) (num : Nat) (body : List Byte), Ready.teamFrame s 5 mac num body = true ∧ mac ≠ ownMac ∧ Ready.leads s mac num = true ∧ s.hub.run.team.proposals.length < 32 ∧ s.hub.time.pNs + Ready.halfLap s ≤ (Ready.proposalOf s num body).target)
  ∧ (∃ (s : State) (mac : Nat) (num : Nat) (body : List Byte), Ready.teamFrame s 5 mac num body = true ∧ mac ≠ ownMac ∧ Ready.leads s mac num = true ∧ s.hub.run.team.proposals.length < 32 ∧ (Ready.proposalOf s num body).target < s.hub.time.pNs + Ready.halfLap s)
  ∧ (∃ (s : State) (mac : Nat) (num : Nat) (body : List Byte), Ready.teamFrame s 5 mac num body = true ∧ mac ≠ ownMac ∧ Ready.leads s mac num = true ∧ 32 ≤ s.hub.run.team.proposals.length)
  ∧ (∃ (s : State) (mac : Nat) (num : Nat) (body : List Byte), Ready.teamFrame s 5 mac num body = true ∧ s.hub.run.team.mode ≠ .pacer)
  ∧ (∃ (s : State) (mac : Nat) (num : Nat) (body : List Byte), Ready.teamFrame s 6 mac num body = true ∧ mac ≠ ownMac ∧ Ready.leads s mac num = true)
  ∧ (∃ (s : State) (mac : Nat) (num : Nat) (body : List Byte), Ready.teamFrame s 6 mac num body = true ∧ s.hub.run.team.mode ≠ .pacer)
  ∧ (∃ (s : State) (mac : Nat) (num : Nat) (body : List Byte), Ready.teamFrame s 7 mac num body = true ∧ mac ≠ ownMac ∧ num = s.hub.run.team.pacer ∧ s.hub.run.team.mode ≠ .pacer)
  ∧ (∃ (s : State) (mac : Nat) (num : Nat) (body : List Byte), Ready.teamFrame s 7 mac num body = true ∧ num ≠ s.hub.run.team.pacer ∧ s.hub.run.team.mode ≠ .pacer)
  ∧ (∃ (s : State) (mac : Nat) (num : Nat) (body : List Byte) (i : Intent), Ready.teamFrame s 8 mac num body = true ∧ mac ≠ ownMac ∧ num = s.hub.run.team.pacer ∧ Ready.openIntent s (leField body 0 4) = some i ∧ s.hub.time.pNs + lapUnits i.lapNs s.hub.commitLead ≤ i.target)
  ∧ (∃ (s : State) (mac : Nat) (num : Nat) (body : List Byte) (i : Intent), Ready.teamFrame s 8 mac num body = true ∧ mac ≠ ownMac ∧ Ready.openIntent s (leField body 0 4) = some i ∧ i.target < s.hub.time.pNs + lapUnits i.lapNs s.hub.commitLead)
  ∧ (∃ (s : State) (mac : Nat) (num : Nat) (body : List Byte) (c : Nat), Ready.teamFrame s c mac num body = true ∧ mac ≠ ownMac ∧ num ≠ s.hub.run.team.pacer ∧ Ready.stays (Ready.heardFrom s mac num) = true)
  ∧ (∃ (s : State) (mac : Nat) (num : Nat) (body : List Byte) (i : Intent) (k : Nat) (e : IntentEntry), Ready.teamFrame s 9 mac num body = true ∧ mac ≠ ownMac ∧ num = s.hub.run.team.pacer ∧ 0x0302 ≤ s.teamVersion ∧ Ready.stays (Ready.heardFrom s mac num) = true ∧ Ready.intentsOf s (leField body 0 4) = [i] ∧ i.committed = false ∧ i.cut = false ∧ i.entries[k]? = some e ∧ e.live = true ∧ (leField body 4 2).testBit k = true)
  ∧ (∃ (s : State) (mac : Nat) (num : Nat) (body : List Byte), Ready.teamFrame s 9 mac num body = true ∧ mac ≠ ownMac ∧ s.teamVersion < 0x0302 ∧ Ready.stays (Ready.heardFrom s mac num) = true)
  ∧ (∃ (s : State) (mac : Nat) (num : Nat) (body : List Byte) (n : Nat), Ready.teamFrame s 10 mac num body = true ∧ mac ≠ ownMac ∧ num = s.hub.run.team.pacer ∧ leField body 0 1 = s.hub.ownNumber ∧ ((List.range 48).find? fun n => (s.hub.schedule n).governed && decide ((s.hub.schedule n).proposal = leField body 2 2)) = some n)
  ∧ (∃ (s : State) (p : Proposal), s.hub.serving = true ∧ s.hub.run.team.mode = .pacer ∧ Ready.stays s = true ∧ s.hub.run.team.proposals = [p] ∧ p.target ≤ s.hub.time.pNs + Ready.halfLap s ∧ s.hub.run.team.intents = [] ∧ s.hub.run.team.reserved.getD p.budget 0 + p.current ≤ s.hub.budgetLimit p.budget)
  ∧ (∃ (s : State) (p : Proposal), s.hub.serving = true ∧ s.hub.run.team.mode = .pacer ∧ Ready.stays s = true ∧ s.hub.run.team.proposals = [p] ∧ p.target ≤ s.hub.time.pNs + Ready.halfLap s ∧ s.hub.budgetLimit p.budget < s.hub.run.team.reserved.getD p.budget 0 + p.current ∧ s.hub.run.team.intents = [])
  ∧ (∃ (s : State) (i : Intent), s.hub.serving = true ∧ s.hub.run.team.mode = .pacer ∧ Ready.dueCommits s = [i])
  ∧ (∃ (s : State), s.hub.serving = true ∧ s.hub.inTeam = true ∧ Ready.stays s = true)
  ∧ (∃ (s : State), s.hub.serving = true ∧ s.hub.inTeam = true ∧ Ready.stays s = true)
  ∧ (∃ (s : State) (i : Intent) (e : IntentEntry), s.hub.serving = true ∧ s.hub.inTeam = true ∧ s.hub.shaped = true ∧ s.hub.run.team.intents.filter (Ready.reached s) = [i] ∧ i.entries = [e] ∧ e.live = true ∧ e.member ≠ s.hub.ownNumber ∧ e.member < 8) :=
  ⟨(twoMacs fun mac h n => ⟨flagged mac 5 ([0#8, 0#8, 1#8, 1#8, 0#8, 0#8, 0#8, 0#8, 0x80#8, 0x96#8, 0x98#8, 0#8] ++ List.replicate 8 0#8) (onTeam fun t => { t with mode := .pacer }), mac, 3, ([0#8, 0#8, 1#8, 1#8, 0#8, 0#8, 0#8, 0#8, 0x80#8, 0x96#8, 0x98#8, 0#8] ++ List.replicate 8 0#8), by rcases h with rfl | rfl <;> decide +kernel, n, by rcases h with rfl | rfl <;> decide +kernel⟩),
   (twoMacs fun mac h n => ⟨flagged mac 5 ([0#8, 0#8, 1#8, 1#8, 0#8, 0#8, 0#8, 0#8, 0x7F#8, 0x96#8, 0x98#8, 0#8] ++ List.replicate 8 0#8) (onTeam fun t => { t with mode := .pacer }), mac, 3, ([0#8, 0#8, 1#8, 1#8, 0#8, 0#8, 0#8, 0#8, 0x7F#8, 0x96#8, 0x98#8, 0#8] ++ List.replicate 8 0#8), by rcases h with rfl | rfl <;> decide +kernel, n, by rcases h with rfl | rfl <;> decide +kernel⟩),
   (twoMacs fun mac h n => ⟨flagged mac 5 (List.replicate 20 0#8) (onTeam fun t => { t with mode := .pacer, proposals := List.replicate 32 { member := 3, id := 1, lane := 2, cmd := 1, budget := 1, current := 1, target := 10000000, arrival := 0, deferred := 0 } }), mac, 3, (List.replicate 20 0#8), by rcases h with rfl | rfl <;> decide +kernel, n, by rcases h with rfl | rfl <;> decide +kernel⟩),
   ⟨flagged 2 5 (List.replicate 20 0#8) (onTeam fun t => { t with mode := .member }), 2, 3, (List.replicate 20 0#8), by decide +kernel⟩,
   (twoMacs fun mac h n => ⟨flagged mac 6 (List.replicate 4 0#8) (onTeam fun t => { t with mode := .pacer, proposals := [{ member := 3, id := 0, lane := 2, cmd := 1, budget := 1, current := 1, target := 10000000, arrival := 0, deferred := 0 }] }), mac, 3, (List.replicate 4 0#8), by rcases h with rfl | rfl <;> decide +kernel, n, by rcases h with rfl | rfl <;> decide +kernel⟩),
   ⟨flagged 2 6 (List.replicate 4 0#8) (onTeam fun t => { t with mode := .member }), 2, 3, (List.replicate 4 0#8), by decide +kernel⟩,
   (twoMacs fun mac h n => ⟨flagged mac 7 (List.replicate 16 0#8 ++ [1#8] ++ List.replicate 15 0#8) (onTeam fun t => { t with mode := .member, pacer := 3 }), mac, 3, (List.replicate 16 0#8 ++ [1#8] ++ List.replicate 15 0#8), by rcases h with rfl | rfl <;> decide +kernel, n, by rcases h with rfl | rfl <;> decide +kernel⟩),
   ⟨flagged 2 7 (List.replicate 16 0#8 ++ [1#8] ++ List.replicate 15 0#8) (onTeam fun t => { t with mode := .member, pacer := 4 }), 2, 3, (List.replicate 16 0#8 ++ [1#8] ++ List.replicate 15 0#8), by decide +kernel⟩,
   (twoMacs fun mac h n => ⟨flagged mac 8 (List.replicate 4 0#8) (onTeam fun t => { t with mode := .member, pacer := 3, intents := [{ seq := 0, target := 1250000, lapNs := 20000000, entries := [] }] }), mac, 3, (List.replicate 4 0#8), { seq := 0, target := 1250000, lapNs := 20000000, entries := [] }, by rcases h with rfl | rfl <;> decide +kernel, n, by rcases h with rfl | rfl <;> decide +kernel⟩),
   (twoMacs fun mac h n => ⟨flagged mac 8 (List.replicate 4 0#8) (onTeam fun t => { t with mode := .member, pacer := 3, intents := [{ seq := 0, target := 1249999, lapNs := 20000000, entries := [] }] }), mac, 3, (List.replicate 4 0#8), { seq := 0, target := 1249999, lapNs := 20000000, entries := [] }, by rcases h with rfl | rfl <;> decide +kernel, n, by rcases h with rfl | rfl <;> decide +kernel⟩),
   (twoMacs fun mac h n => ⟨flagged mac 8 (List.replicate 4 0#8) (onTeam fun t => { t with mode := .member, pacer := 4 }), mac, 3, (List.replicate 4 0#8), 8, by rcases h with rfl | rfl <;> decide +kernel, n, by rcases h with rfl | rfl <;> decide +kernel⟩),
   (twoMacs fun mac h n => ⟨flagged mac 9 [0#8, 0#8, 0#8, 0#8, 1#8, 0#8, 0#8, 0#8] (onTeam fun t => { t with mode := .member, pacer := 3, intents := [{ seq := 0, target := 9000000, lapNs := 20000000, entries := [{ member := 5, lane := 1, cmd := 1, budget := 2, proposal := 3, current := 40 }] }] }), mac, 3, [0#8, 0#8, 0#8, 0#8, 1#8, 0#8, 0#8, 0#8], { seq := 0, target := 9000000, lapNs := 20000000, entries := [{ member := 5, lane := 1, cmd := 1, budget := 2, proposal := 3, current := 40 }] }, 0, { member := 5, lane := 1, cmd := 1, budget := 2, proposal := 3, current := 40 }, by rcases h with rfl | rfl <;> decide +kernel, n, by rcases h with rfl | rfl <;> decide +kernel⟩),
   (twoMacs fun mac h n => ⟨{ flagged mac 9 [0#8, 0#8, 0#8, 0#8, 1#8, 0#8, 0#8, 0#8] (onTeam fun t => { t with mode := .member, pacer := 3 }) with rtVersion := 0x0301 }, mac, 3, [0#8, 0#8, 0#8, 0#8, 1#8, 0#8, 0#8, 0#8], by rcases h with rfl | rfl <;> decide +kernel, n, by rcases h with rfl | rfl <;> decide +kernel⟩),
   (twoMacs fun mac h n => ⟨onR (fun r => { r with schedules := editAt r.schedules 4 fun x => { x with governed := true, status := 1 } }) (flagged mac 10 (List.replicate 4 0#8) (onTeam fun t => { t with mode := .member, pacer := 3 })), mac, 3, (List.replicate 4 0#8), 4, by rcases h with rfl | rfl <;> decide +kernel, n, by rcases h with rfl | rfl <;> decide +kernel⟩),
   ⟨vals [(0x6003, 2, 100)] (onTeam fun t => { t with mode := .pacer, proposals := [{ member := 3, id := 1, lane := 2, cmd := 1, budget := 1, current := 100, target := 10000000, arrival := 0, deferred := 0 }] }), { member := 3, id := 1, lane := 2, cmd := 1, budget := 1, current := 100, target := 10000000, arrival := 0, deferred := 0 }, by decide +kernel⟩,
   ⟨vals [(0x6003, 2, 100)] (onTeam fun t => { t with mode := .pacer, proposals := [{ member := 3, id := 1, lane := 2, cmd := 1, budget := 1, current := 101, target := 10000000, arrival := 0, deferred := 6 }] }), { member := 3, id := 1, lane := 2, cmd := 1, budget := 1, current := 101, target := 10000000, arrival := 0, deferred := 6 }, by decide +kernel⟩,
   ⟨onTeam fun t => { t with mode := .pacer, intents := [{ seq := 4, target := 1875000, lapNs := 20000000, entries := [], mine := true }] }, { seq := 4, target := 1875000, lapNs := 20000000, entries := [], mine := true }, by decide +kernel⟩,
   ⟨onTeam fun t => { t with mode := .member, intents := [{ seq := 0, target := 1249999, lapNs := 20000000, entries := [] }] }, by decide +kernel⟩,
   ⟨onTeam fun t => { t with mode := .member, intents := [{ seq := 4, target := 0, lapNs := 20000000, entries := [{ member := 5, lane := 1, cmd := 1, budget := 2, proposal := 3, current := 40 }], committed := true }] }, by decide +kernel⟩,
   ⟨onTeam fun t => { t with mode := .member, intents := [{ seq := 4, target := 0, lapNs := 20000000, entries := [{ member := 5, lane := 1, cmd := 1, budget := 2, proposal := 3, current := 40 }], committed := true }] }, { seq := 4, target := 0, lapNs := 20000000, entries := [{ member := 5, lane := 1, cmd := 1, budget := 2, proposal := 3, current := 40 }], committed := true }, { member := 5, lane := 1, cmd := 1, budget := 2, proposal := 3, current := 40 }, by decide +kernel⟩⟩

/-! ## The machine as a whole -/

/-- The state that an outcome gives. -/
def after (o : Host.Outcome State Fault Refusal) : State := match o with | .next t => t | _ => State.reset

/-- A frame to all that arrives on port 0. -/
def toAll : Instr := .frameIngress 0 (List.replicate 6 0xFF#8 ++ List.replicate 58 1#8) false

/-- A capacitive lane on its ramp, with its channel on. -/
def ramped : State :=
  lit fun c => { c with cfg := { c.cfg with load := { loadType := 5, rampTarget := 500 } }, ramp := { regulating := true, target := 500 } }

theorem witness_StepRunsTheFrontCommandOrPassesOneCycle :
  (∃ (s : State) (c : Instr) (rest : List Instr), s.pending = c :: rest) ∧ (∃ s : State, s.pending = []) :=
  ⟨⟨{ live with pending := [.vsupAbsent 0 0 20000, .spiStatus true] }, .vsupAbsent 0 0 20000, [.spiStatus true], rfl⟩, live, rfl⟩

theorem witness_EveryStepKeepsTheMemoriesCanonical : ∃ s t : State, step s = .next t ∧ Memory.wf s = true :=
  ⟨{ live with pending := [toAll] }, after (step { live with pending := [toAll] }), rfl, by decide +kernel⟩

theorem witness_EveryStepKeepsTheShapeOfTheState :
  (∃ s t : State, step s = .next t ∧ s.formed = true)
  ∧ (∃ s t : State, step s = .next t ∧ s.onCourse = true) :=
  ⟨⟨{ live with pending := [.lapSnapshot 0] }, after (step { live with pending := [.lapSnapshot 0] }), rfl, by decide +kernel⟩,
   ⟨{ ramped with pending := [.rampStallFlag 0] }, after (step { ramped with pending := [.rampStallFlag 0] }), rfl, by decide +kernel⟩⟩

theorem witness_CommandsKeepToTheirPlaces_other : ∃ (c : Instr) (s t : State), exec c s = .next t ∧ chanEvent c = none ∧ bankEvent c = none
    ∧ otherBankCommand c = false ∧ supplyCommand c = false ∧ landCommand c = false ∧ bufferCommand c = false :=
  ⟨.lapSnapshot 0, live, after (exec (.lapSnapshot 0) live), rfl, by decide⟩

theorem witness_ChannelAndBankEventsStayInTheirBank :
  (∃ (c : Instr) (s t : State) (ch : Nat), chanEvent c = some ch ∧ ch < 48 ∧ s.shaped = true ∧ exec c s = .next t)
  ∧ (∃ (c : Instr) (s t : State) (ch n : Nat), chanEvent c = some ch ∧ ch < 48 ∧ s.shaped = true ∧ exec c s = .next t ∧ n < 48 ∧ n ≠ ch
      ∧ (s.bank (ch / 12)).core.onCourse = true)
  ∧ (∃ (c : Instr) (s t : State) (b : Nat), bankEvent c = some b ∧ b < 4 ∧ s.shaped = true ∧ exec c s = .next t) :=
  ⟨⟨.overloadTrip 47, live, after (exec (.overloadTrip 47) live), 47, rfl, by decide, by decide +kernel, rfl⟩,
   ⟨.rampStallFlag 0, ramped, after (exec (.rampStallFlag 0) ramped), 0, 11, rfl, by decide, by decide +kernel, rfl, by decide, by decide, by decide +kernel⟩,
   ⟨.clampDecay 3 [], live, after (exec (.clampDecay 3 []) live), 3, rfl, by decide, by decide +kernel, rfl⟩⟩

theorem witness_CommandsKeepToTheirPlaces_stores :
  (∃ (s t : State) (n : Nat) (frame : List Byte) (e : Bool) (a : Nat), exec (.frameIngress n frame e) s = .next t
    ∧ (a < rxBase s.hub.net.q5.prod ∨ rxBase s.hub.net.q5.prod + (Ready.frameData frame).length ≤ a))
  ∧ (∃ (s t : State) (via : Transport) (a : Nat), exec (.bufferWrite via) s = .next t
    ∧ (∀ q base, s.hub.request via = some q → Ready.askedBuffer q = some base → a < base ∨ base + leField q.body 4 2 ≤ a)) := by
  refine ⟨⟨live, after (exec toAll live), 0, List.replicate 6 0xFF#8 ++ List.replicate 58 1#8, false, 0, rfl, .inl (by decide +kernel)⟩, ?_⟩
  let data := signed 0x23 1 ([0#8, 47#8, 4#8, 0#8, 2#8, 0#8, 0#8, 0#8] ++ [7#8, 8#8])
  refine ⟨posed data, after (exec (.bufferWrite .spi) (posed data)), .spi, txBase 47 + 6, rfl, fun q base h b => .inr ?_⟩
  have e : (posed data).hub.request .spi = some (asked data) := by decide +kernel
  obtain rfl : asked data = q := Option.some.inj (e.symm.trans h)
  have e2 : Ready.askedBuffer (asked data) = some (txBase 47 + 4) := by decide +kernel
  obtain rfl : txBase 47 + 4 = base := Option.some.inj (e2.symm.trans b)
  have e3 : leField (asked data).body 4 2 = 2 := by decide +kernel
  rw [e3]

theorem witness_HubEventsChangeOnlyTheirPart :
  (∃ (c : Instr) (s t : State), exec c s = .next t ∧ lapEvent c = true)
  ∧ (∃ (c : Instr) (s t : State), exec c s = .next t ∧ captureEvent c = true)
  ∧ (∃ (c : Instr) (s t : State), exec c s = .next t ∧ timeOrNetEvent c = true)
  ∧ (∃ (c : Instr) (s t : State), exec c s = .next t ∧ collectorEvent c = true)
  ∧ (∃ (c : Instr) (s t : State), exec c s = .next t ∧ escalationEvent c = true)
  ∧ (∃ (c : Instr) (s t : State), exec c s = .next t ∧ sheddingEvent c = true)
  ∧ (∃ (c : Instr) (s t : State), exec c s = .next t ∧ watchdogEvent c = true)
  ∧ (∃ (c : Instr) (s t : State), exec c s = .next t ∧ spiEvent c = true)
  ∧ (∃ (c : Instr) (s t : State), exec c s = .next t ∧ sessionEvent c = true)
  ∧ (∃ (c : Instr) (s t : State), exec c s = .next t ∧ serviceEvent c = true) :=
  ⟨⟨.votedCrossing, live, after (exec (.votedCrossing) live), rfl, rfl⟩,
   ⟨.captureStart, live, after (exec (.captureStart) live), rfl, rfl⟩,
   ⟨.holdoverLimit, live, after (exec (.holdoverLimit) live), rfl, rfl⟩,
   ⟨.errnPulseEnd, live, after (exec (.errnPulseEnd) live), rfl, rfl⟩,
   ⟨.graceExpiry 1, live, after (exec (.graceExpiry 1) live), rfl, rfl⟩,
   ⟨.shedGroup 0, live, after (exec (.shedGroup 0) live), rfl, rfl⟩,
   ⟨.watchdogLateMiss, live, after (exec (.watchdogLateMiss) live), rfl, rfl⟩,
   ⟨.spiStatus true, live, after (exec (.spiStatus true) live), rfl, rfl⟩,
   ⟨.confirmTimeout 1, live, after (exec (.confirmTimeout 1) live), rfl, rfl⟩,
   ⟨.q5Classify, live, after (exec (.q5Classify) live), rfl, rfl⟩⟩

/-! ## Well-formed commands: a term that each check refuses -/

def noReadings : Readings := { current := [], output := [], sensors := [], supply := 0 }

theorem test_wf_bank : Instr.wf (.downlinkFrameSend 4 { vcore := 0, vio := 0, vphy := 0, temp := 0 }) = false := by decide
theorem test_wf_readings : Instr.wf (.bankUplinkSend 0 noReadings) = false := by decide
theorem test_wf_uplink_bank : Instr.wf (.bankUplinkSend 4 { noReadings with current := List.replicate 12 none, output := List.replicate 12 0, sensors := List.replicate 14 0 }) = false := by decide
theorem test_wf_mask : Instr.wf (.eventAcknowledge 0 (2 ^ 32)) = false := by decide
theorem test_wf_mask_session : Instr.wf (.eventAcknowledge 16 0) = false := by decide
theorem test_wf_step : Instr.wf (.vcoreAbsent 0 0 8 false) = false := by decide
theorem test_wf_straps : Instr.wf (.hubResetRelease [1, 2] true true 0) = false := by decide
theorem test_wf_retry_straps : Instr.wf (.startRetry [1, 2] true true 0) = false := by decide
theorem test_wf_clamp_bank : Instr.wf (.clampDecay 4 []) = false := by decide
theorem test_wf_clamp_channels : Instr.wf (.clampDecay 0 (List.replicate 13 [])) = false := by decide
theorem test_wf_session : Instr.wf (.mapCommit 16) = false := by decide
theorem test_wf_reset_port : Instr.wf (.resetRequestPortReset 0 2) = false := by decide
theorem test_wf_pin : Instr.wf (.inEdgeAccept 16 true 0) = false := by decide
theorem test_wf_channel : Instr.wf (.overloadTrip 48) = false := by decide
theorem test_wf_lane : Instr.wf (.laneCommandOn 0 48) = false := by decide
theorem test_wf_slot : Instr.wf (.profileSlotWrite 0 16 1 []) = false := by decide
theorem test_wf_slot_sub : Instr.wf (.profileSlotWrite 0 0 256 []) = false := by decide
theorem test_wf_currents : Instr.wf (.wireModelUpdate 0 []) = false := by decide
theorem test_wf_sensor : Instr.wf (.sensorBroken 0 14 .outOfRange 0) = false := by decide
theorem test_wf_service_bank : Instr.wf (.bankIsolate 0 4) = false := by decide
theorem test_wf_zero_cross : Instr.wf (.zxEdgeAccept 2 true 0) = false := by decide
theorem test_wf_resolve : Instr.wf (.scheduleResolve 48) = false := by decide
theorem test_wf_apply : Instr.wf (.scheduleApply 0 48) = false := by decide
theorem test_wf_sync : Instr.wf (.syncWindowEnd 0 [1] []) = false := by decide
theorem test_wf_source_s : Instr.wf (.faultErrorAcceptS 64 1 0 0) = false := by decide
theorem test_wf_kind : Instr.wf (.faultErrorAcceptS 0 16 0 0) = false := by decide
theorem test_wf_address : Instr.wf (.faultErrorAcceptS 0 1 0 256) = false := by decide
theorem test_wf_source_d : Instr.wf (.faultErrorAcceptD 63 1 0 0) = false := by decide
theorem test_wf_source_d_top : Instr.wf (.faultErrorAcceptD 96 1 0 0) = false := by decide
theorem test_wf_source : Instr.wf (.graceExpiry 96) = false := by decide
theorem test_wf_clear : Instr.wf (.clearSource 0 96) = false := by decide
theorem test_wf_ceiling : Instr.wf (.escalationCeilingWrite 0 64 0) = false := by decide
theorem test_wf_seconds : Instr.wf (.timeSet 0 (2 ^ 64) 0) = false := by decide
theorem test_wf_nanos : Instr.wf (.timeSet 0 0 (2 ^ 32)) = false := by decide
theorem test_wf_adjust_low : Instr.wf (.stepAdjust 0 (-(2 ^ 31) - 1)) = false := by decide
theorem test_wf_adjust_high : Instr.wf (.stepAdjust 0 (2 ^ 31)) = false := by decide
theorem test_wf_port : Instr.wf (.transmitOpportunity 2 0) = false := by decide
theorem test_wf_pps : Instr.wf (.ppsEdgeCapture (2 ^ 32)) = false := by decide
theorem test_wf_ring : Instr.wf (.queueProducerWrite 0 7 0) = false := by decide
theorem test_wf_mac : Instr.wf (.learnEntryAgeOut (2 ^ 48)) = false := by decide
theorem test_wf_plca : Instr.wf (.plcaSettingWrite 0 0 256 0) = false := by decide
theorem test_wf_own_session : Instr.wf (.sessionReclaim 16) = false := by decide
theorem test_wf_closed_session : Instr.wf (.sessionCloseObject 0 16) = false := by decide
theorem test_wf_key : Instr.wf (.keyWrite 0 .operator []) = false := by decide
theorem test_wf_transport : Instr.wf (.transportConfigWrite 0 256 []) = false := by decide
theorem test_wf_member : Instr.wf (.memberTimeout 8) = false := by decide
theorem test_wf_retired : Instr.wf (.channelRetireWrite 0 48 1) = false := by decide
theorem test_wf_index : Instr.wf (.registerWrite 0 (2 ^ 16) 0 []) = false := by decide
theorem test_wf_subindex : Instr.wf (.registerWrite 0 0 256 []) = false := by decide

/-! ## Decoding: the table gives its rows no bits, so no word spells a command -/

theorem test_no_word : decodeTableWord 16 0xFFFF = none := rfl
theorem test_no_fetch : live.withFetchWord 16 0xFFFF = live := rfl

/-! ## Single steps and checksums -/

/-- R238: from 0x0001 the shift register, with the feedback 0xB400, goes to 0xB400. -/
theorem test_token : nextToken 0x0001 = 0xB400 := by decide
/-- The check value of CRC-32C over the digits 1 to 9, from the polynomial alone. -/
theorem test_crc32c : crc32c [0x31#8, 0x32#8, 0x33#8, 0x34#8, 0x35#8, 0x36#8, 0x37#8, 0x38#8, 0x39#8] = 0xE3069283 := by decide +kernel
/-- The first bytes of HMAC-SHA-256 in the first case of RFC 4231. -/
theorem test_hmac : (hmac (List.replicate 20 0x0B#8) [0x48#8, 0x69#8, 0x20#8, 0x54#8, 0x68#8, 0x65#8, 0x72#8, 0x65#8]).take 8
    = [0xB0#8, 0x34#8, 0x4C#8, 0x61#8, 0xD8#8, 0xDB#8, 0x38#8, 0x53#8] := by decide +kernel
/-- R172: before the first retry the channel waits one base back-off of 50 ms. -/
theorem test_trip_back_off :
    ((after (exec (.overloadTrip 0) (lit fun c => { c with trip := { c.trip with overload := true, olTimer := { acc := 10000000 } } }))).chan 0).trip.backoff
      = some (clk + 50000000) := by decide +kernel
/-- R165: at 25 % of the supply the limit (60 A for class H) is an overload, below it a short circuit. -/
theorem test_short_below_quarter : ((after (exec (.shortCircuitLimitEnter 0 5999 0 60000) (lit id))).chan 0).trip.shortCct = true := by decide +kernel
theorem test_overload_at_quarter : ((after (exec (.overloadLimitingEnter 0 6000 0 60000) (lit id))).chan 0).trip.overload = true := by decide +kernel
/-- R210: a bank at its trip level turns every channel off. -/
theorem test_bank_trip : ((after (exec (.bankThermalTrip 0 1700 0) (lit id))).chan 0).io.on = false := by decide +kernel
/-- R304: a clear of all leaves the source whose cause persists, and counts it. -/
theorem test_clear_all_leaves : (after (exec (.clearAll 0) (onCol fun c => { c with status := 6, cause := 4 }))).hub.collector.status = 4 := by decide +kernel
theorem test_clear_all_counts : (after (exec (.clearAll 0) (onCol fun c => { c with status := 6, cause := 4 }))).hub.collector.standing = 1 := by decide +kernel
/-- R391, step 8: an observer writes nothing. -/
theorem test_observer_writes_nothing : (after (exec (.watchdogArm 2 1) live)).hub.run.dog.mode = .disarmed := by decide +kernel
/-- R317: the time set object loads domain P. -/
theorem test_time_set : (after (exec (.timeSet 0 5 6) live)).hub.time.seconds = 5 := by decide +kernel
/-- R367: the consumer index of Q1 wraps after 32 entries. -/
theorem test_q1_wraps : (after (exec (.spiReadQ1 false 64) (onN fun n => { n with q1 := { n.q1 with cons := 31, entries := [{}] } }))).hub.net.q1.cons = 0 := by
  decide +kernel
/-- An empty queue: the block passes one cycle of 40 ns (log 1). -/
theorem test_idle : (after (step live)).now = clk + 40 := by decide +kernel

end Sys2Proof.Tests
end

section
/-! What every event of a bank keeps: the lengths of its lists, and that its channels are on course. -/

namespace Sys2Proof.Machine

/-! ## Lists -/

theorem all_editAt {α : Type} {P : α → Bool} (l : List α) (p : Nat) (f : α → α) (hl : l.all P = true)
    (hf : ∀ x, l[p]? = some x → P x = true → P (f x) = true) : (editAt l p f).all P = true := by
  induction l generalizing p with
  | nil => rfl
  | cons a l ih =>
    simp only [List.all_cons, Bool.and_eq_true] at hl
    cases p with
    | zero => simpa [editAt, hl.2] using hf a rfl hl.1
    | succ p => simpa [editAt, hl.1] using ih p hl.2 fun x hx => hf x hx

theorem all_mapFrom {α β : Type} {P : α → Bool} {Q : β → Bool} (f : Nat → α → β) (i : Nat) (l : List α) (hl : l.all P = true)
    (hf : ∀ j x, P x = true → Q (f j x) = true) : (mapFrom f i l).all Q = true := by
  induction l generalizing i with
  | nil => rfl
  | cons a l ih =>
    simp only [List.all_cons, Bool.and_eq_true] at hl
    simp [mapFrom, hf i a hl.1, ih (i + 1) hl.2]

theorem all_map {α β : Type} {P : α → Bool} {Q : β → Bool} (f : α → β) (l : List α) (hl : l.all P = true)
    (hf : ∀ x, P x = true → Q (f x) = true) : (l.map f).all Q = true := by
  simp only [List.all_map, List.all_eq_true] at hl ⊢
  exact fun x hx => hf x (hl x hx)

/-! ## A channel at rest -/

/-- Whether a channel is on and whether it has a ramp, in regulation or complete. -/
def Chan.motion (x : Chan) : Bool × Bool × Bool := (x.io.on, x.ramp.regulating, x.ramp.complete)

/-- A channel that is off has no ramp (R151). -/
def Chan.rests (x : Chan) : Bool := x.io.on || !(x.ramp.regulating || x.ramp.complete)

/-- Every channel of a bank that is off has no ramp. -/
def BankCore.rests (c : BankCore) : Bool := c.chans.all Chan.rests

theorem Chan.rests_of_motion {x y : Chan} (h : y.motion = x.motion) : y.rests = x.rests := by
  simp only [Chan.motion, Prod.mk.injEq] at h
  obtain ⟨h1, h2, h3⟩ := h
  unfold Chan.rests
  rw [h1, h2, h3]

@[simp] theorem Chan.rebaseRamp_motion (x : Chan) (v now : Nat) : (x.rebaseRamp v now).motion = x.motion := rfl
@[simp] theorem Chan.dropWindow_motion (x : Chan) (now : Nat) : (x.dropWindow now).motion = x.motion := rfl
@[simp] theorem Chan.lapseCounts_motion (x : Chan) (now : Nat) : (x.lapseCounts now).motion = x.motion := by
  unfold Chan.lapseCounts Chan.motion; rfl
@[simp] theorem Chan.setProt_motion (x : Chan) (v : ProtCfg) : (x.setProt v).motion = x.motion := rfl
@[simp] theorem Chan.setIo_motion (x : Chan) (v : IoCfg) (now : Nat) : (x.setIo v now).motion = x.motion := rfl
@[simp] theorem Chan.unlock_motion (x : Chan) : x.unlock.motion = x.motion := rfl
@[simp] theorem Chan.snapshot_motion (x : Chan) : x.snapshot.motion = x.motion := rfl
@[simp] theorem Chan.addClamp_motion (x : Chan) (l : List (Nat × Nat)) : (x.addClamp l).motion = x.motion := rfl
@[simp] theorem Chan.countClamp_motion (x : Chan) : x.countClamp.motion = x.motion := rfl
@[simp] theorem Chan.lockOnBudget_motion (x : Chan) : x.lockOnBudget.motion = x.motion := rfl
@[simp] theorem Chan.reading_motion (x : Chan) (p : Nat) (m : Bool) (c : Option Nat) (f : Bool) (o : Nat) : (x.reading p m c f o).motion = x.motion := rfl
@[simp] theorem Chan.judgeAbove_motion (x : Chan) (v now : Nat) : (x.judgeAbove v now).motion = x.motion := rfl
@[simp] theorem Chan.shut_motion (x : Chan) (now : Nat) : (x.shut now).motion = x.motion := rfl
@[simp] theorem Chan.acceptOffset_motion (x : Chan) (o : Int) (now : Nat) : (x.acceptOffset o now).motion = x.motion := rfl

@[simp] theorem Chan.expireHold_motion (x : Chan) (now : Nat) : (x.expireHold now).motion = x.motion := by
  unfold Chan.expireHold; split <;> rfl

@[simp] theorem Chan.beginHold_motion (x : Chan) (v now : Nat) : (x.beginHold v now).motion = x.motion := by
  unfold Chan.beginHold
  split
  · rw [Chan.expireHold_motion]; rfl
  · rfl

@[simp] theorem Chan.lapseTimers_motion (x : Chan) (now : Nat) : (x.lapseTimers now).motion = x.motion := by
  unfold Chan.lapseTimers; dsimp only; repeat' split
  all_goals rfl

@[simp] theorem Chan.setLoad_motion (x : Chan) (v : LoadCfg) (now : Nat) : (x.setLoad v now).motion = x.motion := by
  unfold Chan.setLoad
  simp only [Chan.expireHold_motion]
  split <;> rfl

@[simp] theorem Chan.rewrite_motion (x : Chan) (v : ChanCfg) (now : Nat) : (x.rewrite v now).motion = x.motion :=
  show (((x.setIo v.io now).setLoad v.load now).setProt v.prot).motion = x.motion by simp

@[simp] theorem Chan.clampSamples_motion (x : Chan) (l : List (Nat × Nat)) : (x.clampSamples l).motion = x.motion := by
  unfold Chan.clampSamples; split <;> rfl

@[simp] theorem Chan.compare_motion (x : Chan) (t : Int) (now : Nat) : (x.compare t now).motion = x.motion := by
  unfold Chan.compare; dsimp only; repeat' split
  all_goals rfl

@[simp] theorem Chan.wireStep_motion (x : Chan) (p m : Nat) : (x.wireStep p m).motion = x.motion := by
  unfold Chan.wireStep; dsimp only; split <;> rfl

@[simp] theorem Chan.limit_motion (x : Chan) (short : Bool) (now : Nat) : (x.limit short now).motion = x.motion := by
  rw [← x.lapseTimers_motion now]
  unfold Chan.limit Chan.motion
  dsimp only
  split <;> rfl

theorem BankCore.turnOff_rests (b : BankCore) (now p rate : Nat) (x : Chan) : (b.turnOff now p rate x).rests = true := rfl

/-- A trip leaves an idle channel without a ramp, and turns any other off. -/
theorem BankCore.trip_rests (b : BankCore) (now p : Nat) (k : TripKind) (x : Chan) (h : x.rests = true) : (b.trip now p k x).rests = true := by
  have hm : (b.trip now p k x).rests = (if (x.lapseCounts now).io.on then
      b.turnOff now p (if k = .detection then 0 else slewRate (classAt p) 3) (x.lapseCounts now) else x.lapseCounts now).rests := rfl
  rw [hm]
  split
  · rfl
  · rw [Chan.rests_of_motion (x.lapseCounts_motion now), h]

/-! ## Settling puts every channel on course -/

/-- What `beginHold` leaves of the ramp: its target and its source. -/
theorem Chan.beginHold_aim (x : Chan) (v now : Nat) :
    (x.beginHold v now).ramp.target = x.ramp.target ∧ (x.beginHold v now).ramp.followsLane = x.ramp.followsLane := by
  unfold Chan.beginHold Chan.expireHold
  repeat' split
  all_goals exact ⟨rfl, rfl⟩

/-- A ramp takes a new target; a channel without one is left as it is. -/
theorem Chan.retarget_aim (x : Chan) (target v now : Nat) :
    (x.retarget target v now).ramp.followsLane = x.ramp.followsLane
    ∧ ((x.ramp.regulating || x.ramp.complete) = true → (x.retarget target v now).ramp.target = target) := by
  unfold Chan.retarget
  split
  case isTrue h =>
    refine ⟨rfl, fun hr => ?_⟩
    simp only [hr, Bool.not_true, Bool.or_false, decide_eq_true_eq] at h
    exact h.symm
  case isFalse =>
    dsimp only
    rw [(Chan.beginHold_aim _ _ _).1, (Chan.beginHold_aim _ _ _).2]
    dsimp only
    repeat' split
    all_goals exact ⟨rfl, fun _ => rfl⟩

/-- Without a ramp, or on a lane that is not capacitive, an idle or running channel is on course. -/
theorem BankCore.onCourseAt_iff (b : BankCore) (x : Chan) : b.onCourseAt x = true ↔
    x.rests = true ∧ (x.cfg.load.loadType = 5 → (x.ramp.regulating || x.ramp.complete) = true →
      x.ramp.target = if b.normalRules x || x.ramp.followsLane then x.cfg.load.rampTarget else 1000) := by
  unfold BankCore.onCourseAt Chan.rests
  cases x.ramp.regulating || x.ramp.complete <;> by_cases h : x.cfg.load.loadType = 5 <;> simp [h]

theorem BankCore.normalRules_congr (b : BankCore) {x y : Chan} (hc : y.cfg = x.cfg) (h1 : y.io.c = x.io.c) (h2 : y.io.w = x.io.w) (h3 : y.io.x = x.io.x) :
    b.normalRules y = b.normalRules x := by
  unfold BankCore.normalRules Chan.inFailSafe; rw [hc, h1, h2, h3]

theorem Chan.retarget_idle (x : Chan) (target v now : Nat) (h : (x.ramp.regulating || x.ramp.complete) = false) : x.retarget target v now = x :=
  Chan.retarget_same x target v now (.inr h)

/-- The target rule (R147) puts a channel that is on on course. -/
theorem BankCore.rampRule_puts (b : BankCore) (now : Nat) (x : Chan) (on : x.io.on = true) : b.onCourseAt (b.rampRule now x) = true := by
  have ha := b.rampRule_apart now x
  simp only [Chan.apart, Prod.mk.injEq] at ha
  obtain ⟨hcfg, hio, -⟩ := ha
  rw [BankCore.onCourseAt_iff, b.normalRules_congr hcfg (by rw [hio]) (by rw [hio]) (by rw [hio]), hcfg]
  refine ⟨by unfold Chan.rests; rw [hio, on]; rfl, fun h5 hr => ?_⟩
  unfold BankCore.rampRule at hr ⊢
  simp only [on, h5, decide_true, Bool.and_self, if_true] at hr ⊢
  generalize hy : (if b.normalRules x then { x with ramp := { x.ramp with followsLane := true } } else x : Chan) = y at hr ⊢
  have hl : y.ramp.followsLane = (b.normalRules x || x.ramp.followsLane) := by
    subst hy; cases b.normalRules x <;> rfl
  have hyc : y.cfg = x.cfg := by subst hy; split <;> rfl
  obtain ⟨hf, ht⟩ := Chan.retarget_aim y (if y.ramp.followsLane then y.cfg.load.rampTarget else 1000) b.supply now
  cases hi : y.ramp.regulating || y.ramp.complete with
  | true => rw [ht hi, hf, hl, hyc]; cases b.normalRules x <;> rfl
  | false => rw [Chan.retarget_idle _ _ _ _ hi, hi] at hr; exact absurd hr Bool.false_ne_true

/-- A turn-on (R146 to R148) puts a channel on course. -/
theorem BankCore.turnOn_puts (b : BankCore) (now p : Nat) (x : Chan) : b.onCourseAt (b.turnOn now p x) = true := by
  obtain ⟨w1, w2, -, w4, w5, -⟩ := x.windowAtTurnOn_apart b.version now
  have hk := congrArg (fun k => (k.1, k.2.2.2.2.1, k.2.2.2.2.2.1, k.2.2.2.2.2.2.1)) (b.turnOn_kept now p x)
  simp only [Chan.kept, Prod.mk.injEq] at hk
  obtain ⟨hcfg, hc, hw, hx⟩ := hk
  rw [BankCore.onCourseAt_iff, b.normalRules_congr hcfg hc hw hx, hcfg]
  refine ⟨by unfold Chan.rests; rw [(b.turnOn_of now p x).1]; rfl, fun h5 _ => ?_⟩
  have hn : b.normalRules (x.windowAtTurnOn b.version now) = b.normalRules x :=
    b.normalRules_congr w1 (by rw [w2]) (by rw [w2]) (by rw [w2])
  unfold BankCore.turnOn
  dsimp only
  rw [(Chan.beginHold_aim _ _ _).1, (Chan.beginHold_aim _ _ _).2]
  dsimp only
  rw [w1, if_pos h5, hn]
  cases hb : b.normalRules x with
  | false =>
    simp only [Bool.false_eq_true, if_false, Bool.false_or]
    split <;> rfl
  | true =>
    simp only [if_true, Bool.true_or]
    split
    · rename_i h
      simp only [Bool.and_eq_true, decide_eq_true_eq] at h
      exact h.1.symm
    · rfl

theorem BankCore.turnOff_puts (b : BankCore) (now p rate : Nat) (x : Chan) : b.onCourseAt (b.turnOff now p rate x) = true :=
  (b.onCourseAt_iff _).2 ⟨rfl, fun _ h => absurd h Bool.false_ne_true⟩

/-- A channel that is off is on course if it has no ramp. -/
theorem BankCore.onCourseAt_off (b : BankCore) (x : Chan) (off : x.io.on = false) (h : x.rests = true) : b.onCourseAt x = true := by
  unfold Chan.rests at h
  rw [off, Bool.false_or, Bool.not_eq_true'] at h
  exact (b.onCourseAt_iff x).2 ⟨by unfold Chan.rests; rw [h, Bool.not_false, Bool.or_true], fun _ h' => absurd (h.symm.trans h') Bool.false_ne_true⟩

/-- What is driven is on course, if an idle channel had no ramp. -/
theorem BankCore.drive_puts (b : BankCore) (now p : Nat) (x : Chan) (h : x.rests = true) : b.onCourseAt (b.drive now p x) = true := by
  have hn : (b.noted now x).rests = true := (Chan.rests_of_motion rfl).trans h
  rw [BankCore.drive_eq]
  cases on : x.io.on with
  | true =>
    simp only [if_true]
    split
    · exact b.rampRule_puts now _ on
    · exact b.turnOff_puts _ _ _ _
  | false =>
    simp only [Bool.false_eq_true, if_false]
    repeat' split
    · exact b.onCourseAt_off _ on ((Chan.rests_of_motion rfl).trans hn)
    · exact b.turnOn_puts _ _ _
    · exact b.onCourseAt_off _ on hn

/-- Neither the freeze nor the pace of a channel takes it off its course. -/
theorem BankCore.finish_puts (b : BankCore) (now p : Nat) (x : Chan) (h : x.rests = true) : b.onCourseAt (b.finish now p x) = true := by
  have hs : b.onCourseAt (b.settleChan now p x) = true := by
    unfold BankCore.settleChan BankCore.endHold
    split
    · exact b.turnOff_puts _ _ _ _
    · exact b.drive_puts now p x h
  have hc : (b.finish now p x).cfg = (b.settleChan now p x).cfg := by
    rw [BankCore.finish_cfg]
    exact (congrArg (fun k => k.1) (b.settleChan_kept now p x)).symm
  obtain ⟨hio, -, -, -, -, -, -, m, hr⟩ := b.finish_of now p x
  unfold BankCore.onCourseAt at hs ⊢
  rw [b.normalRules_congr hc (by rw [hio]) (by rw [hio]) (by rw [hio]), hc, hio, hr]
  exact hs

/-- What the shape of a bank counts. -/
def BankCore.sizes (c : BankCore) : Nat × Nat × Nat := (c.chans.length, c.sensors.length, c.inputs.length)

theorem BankCore.shaped_congr {c d : BankCore} (h : d.sizes = c.sizes) : d.shaped = c.shaped := by
  simp only [BankCore.sizes, Prod.mk.injEq] at h
  unfold BankCore.shaped
  rw [h.1, h.2.1, h.2.2]

@[simp] theorem BankCore.settle_sizes (before b : BankCore) (now : Nat) : (BankCore.settle before b now).sizes = b.sizes := by
  unfold BankCore.settle BankCore.sizes
  dsimp only
  split <;> simp

/-- A bank with no cause of glide (R234). -/
def BankCore.noGlide (b : BankCore) : BankCore := { b with limpOwn := .deasserted, limpShared := .deasserted, escGlide := false }

@[simp] theorem BankCore.noGlide_glideOn (b : BankCore) : b.noGlide.glideOn = false := rfl

theorem BankCore.noGlide_stays (b c : BankCore) : b.noGlide.leavesToSafe c = false := by
  unfold BankCore.leavesToSafe
  rw [BankCore.noGlide_glideOn, Bool.and_false, Bool.false_and, Bool.false_and]

/-- Every channel of a bank in fail-safe by the exit from glide (R236). -/
def BankCore.leftGlide (b : BankCore) : BankCore :=
  { b with lastCause := .glideExit, chans := b.chans.map fun ch => { ch with io := { ch.io with c := true } } }

/-- A bank that leaves glide to fail-safe settles as one in fail-safe already (R236). -/
theorem BankCore.settle_leave (before b : BankCore) (now : Nat) (h : before.leavesToSafe b = true) :
    BankCore.settle before b now = BankCore.settle before.noGlide b.leftGlide now := by
  unfold BankCore.leavesToSafe at h
  unfold BankCore.settle
  simp only [h, BankCore.noGlide_glideOn, Bool.and_false, Bool.false_and, Bool.false_eq_true, if_false, if_true]
  rfl

theorem BankCore.onCourse_of_finish (b c : BankCore) (now : Nat) (hc : c.chans = mapFrom (fun p ch => b.finish now p ch) 0 b.chans)
    (hn : c.normalRules = b.normalRules) (h : b.rests = true) : c.onCourse = true := by
  have he : c.onCourseAt = b.onCourseAt := by
    funext x; unfold BankCore.onCourseAt; rw [hn]
  unfold BankCore.onCourse
  rw [hc, he]
  exact all_mapFrom _ _ _ h fun p x hx => b.finish_puts now p x hx

/-- A settled bank is on course, if its idle channels had no ramp. -/
theorem BankCore.settle_onCourse (before b : BankCore) (now : Nat) (h : b.rests = true) : (BankCore.settle before b now).onCourse = true := by
  have stay : ∀ before b : BankCore, before.leavesToSafe b = false → b.rests = true → (BankCore.settle before b now).onCourse = true := by
    intro before b hl h
    rw [BankCore.settle_stay _ _ _ hl]
    exact b.onCourse_of_finish _ now rfl (funext fun _ => rfl) h
  cases hl : before.leavesToSafe b with
  | false => exact stay _ _ hl h
  | true =>
    rw [BankCore.settle_leave _ _ _ hl]
    exact stay _ _ (before.noGlide_stays _) (all_map _ _ h fun x hx => (Chan.rests_of_motion rfl).trans hx)

theorem BankCore.rests_of_onCourse {b : BankCore} (h : b.onCourse = true) : b.rests = true := by
  unfold BankCore.onCourse at h
  unfold BankCore.rests
  rw [List.all_eq_true] at h ⊢
  exact fun x hx => ((b.onCourseAt_iff x).1 (h x hx)).1

/-! ## Events of a bank -/

/-- What every event of a bank keeps: its shape, and that its channels are on course. -/
def Bank.Follows (b d : Bank) : Prop := (b.core.shaped = true → d.core.shaped = true) ∧ (b.core.onCourse = true → d.core.onCourse = true)

theorem Bank.Follows.refl (b : Bank) : b.Follows b := ⟨id, id⟩
theorem Bank.Follows.trans {b c d : Bank} (h : b.Follows c) (g : c.Follows d) : b.Follows d := ⟨g.1 ∘ h.1, g.2 ∘ h.2⟩
theorem Bank.Follows.of_core {b d : Bank} (h : d.core = b.core) : b.Follows d := by unfold Bank.Follows; rw [h]; exact ⟨id, id⟩

/-- An event that happens only under a condition, and leaves the bank as it is otherwise. -/
theorem Bank.Follows.guard {b d : Bank} {p : Prop} [Decidable p] (h : b.Follows d) : b.Follows (if p then d else b) := by
  split
  · exact h
  · exact .refl b

theorem Bank.foldl_follows {α : Type} (f : Bank → α → Bank) (l : List α) (b : Bank) (h : ∀ b a, Bank.Follows b (f b a)) : b.Follows (l.foldl f b) := by
  induction l generalizing b with
  | nil => exact .refl b
  | cons a l ih => exact (h b a).trans (ih _)

theorem Bank.foldl_follows_of {α : Type} {f : Bank → α → Bank} {b d : Bank} (h : b.Follows d) (l : List α) (hf : ∀ b a, Bank.Follows b (f b a)) :
    b.Follows (l.foldl f d) := h.trans (Bank.foldl_follows f l d hf)

/-- A change of a core that keeps the lengths of its lists and gives no idle channel a ramp. -/
def BankCore.Tame (c d : BankCore) : Prop := d.sizes = c.sizes ∧ (c.rests = true → d.rests = true)

theorem BankCore.Tame.refl (c : BankCore) : c.Tame c := ⟨rfl, id⟩
theorem BankCore.Tame.trans {c d e : BankCore} (h : c.Tame d) (g : d.Tame e) : c.Tame e := ⟨g.1.trans h.1, g.2 ∘ h.2⟩

/-- A change beside the channels, the sensors and the inputs is tame. -/
theorem BankCore.Tame.beside {c d : BankCore} (hc : d.chans = c.chans) (hs : d.sensors = c.sensors) (hi : d.inputs = c.inputs) : c.Tame d := by
  unfold BankCore.Tame BankCore.sizes BankCore.rests; rw [hc, hs, hi]; exact ⟨rfl, id⟩

theorem BankCore.editChan_tame (c : BankCore) (p : Nat) (f : Chan → Chan) (h : (c.chan p).rests = true → (f (c.chan p)).rests = true) :
    c.Tame (c.editChan p f) := by
  refine ⟨by simp [BankCore.sizes, BankCore.editChan], fun hr => all_editAt _ _ _ hr fun x hx hxr => ?_⟩
  have : c.chan p = x := by unfold BankCore.chan; rw [List.getD_eq_getElem?_getD, hx]; rfl
  exact this ▸ h (this.symm ▸ hxr)

theorem BankCore.mapChans_tame (c : BankCore) (f : Nat → Chan → Chan) (h : ∀ p x, x.rests = true → (f p x).rests = true) :
    c.Tame { c with chans := mapFrom f 0 c.chans } :=
  ⟨by simp [BankCore.sizes], fun hr => all_mapFrom _ _ _ hr h⟩

theorem BankCore.rebase_tame (c : BankCore) (now : Nat) : c.Tame (c.rebase now) :=
  ⟨by simp [BankCore.sizes, BankCore.rebase], fun hr => all_map _ _ hr fun _ hx => (Chan.rests_of_motion rfl).trans hx⟩

theorem BankCore.settle_tame (before c : BankCore) (now : Nat) : c.Tame (BankCore.settle before c now) :=
  ⟨by simp, fun hr => BankCore.rests_of_onCourse (BankCore.settle_onCourse _ _ _ hr)⟩

theorem BankCore.noteCool_tame (c : BankCore) (now : Nat) : c.Tame (c.noteCool now) := .beside rfl rfl rfl

theorem BankCore.editSensor_tame (c : BankCore) (i : Nat) (f : Sensor → Sensor) : c.Tame { c with sensors := editAt c.sensors i f } :=
  ⟨by simp [BankCore.sizes], id⟩

theorem BankCore.read_tame (c : BankCore) (i : Nat) (r : Int) (now : Nat) : c.Tame (c.read i r now) :=
  (c.editSensor_tame i _).trans (BankCore.noteCool_tame _ now)

/-- An event whose own change is tame. -/
theorem Bank.act_follows (b : Bank) (n now : Nat) (f : BankCore → BankCore) (h : (b.core.rebase now).Tame (f (b.core.rebase now))) :
    b.Follows (b.act n now f) := by
  have trips : ∀ (l : List Nat) (c : BankCore), c.Tame (l.foldl (fun c p => c.editChan p fun ch => c.trip now p .overload ch) c) := by
    intro l
    induction l with
    | nil => exact fun c => .refl c
    | cons p l ih => exact fun c => (c.editChan_tame p _ (c.trip_rests now p _ _)).trans (ih _)
  have hs := ((b.core.rebase_tame now).trans h)
  unfold Bank.Follows
  rw [Bank.act_core_all]
  split
  · exact ⟨fun hb => (BankCore.shaped_congr (by rw [BankCore.settle_sizes, hs.1])).trans hb,
      fun hb => BankCore.settle_onCourse _ _ _ (hs.2 (BankCore.rests_of_onCourse hb))⟩
  · have ht := (hs.trans (BankCore.settle_tame (b.core.rebase now) _ now)).trans (trips (b.core.late now f) _)
    exact ⟨fun hb => (BankCore.shaped_congr (by rw [BankCore.settle_sizes, ht.1])).trans hb,
      fun hb => BankCore.settle_onCourse _ _ _ (ht.2 (BankCore.rests_of_onCourse hb))⟩

theorem Bank.actWith_follows (b : Bank) (n now : Nat) (es : List (Nat × Nat × Nat)) (f : BankCore → BankCore)
    (h : (b.core.rebase now).Tame (f (b.core.rebase now))) : b.Follows (b.actWith n now es f) := by
  have e : (es.foldl (fun b e => b.post n (12 * n + e.1) e.2.1 e.2.2 true) b).core = b.core := Bank.foldl_post_core _ (fun b a => by simp) _ _
  exact (Bank.Follows.of_core e).trans (Bank.act_follows _ n now f (by rw [e]; exact h))

/-! ## Events of one channel -/

/-- A change of a core that concerns the channel at p and, beside it, neither the supply, the inputs nor what governs the other channels. -/
structure BankCore.Edits (p : Nat) (c d : BankCore) : Prop where
  tame : c.Tame d
  others : ∀ q, q ≠ p → d.chan q = c.chan q
  supply : d.supply = c.supply
  inputs : d.inputs = c.inputs
  glide : d.glideOn = c.glideOn
  rules : d.normalRules = c.normalRules

theorem BankCore.Edits.refl (p : Nat) (c : BankCore) : c.Edits p c := ⟨.refl c, fun _ _ => rfl, rfl, rfl, rfl, rfl⟩

theorem BankCore.Edits.trans {p : Nat} {c d e : BankCore} (h : c.Edits p d) (g : d.Edits p e) : c.Edits p e :=
  ⟨h.tame.trans g.tame, fun q hq => (g.others q hq).trans (h.others q hq), g.supply.trans h.supply, g.inputs.trans h.inputs, g.glide.trans h.glide,
    g.rules.trans h.rules⟩

theorem BankCore.editChan_edits (c : BankCore) (p : Nat) (f : Chan → Chan) (h : (c.chan p).rests = true → (f (c.chan p)).rests = true) :
    c.Edits p (c.editChan p f) :=
  ⟨c.editChan_tame p f h, fun _ hq => BankCore.chan_editChan_other _ _ _ _ hq, rfl, rfl, rfl, rfl⟩

theorem BankCore.read_edits (c : BankCore) (p i : Nat) (r : Int) (now : Nat) : c.Edits p (c.read i r now) :=
  ⟨c.read_tame i r now, fun _ _ => rfl, rfl, rfl, rfl, rfl⟩

/-- What an event of the channel at p keeps: what every event of a bank keeps, the supply, the inputs and the waiting tagged commands of the bank, and the
lasting state of its other channels. -/
structure Bank.Stays (p : Nat) (b d : Bank) : Prop where
  follows : b.Follows d
  supply : d.core.supply = b.core.supply
  inputs : d.core.inputs = b.core.inputs
  tagged : d.tagged = b.tagged
  others : b.core.shaped = true → b.core.onCourse = true → ∀ q, q < 12 → q ≠ p → (d.core.chan q).lasting = (b.core.chan q).lasting

theorem Bank.Stays.refl (p : Nat) (b : Bank) : b.Stays p b := ⟨.refl b, rfl, rfl, rfl, fun _ _ _ _ _ => rfl⟩

theorem Bank.Stays.guard {p : Nat} {b d : Bank} {c : Prop} [Decidable c] (h : b.Stays p d) : b.Stays p (if c then d else b) := by
  split
  · exact h
  · exact .refl p b

theorem BankCore.finish_lasting (b : BankCore) (now p : Nat) (x : Chan) : (b.finish now p x).lasting = x.lasting := by
  unfold Chan.lasting; simp only [BankCore.finish_cfg, BankCore.finish_clamp, BankCore.finish_snap, BankCore.finish_sense_wireRise,
    BankCore.finish_trip_trips, BankCore.finish_thermal_warned, BankCore.finish_thermal_shutdown, BankCore.finish_thermal_shutdowns,
    BankCore.finish_thermal_shedBy, BankCore.finish_io_normal, BankCore.finish_io_w, BankCore.finish_io_x]

theorem BankCore.settle_lasting (before c : BankCore) (now q : Nat) (hq : q < c.chans.length) (hg : c.glideOn = before.glideOn) :
    ((BankCore.settle before c now).chan q).lasting = (c.chan q).lasting := by
  rw [BankCore.settle_chan _ _ _ _ hq (BankCore.leavesToSafe_same _ _ hg), BankCore.finish_lasting]

/-- An event of a channel ends the ramp of no other channel on course too late. -/
theorem BankCore.Edits.not_late {p : Nat} {b : BankCore} {now : Nat} {f : BankCore → BankCore} (h : (b.rebase now).Edits p (f (b.rebase now)))
    (hc : b.onCourse = true) {q : Nat} (hq : q < b.chans.length) (hp : q ≠ p) : q ∉ b.late now f := by
  intro hl
  unfold BankCore.late BankCore.overruns at hl
  simp only [List.mem_filter, Bool.and_eq_true] at hl
  obtain ⟨-, ⟨⟨on, hr⟩, -⟩, hd⟩ := hl
  have hlen : (f (b.rebase now)).chans.length = b.chans.length := (congrArg Prod.fst h.tame.1).trans (by simp [BankCore.sizes])
  rw [b.rebase_chan now q hq] at on hr
  have course : (f (b.rebase now)).onCourseAt ((b.chan q).rebaseRamp b.supply now) = true := by
    have := b.onCourse_chan q hc hq
    unfold BankCore.onCourseAt at this ⊢
    rw [h.rules]
    exact this
  rw [BankCore.settle_chan _ _ _ _ (hlen ▸ hq) (BankCore.leavesToSafe_same _ _ h.glide), h.others q hp, b.rebase_chan now q hq,
    BankCore.finish_onCourse _ _ _ _ course on hr] at hd
  exact Bool.false_ne_true hd

theorem BankCore.trips_keep (c : BankCore) (now : Nat) (l : List Nat) :
    (l.foldl (fun c p => c.editChan p fun ch => c.trip now p .overload ch) c).chans.length = c.chans.length
    ∧ (l.foldl (fun c p => c.editChan p fun ch => c.trip now p .overload ch) c).glideOn = c.glideOn
    ∧ ∀ q, q ∉ l → (l.foldl (fun c p => c.editChan p fun ch => c.trip now p .overload ch) c).chan q = c.chan q := by
  induction l generalizing c with
  | nil => exact ⟨rfl, rfl, fun _ _ => rfl⟩
  | cons p l ih =>
    obtain ⟨h1, h2, h3⟩ := ih (c.editChan p fun ch => c.trip now p .overload ch)
    refine ⟨h1.trans (by simp), h2, fun q hq => ?_⟩
    rw [List.mem_cons, not_or] at hq
    exact (h3 q hq.2).trans (BankCore.chan_editChan_other _ _ _ _ hq.1)

/-- An event whose own change is that of one channel. -/
theorem Bank.act_stays (b : Bank) (n now p : Nat) (f : BankCore → BankCore) (h : (b.core.rebase now).Edits p (f (b.core.rebase now))) :
    b.Stays p (b.act n now f) := by
  refine ⟨b.act_follows n now f h.tame, ?_, ?_, Bank.act_tagged b n now f, fun hs hc q hq hp => ?_⟩
  · exact (b.act_keeps BankCore.supply (by simp) (by simp) n now f).trans h.supply
  · exact (b.act_keeps BankCore.inputs (by simp) (by simp) n now f).trans h.inputs
  · have hb : q < b.core.chans.length := by rw [(BankCore.shaped_iff.1 hs).1]; exact hq
    have hlen : (f (b.core.rebase now)).chans.length = b.core.chans.length := (congrArg Prod.fst h.tame.1).trans (by simp [BankCore.sizes])
    have once : ((BankCore.settle (b.core.rebase now) (f (b.core.rebase now)) now).chan q).lasting = (b.core.chan q).lasting := by
      rw [BankCore.settle_lasting _ _ _ _ (hlen ▸ hb) h.glide, h.others q hp, b.core.rebase_chan now q hb]
      rfl
    obtain ⟨h1, h2, h3⟩ := BankCore.trips_keep (BankCore.settle (b.core.rebase now) (f (b.core.rebase now)) now) now (b.core.late now f)
    have hset : (BankCore.settle (b.core.rebase now) (f (b.core.rebase now)) now).chans.length = b.core.chans.length :=
      (congrArg Prod.fst (BankCore.settle_sizes _ _ now)).trans hlen
    rw [Bank.act_core_all]
    split
    · exact once
    · rw [BankCore.settle_lasting _ _ _ _ (by rw [h1, hset]; exact hb) h2, h3 q (h.not_late hc hb hp), once]

theorem Bank.actWith_stays (b : Bank) (n now p : Nat) (es : List (Nat × Nat × Nat)) (f : BankCore → BankCore)
    (h : (b.core.rebase now).Edits p (f (b.core.rebase now))) : b.Stays p (b.actWith n now es f) := by
  unfold Bank.actWith
  generalize hd : es.foldl (fun b e => b.post n (12 * n + e.1) e.2.1 e.2.2 true) b = d
  have hcore : d.core = b.core := by subst hd; exact Bank.foldl_post_core _ (fun b a => by simp) _ _
  have htag : d.tagged = b.tagged := by subst hd; exact Bank.foldl_keeps Bank.tagged _ (fun b a => by simp) _ _
  obtain ⟨s1, s2, s3, s4, s5⟩ := d.act_stays n now p f (by rw [hcore]; exact h)
  rw [hcore] at s2 s3 s5
  exact ⟨(Bank.Follows.of_core hcore).trans s1, s2, s3, s4.trans htag, s5⟩

/-- An event that edits one channel. -/
theorem Bank.editChan_stays (b : Bank) (n now p : Nat) (f : Chan → Chan)
    (h : ∀ x : Chan, x.motion = (b.core.chan p).motion → x.rests = true → (f x).rests = true) : b.Stays p (b.editChan n now p f) := by
  refine b.act_stays n now p _ (BankCore.editChan_edits _ _ _ fun hr => h _ ?_ hr)
  by_cases hp : p < b.core.chans.length
  · rw [b.core.rebase_chan now p hp]; rfl
  · unfold BankCore.chan
    rw [List.getD_eq_getElem?_getD, List.getD_eq_getElem?_getD, List.getElem?_eq_none (by simpa using hp), List.getElem?_eq_none (by simpa using hp)]

/-- An event that edits one channel and neither switches it nor touches its ramp. -/
theorem Bank.editChan_stays_still (b : Bank) (n now p : Nat) (f : Chan → Chan) (h : ∀ x, (f x).motion = x.motion) : b.Stays p (b.editChan n now p f) :=
  b.editChan_stays n now p f fun x _ hr => (Chan.rests_of_motion (h x)).trans hr

end Sys2Proof.Machine
end

section
/-! Every event of a bank keeps the shape of the bank and its channels on course. -/

namespace Sys2Proof.Machine

/-! ## Switching, windows and ramps -/

theorem Bank.stepBoundary_stays (b : Bank) (n now p : Nat) : b.Stays p (b.stepBoundary n now p) := by
  unfold Bank.stepBoundary
  extract_lets ch w k step
  split
  · have hstep : ∀ x, (step x).motion = x.motion := by
      intro x; simp only [step]; split <;> rfl
    split
    · exact b.actWith_stays n now p _ _ (BankCore.editChan_edits _ _ _ fun hr =>
        BankCore.trip_rests _ _ _ _ _ ((Chan.rests_of_motion (hstep _)).trans hr))
    · exact b.editChan_stays_still n now p _ hstep
  · exact .refl p b

theorem Bank.freezeLimit_stays (b : Bank) (n now p : Nat) : b.Stays p (b.freezeLimit n now p) :=
  .guard <| b.editChan_stays_still n now p _ fun _ => rfl

theorem Bank.rampReached_stays (b : Bank) (n now p : Nat) : b.Stays p (b.rampReached n now p) :=
  b.act_stays n now p _ (BankCore.editChan_edits _ _ _ fun hr =>
    (Chan.rests_of_motion (by split <;> simp)).trans hr)

theorem Bank.rampHoldExpiry_stays (b : Bank) (n now p : Nat) : b.Stays p (b.rampHoldExpiry n now p) :=
  b.editChan_stays_still n now p _ fun x => x.expireHold_motion now

/-- A ramp completes only on a channel that is on. -/
theorem Bank.rampComplete_stays (b : Bank) (n now p mv : Nat) : b.Stays p (b.rampComplete n now p mv) := by
  unfold Bank.rampComplete; dsimp only
  split
  case isTrue h =>
    simp only [Bool.and_eq_true] at h
    refine b.editChan_stays n now p _ fun x hx _ => ?_
    have on : x.io.on = true := (congrArg Prod.fst hx).trans h.1.1.1
    unfold Chan.rests
    rw [on, Bool.true_or]
  case isFalse => exact .refl p b

theorem Bank.rampZero_stays (b : Bank) (n now p : Nat) : b.Stays p (b.rampZero n now p) :=
  b.act_stays n now p _ (BankCore.editChan_edits _ _ _ fun hr => by
    dsimp only
    split
    · exact (Chan.rests_of_motion rfl).trans (BankCore.turnOff_rests (b.core.rebase now) now p _ _)
    · exact hr)

theorem Bank.rampStall_stays (b : Bank) (n now p : Nat) : b.Stays p (b.rampStall n now p) :=
  b.editChan_stays_still n now p _ fun x => by split <;> rfl

theorem Bank.rampStallEnd_stays (b : Bank) (n now p : Nat) : b.Stays p (b.rampStallEnd n now p) :=
  b.editChan_stays_still n now p _ fun x => by split <;> rfl

/-! ## Protection -/

theorem BankCore.beginDisturbance_edits (c : BankCore) (now p : Nat) : c.Edits p (c.beginDisturbance now p) := by
  have h := c.editChan_edits p (fun x => { x with trip := { x.trip with shorted := true } }) fun hr => (Chan.rests_of_motion rfl).trans hr
  exact ⟨h.tame, h.others, rfl, rfl, rfl, rfl⟩

theorem BankCore.endDisturbance_tame (c : BankCore) (now : Nat) : c.Tame (c.endDisturbance now) :=
  c.mapChans_tame _ fun _ _ hr => (Chan.rests_of_motion rfl).trans hr

theorem Bank.limitEnter_stays (b : Bank) (n now p mv risen ma : Nat) (short : Bool) : b.Stays p (b.limitEnter n now p mv risen ma short) := by
  have h : ∀ c : BankCore, c.Edits p (c.editChan p fun x => Chan.limit { x with sense := { x.sense with output := mv } } short now) := fun c =>
    c.editChan_edits p _ fun hr => (Chan.rests_of_motion (Chan.limit_motion _ short now)).trans ((Chan.rests_of_motion rfl).trans hr)
  unfold Bank.limitEnter; dsimp only
  split
  · refine b.act_stays n now p _ ?_
    split
    · exact (h _).trans (BankCore.beginDisturbance_edits _ now p)
    · exact h _
  · exact .refl p b

theorem Bank.limitLeave_stays (b : Bank) (n now p : Nat) : b.Stays p (b.limitLeave n now p) :=
  .guard <| b.editChan_stays_still n now p _ fun x => by unfold Chan.motion; dsimp only; split <;> rfl

theorem Bank.tripChan_stays (b : Bank) (n now p : Nat) (k : TripKind) : b.Stays p (b.tripChan n now p k) := by
  have h : ∀ c d : BankCore, c.Edits p (c.editChan p fun x => d.trip now p k x) := fun c d => c.editChan_edits p _ (d.trip_rests now p k _)
  refine b.actWith_stays n now p _ _ ?_
  dsimp only
  split
  · exact (h _ _).trans (BankCore.beginDisturbance_edits _ now p)
  · exact h _ _

theorem Bank.shortTrip_stays (b : Bank) (n now p : Nat) : b.Stays p (b.shortTrip n now p) :=
  .guard <| b.tripChan_stays n now p _

theorem Bank.overloadTrip_stays (b : Bank) (n now p : Nat) : b.Stays p (b.overloadTrip n now p) :=
  .guard <| b.tripChan_stays n now p _

theorem Bank.detectionTrip_stays (b : Bank) (n now p ma held : Nat) : b.Stays p (b.detectionTrip n now p ma held) :=
  .guard <| b.tripChan_stays n now p _

theorem Bank.disturbanceEnd_follows (b : Bank) (n now : Nat) : b.Follows (b.disturbanceEnd n now) :=
  .guard <| b.act_follows n now _ (BankCore.endDisturbance_tame _ now)

theorem Bank.timerReset_stays (b : Bank) (n now p : Nat) : b.Stays p (b.timerReset n now p) :=
  b.editChan_stays_still n now p _ fun x => x.lapseTimers_motion now

theorem Bank.backoffEnd_stays (b : Bank) (n now p : Nat) : b.Stays p (b.backoffEnd n now p) :=
  b.editChan_stays_still n now p _ fun x => by
    dsimp only
    generalize hy : (if elapsed x.trip.backoff 0 now then { x with trip := { x.trip with backoff := none, retryDue := true } } else x : Chan) = y
    have hm : y.motion = x.motion := by subst hy; split <;> rfl
    split <;> exact hm

theorem Bank.latchClear_stays (b : Bank) (n now p : Nat) : b.Stays p (b.latchClear n now p) :=
  b.editChan_stays_still n now p _ fun x => by split <;> rfl

theorem Bank.retryReset_stays (b : Bank) (n now p : Nat) : b.Stays p (b.retryReset n now p) :=
  b.editChan_stays_still n now p _ fun x => by split <;> rfl

theorem Bank.latchCountReset_stays (b : Bank) (n now p : Nat) : b.Stays p (b.latchCountReset n now p) :=
  b.editChan_stays_still n now p _ fun x => by split <;> rfl

/-! ## Clamp energy and the wire model -/

theorem Bank.clampEnd_stays (b : Bank) (n now p : Nat) (l : List (Nat × Nat)) : b.Stays p (b.clampEnd n now p l) :=
  .guard <| b.editChan_stays_still n now p _ fun _ => rfl

theorem Bank.edgeEnd_stays (b : Bank) (n now p : Nat) : b.Stays p (b.edgeEnd n now p) :=
  .guard <| b.editChan_stays_still n now p _ Chan.lockOnBudget_motion

theorem Bank.clampDecay_follows (b : Bank) (n now : Nat) (l : List (List (Nat × Nat))) : b.Follows (b.clampDecay n now l) := by
  unfold Bank.clampDecay
  split
  · exact b.act_follows n now _ (BankCore.mapChans_tame _ _ fun p x hr =>
      (Chan.rests_of_motion (x := x) (x.clampSamples_motion (l.getD p []))).trans hr)
  · exact .refl b

theorem Bank.wireUpdate_follows (b : Bank) (n now : Nat) (l : List Nat) : b.Follows (b.wireUpdate n now l) := by
  unfold Bank.wireUpdate; dsimp only
  split
  · refine b.actWith_follows n now _ _ (BankCore.mapChans_tame _ _ fun p x hr => ?_)
    have hs := (Chan.rests_of_motion (x.wireStep_motion p (l.getD p 0))).trans hr
    split
    · exact BankCore.trip_rests _ _ _ _ _ hs
    · exact hs
  · exact .refl b

/-! ## Open load, starvation and offsets -/

theorem Bank.openOn_stays (b : Bank) (n now p ua held : Nat) : b.Stays p (b.openOn n now p ua held) :=
  .guard <| b.editChan_stays_still n now p _ fun _ => rfl

theorem Bank.openOnClear_stays (b : Bank) (n now p ua held : Nat) : b.Stays p (b.openOnClear n now p ua held) :=
  .guard <| b.editChan_stays_still n now p _ fun _ => rfl

theorem Bank.sourceOn_stays (b : Bank) (n now p : Nat) : b.Stays p (b.sourceOn n now p) :=
  .guard <| b.editChan_stays_still n now p _ fun _ => rfl

theorem Bank.openOff_stays (b : Bank) (n now p mv held : Nat) : b.Stays p (b.openOff n now p mv held) :=
  .guard <| b.editChan_stays_still n now p _ fun _ => rfl

theorem Bank.openOffClear_stays (b : Bank) (n now p mv held : Nat) : b.Stays p (b.openOffClear n now p mv held) :=
  .guard <| b.editChan_stays_still n now p _ fun _ => rfl

theorem Bank.starve_stays (b : Bank) (n now p without : Nat) : b.Stays p (b.starve n now p without) :=
  .guard <| b.editChan_stays_still n now p _ fun _ => rfl

theorem Bank.starveClear_stays (b : Bank) (n now p interval : Nat) : b.Stays p (b.starveClear n now p interval) :=
  .guard <| b.editChan_stays_still n now p _ fun _ => rfl

theorem Bank.zeroUpdate_stays (b : Bank) (n now p : Nat) (mean : Int) : b.Stays p (b.zeroUpdate n now p mean) :=
  .guard <| b.editChan_stays_still n now p _ fun _ => rfl

theorem Bank.crossMeasure_stays (b : Bank) (n now p : Nat) (clean : Bool) (d i : Int) : b.Stays p (b.crossMeasure n now p clean d i) :=
  .guard <| b.editChan_stays_still n now p _ fun x => by split <;> rfl

theorem Bank.goStale_stays (b : Bank) (n now p : Nat) : b.Stays p (b.goStale n now p) :=
  b.editChan_stays_still n now p _ fun x => by split <;> rfl

/-! ## Temperatures -/

theorem Bank.thermalWarn_stays (b : Bank) (n now p : Nat) (r : Int) : b.Stays p (b.thermalWarn n now p r) := by
  refine b.act_stays n now p _ ((BankCore.read_edits _ p p r now).trans ?_)
  dsimp only
  split
  · exact BankCore.editChan_edits _ _ _ fun hr => (Chan.rests_of_motion rfl).trans hr
  · exact .refl p _

theorem Bank.thermalWarnClear_stays (b : Bank) (n now p : Nat) : b.Stays p (b.thermalWarnClear n now p) :=
  b.editChan_stays_still n now p _ fun _ => rfl

theorem Bank.thermalShutdown_stays (b : Bank) (n now p : Nat) (r : Int) : b.Stays p (b.thermalShutdown n now p r) := by
  refine b.act_stays n now p _ ((BankCore.read_edits _ p p r now).trans ?_)
  dsimp only
  split
  · exact BankCore.editChan_edits _ _ _ fun hr => (Chan.rests_of_motion (Chan.shut_motion _ now)).trans hr
  · exact .refl p _

theorem Bank.thermalExit_stays (b : Bank) (n now p : Nat) (r : Int) : b.Stays p (b.thermalExit n now p r) := by
  refine b.act_stays n now p _ ((BankCore.read_edits _ p p r now).trans ?_)
  dsimp only
  split
  · exact BankCore.editChan_edits _ _ _ fun hr => (Chan.rests_of_motion rfl).trans hr
  · exact .refl p _

theorem Bank.thermalLatchClear_stays (b : Bank) (n now p : Nat) : b.Stays p (b.thermalLatchClear n now p) :=
  b.editChan_stays_still n now p _ fun x => by split <;> rfl

theorem Bank.thermalCountReset_stays (b : Bank) (n now p : Nat) : b.Stays p (b.thermalCountReset n now p) :=
  b.editChan_stays_still n now p _ fun x => by split <;> rfl

theorem Bank.sensorBroken_follows (b : Bank) (n now i : Nat) (f : SensorFault) (held : Nat) : b.Follows (b.sensorBroken n now i f held) :=
  .guard <| b.act_follows n now _ ((BankCore.editSensor_tame _ i _).trans (BankCore.noteCool_tame _ now))

theorem Bank.sensorFault_follows (b : Bank) (n now i : Nat) (r : Int) (circuit : Bool) : b.Follows (b.sensorFault n now i r circuit) :=
  .guard <| b.act_follows n now _ ((BankCore.editSensor_tame _ i _).trans (BankCore.noteCool_tame _ now))

theorem Bank.thermalMove_follows (b : Bank) (n now : Nat) (r1 r2 : Int) (f : BankCore → Option Int → Option ThermalState) :
    b.Follows (b.thermalMove n now r1 r2 f) := by
  refine b.act_follows n now _ (((BankCore.read_tame _ 12 r1 now).trans (BankCore.read_tame _ 13 r2 now)).trans ?_)
  dsimp only
  repeat' split
  all_goals exact .beside rfl rfl rfl

theorem Bank.shedHoldClear_follows (b : Bank) (n now : Nat) : b.Follows (b.shedHoldClear n now) :=
  .guard <| b.act_follows n now _ ⟨by simp [BankCore.sizes], fun hr => all_map _ _ hr fun _ hx => (Chan.rests_of_motion rfl).trans hx⟩

theorem Bank.retrimDone_follows (b : Bank) (n now : Nat) (trims : List Int) (within : Bool) : b.Follows (b.retrimDone n now trims within) := by
  unfold Bank.retrimDone; dsimp only
  repeat' split
  · exact Bank.act_follows { b with retrimming := false } n now _
      ⟨by simp [BankCore.sizes], fun hr => all_map _ _ hr fun _ hx => (Chan.rests_of_motion rfl).trans hx⟩
  · exact .of_core rfl
  · exact .refl b

/-! ## Supply and lands -/

theorem Bank.overvoltageOn_follows (b : Bank) (n now mv held : Nat) : b.Follows (b.overvoltageOn n now mv held) :=
  .guard <| b.act_follows n now _ (.beside rfl rfl rfl)

theorem Bank.overvoltageOff_follows (b : Bank) (n now mv : Nat) : b.Follows (b.overvoltageOff n now mv) :=
  .guard <| b.act_follows n now _ (.beside rfl rfl rfl)

theorem Bank.limpAdopt_follows (b : Bank) (n now : Nat) (land : LimpLand) (mv held : Nat) : b.Follows (b.limpAdopt n now land mv held) := by
  unfold Bank.limpAdopt
  split
  · refine b.act_follows n now _ ?_
    cases land <;> exact .beside rfl rfl rfl
  · exact .refl b

theorem Bank.inputEdge_follows (b : Bank) (n now pin : Nat) (level : Bool) (held : Nat) : b.Follows (b.inputEdge n now pin level held) :=
  .guard <| b.act_follows n now _ ⟨by simp [BankCore.sizes, BankCore.acceptEdge], id⟩

theorem Bank.setInputValid_follows (b : Bank) (n now : Nat) (v : Bool) : b.Follows (b.setInputValid n now v) :=
  b.act_follows n now _ ⟨by simp [BankCore.sizes], id⟩

/-! ## Start, loss and hold timer -/

theorem Bank.startUp_follows (b : Bank) (n now : Nat) (f : StartFacts) : b.Follows (b.startUp n now f) := by
  have hc : (b.startUp n now f).core = BankCore.settle ((b.core.atStart (!b.core.starting) f now).noteCool now)
      ((b.core.atStart (!b.core.starting) f now).noteCool now) now := by
    unfold Bank.startUp; dsimp only
    split <;> simp
  unfold Bank.Follows
  rw [hc]
  refine ⟨fun h => ?_, fun _ => BankCore.settle_onCourse _ _ _ ?_⟩
  · rw [BankCore.shaped_congr (BankCore.settle_sizes _ _ _), BankCore.shaped_iff]
    obtain ⟨h1, h2, -⟩ := BankCore.shaped_iff.1 h
    exact ⟨by simpa [BankCore.noteCool, BankCore.atStart] using h1, h2, rfl⟩
  · unfold BankCore.rests BankCore.noteCool BankCore.atStart
    simp only [List.all_map, List.all_eq_true]
    exact fun _ _ => rfl

theorem Bank.halt_follows (b : Bank) (now : Nat) (starting : Bool) (supply : Nat) : b.Follows (b.halt now starting supply) := by
  unfold Bank.Follows
  refine ⟨fun h => (BankCore.shaped_congr (by simp [BankCore.sizes, Bank.halt])).trans h, fun _ => ?_⟩
  unfold BankCore.onCourse Bank.halt
  simp only [List.all_map, List.all_eq_true]
  exact fun x _ => BankCore.onCourseAt_off _ _ rfl rfl

theorem BankCore.failSafeAll_tame (c : BankCore) (cause : FailSafeCause) : c.Tame (c.failSafeAll cause) :=
  ⟨by simp [BankCore.sizes, BankCore.failSafeAll], fun hr => all_map _ _ hr fun _ hx => (Chan.rests_of_motion rfl).trans hx⟩

theorem Bank.holdExpiry_follows (b : Bank) (n now : Nat) : b.Follows (b.holdExpiry n now) :=
  .guard <| b.actWith_follows n now _ _ ((BankCore.failSafeAll_tame _ .holdExpiry).trans (.beside rfl rfl rfl))

theorem Bank.restartHoldExpiry_follows (b : Bank) (n now : Nat) : b.Follows (b.restartHoldExpiry n now) :=
  .guard <| b.actWith_follows n now _ _ ((BankCore.failSafeAll_tame _ .restartHoldExpiry).trans (.beside rfl rfl rfl))

/-! ## Commands and frames -/

theorem BankCore.command_tame (c : BankCore) (now : Nat) (k : BankCmd) : c.Tame (c.command now k) := by
  have still : ∀ (d : BankCore) (p : Nat) (f : Chan → Chan), (∀ x, (f x).motion = x.motion) → d.Tame (d.editChan p f) := fun d p f h =>
    d.editChan_tame p f fun hr => (Chan.rests_of_motion (h _)).trans hr
  have flagged : ∀ (d : BankCore) (p : Nat) (f : Chan → Chan) (v : Bool) (l : FailSafeCause), (∀ x, (f x).motion = x.motion) →
      d.Tame (if v then { d.editChan p f with lastCause := l } else d.editChan p f) := by
    intro d p f v l h
    cases v
    · exact still d p f h
    · exact (still d p f h).trans (.beside rfl rfl rfl)
  cases k with
  | setNormal p d => exact still c p _ fun _ => rfl
  | setPattern p v => exact still c p _ fun _ => rfl
  | setIo p v => exact still c p _ fun x => x.setIo_motion v now
  | setLoad p v => exact still c p _ fun x => x.setLoad_motion v now
  | setProt p v => exact still c p _ fun x => x.setProt_motion v
  | setWarn p v => exact still c p _ fun _ => rfl
  | setSync p v => exact still c p _ fun _ => rfl
  | setRetired p v => exact still c p _ fun _ => rfl
  | setC p v => exact flagged c p _ v .command fun _ => rfl
  | setW p v => exact flagged c p _ v .watchdog fun _ => rfl
  | setX p v => exact flagged c p _ v .escalation fun _ => rfl
  | releaseX p => exact still c p _ fun _ => rfl
  | releaseW => exact ⟨by simp [BankCore.sizes, BankCore.command], fun hr => all_map _ _ hr fun _ hx => (Chan.rests_of_motion rfl).trans hx⟩
  | unlock p => exact still c p _ Chan.unlock_motion
  | shed p byBank v => exact still c p _ fun _ => rfl
  | readmit i => exact (c.editSensor_tame i _).trans (BankCore.noteCool_tame _ now)
  | snapshot cycle => exact ⟨by simp [BankCore.sizes, BankCore.command], fun hr => all_map _ _ hr fun x hx => (Chan.rests_of_motion x.snapshot_motion).trans hx⟩
  | fullStore img => exact (c.mapChans_tame _ fun p x hr => (Chan.rests_of_motion (x.rewrite_motion (img.entries.getD p {}) now)).trans hr).trans (.beside rfl rfl rfl)
  | setHoldTime _ | setGlideExit _ | setLevels _ _ | setEscGlide _ | setIsolated _ | resetBank | retrim | setTrims _ | cancelSchedule _ =>
    exact .beside rfl rfl rfl

theorem Bank.command_follows (b : Bank) (n now : Nat) (k : BankCmd) : b.Follows (b.command n now k) := by
  have ha : ∀ k, b.Follows (b.act n now fun core => core.command now k) := fun k => b.act_follows n now _ (BankCore.command_tame _ now k)
  unfold Bank.command
  split
  · exact b.halt_follows now true _
  · exact .of_core rfl
  · exact .of_core rfl
  · exact (ha _).trans (.of_core rfl)
  · exact ha _

theorem Bank.take_follows (b : Bank) (n now : Nat) (c : LinkCmd) : b.Follows (b.take n now c) := by
  have noted : ∀ due done, b.Follows { b with acksDue := due, acked := done } := fun _ _ => .of_core rfl
  unfold Bank.take
  dsimp only
  repeat' split
  · exact .refl b
  · exact .of_core rfl
  · exact ((noted _ _).trans (Bank.command_follows _ n now c.cmd)).trans (.of_core rfl)
  · exact (noted _ _).trans (Bank.command_follows _ n now c.cmd)
  all_goals exact .of_core rfl

theorem Bank.reportLoss_core (b : Bank) (n : Nat) : (b.reportLoss n).core = b.core := by
  unfold Bank.reportLoss; split <;> simp

theorem Bank.receive_follows (b : Bank) (n now : Nat) (crcOk : Bool) : b.Follows (b.receive n now crcOk) := by
  unfold Bank.receive
  dsimp only
  repeat' split
  · exact .refl b
  · exact .of_core rfl
  · exact .refl b
  · exact .of_core rfl
  · refine Bank.Follows.trans ?_ (Bank.foldl_follows _ _ _ fun b c => b.take_follows n now c)
    exact .trans (c := { b with core := { b.core with holdFrom := some now, silent := false, restartHold := _, lastValidRx := some now } })
      ⟨id, id⟩ (.of_core (Bank.reportLoss_core _ n))

theorem Bank.applyTagged_follows (b : Bank) (n now : Nat) (snaps : Bool) : b.Follows (b.applyTagged n now snaps) := by
  unfold Bank.applyTagged
  dsimp only
  split
  · refine Bank.foldl_follows_of ?_ _ fun b c => b.command_follows n now c.cmd
    exact .of_core rfl
  · exact .refl b

theorem Bank.dropSchedule_follows (b : Bank) (now lane : Nat) : b.Follows (b.dropSchedule now lane) := by
  unfold Bank.dropSchedule
  split
  · exact .refl b
  · exact .of_core rfl

theorem Bank.applySchedule_follows (b : Bank) (n now lane : Nat) : b.Follows (b.applySchedule n now lane) := by
  unfold Bank.applySchedule
  dsimp only
  split
  · exact .refl b
  · refine Bank.foldl_follows_of ?_ _ fun b t => ?_
    · exact .of_core rfl
    have ran : ∀ (d : Bank) (l : List (Nat × Bool)), b.Follows d → b.Follows { d with schedRan := l } := fun _ _ h => h.trans (.of_core rfl)
    exact ran _ _ (.guard (b.command_follows n now t.cmd))

theorem BankCore.measure_tame (c : BankCore) (now : Nat) (r : Readings) : c.Tame (c.measure now r) :=
  ⟨by simp [BankCore.sizes, BankCore.measure], fun hr => all_mapFrom _ _ _ hr fun p x hx =>
    (Chan.rests_of_motion (by rw [Chan.judgeAbove_motion, Chan.reading_motion, Chan.clampSamples_motion])).trans hx⟩

theorem BankCore.compare_tame (c : BankCore) (now : Nat) : c.Tame (c.compare now) := by
  refine (c.noteCool_tame now).trans ⟨by simp [BankCore.sizes, BankCore.compare], fun hr => all_mapFrom _ _ _ hr fun p x hx => ?_⟩
  split
  · exact (Chan.rests_of_motion (x.compare_motion _ now)).trans hx
  · exact hx

theorem Bank.send_follows (b : Bank) (n now : Nat) (r : Readings) : b.Follows (b.send n now r) := by
  unfold Bank.send
  split
  · exact .refl b
  · have h : b.Follows (b.act n now fun c => (c.measure now r).compare now) :=
      b.act_follows n now _ ((BankCore.measure_tame _ now r).trans (BankCore.compare_tame _ now))
    exact .guard (h.trans (.of_core rfl))

end Sys2Proof.Machine
end

section
/-! Events of channels and banks as changes of one bank. -/

namespace Sys2Proof.Machine

theorem editAt_id {α : Type} (l : List α) (i : Nat) : editAt l i id = l := by
  induction l generalizing i with
  | nil => rfl
  | cons a l ih => cases i <;> simp [editAt, ih]

theorem State.onBank_id (s : State) (b : Nat) : s.onBank b id = s := by
  unfold State.onBank; rw [editAt_id]

/-- An event of a channel changes the bank of that channel alone, and there what `Bank.Stays` leaves it. -/
theorem exec_chanEvent {c : Instr} {ch : Nat} (h : chanEvent c = some ch) :
    ∃ f : Bank → Nat → Nat → Nat → Bank, (∀ s, exec c s = .next (s.onChan ch f)) ∧ ∀ b n now p, Bank.Stays p b (f b n now p) := by
  cases c <;> cases h
  case senseStarved w => exact ⟨_, fun _ => rfl, fun b n now p => b.starve_stays n now p w⟩
  case senseStarvedClear i => exact ⟨_, fun _ => rfl, fun b n now p => b.starveClear_stays n now p i⟩
  case sprintStepBoundary => exact ⟨_, fun _ => rfl, Bank.stepBoundary_stays⟩
  case sprintFreezeLimit => exact ⟨_, fun _ => rfl, Bank.freezeLimit_stays⟩
  case rampTargetReached => exact ⟨_, fun _ => rfl, Bank.rampReached_stays⟩
  case rampHoldExpiry => exact ⟨_, fun _ => rfl, Bank.rampHoldExpiry_stays⟩
  case rampComplete mv => exact ⟨_, fun _ => rfl, fun b n now p => b.rampComplete_stays n now p mv⟩
  case rampZeroTurnOff => exact ⟨_, fun _ => rfl, Bank.rampZero_stays⟩
  case rampStallFlag => exact ⟨_, fun _ => rfl, Bank.rampStall_stays⟩
  case rampStallEnd => exact ⟨_, fun _ => rfl, Bank.rampStallEnd_stays⟩
  case shortCircuitLimitEnter mv r ma => exact ⟨_, fun _ => rfl, fun b n now p => b.limitEnter_stays n now p mv r ma true⟩
  case overloadLimitingEnter mv r ma => exact ⟨_, fun _ => rfl, fun b n now p => b.limitEnter_stays n now p mv r ma false⟩
  case currentLimitingLeave => exact ⟨_, fun _ => rfl, Bank.limitLeave_stays⟩
  case shortCircuitTrip => exact ⟨_, fun _ => rfl, Bank.shortTrip_stays⟩
  case overloadTrip => exact ⟨_, fun _ => rfl, Bank.overloadTrip_stays⟩
  case scDetectionTrip ma held => exact ⟨_, fun _ => rfl, fun b n now p => b.detectionTrip_stays n now p ma held⟩
  case tripTimerReset => exact ⟨_, fun _ => rfl, Bank.timerReset_stays⟩
  case backoffEnd => exact ⟨_, fun _ => rfl, Bank.backoffEnd_stays⟩
  case latchOffClear => exact ⟨_, fun _ => rfl, Bank.latchClear_stays⟩
  case retryCounterReset => exact ⟨_, fun _ => rfl, Bank.retryReset_stays⟩
  case latchCountReset => exact ⟨_, fun _ => rfl, Bank.latchCountReset_stays⟩
  case clampEnd l => exact ⟨_, fun _ => rfl, fun b n now p => b.clampEnd_stays n now p l⟩
  case turnOffEdgeEnd => exact ⟨_, fun _ => rfl, Bank.edgeEnd_stays⟩
  case onStateOpenLoad ua held => exact ⟨_, fun _ => rfl, fun b n now p => b.openOn_stays n now p ua held⟩
  case onStateOpenLoadClear ua held => exact ⟨_, fun _ => rfl, fun b n now p => b.openOnClear_stays n now p ua held⟩
  case offStateSourceOn => exact ⟨_, fun _ => rfl, Bank.sourceOn_stays⟩
  case offStateOpenLoad mv held => exact ⟨_, fun _ => rfl, fun b n now p => b.openOff_stays n now p mv held⟩
  case offStateOpenLoadClear mv held => exact ⟨_, fun _ => rfl, fun b n now p => b.openOffClear_stays n now p mv held⟩
  case offStateZeroUpdate mean => exact ⟨_, fun _ => rfl, fun b n now p => b.zeroUpdate_stays n now p mean⟩
  case crossMeasurement clean d i => exact ⟨_, fun _ => rfl, fun b n now p => b.crossMeasure_stays n now p clean d i⟩
  case staleOffsetEnter => exact ⟨_, fun _ => rfl, Bank.goStale_stays⟩
  case thermalWarning t => exact ⟨_, fun _ => rfl, fun b n now p => b.thermalWarn_stays n now p t⟩
  case thermalShutdown t => exact ⟨_, fun _ => rfl, fun b n now p => b.thermalShutdown_stays n now p t⟩
  case thermalShutdownExit t => exact ⟨_, fun _ => rfl, fun b n now p => b.thermalExit_stays n now p t⟩
  case thermalLatchClear => exact ⟨_, fun _ => rfl, Bank.thermalLatchClear_stays⟩
  case thermalCountReset => exact ⟨_, fun _ => rfl, Bank.thermalCountReset_stays⟩

/-- An event of a bank changes that bank alone, and keeps its shape and its channels on course. -/
theorem exec_bankEvent {c : Instr} {b : Nat} (h : bankEvent c = some b) (s : State) :
    ∃ f : Bank → Bank, exec c s = .next (s.onBank b f) ∧ ∀ x, Bank.Follows x (f x) := by
  cases c <;> cases h
  case limpClassificationAdopt land mv held => exact ⟨_, rfl, fun x => x.limpAdopt_follows b s.now land mv held⟩
  case taggedCommandApply => exact ⟨_, rfl, fun x => x.applyTagged_follows b s.now false⟩
  case snapshotCapture => exact ⟨_, rfl, fun x => x.applyTagged_follows b s.now true⟩
  case bankDisturbanceEnd => exact ⟨_, rfl, fun x => x.disturbanceEnd_follows b s.now⟩
  case clampDecay l => exact ⟨_, rfl, fun x => x.clampDecay_follows b s.now l⟩
  case wireModelUpdate l => exact ⟨_, rfl, fun x => x.wireUpdate_follows b s.now l⟩
  case sensorBroken i k held => exact ⟨_, rfl, fun x => x.sensorBroken_follows b s.now i k held⟩
  case sensorCircuitFault i t o => exact ⟨_, rfl, fun x => x.sensorFault_follows b s.now i t o⟩
  case bankThermalWarning r1 r2 => exact ⟨_, rfl, fun x => x.thermalMove_follows b s.now r1 r2 toWarning⟩
  case bankThermalNormal r1 r2 => exact ⟨_, rfl, fun x => x.thermalMove_follows b s.now r1 r2 toNormal⟩
  case bankSheddingEnter r1 r2 => exact ⟨_, rfl, fun x => x.thermalMove_follows b s.now r1 r2 toShedding⟩
  case bankSheddingLeave r1 r2 => exact ⟨_, rfl, fun x => x.thermalMove_follows b s.now r1 r2 leaveShedding⟩
  case bankThermalTrip r1 r2 => exact ⟨_, rfl, fun x => x.thermalMove_follows b s.now r1 r2 toTripped⟩
  case bankTripLeave r1 r2 => exact ⟨_, rfl, fun x => x.thermalMove_follows b s.now r1 r2 leaveTripped⟩
  case bankShedHoldClear => exact ⟨_, rfl, fun x => x.shedHoldClear_follows b s.now⟩
  case bankDownlinkFrameRx ok => exact ⟨_, rfl, fun x => x.receive_follows b s.now ok⟩
  case bankUplinkSend r => exact ⟨_, rfl, fun x => x.send_follows b s.now r⟩
  case holdTimerExpiry => exact ⟨_, rfl, fun x => x.holdExpiry_follows b s.now⟩
  case restartHoldExpiry => exact ⟨_, rfl, fun x => x.restartHoldExpiry_follows b s.now⟩
  case vsupPresent mv held ok own shared =>
    unfold exec execVsupPresent
    dsimp only
    split
    · exact ⟨id, by rw [State.onBank_id], fun x => .refl x⟩
    · exact ⟨_, rfl, fun x => x.startUp_follows b s.now _⟩
  case vsupOvervoltageWarning mv held => exact ⟨_, rfl, fun x => x.overvoltageOn_follows b s.now mv held⟩
  case vsupOvervoltageClear mv => exact ⟨_, rfl, fun x => x.overvoltageOff_follows b s.now mv⟩

theorem State.onBank_onlyBank (s : State) (b : Nat) (f : Bank → Bank) : s.onlyBank (s.onBank b f) b :=
  ⟨rfl, editAt_length _ _ _, fun c hc => s.bank_onBank_other b c f hc⟩

/-- Settles O59, from what each event of a channel and of a bank does to its bank. -/
theorem channelAndBankEventsStayInTheirBank : Obligations.ChannelAndBankEventsStayInTheirBank := by
  refine ⟨fun c s t ch hc hch hs ht => ?_, fun c s t b hc _ _ ht => ?_⟩
  · obtain ⟨f, hf, hb⟩ := exec_chanEvent hc
    rw [hf] at ht
    injection ht with ht
    subst ht
    have hlen : ch / 12 < s.banks.length := by have := State.shaped_banks hs; omega
    have hbank : (s.onChan ch f).bank (ch / 12) = f (s.bank (ch / 12)) (ch / 12) s.now (ch % 12) := s.bank_onBank_same _ _ hlen
    obtain ⟨-, hsupply, hinputs, htagged, hothers⟩ := hb (s.bank (ch / 12)) (ch / 12) s.now (ch % 12)
    rw [hbank]
    refine ⟨s.onBank_onlyBank _ _, hsupply, hinputs, htagged, fun n hn hne hcourse => ?_⟩
    unfold State.chan
    by_cases e : n / 12 = ch / 12
    · rw [e, hbank]
      exact hothers (s.shaped_core hs _ (by omega)) hcourse _ (by omega) (by omega)
    · rw [State.onChan, State.bank_onBank_other _ _ _ _ e]
  · obtain ⟨f, hf, -⟩ := exec_bankEvent hc s
    rw [hf] at ht
    injection ht with ht
    exact ht ▸ s.onBank_onlyBank b f

end Sys2Proof.Machine
end

section
/-! The state after reset. -/

namespace Sys2Proof.Machine

theorem State.reset_bank (b : Nat) (hb : b < 4) : State.reset.bank b = factoryBank := by
  unfold State.bank
  rw [show State.reset.banks = List.replicate 4 factoryBank from rfl, List.getD_eq_getElem?_getD, List.getElem?_replicate, if_pos hb]
  rfl

/-- A channel of a factory-fresh bank rests with its factory entry. -/
theorem State.reset_chan (ch : Nat) (hch : ch < 48) : State.reset.chan ch = { cfg := factoryEntry (ch % 12) } := by
  unfold State.chan BankCore.chan
  rw [State.reset_bank _ (by omega), show factoryBank.core.chans = (List.range 12).map fun p => { cfg := factoryEntry p } from rfl,
    List.getD_eq_getElem?_getD, List.getElem?_map, List.getElem?_range (Nat.mod_lt _ (by decide))]
  rfl

/-- Without a written map a lane is mapped to the channel of its number. -/
theorem State.reset_chansOf (n : Nat) (hn : n < 48) : State.reset.hub.chansOf n = [n] := by
  have he : State.reset.hub.entry n = 0xFF00 + n := rfl
  have hlow : (0xFF00 + n) % 256 = n := by omega
  have hhigh : (0xFF00 + n) / 256 = 0xFF := by omega
  unfold Hub.chansOf entryChans
  rw [he, hlow, hhigh, if_neg (by omega), if_pos rfl]

/-- Settles O57, field by field; the channels by their factory entry. -/
theorem resetIsAnUnpoweredFactoryFreshDevice : Obligations.ResetIsAnUnpoweredFactoryFreshDevice := by
  refine ⟨by decide, by decide, Memory.wf_reset, rfl, rfl, rfl, rfl, rfl, rfl, rfl, rfl, fun _ => rfl, fun b hb => ?_, fun ch hch => ?_, State.reset_chansOf⟩
  · rw [State.reset_bank b hb]; rfl
  · rw [State.reset_chan ch hch]; exact ⟨rfl, rfl, rfl, rfl⟩

end Sys2Proof.Machine
end


section
/-! The shape of the hub: the lengths that it keeps (R19, R367, R369), and that the operations of the collector, the network stage and the runtime
leave them alone. -/

namespace Sys2Proof.Machine

/-! ## Lengths -/

/-- What `Net.shaped` reads. -/
def Net.rings (n : Net) : List Nat := [n.q3.slots.length, n.q3.prod, n.q4.slots.length, n.q5.slots.length, n.classify]

/-- What `Hub.shaped` reads of the runtime. -/
def Run.sizes (r : Run) : List Nat :=
  [r.sessions.length, r.schedules.length, r.sync.length, r.service.length, r.team.members.length, r.slotState.length, r.shed.length,
   r.shedDue.length, r.snaps.length, r.snapCycle.length]

/-- What the shape of the hub rests on. -/
def Hub.sizes (h : Hub) : Nat × Nat × List Nat × Nat × List Nat :=
  (h.links.length, h.views.length, h.run.sizes, h.collector.sources.length, h.net.rings)

/-- The hub and its network stage are of their shape. -/
def Hub.formed (h : Hub) : Prop := h.shaped = true ∧ h.net.shaped = true

theorem Net.rings_eq {n m : Net} : m.rings = n.rings ↔ m.q3.slots.length = n.q3.slots.length ∧ m.q3.prod = n.q3.prod
    ∧ m.q4.slots.length = n.q4.slots.length ∧ m.q5.slots.length = n.q5.slots.length ∧ m.classify = n.classify := by
  simp [Net.rings]

theorem Run.sizes_eq {r q : Run} : q.sizes = r.sizes ↔ q.sessions.length = r.sessions.length ∧ q.schedules.length = r.schedules.length
    ∧ q.sync.length = r.sync.length ∧ q.service.length = r.service.length ∧ q.team.members.length = r.team.members.length
    ∧ q.slotState.length = r.slotState.length ∧ q.shed.length = r.shed.length ∧ q.shedDue.length = r.shedDue.length
    ∧ q.snaps.length = r.snaps.length ∧ q.snapCycle.length = r.snapCycle.length := by
  simp [Run.sizes]

theorem Hub.sizes_eq {h k : Hub} : k.sizes = h.sizes ↔ k.links.length = h.links.length ∧ k.views.length = h.views.length
    ∧ k.run.sizes = h.run.sizes ∧ k.collector.sources.length = h.collector.sources.length ∧ k.net.rings = h.net.rings := by
  simp [Hub.sizes]

theorem Net.shaped_of_rings {n m : Net} (e : m.rings = n.rings) : m.shaped = n.shaped := by
  simp only [Net.rings, List.cons.injEq] at e
  simp [Net.shaped, e]

theorem Hub.shaped_of_sizes {h k : Hub} (e : k.sizes = h.sizes) : k.shaped = h.shaped := by
  obtain ⟨hl, hv, hr, hs, -⟩ := Hub.sizes_eq.mp e
  simp only [Run.sizes, List.cons.injEq] at hr
  simp [Hub.shaped, hl, hv, hs, hr]

theorem Hub.formed_of_sizes {h k : Hub} (e : k.sizes = h.sizes) (hf : h.formed) : k.formed :=
  ⟨(Hub.shaped_of_sizes e).trans hf.1, (Net.shaped_of_rings (Hub.sizes_eq.mp e).2.2.2.2).trans hf.2⟩

/-- `Hub.shaped`, length by length. -/
theorem Hub.shaped_iff (h : Hub) : h.shaped = true ↔ h.links.length = 4 ∧ h.views.length = 4 ∧ h.run.sessions.length = 16
    ∧ h.run.schedules.length = 48 ∧ h.run.sync.length = 48 ∧ h.collector.sources.length = 96 ∧ h.run.service.length = 4
    ∧ h.run.team.members.length = 8 ∧ h.run.slotState.length = 2 ∧ h.run.shed.length = 4 ∧ h.run.shedDue.length = 4
    ∧ h.run.snaps.length = 48 ∧ h.run.snapCycle.length = 48 := by
  simp only [Hub.shaped, Bool.and_eq_true, decide_eq_true_eq, and_assoc]

/-! ## The collector -/

@[simp] theorem Collector.edit_sources_length (c : Collector) (s : Nat) (f : SourceRec → SourceRec) : (c.edit s f).sources.length = c.sources.length := by
  simp [Collector.edit]

@[simp] theorem Collector.pulse_sources (c : Collector) (g : CollectorCfg) (s now : Nat) : (c.pulse g s now).sources = c.sources := by
  unfold Collector.pulse; split <;> rfl

@[simp] theorem Collector.pulseEnd_sources (c : Collector) (now : Nat) : (c.pulseEnd now).sources = c.sources := by
  unfold Collector.pulseEnd; split <;> rfl

@[simp] theorem Collector.stamp_sources (c : Collector) (o : Nat) : (c.stamp o).1.sources = c.sources := by
  unfold Collector.stamp; split <;> rfl

@[simp] theorem Collector.acceptGone_sources (c : Collector) (s : Nat) : (c.acceptGone s).sources = c.sources := by
  unfold Collector.acceptGone; split <;> rfl

@[simp] theorem Collector.foldl_acceptGone_sources (g : Nat → Nat) (l : List Nat) (c : Collector) :
    (l.foldl (fun c i => c.acceptGone (g i)) c).sources = c.sources := by
  induction l generalizing c with
  | nil => rfl
  | cons i l ih => exact (ih _).trans (Collector.acceptGone_sources ..)

@[simp] theorem Collector.raiseGone_sources (c : Collector) (s : Nat) : (c.raiseGone s).sources = c.sources := by simp [Collector.raiseGone]

@[simp] theorem Collector.acceptS_sources_length (c : Collector) (g : CollectorCfg) (m : FaultMsg) (i : Bool) (now sec ns : Nat) :
    (c.acceptS g m i now sec ns).1.sources.length = c.sources.length := by
  unfold Collector.acceptS; dsimp only; split <;> simp

@[simp] theorem Collector.acceptD_sources_length (c : Collector) (g : CollectorCfg) (m : FaultMsg) :
    (c.acceptD g m).1.sources.length = c.sources.length := by simp [Collector.acceptD]

@[simp] theorem Collector.accept_sources_length (c : Collector) (g : CollectorCfg) (m : FaultMsg) (i : Bool) (now sec ns : Nat) :
    (c.accept g m i now sec ns).1.sources.length = c.sources.length := by
  unfold Collector.accept; repeat' split
  all_goals simp

@[simp] theorem Collector.acceptFrom_sources_length (c : Collector) (g : CollectorCfg) (b : Nat) (m : FaultMsg) (now sec ns : Nat) :
    (c.acceptFrom g b m now sec ns).1.sources.length = c.sources.length := by
  unfold Collector.acceptFrom; dsimp only; split <;> simp

@[simp] theorem Collector.raise_sources_length (c : Collector) (g : CollectorCfg) (s k a now sec ns : Nat) :
    (c.raise g s k a now sec ns).1.sources.length = c.sources.length := by simp [Collector.raise]

@[simp] theorem Collector.applyStep_sources_length (c : Collector) (g : CollectorCfg) (s step : Nat) (sc : Scope) (banks : List Nat) (now : Nat) :
    (c.applyStep g s step sc banks now).1.sources.length = c.sources.length := by simp [Collector.applyStep]

@[simp] theorem Collector.endSteps_sources_length (c : Collector) (s : Nat) : (c.endSteps s).1.sources.length = c.sources.length := by
  simp [Collector.endSteps]

@[simp] theorem Collector.confirmBank_sources (c : Collector) (b : Nat) : (c.confirmBank b).sources = c.sources := rfl

@[simp] theorem Collector.clearNow_sources_length (c : Collector) (s : Nat) : (c.clearNow s).1.sources.length = c.sources.length := by
  unfold Collector.clearNow; dsimp only; split <;> simp

@[simp] theorem Collector.refuseClear_sources (c : Collector) (s : Nat) : (c.refuseClear s).sources = c.sources := rfl

/-- A fold over collectors with a second result keeps the length of the sources where each of its steps does. -/
theorem Collector.foldl_sources_length {α β : Type} (f : Collector × β → α → Collector × β) (l : List α) (x : Collector × β)
    (hf : ∀ x a, (f x a).1.sources.length = x.1.sources.length) : (l.foldl f x).1.sources.length = x.1.sources.length := by
  induction l generalizing x with
  | nil => rfl
  | cons a l ih => exact (ih (f x a)).trans (hf x a)

@[simp] theorem Collector.clearAll_sources_length (c : Collector) : c.clearAll.1.sources.length = c.sources.length := by
  simp only [Collector.clearAll]
  rw [Collector.foldl_sources_length]
  exact fun x s => Collector.clearNow_sources_length x.1 s

@[simp] theorem Collector.acknowledge_sources_length (c : Collector) (s : Nat) : (c.acknowledge s).sources.length = c.sources.length := by
  unfold Collector.acknowledge; split <;> simp

@[simp] theorem Collector.setCeiling_sources_length (c : Collector) (g : CollectorCfg) (s o n now : Nat) :
    (c.setCeiling g s o n now).sources.length = c.sources.length := by
  unfold Collector.setCeiling; dsimp only; repeat' split
  all_goals simp

@[simp] theorem Collector.foldl_stamp_sources (l : List Nat) (c : Collector) :
    (l.foldl (fun (c : Collector) _ => (c.stamp 4).1) c).sources = c.sources := by
  induction l generalizing c with
  | nil => rfl
  | cons a l ih => rw [List.foldl_cons, ih, Collector.stamp_sources]

@[simp] theorem Collector.setForce_sources_length (c : Collector) (g : CollectorCfg) (v : Word32) (now sec ns : Nat) :
    (c.setForce g v now sec ns).1.sources.length = c.sources.length := by
  simp only [Collector.setForce]
  rw [Collector.foldl_sources_length]
  · simp
  · exact fun x i => Collector.raise_sources_length ..

@[simp] theorem Collector.key_sources (c : Collector) (v k now : Nat) (high : Bool) : (c.key v k now high).sources = c.sources := by
  unfold Collector.key; repeat' split
  all_goals rfl

/-! ## The network stage -/

@[simp] theorem Net.record_rings (n : Net) (short e type w2 w3 : Nat) : (n.record short e type w2 w3).1.rings = n.rings := by
  unfold Net.record; split <;> rfl

@[simp] theorem Net.editPort_rings (n : Net) (i : Nat) (f : Port → Port) : (n.editPort i f).rings = n.rings := by
  unfold Net.editPort; split <;> rfl

@[simp] theorem Net.startPort_rings (n : Net) (i now : Nat) : (n.startPort i now).1.rings = n.rings := by
  unfold Net.startPort; split <;> simp

@[simp] theorem Net.closeQ3_rings (n : Net) (i st ns : Nat) : (n.closeQ3 i st ns).1.rings = n.rings := by simp [Net.closeQ3, Net.rings]

@[simp] theorem Net.popQ3_rings (n : Net) : n.popQ3.rings = n.rings := rfl

@[simp] theorem Net.endQ3_rings (n : Net) (st ns : Nat) : (n.endQ3 st ns).1.rings = n.rings := by simp [Net.endQ3]

@[simp] theorem Net.settleQ3_rings (fuel : Nat) (n : Net) (t : TimeDomains) (lead now : Nat) (lap : Nat → Nat → Int × Bool) (tagged : Nat → Bool) :
    (n.settleQ3 t lead now lap tagged fuel).1.rings = n.rings := by
  induction fuel generalizing n with
  | zero => rfl
  | succ k ih =>
    unfold Net.settleQ3
    split
    · rfl
    · split
      · rfl
      · dsimp only
        split
        · simp [ih]
        · rfl

@[simp] theorem Net.resolveFrom_rings (n : Net) (t : TimeDomains) (l : Lap) (now a k : Nat) : (n.resolveFrom t l now a k).rings = n.rings := rfl
@[simp] theorem Net.freshLaps_rings (n : Net) (a k : Nat) : (n.freshLaps a k).rings = n.rings := rfl

@[simp] theorem Net.resolveLap_rings (n : Net) (t : TimeDomains) (l : Lap) (now : Nat) : (n.resolveLap t l now).rings = n.rings := by
  unfold Net.resolveLap; dsimp only; repeat' split
  all_goals rfl

theorem foldl_editAt_length {α β : Type} (f : β → Nat) (g : β → α → α) (l : List β) (s : List α) :
    (l.foldl (fun s q => editAt s (f q) (g q)) s).length = s.length := by
  induction l generalizing s with
  | nil => rfl
  | cons a l ih => rw [List.foldl_cons, ih, editAt_length]

@[simp] theorem Net.endQ4_rings (n : Net) (i st a : Nat) : (n.endQ4 i st a).rings = n.rings := by
  simp [Net.endQ4, Net.rings, foldl_editAt_length]

@[simp] theorem Net.send_rings (n : Net) (i : Nat) (data : List Byte) : (n.send i data).rings = n.rings := by simp [Net.send]
@[simp] theorem Net.sendGptp_rings (n : Net) (i : Nat) (data : List Byte) : (n.sendGptp i data).rings = n.rings := by simp [Net.sendGptp]

/-- A fold over the network stage keeps the rings where each of its steps does. -/
theorem Net.foldl_rings {α : Type} (f : Net → α → Net) (l : List α) (n : Net) (hf : ∀ n a, (f n a).rings = n.rings) : (l.foldl f n).rings = n.rings := by
  induction l generalizing n with
  | nil => rfl
  | cons a l ih => exact (ih (f n a)).trans (hf n a)

theorem Net.foldl_rings_fst {α β : Type} (f : Net × β → α → Net × β) (l : List α) (x : Net × β) (hf : ∀ x a, (f x a).1.rings = x.1.rings) :
    (l.foldl f x).1.rings = x.1.rings := by
  induction l generalizing x with
  | nil => rfl
  | cons a l ih => exact (ih (f x a)).trans (hf x a)

@[simp] theorem Net.handover_rings (n : Net) (c : NetCfg) (buffer : Nat → List Byte) : (n.handover c buffer).1.rings = n.rings := by
  unfold Net.handover
  split
  · rfl
  · lift_lets
    extract_lets i q4 next data fail egress ports high f m
    have hfail : ∀ code, (fail code).rings = n.rings := fun code => by simp [fail, next, q4, Net.rings]
    split
    · exact hfail 9
    · split
      · exact hfail 6
      · split
        · exact Net.foldl_rings _ _ m fun n p => Net.editPort_rings n p _
        · rfl

@[simp] theorem Net.startFrame_rings (n : Net) (i now p : Nat) (coarse : Bool) (burst : Nat) : (n.startFrame i now p coarse burst).rings = n.rings := by
  unfold Net.startFrame; dsimp only
  split
  · rfl
  · split
    · simp
    · split
      · simp
      · rw [Net.editPort_rings]; split <;> rfl

@[simp] theorem Net.opportunity_rings (n : Net) (c : NetCfg) (i id now p : Nat) (coarse : Bool) : (n.opportunity c i id now p coarse).rings = n.rings := by
  unfold Net.opportunity; repeat' split
  all_goals simp

@[simp] theorem Net.restartPlca_rings (n : Net) (i now : Nat) : (n.restartPlca i now).1.rings = n.rings := by simp [Net.restartPlca]

@[simp] theorem Net.plcaWritten_rings (n : Net) (i now : Nat) : (n.plcaWritten i now).1.rings = n.rings := by
  unfold Net.plcaWritten; split <;> simp

@[simp] theorem Net.lineFree_rings (n : Net) (i now : Nat) : (n.lineFree i now).1.rings = n.rings := by
  unfold Net.lineFree; split <;> simp

@[simp] theorem Net.stamp_rings (n : Net) (i : Nat) (cur : TxCurrent) (q4 : Bool) : (n.stamp i cur q4).1.rings = n.rings := by
  unfold Net.stamp; repeat' split
  all_goals rfl

@[simp] theorem Net.frameEnd_rings (n : Net) (t : TimeDomains) (i now p : Nat) (coarse : Bool) : (n.frameEnd t i now p coarse).1.rings = n.rings := by
  unfold Net.frameEnd
  split
  · rfl
  · dsimp only
    repeat' split
    all_goals simp

@[simp] theorem Net.abortFrame_rings (n : Net) (t : TimeDomains) (i now : Nat) : (n.abortFrame t i now).1.rings = n.rings := by
  unfold Net.abortFrame
  split
  · rfl
  · dsimp only
    split
    · simp
    · split <;> simp

@[simp] theorem Net.launch_rings (n : Net) (t : TimeDomains) (now : Nat) (coarse : Bool) : (n.launch t now coarse).rings = n.rings := by
  unfold Net.launch; repeat' split
  all_goals rfl

@[simp] theorem Net.crossed_rings (n : Net) (before after now : Nat) : (n.crossed before after now).rings = n.rings := by
  unfold Net.crossed; repeat' split
  all_goals rfl

@[simp] theorem Net.retryTimeout_rings (n : Net) (t : TimeDomains) (now : Nat) : (n.retryTimeout t now).1.rings = n.rings := by
  unfold Net.retryTimeout; split <;> simp

@[simp] theorem Net.mediumTimeout_rings (n : Net) (t : TimeDomains) (now : Nat) : (n.mediumTimeout t now).1.rings = n.rings := by
  unfold Net.mediumTimeout
  split
  · dsimp only
    split <;> simp
  · simp

@[simp] theorem Net.learn_rings (n : Net) (i mac now : Nat) : (n.learn i mac now).rings = n.rings := by
  unfold Net.learn; repeat' split
  all_goals rfl

@[simp] theorem Net.badFrame_rings (n : Net) (c : NetCfg) (i now : Nat) : (n.badFrame c i now).1.rings = n.rings := by simp [Net.badFrame]
@[simp] theorem Net.rateAgain_rings (n : Net) (c : NetCfg) (i now : Nat) : (n.rateAgain c i now).1.rings = n.rings := by simp [Net.rateAgain]

@[simp] theorem Net.forward_rings (n : Net) (c : NetCfg) (i : Nat) (data : List Byte) : (n.forward c i data).1.rings = n.rings := by
  unfold Net.forward; dsimp only; repeat' split
  all_goals simp

@[simp] theorem Net.deliver_rings (n : Net) (now short i : Nat) (data : List Byte) (d co : Bool) : (n.deliver now short i data d co).1.rings = n.rings := by
  unfold Net.deliver
  split
  · rfl
  · simp [Net.rings, Ring.push]

@[simp] theorem Net.ingress_rings (n : Net) (c : NetCfg) (i now short : Nat) (frame : List Byte) (e d co : Bool) :
    (n.ingress c i now short frame e d co).1.rings = n.rings := by
  unfold Net.ingress; dsimp only
  split
  · rfl
  · split
    · simp
    · split
      · simp [Net.foldl_rings_fst]
      · simp [Net.foldl_rings_fst]

@[simp] theorem Net.ageOut_rings (n : Net) (c : NetCfg) (mac now : Nat) : (n.ageOut c mac now).rings = n.rings := rfl

@[simp] theorem Net.beaconLost_rings (n : Net) (c : NetCfg) (i now : Nat) : (n.beaconLost c i now).1.rings = n.rings := by
  unfold Net.beaconLost; dsimp only; split <;> simp

@[simp] theorem Net.beaconSeen_rings (n : Net) (c : NetCfg) (i now : Nat) : (n.beaconSeen c i now).1.rings = n.rings := by
  unfold Net.beaconSeen; dsimp only; split <;> simp

@[simp] theorem Net.ite_endQ3_rings (n : Net) (b : Bool) (st ns : Nat) : (if b then n.endQ3 st ns else (n, [])).1.rings = n.rings := by
  split <;> simp

@[simp] theorem Net.stopPort_rings (n : Net) (t : TimeDomains) (i : Nat) (inReset : Bool) : (n.stopPort t i inReset).1.rings = n.rings := by
  unfold Net.stopPort
  dsimp only
  split
  · split <;> simp
  · refine (Net.editPort_rings _ i _).trans ((Net.ite_endQ3_rings ..).trans ((Net.foldl_rings_fst _ _ _ fun x f => ?_).trans
      (Net.foldl_rings _ _ _ fun m f => ?_)))
    all_goals split <;> simp

@[simp] theorem Net.wakeQ3_rings (n : Net) (now : Nat) : (n.wakeQ3 now).1.rings = n.rings := by
  unfold Net.wakeQ3
  split
  · split
    · split
      · rfl
      · exact Net.endQ3_rings ..
    · rfl
  · rfl

@[simp] theorem Net.skipQ5_rings (fuel : Nat) (n : Net) : (n.skipQ5 fuel).rings = n.rings := by
  induction fuel generalizing n with
  | zero => rfl
  | succ k ih =>
    unfold Net.skipQ5; dsimp only
    split
    · rfl
    · split
      · exact ih _
      · rfl

theorem Net.shaped_of_index {n m : Net} (h3 : m.q3.slots.length = n.q3.slots.length) (hp : n.q3.prod < 16 → m.q3.prod < 16)
    (h4 : m.q4.slots.length = n.q4.slots.length) (h5 : m.q5.slots.length = n.q5.slots.length) (hc : n.classify < 64 → m.classify < 64)
    (h : n.shaped = true) : m.shaped = true := by
  simp only [Net.shaped, Bool.and_eq_true, decide_eq_true_eq] at h ⊢
  obtain ⟨⟨⟨⟨a, b⟩, c⟩, d⟩, e⟩ := h
  exact ⟨⟨⟨⟨h3.trans a, hp b⟩, h4.trans c⟩, h5.trans d⟩, hc e⟩

theorem Net.classifyAs_shaped (n : Net) (d : Nat) (h : n.shaped = true) : (n.classifyAs d).1.shaped = true := by
  unfold Net.classifyAs
  split
  · exact h
  · rw [Net.shaped_of_rings (Net.skipQ5_rings ..)]
    exact Net.shaped_of_index (n := n) rfl id rfl (editAt_length ..) (fun _ => Nat.mod_lt _ (by decide)) h

end Sys2Proof.Machine
end


section
/-! The shape of the hub: what the operations over the whole hub leave of it. -/

namespace Sys2Proof.Machine

/-! ## Folds -/

/-- A fold over hubs keeps the sizes where each of its steps does. -/
theorem Hub.foldl_sizes {α : Type} (f : Hub → α → Hub) (l : List α) (h : Hub) (hf : ∀ h a, (f h a).sizes = h.sizes) : (l.foldl f h).sizes = h.sizes := by
  induction l generalizing h with
  | nil => rfl
  | cons a l ih => exact (ih (f h a)).trans (hf h a)

theorem Hub.foldl_sizes_fst {α β : Type} (f : Hub × β → α → Hub × β) (l : List α) (x : Hub × β) (hf : ∀ x a, (f x a).1.sizes = x.1.sizes) :
    (l.foldl f x).1.sizes = x.1.sizes := by
  induction l generalizing x with
  | nil => rfl
  | cons a l ih => exact (ih (f x a)).trans (hf x a)

/-! ## Links and the runtime -/

@[simp] theorem Hub.onLink_sizes (h : Hub) (b : Nat) (f : Link → Link) : (h.onLink b f).sizes = h.sizes := by simp [Hub.sizes]

@[simp] theorem Hub.onRun_sizes (h : Hub) (f : Run → Run) (hf : (f h.run).sizes = h.run.sizes) : (h.onRun f).sizes = h.sizes := by
  simp [Hub.sizes, hf]

@[simp] theorem Hub.onTeam_sizes (h : Hub) (f : Team → Team) (hf : (f h.run.team).members.length = h.run.team.members.length) :
    (h.onTeam f).sizes = h.sizes := Hub.onRun_sizes h _ (by simp [Run.sizes, hf])

@[simp] theorem Hub.order_sizes (os : List Order) (h : Hub) : (h.order os).1.sizes = h.sizes := by
  induction os generalizing h with
  | nil => rfl
  | cons o os ih =>
    unfold Hub.order
    split
    · exact (ih _).trans (Hub.onLink_sizes ..)
    · exact ih h

@[simp] theorem Hub.order_links_length (os : List Order) (h : Hub) : (h.order os).1.links.length = h.links.length :=
  (Hub.sizes_eq.mp (Hub.order_sizes os h)).1

@[simp] theorem Hub.order_views (os : List Order) (h : Hub) : (h.order os).1.views = h.views := by rw [Hub.order_rest]
@[simp] theorem Hub.order_run (os : List Order) (h : Hub) : (h.order os).1.run = h.run := by rw [Hub.order_rest]
@[simp] theorem Hub.order_collector (os : List Order) (h : Hub) : (h.order os).1.collector = h.collector := by rw [Hub.order_rest]
@[simp] theorem Hub.order_net (os : List Order) (h : Hub) : (h.order os).1.net = h.net := by rw [Hub.order_rest]

@[simp] theorem Hub.setPending_sizes (h : Hub) (n : Nat) : (h.setPending n).sizes = h.sizes := rfl
@[simp] theorem Hub.onStore_sizes (h : Hub) (f : StoreWork → StoreWork) : (h.onStore f).sizes = h.sizes := rfl
@[simp] theorem Hub.touch_sizes (h : Hub) (now : Nat) : (h.touch now).sizes = h.sizes := rfl
@[simp] theorem Hub.put_sizes (h : Hub) (idx sub v : Nat) (acts : Bool) : (h.put idx sub v acts).sizes = h.sizes := rfl
@[simp] theorem Hub.onDog_sizes (h : Hub) (f : Watchdog → Watchdog) : (h.onDog f).sizes = h.sizes := rfl
@[simp] theorem Hub.plan_sizes (h : Hub) (p : Planned) : (h.plan p).sizes = h.sizes := rfl
@[simp] theorem Hub.onMigration_sizes (h : Hub) (f : Migration → Migration) : (h.onMigration f).sizes = h.sizes := rfl
@[simp] theorem Hub.dropPermit_sizes (h : Hub) : h.dropPermit.sizes = h.sizes := rfl
@[simp] theorem Hub.landsLow_sizes (h : Hub) : h.landsLow.sizes = h.sizes := rfl
@[simp] theorem Hub.beginFlush_sizes (h : Hub) : h.beginFlush.sizes = h.sizes := rfl
@[simp] theorem Hub.takeItem_sizes (h : Hub) (f : NetItem → Bool) : (h.takeItem f).sizes = h.sizes := rfl
@[simp] theorem Hub.releaseQ5_sizes (h : Hub) : h.releaseQ5.sizes = h.sizes := rfl
@[simp] theorem Hub.noteAgreement_sizes (h : Hub) (b : Nat) (c : BankCore) (now : Nat) : (h.noteAgreement b c now).sizes = h.sizes := rfl

@[simp] theorem Hub.pop_sizes (h : Hub) (via : Transport) : (h.pop via).sizes = h.sizes := by cases via <;> rfl

@[simp] theorem Hub.onSession_sizes (h : Hub) (n : Nat) (f : Session → Session) : (h.onSession n f).sizes = h.sizes :=
  Hub.onRun_sizes h _ (by simp [Run.sizes_eq])

@[simp] theorem Hub.closeSession_sizes (h : Hub) (n : Nat) : (h.closeSession n).sizes = h.sizes :=
  (Hub.onRun_sizes _ _ (by simp [Run.sizes_eq])).trans (Hub.onSession_sizes h n _)

@[simp] theorem Hub.closeSessions_sizes (h : Hub) (ns : List Nat) : (h.closeSessions ns).sizes = h.sizes :=
  Hub.foldl_sizes _ ns h Hub.closeSession_sizes

@[simp] theorem Hub.setSlot_sizes (h : Hub) (i v : Nat) : (h.setSlot i v).sizes = h.sizes := Hub.onRun_sizes h _ (by simp [Run.sizes_eq])
@[simp] theorem Hub.setService_sizes (h : Hub) (b : Nat) (m : ServiceMode) : (h.setService b m).sizes = h.sizes := Hub.onRun_sizes h _ (by simp [Run.sizes_eq])
@[simp] theorem Hub.setShedDue_sizes (h : Hub) (b t : Nat) : (h.setShedDue b t).sizes = h.sizes := Hub.onRun_sizes h _ (by simp [Run.sizes_eq])

@[simp] theorem Run.heldSent_sizes (r : Run) (out : List (List Byte)) (now : Nat) : (r.heldSent out now).sizes = r.sizes := by
  simp [Run.heldSent, Run.sizes_eq]

@[simp] theorem Hub.forgetBank_sizes (h : Hub) (b : Nat) : (h.forgetBank b).sizes = h.sizes := by simp [Hub.forgetBank, Hub.sizes]

@[simp] theorem Hub.claimShed_sizes (h : Hub) (b : Nat) (c : BankCore) (now : Nat) : (h.claimShed b c now).sizes = h.sizes := by
  simp [Hub.claimShed, Run.sizes_eq]

/-! ## Frames -/

@[simp] theorem Hub.sendFrame_sizes (h : Hub) (dst : Nat) (frame : List Byte) : (h.sendFrame dst frame).sizes = h.sizes := by
  simp [Hub.sendFrame, Hub.sizes, Net.foldl_rings]

@[simp] theorem Hub.sendIp_sizes (h : Hub) (mac proto dst : Nat) (payload : List Byte) : (h.sendIp mac proto dst payload).sizes = h.sizes := by
  simp [Hub.sendIp, Run.sizes_eq]

@[simp] theorem Hub.sendNet_sizes (h : Hub) (p : NetPath) (data : List Byte) : (h.sendNet p data).sizes = h.sizes := by
  unfold Hub.sendNet; split <;> simp

@[simp] theorem Net.postQ1_rings (n : Net) (now : Nat) (data : List Byte) : (n.postQ1 now data).rings = n.rings := rfl

@[simp] theorem Hub.sendGptp_sizes (h : Hub) (n k now : Nat) (frames : List (List Byte)) : (h.sendGptp n k now frames).sizes = h.sizes := by
  simp [Hub.sendGptp, Hub.sizes, Net.foldl_rings]

theorem foldl_editAt_ring_length {α : Type} (ring at_ : Nat) (l : List (Nat × α)) (s : List α) :
    (l.foldl (fun l e => editAt l ((at_ + e.1) % ring) fun _ => e.2) s).length = s.length :=
  foldl_editAt_length (fun e : Nat × α => (at_ + e.1) % ring) (fun e _ => e.2) l s

@[simp] theorem Net.writeEntries_rings (n : Net) (k a : Nat) (entries : List Nat) : (n.writeEntries k a entries).rings = n.rings := by
  unfold Net.writeEntries; dsimp only; split <;> simp [Net.rings, foldl_editAt_ring_length]

/-! ## Schedules -/

@[simp] theorem Hub.onSchedule_sizes (h : Hub) (n : Nat) (f : Schedule → Schedule) : (h.onSchedule n f).sizes = h.sizes :=
  Hub.onRun_sizes h _ (by simp [Run.sizes_eq])

@[simp] theorem Hub.resolveAt_sizes (h : Hub) (n cycle a : Nat) : (h.resolveAt n cycle a).sizes = h.sizes := by simp [Hub.resolveAt, Run.sizes_eq]
@[simp] theorem Hub.dropSchedule_sizes (h : Hub) (n : Nat) : (h.dropSchedule n).1.sizes = h.sizes := by simp [Hub.dropSchedule]

@[simp] theorem Hub.scheduleResolve_sizes (h : Hub) (n cycle now : Nat) : (h.scheduleResolve n cycle now).1.sizes = h.sizes := by
  unfold Hub.scheduleResolve; dsimp only; repeat' split
  all_goals simp

@[simp] theorem Hub.scheduleReport_sizes (h : Hub) (bank n : Nat) (ran : Bool) : (h.scheduleReport bank n ran).1.sizes = h.sizes := by
  unfold Hub.scheduleReport; dsimp only; repeat' split
  all_goals simp [Run.sizes_eq]

@[simp] theorem Hub.scheduleActs_sizes (h : Hub) (n tag : Nat) : (h.scheduleActs n tag).sizes = h.sizes := Hub.onSchedule_sizes ..

@[simp] theorem Hub.rebaseSchedules_sizes (h : Hub) (shift : Nat) : (h.rebaseSchedules shift).sizes = h.sizes :=
  Hub.foldl_sizes _ _ h fun h n => by dsimp only; repeat' split
                                      all_goals simp

/-! ## Team -/

@[simp] theorem Hub.onMember_sizes (h : Hub) (m : Nat) (f : Member → Member) : (h.onMember m f).sizes = h.sizes := Hub.onTeam_sizes h _ (by simp)
@[simp] theorem Hub.onIntents_sizes (h : Hub) (f : Intent → Intent) : (h.onIntents f).sizes = h.sizes := rfl
@[simp] theorem Hub.rebook_sizes (before h : Hub) : (before.rebook h).sizes = h.sizes := by unfold Hub.rebook; split <;> rfl
@[simp] theorem Hub.teamHeard_sizes (h : Hub) (mac : Nat) (header : List Byte) : (h.teamHeard mac header).sizes = h.sizes := rfl

@[simp] theorem Hub.sendTeam_sizes (h : Hub) (type : Nat) (body : List Byte) : (h.sendTeam type body).sizes = h.sizes := by
  unfold Hub.sendTeam; split <;> simp

@[simp] theorem Hub.dropProposal_sizes (h : Hub) (lane : Nat) : (h.dropProposal lane).1.sizes = h.sizes := by
  unfold Hub.dropProposal; split <;> simp

@[simp] theorem Hub.undo_sizes (h : Hub) (f : Intent → Nat → IntentEntry → Bool) : (h.undo f).1.sizes = h.sizes := rfl

@[simp] theorem Hub.defer_sizes (h : Hub) (p : Proposal) : (h.defer p).1.sizes = h.sizes := by
  unfold Hub.defer; dsimp only; repeat' split
  all_goals simp

@[simp] theorem Hub.queueProposal_sizes (h : Hub) (p : Proposal) : (h.queueProposal p).1.sizes = h.sizes := by
  unfold Hub.queueProposal; dsimp only; split <;> simp

@[simp] theorem Hub.commitEntry_sizes (h : Hub) (i : Intent) (now : Nat) (e : IntentEntry) : (h.commitEntry i now e).1.sizes = h.sizes := by
  unfold Hub.commitEntry; dsimp only; repeat' split
  all_goals simp

@[simp] theorem Hub.actOnCommit_sizes (h : Hub) (i : Intent) (now : Nat) (which : IntentEntry → Bool) : (h.actOnCommit i now which).1.sizes = h.sizes :=
  Hub.foldl_sizes_fst _ _ (h, []) fun x e => Hub.commitEntry_sizes x.1 i now e

@[simp] theorem Hub.resolveCommitted_sizes (h : Hub) (n now : Nat) : (h.resolveCommitted n now).1.sizes = h.sizes :=
  Hub.foldl_sizes_fst _ _ (h, []) fun x i => Hub.actOnCommit_sizes x.1 i now _

@[simp] theorem Hub.intentReached_sizes (h : Hub) : h.intentReached.sizes = h.sizes := by
  simp only [Hub.intentReached]
  rw [Hub.onTeam_sizes _ _ rfl]
  refine Hub.foldl_sizes _ _ h fun h i => Hub.foldl_sizes _ _ h fun h e => ?_
  split <;> simp

@[simp] theorem Hub.commitMissing_sizes (h : Hub) : h.commitMissing.1.sizes = h.sizes := by
  simp only [Hub.commitMissing]
  rw [Hub.foldl_sizes_fst]
  · rfl
  · intro x i
    rw [Hub.foldl_sizes_fst]
    exact fun y e => Hub.dropProposal_sizes y.1 e.lane

@[simp] theorem Hub.takeProposal_sizes (h : Hub) (p : Proposal) : (h.takeProposal p).sizes = h.sizes := by
  unfold Hub.takeProposal; dsimp only; split <;> rfl

@[simp] theorem Hub.publish_sizes (h : Hub) : h.publish.1.sizes = h.sizes := by
  simp only [Hub.publish]
  rw [Hub.onTeam_sizes _ _ rfl, Hub.onIntents_sizes, Hub.foldl_sizes _ _ _ fun h i => Hub.sendTeam_sizes h 7 _, Hub.foldl_sizes_fst]
  · rfl
  · intro x p
    split <;> simp

@[simp] theorem Hub.sendCommits_sizes (h : Hub) (now : Nat) : (h.sendCommits now).1.sizes = h.sizes :=
  Hub.foldl_sizes_fst _ _ (h, []) fun x i => by simp

@[simp] theorem Hub.withdrawDropped_sizes (h : Hub) (lane : Nat) : (h.withdrawDropped lane).1.sizes = h.sizes := by simp [Hub.withdrawDropped]

@[simp] theorem Hub.hear_sizes (h : Hub) (fr : TeamFrame) (now : Nat) : (h.hear fr now).sizes = h.sizes := by unfold Hub.hear; split <;> simp
@[simp] theorem Hub.followPacer_sizes (h : Hub) (m : Nat) : (h.followPacer m).sizes = h.sizes := by simp [Hub.followPacer]
@[simp] theorem Hub.noteStatus_sizes (fr : TeamFrame) (now : Nat) (h : Hub) : (h.noteStatus fr now).sizes = h.sizes := by
  unfold Hub.noteStatus; split <;> simp
@[simp] theorem Hub.forgetMember_sizes (h : Hub) (m : Nat) : (h.forgetMember m).sizes = h.sizes := by simp [Hub.forgetMember]

/-! ## Queue indices -/

/-- The index of a queue, written below the number of its entries, keeps the shape. -/
theorem Net.setIndex_shaped (n : Net) (q v : Nat) (hv : q = 3 → v < 16) (h : n.shaped = true) : (n.setIndex q v).shaped = true := by
  unfold Net.setIndex
  split
  case h_3 => exact Net.shaped_of_index (n := n) rfl (fun _ => hv rfl) rfl rfl id h
  case h_5 => exact (Net.shaped_of_rings (Net.skipQ5_rings ..)).trans h
  all_goals exact h

/-- An index that is accepted lies within the ring. -/
theorem Net.lt_of_indexStatus {n : Net} {q sub v : Nat} (h : n.indexStatus q sub v = 0) : v < ringSize q := by
  unfold Net.indexStatus producerStatus consumerStatus at h
  by_contra hv
  have hv : ringSize q ≤ v := Nat.le_of_not_lt hv
  simp [hv] at h

theorem Hub.acceptQ3_shaped (h : Hub) (v now : Nat) (hv : v < 16) (hn : h.net.shaped = true) : (h.acceptQ3 v now).shaped = true :=
  (Net.shaped_of_rings (Net.resolveFrom_rings ..)).trans (Net.setIndex_shaped _ 3 v (fun _ => hv) hn)

/-- The hub after an accepted write of an index (R367), before Q5 and Q3 act on it. -/
theorem Hub.indexed_formed (h : Hub) (q v now : Nat) (hv : v < ringSize q) (hf : h.formed) :
    Hub.formed { h with net := if q = 3 then h.acceptQ3 v now else h.net.setIndex q v } := by
  refine ⟨hf.1, ?_⟩
  dsimp only
  split
  case isTrue e => subst e; exact Hub.acceptQ3_shaped h v now hv hf.2
  case isFalse e => exact Net.setIndex_shaped _ q v (fun e' => absurd e' e) hf.2

end Sys2Proof.Machine
end


section
/-! What the operations over the whole state leave: banks, supplies, lands and buffers, unless they are named as loose (R16, R20, R369), and the
shape of the hub. -/

namespace Sys2Proof.Machine

theorem State.slotStates_length (s : State) : s.slotStates.1.length = 2 := by
  unfold State.slotStates
  dsimp only
  split
  · split <;> rfl
  · rfl

/-- The places outside the hub that a command may change. -/
structure Places where
  banks : Bool := false
  pwr   : Bool := false
  lands : Bool := false
  bufs  : Bool := false

/-- `t` follows from `s`: what `k` does not name is as it was, and the banks keep their shape and their course, and the hub its shape. -/
structure State.Within (κ : Places) (s t : State) : Prop where
  banks  : κ.banks = false → t.banks = s.banks
  pwr    : κ.pwr = false → t.pwr = s.pwr
  lands  : κ.lands = false → t.lands = s.lands
  bufs   : κ.bufs = false → t.bufs = s.bufs
  shaped : s.shaped = true → t.shaped = true
  course : s.onCourse = true → t.onCourse = true
  formed : s.hub.formed → t.hub.formed

namespace State.Within

variable {κ : Places} {s₀ s t : State}

theorem refl (s : State) : s.Within κ s where
  banks _ := rfl
  pwr _ := rfl
  lands _ := rfl
  bufs _ := rfl
  shaped := id
  course := id
  formed := id

theorem trans (h : s₀.Within κ s) (g : s.Within κ t) : s₀.Within κ t where
  banks e := (g.banks e).trans (h.banks e)
  pwr e := (g.pwr e).trans (h.pwr e)
  lands e := (g.lands e).trans (h.lands e)
  bufs e := (g.bufs e).trans (h.bufs e)
  shaped := g.shaped ∘ h.shaped
  course := g.course ∘ h.course
  formed := g.formed ∘ h.formed

/-- A new hub of the shape of the old one, beside what is no place. -/
theorem reshape {p : List Instr} {n f r : Nat} {m : Mram} {hub : Hub} {d : List Host.Cell} (h : s₀.Within κ s) (hf : s.hub.formed → hub.formed) :
    s₀.Within κ (State.mk p n f r s.pwr s.lands m s.banks hub s.bufs d) :=
  h.trans { refl s with formed := hf }

/-- A new hub of the sizes of the old one, beside what is no place. -/
theorem put {p : List Instr} {n f r : Nat} {m : Mram} {hub : Hub} {d : List Host.Cell} (h : s₀.Within κ s) (e : hub.sizes = s.hub.sizes := by simp [Hub.sizes_eq, Run.sizes_eq, Net.rings_eq]) :
    s₀.Within κ (State.mk p n f r s.pwr s.lands m s.banks hub s.bufs d) :=
  h.reshape (Hub.formed_of_sizes e)

theorem onHub {f : Hub → Hub} (h : s₀.Within κ s) (e : (f s.hub).sizes = s.hub.sizes := by simp [Hub.sizes_eq, Run.sizes_eq, Net.rings_eq]) : s₀.Within κ (s.onHub f) :=
  h.put e

/-- The hub changes within its shape. -/
theorem reform {f : Hub → Hub} (h : s₀.Within κ s) (hf : s.hub.formed → (f s.hub).formed) : s₀.Within κ (s.onHub f) := h.reshape hf

theorem onBank {b : Nat} {f : Bank → Bank} (h : s₀.Within κ s) (hk : κ.banks = true) (hf : ∀ x, Bank.Follows x (f x)) : s₀.Within κ (s.onBank b f) :=
  h.trans { refl s with
    banks := fun e => by simp [hk] at e
    shaped := by
      simp only [State.shaped, State.onBank_banks, editAt_length, Bool.and_eq_true]
      exact fun a => ⟨a.1, all_editAt _ b f a.2 fun x _ => (hf x).1⟩
    course := fun a => all_editAt _ b f a fun x _ => (hf x).2 }

theorem onBanks {f : Nat → Bank → Bank} (h : s₀.Within κ s) (hk : κ.banks = true) (hf : ∀ b x, Bank.Follows x (f b x)) : s₀.Within κ (s.onBanks f) :=
  h.trans { refl s with
    banks := fun e => by simp [hk] at e
    shaped := by
      simp only [State.shaped, State.onBanks_banks, mapFrom_length, Bool.and_eq_true]
      exact fun a => ⟨a.1, all_mapFrom f 0 _ a.2 fun b x => (hf b x).1⟩
    course := fun a => all_mapFrom f 0 _ a fun b x => (hf b x).2 }

theorem onLands {l : Lands} (h : s₀.Within κ s) (hk : κ.lands = true) : s₀.Within κ { s with lands := l } :=
  h.trans { refl s with lands := fun e => by simp [hk] at e }

theorem onPwr {w : Supplies} (h : s₀.Within κ s) (hk : κ.pwr = true) : s₀.Within κ { s with pwr := w } :=
  h.trans { refl s with pwr := fun e => by simp [hk] at e }

theorem writeBuf (a : Nat) (data : List Byte) (h : s₀.Within κ s) (hk : κ.bufs = true) : s₀.Within κ (s.writeBuf a data) :=
  h.trans { refl s with bufs := fun e => by simp [hk] at e }

theorem writeSlot (i a : Nat) (data : List Byte) (h : s₀.Within κ s) : s₀.Within κ (s.writeSlot i a data) := h.put rfl
theorem eraseSlot (i : Nat) (h : s₀.Within κ s) : s₀.Within κ (s.eraseSlot i) := h.put rfl
theorem drawBit (h : s₀.Within κ s) : s₀.Within κ s.drawBit.1 := h.put rfl
theorem drawBytes (n : Nat) (h : s₀.Within κ s) : s₀.Within κ (s.drawBytes n).1 := h.put rfl

theorem foldl {α : Type} {f : State → α → State} (l : List α) (h : s₀.Within κ s) (hf : ∀ s a, s₀.Within κ s → s₀.Within κ (f s a)) :
    s₀.Within κ (l.foldl f s) := by
  induction l generalizing s with
  | nil => exact h
  | cons a l ih => exact ih (hf s a h)

theorem foldl_fst {α β : Type} {f : State × β → α → State × β} (l : List α) {x : State × β} (h : s₀.Within κ x.1)
    (hf : ∀ x a, s₀.Within κ x.1 → s₀.Within κ (f x a).1) : s₀.Within κ (l.foldl f x).1 := by
  induction l generalizing x with
  | nil => exact h
  | cons a l ih => exact ih (hf x a h)

theorem ite {p : Prop} [Decidable p] (h : s₀.Within κ s) (g : s₀.Within κ t) : s₀.Within κ (if p then s else t) := by
  split
  · exact h
  · exact g

/-! ## Resets and reports -/

theorem hubReset (cause : Nat) (h : s₀.Within κ s) : s₀.Within κ (s.hubReset cause) :=
  h.reshape fun _ => ⟨rfl, rfl⟩

theorem hubResetFree (cause : Nat) (h : s₀.Within κ s) : s₀.Within κ (s.hubResetFree cause) :=
  hubReset cause (h.drawBit.drawBit.put rfl)

theorem record (n type w2 w3 : Nat) (h : s₀.Within κ s) : s₀.Within κ (s.record n type w2 w3).1 := by
  unfold State.record
  dsimp only
  split
  · exact h.put (by simp [Hub.sizes_eq, Hub.setPending])
  · exact h.put rfl

theorem handle (d : Nat) (n : Notice) (h : s₀.Within κ s) : s₀.Within κ (State.handle d s n) := by
  induction d generalizing s n with
  | zero => exact h
  | succ d ih =>
    unfold State.handle
    cases n <;> dsimp only
    case fault source kind address =>
      split
      · exact foldl _ (h.put (by simp [Hub.sizes_eq])) fun s a => ih a
      · exact h
    case gone source =>
      split
      · exact h.put (by simp [Hub.sizes_eq])
      · exact h
    case event e idx sub => exact ite (ih _ (h.record ..)) (h.record ..)
    case faultEvent e m => exact ite (ih _ (h.record ..)) (h.record ..)
    case journal cls code payload =>
      split
      · split
        · exact h.put rfl
        · exact ih _ (h.put rfl)
      · exact h
    case resetHub cause => exact h.hubResetFree cause

theorem notify (ns : List Notice) (h : s₀.Within κ s) : s₀.Within κ (s.notify ns) := foldl _ h fun _ n hs => handle 6 n hs

theorem after {f : Hub → Hub} (ns : List Notice) (h : s₀.Within κ s) (e : (f s.hub).sizes = s.hub.sizes := by simp [Hub.sizes_eq, Run.sizes_eq, Net.rings_eq]) : s₀.Within κ (s.after f ns) :=
  (h.onHub e).notify ns

theorem after_reform {f : Hub → Hub} (ns : List Notice) (h : s₀.Within κ s) (hf : s.hub.formed → (f s.hub).formed) : s₀.Within κ (s.after f ns) :=
  (h.reform hf).notify ns

end State.Within
end Sys2Proof.Machine
end


section
/-! What the store, the responses, the team and the writes of lanes and of the map leave (R16, R20). -/

-- One proof after the other: side by side these proofs ask for more threads than the check has memory for.
set_option Elab.async false

namespace Sys2Proof.Machine
namespace State.Within
variable {κ : Places} {s₀ s : State}

/-! ## The store, the journal and the responses -/

theorem storeSave (h : s₀.Within κ s) : s₀.Within κ (State.storeSave s) := by
  unfold State.storeSave
  dsimp only
  split
  · exact h.onHub
  · split <;> exact h.onHub

theorem storeNext (h : s₀.Within κ s) : s₀.Within κ (State.storeNext s) := by
  unfold State.storeNext
  dsimp only
  split
  · exact h
  · split
    · exact h.storeSave
    · split
      · exact h
      · exact h.onHub

theorem flushDone (h : s₀.Within κ s) : s₀.Within κ (State.flushDone s) := by
  unfold State.flushDone
  exact ite (h.onHub.notify _) h

theorem storeDone (verified : Bool) (h : s₀.Within κ s) : s₀.Within κ (State.storeDone s verified) := by
  unfold State.storeDone
  dsimp only
  split
  · exact h
  · split
    · exact h.put.notify _
    · split
      · exact (onHub h.put (by simp [Hub.onStore, Hub.sizes_eq, Run.sizes_eq])).storeNext
      · exact (h.put.notify _).storeNext

theorem journalWrite (h : s₀.Within κ s) : s₀.Within κ (State.journalWrite s) := by
  unfold State.journalWrite
  split
  · exact h
  · exact ite h h.put.storeNext.flushDone

theorem post (data : List Byte) (h : s₀.Within κ s) : s₀.Within κ (State.post s data) := by
  unfold State.post
  split
  · exact h.onHub
  · exact ite (h.onHub.notify _) h.onHub

theorem sendTo (path : Option NetPath) (data : List Byte) (h : s₀.Within κ s) : s₀.Within κ (State.sendTo s path data) := by
  unfold State.sendTo
  split
  · exact h.post data
  · exact h.onHub

theorem doAfter (a : After) (h : s₀.Within κ s) : s₀.Within κ (State.doAfter s a) := by
  unfold State.doAfter
  have hp : s₀.Within κ (s.onHub fun h => a.puts.foldl (fun h p => (h.put p.1 p.2.1 p.2.2 true).touch s.now) h) :=
    h.onHub (Hub.foldl_sizes _ _ _ fun _ _ => rfl)
  exact (ite hp.storeSave hp).onHub

theorem flush (n : Nat) (h : s₀.Within κ s) : s₀.Within κ (State.flush s n) := by
  unfold State.flush
  exact ite h (foldl _ h.onHub fun s r hs => (hs.sendTo ..).doAfter _)

theorem build (o : Origin) (body : List Byte) (h : s₀.Within κ s) : s₀.Within κ (State.build s o body).1 := by
  unfold State.build
  dsimp only
  split
  · exact h
  · split
    · exact h
    · exact h.drawBytes _

theorem answerNow (o : Origin) (status : Nat) (fields : List Byte) (after : After) (h : s₀.Within κ s) :
    s₀.Within κ (State.answerNow s o status fields after) := by
  unfold State.answerNow
  exact (((h.onHub).build ..).sendTo ..).doAfter _

theorem respond (o : Origin) (status : Nat) (fields : List Byte) (after : After) (h : s₀.Within κ s) :
    s₀.Within κ (State.respond s o status fields after) := by
  unfold State.respond
  split
  · exact h.onHub.doAfter after
  · split
    · exact h.answerNow ..
    · have hb := h.build o (responseBody status fields)
      revert hb
      dsimp only
      generalize s.build o (responseBody status fields) = b
      exact fun hb => (hb.onHub (by simp [Hub.onSession, Hub.sizes_eq, Run.sizes_eq])).flush _

theorem accept (h : s₀.Within κ s) : s₀.Within κ (State.accept s).state :=
  h

theorem deny (code : Nat) (h : s₀.Within κ s) : s₀.Within κ (State.deny s code).state :=
  h

/-- A value that is refused, or what else is done with it. -/
theorem denyIf {p : Prop} [Decidable p] {code : Nat} {w : Written} (h : s₀.Within κ s) (g : s₀.Within κ w.state) :
    s₀.Within κ (if p then State.deny s code else w).state := by
  split
  · exact h
  · exact g

theorem await (ids : List (Nat × Nat)) (h : s₀.Within κ s) : s₀.Within κ (State.await s ids).state :=
  h

theorem command (orders : List Order) (h : s₀.Within κ s) : s₀.Within κ (State.command s orders).state :=
  h.put

theorem finish (o : Origin) {w : Written} (h : s₀.Within κ w.state) : s₀.Within κ (w.finish o) := by
  unfold Written.finish
  split
  · exact h.onHub
  · exact h.respond ..

theorem answerWaiting (done : List (Nat × Nat)) (status : Nat) (h : s₀.Within κ s) : s₀.Within κ (State.answerWaiting s done status) := by
  unfold State.answerWaiting
  exact foldl _ h.onHub fun s w hs => hs.respond ..

/-! ## The team -/

theorem join (pacer : Nat) (h : s₀.Within κ s) : s₀.Within κ (State.join s pacer) := by
  unfold State.join
  exact h.onHub

theorem form (h : s₀.Within κ s) : s₀.Within κ (State.form s) := by
  unfold State.form
  exact h.onHub

theorem cancel (reason : Nat) (f : IntentEntry → Bool) (h : s₀.Within κ s) : s₀.Within κ (State.cancel s reason f) := by
  unfold State.cancel
  split
  · exact h.onHub
  · exact (foldl _ h fun s i hs => hs.onHub).put.notify _

theorem propose (lane : Nat) (h : s₀.Within κ s) : s₀.Within κ (State.propose s lane) := by
  unfold State.propose
  dsimp only
  split
  · split
    · exact h.onHub.put.notify _
    · split
      · exact h.onHub.put.notify _
      · exact ite h.onHub.onHub h.onHub
  · exact h

theorem elect (h : s₀.Within κ s) : s₀.Within κ (State.elect s).1 := by
  unfold State.elect
  dsimp only
  split
  · exact h.form
  · split
    · exact foldl _ h.onHub fun s n hs => hs.propose n
    · dsimp only
      exact h.onHub

theorem withdraw (lane : Nat) (h : s₀.Within κ s) : s₀.Within κ (State.withdraw s lane) := by
  unfold State.withdraw
  dsimp only
  split
  · exact h
  · split
    · exact h.onHub.onHub.cancel ..
    · exact h.onHub.onHub

theorem judge (h : s₀.Within κ s) : s₀.Within κ (State.judge s).1 := by
  unfold State.judge
  have hs : s₀.Within κ (s.onHub fun h => h.onTeam fun t =>
    { t with badHash := decide (t.mode = .member ∨ t.mode = .outOfAgreement) && decide (h.teamHash ≠ s.hub.refHash s.now) }) := h.onHub
  dsimp only
  split
  · dsimp only
    exact (hs.put (Hub.foldl_sizes_fst _ _ _ fun x n => by simp)).onHub
  · split
    · dsimp only
      exact hs.onHub
    · split
      · exact (hs.cancel ..).form
      · exact hs

theorem teamSince (old : State) (f : State → State × List Notice) (hf : s₀.Within κ (f s).1) : s₀.Within κ (State.teamSince old s f) := by
  unfold State.teamSince
  exact (hf.judge.put (Hub.rebook_sizes ..)).onHub.notify _

theorem team (f : State → State × List Notice) (hf : s₀.Within κ (f s).1) : s₀.Within κ (State.team s f) :=
  teamSince s f hf

/-! ## Lanes -/

theorem keep (r : ObjRow) (idx sub v : Nat) (h : s₀.Within κ s) : s₀.Within κ (State.keep s r idx sub v) := by
  unfold State.keep
  exact h.onHub (by dsimp only; split <;> rfl)

theorem cancelSchedule (n : Nat) (h : s₀.Within κ s) : s₀.Within κ (State.cancelSchedule s n).1 := by
  unfold State.cancelSchedule
  dsimp only
  split
  · dsimp only
    exact (h.withdraw n).onHub
  · split
    · dsimp only
      exact h.onHub
    · exact h

theorem laneCommand (n : Nat) (d : Drive) (h : s₀.Within κ s) : s₀.Within κ (State.laneCommand s n d).state := by
  unfold State.laneCommand
  dsimp only
  refine denyIf h (denyIf h (denyIf h (denyIf h ?_)))
  exact ((((h.cancelSchedule n).onHub).put (Hub.rebook_sizes ..)).notify _).command _

theorem laneUnlock (n : Nat) (h : s₀.Within κ s) : s₀.Within κ (State.laneUnlock s n).state := by
  unfold State.laneUnlock
  dsimp only
  repeat' split
  · exact h.deny _
  · exact h.deny _
  · exact h.command _

theorem laneSnapshot (n : Nat) (h : s₀.Within κ s) : s₀.Within κ (State.laneSnapshot s n).state := by
  unfold State.laneSnapshot
  split
  · exact h.deny _
  · dsimp only
    exact (h.command _).onHub

theorem offLanes (lanes : List Nat) (h : s₀.Within κ s) : s₀.Within κ (State.offLanes s lanes).1 := by
  unfold State.offLanes
  exact foldl_fst _ h fun x n hx => by
    dsimp only
    exact (hx.cancelSchedule n).onHub

theorem patternCommand (chans lanes : List Nat) (v : Nat) (h : s₀.Within κ s) : s₀.Within κ (State.patternCommand s chans lanes v).state := by
  unfold State.patternCommand
  dsimp only
  split
  · exact h.command _
  · refine denyIf h (denyIf h ?_)
    split
    · exact h.accept
    · split
      · exact h.command _
      · exact (((h.offLanes lanes).put (Hub.rebook_sizes ..)).notify _).command _

theorem lanePattern (n v : Nat) (h : s₀.Within κ s) : s₀.Within κ (State.lanePattern s n v).state := by
  unfold State.lanePattern
  repeat' split
  · exact h.deny _
  · exact h.deny _
  · exact h.patternCommand ..

theorem bankPatternWrite (b v : Nat) (h : s₀.Within κ s) : s₀.Within κ (State.bankPatternWrite s b v).state := by
  unfold State.bankPatternWrite
  split
  · exact h.deny _
  · exact h.patternCommand ..

theorem resolveNow (n at_ : Nat) (h : s₀.Within κ s) : s₀.Within κ (State.resolveNow s n at_) := by
  unfold State.resolveNow
  dsimp only
  repeat' split
  · exact h
  · exact h.put.notify _
  · exact h.put

theorem scheduleWrite (n v : Nat) (h : s₀.Within κ s) : s₀.Within κ (State.scheduleWrite s n v).state := by
  unfold State.scheduleWrite
  dsimp only
  split
  · refine denyIf h ?_
    split
    · exact accept (h.withdraw n).onHub
    · refine denyIf h ?_
      split
      · exact h.onHub.command _
      · exact h.accept
  · refine denyIf h (denyIf h (denyIf h ?_))
    split
    · exact h.deny _
    · refine denyIf h ?_
      split
      · split
        · exact accept (((h.cancelSchedule n).put.onHub.propose n).resolveNow n _)
        · exact accept ((h.cancelSchedule n).put.onHub.propose n)
      · split
        · exact accept ((h.cancelSchedule n).put.onHub.resolveNow n _)
        · exact accept (h.cancelSchedule n).put.onHub

theorem shedPriority (r : ObjRow) (n v : Nat) (h : s₀.Within κ s) : s₀.Within κ (State.shedPriority s r n v) := by
  unfold State.shedPriority
  split
  · exact h.keep ..
  · exact (h.keep ..).put (by simp [Run.sizes_eq])

theorem writeLane (r : ObjRow) (n g sub v : Nat) (h : s₀.Within κ s) : s₀.Within κ (State.writeLane s r n g sub v).state := by
  unfold State.writeLane
  split
  · exact h.laneCommand ..
  · exact h.laneUnlock ..
  · exact h.laneSnapshot ..
  · exact h.shedPriority ..
  · exact h.lanePattern ..
  · exact h.scheduleWrite ..
  · exact h.keep ..
  · exact h.keep ..
  · exact h.keep ..
  · split
    · exact h.deny _
    · exact (h.keep ..).command _

theorem commitWrite (h : s₀.Within κ s) : s₀.Within κ (State.commitWrite s).state := by
  unfold State.commitWrite
  repeat' split
  · exact h.deny _
  · exact deny _ h.onHub
  · exact accept h.onHub

theorem applyMap (m : List Nat) (code : Nat) (h : s₀.Within κ s) : s₀.Within κ (State.applyMap s m code).1 := by
  unfold State.applyMap
  dsimp only
  exact (foldl _ h fun s n hs => (hs.cancelSchedule n).put).put

theorem commitApply (h : s₀.Within κ s) : s₀.Within κ (State.commitApply s) := by
  unfold State.commitApply
  split
  · exact h
  · dsimp only
    split
    · exact h.onHub.onHub.notify _
    · exact (h.onHub.applyMap ..).storeSave.onHub.notify _

theorem slotWrite (r : ObjRow) (slot sub v : Nat) (h : s₀.Within κ s) : s₀.Within κ (State.slotWrite s r slot sub v).state := by
  unfold State.slotWrite
  dsimp only
  exact denyIf h (denyIf h (denyIf h (denyIf h (accept (h.keep ..)))))

theorem writeMap (r : ObjRow) (idx sub v : Nat) (h : s₀.Within κ s) : s₀.Within κ (State.writeMap s r idx sub v).state := by
  unfold State.writeMap
  repeat' split
  · exact accept h.onHub
  · exact h.deny _
  · exact h.commitWrite
  · exact h.slotWrite ..

end State.Within
end Sys2Proof.Machine
end



section
/-! What the writes of the watchdog, of the device, of time, ports and queues, and of fault sources leave (R16, R20). -/

-- One proof after the other: side by side these proofs ask for more threads than the check has memory for.
set_option Elab.async false

namespace Sys2Proof.Machine
namespace State.Within
variable {κ : Places} {s₀ s : State}

/-! ## The serial watchdog -/

theorem dogForce (kind : Nat) (h : s₀.Within κ s) : s₀.Within κ (State.dogForce s kind) := by
  unfold State.dogForce
  exact h.put.notify _

theorem dogMiss (kind next : Nat) (h : s₀.Within κ s) : s₀.Within κ (State.dogMiss s kind next) := by
  unfold State.dogMiss
  have hm := (h.onHub (f := fun h =>
    { h.onDog fun d => { d with misses := d.misses + 1, lastKind := kind, windowAt := next } with dogMisses := h.dogMisses + 1 }) rfl).notify
      [.event 6 0x2032 7]
  exact ite (hm.dogForce 1) hm

theorem dogLate (at_ n : Nat) (h : s₀.Within κ s) : s₀.Within κ (s.dogLate at_ n) := by
  induction n generalizing s with
  | zero => exact h
  | succ n ih => exact ite (ih (h.dogMiss 2 _)) h

theorem dogRelease (h : s₀.Within κ s) : s₀.Within κ (State.dogRelease s).1 := by
  unfold State.dogRelease
  split
  · dsimp only
    exact h.put
  · exact h

theorem dogArm (o : Origin) (seed : Nat) (h : s₀.Within κ s) : s₀.Within κ (State.dogArm s o seed).state := by
  unfold State.dogArm
  split
  · exact h.deny _
  · exact accept (h.dogRelease.onHub.notify _)

theorem dogDisarm (o : Origin) (h : s₀.Within κ s) : s₀.Within κ (State.dogDisarm s o).state := by
  unfold State.dogDisarm
  dsimp only
  split
  · exact h.deny _
  · exact accept (h.dogRelease.onHub.notify _)

theorem dogToken (o : Origin) (v : Nat) (h : s₀.Within κ s) : s₀.Within κ (State.dogToken s o v).state := by
  unfold State.dogToken
  have hl := h.dogLate o.arrival 2
  dsimp only
  repeat' split
  · exact h.deny _
  · exact hl.deny _
  · exact (hl.dogMiss ..).deny _
  · exact (hl.dogMiss ..).deny _
  · exact accept hl.onHub

theorem dogBegin (h : s₀.Within κ s) : s₀.Within κ (State.dogBegin s) := by
  unfold State.dogBegin
  exact h.onHub

theorem dogDeadline (h : s₀.Within κ s) : s₀.Within κ (State.dogDeadline s) := by
  unfold State.dogDeadline
  have miss {t : State} (ht : s₀.Within κ t) : s₀.Within κ ((t.onHub fun h =>
      { h.onDog fun d => { d with misses := d.misses + 1, lastKind := 2 } with dogMisses := h.dogMisses + 1 }).notify [.event 6 0x2032 7]) :=
    (ht.onHub rfl).notify _
  exact ite ((miss (miss h)).dogForce 2) h

/-! ## Writes of the device -/

theorem transportWrite (r : ObjRow) (sub v : Nat) (h : s₀.Within κ s) : s₀.Within κ (State.transportWrite s r sub v).state := by
  unfold State.transportWrite
  split
  · dsimp only
    exact h.onHub
  · exact accept (h.keep ..)

theorem keyWritten (role : Role) (key : Nat) (h : s₀.Within κ s) : s₀.Within κ (State.keyWritten s role key).state := by
  unfold State.keyWritten
  exact h.notify _

theorem writeComm (r : ObjRow) (idx sub v : Nat) (h : s₀.Within κ s) : s₀.Within κ (State.writeComm s r idx sub v).state := by
  unfold State.writeComm
  repeat' split
  · exact h
  · exact h.keyWritten ..
  · exact h.keyWritten ..
  · exact h.transportWrite ..
  · exact accept h.onHub
  · exact accept (h.keep ..)

theorem resetWrite (sub v : Nat) (h : s₀.Within κ s) : s₀.Within κ (State.resetWrite s sub v).state := by
  unfold State.resetWrite
  repeat' split
  · exact h.deny _
  · exact accept h.onHub
  · exact h.deny _
  · exact accept h.onHub

theorem readmitWrite (v : Nat) (h : s₀.Within κ s) : s₀.Within κ (State.readmitWrite s v).state := by
  unfold State.readmitWrite
  dsimp only
  repeat' split
  · exact h.deny _
  · exact h.deny _
  · exact h
  · exact h.command _
  · exact h.deny _

theorem levelWrite (r : ObjRow) (sub v : Nat) (h : s₀.Within κ s) : s₀.Within κ (State.levelWrite s r sub v).state := by
  unfold State.levelWrite
  dsimp only
  generalize (if sub = 1 then toSigned 16 v else toSigned 16 (s.hub.val 0x2024 1 1500)) = warn
  generalize (if sub = 2 then toSigned 16 v else toSigned 16 (s.hub.val 0x2024 2 1600)) = shed
  split
  · exact h.deny _
  · exact (h.keep ..).command _

theorem permitWrite (r : ObjRow) (sub v : Nat) (h : s₀.Within κ s) : s₀.Within κ (State.permitWrite s r sub v).state := by
  unfold State.permitWrite
  split
  · exact h.deny _
  · exact accept (h.keep ..)

theorem holdWrite (r : ObjRow) (sub v : Nat) (h : s₀.Within κ s) : s₀.Within κ (State.holdWrite s r sub v).state := by
  unfold State.holdWrite
  dsimp only
  split <;> exact (h.keep ..).command _

theorem dogWrite (r : ObjRow) (o : Origin) (sub v : Nat) (h : s₀.Within κ s) : s₀.Within κ (State.dogWrite s r o sub v).state := by
  unfold State.dogWrite
  split
  · exact h.dogArm ..
  · exact h.dogToken ..
  · exact h.dogDisarm ..
  · exact accept (h.keep ..)

theorem lapSnapshot (h : s₀.Within κ s) : s₀.Within κ (State.lapSnapshot s) := by
  unfold State.lapSnapshot
  exact h.onHub

theorem presetWrite (r : ObjRow) (v : Nat) (h : s₀.Within κ s) : s₀.Within κ (State.presetWrite s r v).state := by
  unfold State.presetWrite
  split
  · exact h.deny _
  · exact accept (h.keep ..).onHub

theorem armCapture (h : s₀.Within κ s) : s₀.Within κ (State.armCapture s).state := by
  unfold State.armCapture
  dsimp only
  repeat' split
  · exact h.deny _
  · exact h.deny _
  · exact accept (h.onHub.notify _)

theorem captureWrite (v : Nat) (h : s₀.Within κ s) : s₀.Within κ (State.captureWrite s v).state := by
  unfold State.captureWrite
  split
  · exact h.armCapture
  · exact accept (h.after _)

theorem q7Write (v : Nat) (h : s₀.Within κ s) : s₀.Within κ (State.q7Write s v).state := by
  unfold State.q7Write
  dsimp only
  split
  · exact h.deny _
  · exact accept h.onHub

theorem writeDevice (r : ObjRow) (o : Origin) (idx sub v : Nat) (h : s₀.Within κ s) : s₀.Within κ (State.writeDevice s r o idx sub v).state := by
  unfold State.writeDevice
  split
  · exact h.resetWrite ..
  · exact h.readmitWrite ..
  · exact h.levelWrite ..
  · exact h.permitWrite ..
  · exact h.holdWrite ..
  · exact h.bankPatternWrite ..
  · exact h.dogWrite ..
  · exact accept h.lapSnapshot
  · exact h.presetWrite ..
  · exact h.captureWrite ..
  · exact h.q7Write ..
  · exact accept (h.keep ..)

/-! ## Time, ports and queues -/

theorem pumpQ3 (h : s₀.Within κ s) : s₀.Within κ (State.pumpQ3 s) := by
  unfold State.pumpQ3
  dsimp only
  split
  · exact h
  · exact h.after _

theorem startPort (i : Nat) (h : s₀.Within κ s) : s₀.Within κ (State.startPort s i) := by
  unfold State.startPort
  dsimp only
  split
  · exact h
  · split
    · exact h.after _
    · exact h.onHub

theorem stopPort (i : Nat) (inReset : Bool) (h : s₀.Within κ s) : s₀.Within κ (State.stopPort s i inReset) := by
  unfold State.stopPort
  dsimp only
  exact (h.after _).pumpQ3

theorem onTime (f : TimeDomains → TimeDomains × List Notice) (h : s₀.Within κ s) : s₀.Within κ (State.onTime s f) := by
  unfold State.onTime
  exact h.after _

theorem gptpWrite (r : ObjRow) (sub v : Nat) (h : s₀.Within κ s) : s₀.Within κ (State.gptpWrite s r sub v).state := by
  unfold State.gptpWrite
  have hk := h.keep r 0x4004 sub v
  dsimp only
  repeat' split
  · exact h.deny _
  · exact accept hk
  · exact accept hk
  · exact accept (hk.onTime _)
  · exact accept (hk.onTime _)
  · exact accept (hk.onTime _)
  · exact accept hk

theorem incrementSet (v : Nat) (h : s₀.Within κ s) : s₀.Within κ (State.incrementSet s v).state := by
  unfold State.incrementSet
  repeat' split
  · exact h.deny _
  · exact h.deny _
  · exact accept (h.onTime _)

theorem ownerWrite (v : Nat) (h : s₀.Within κ s) : s₀.Within κ (State.ownerWrite s v).state := by
  unfold State.ownerWrite
  split
  · exact accept h
  · exact accept (h.onTime _)

theorem ppsWrite (r : ObjRow) (v : Nat) (h : s₀.Within κ s) : s₀.Within κ (State.ppsWrite s r v).state := by
  unfold State.ppsWrite
  exact accept ((h.keep ..).onTime _)

theorem writeTime (r : ObjRow) (idx sub v : Nat) (h : s₀.Within κ s) : s₀.Within κ (State.writeTime s r idx sub v).state := by
  unfold State.writeTime
  split
  · split
    · exact h.deny _
    · exact accept ((h.keep ..).onTime _)
  · exact accept ((h.keep ..).onTime _)
  · exact h.incrementSet ..
  · exact h.ownerWrite ..
  · split
    · exact h.deny _
    · exact accept (h.keep ..)
  · exact h.gptpWrite ..
  · exact h.ppsWrite ..
  · exact accept (h.keep ..)

theorem portWrite (r : ObjRow) (n sub v : Nat) (h : s₀.Within κ s) : s₀.Within κ (State.portWrite s r n sub v).state := by
  unfold State.portWrite
  have hk := h.keep r (0x4401 + n) sub v
  dsimp only
  split
  · exact h.deny _
  · split
    · exact accept (ite (hk.startPort n).pumpQ3 (hk.stopPort n false))
    · split
      · exact accept (hk.after _)
      · exact accept (hk.after _)

theorem queueWrite (q sub v : Nat) (h : s₀.Within κ s) : s₀.Within κ (State.queueWrite s q sub v).state := by
  unfold State.queueWrite
  split
  · refine accept (h.onHub ?_)
    dsimp only
    split <;> rfl
  · split
    · exact h.deny _
    next hq =>
      have hv : v < ringSize q := Net.lt_of_indexStatus (not_not.mp hq)
      refine accept (reshape h fun hf => ?_).pumpQ3
      have hi := Hub.indexed_formed s.hub q v s.now hv hf
      dsimp only
      split
      · exact Hub.formed_of_sizes (Hub.releaseQ5_sizes _) hi
      · exact hi

theorem writeNet (r : ObjRow) (idx sub v : Nat) (h : s₀.Within κ s) : s₀.Within κ (State.writeNet s r idx sub v).state := by
  unfold State.writeNet
  repeat' split
  · exact h.queueWrite ..
  · exact h.portWrite ..
  · exact accept (h.keep ..)

/-! ## Faults -/

theorem releaseScopes (source : Nat) (ended : List Scope) (h : s₀.Within κ s) : s₀.Within κ (State.releaseScopes s source ended) := by
  unfold State.releaseScopes
  exact ite h (h.put.notify _)

theorem clearSource (o : Origin) (i : Nat) (h : s₀.Within κ s) : s₀.Within κ (State.clearSource s o i).state := by
  unfold State.clearSource
  dsimp only
  repeat' split
  · exact h.deny _
  · exact deny _ h.onHub
  · exact accept (h.notify _)
  · exact accept ((h.onHub.releaseScopes ..).notify _)

theorem clearAllSources (o : Origin) (h : s₀.Within κ s) : s₀.Within κ (State.clearAllSources s o).state := by
  unfold State.clearAllSources
  exact accept ((foldl _ h.onHub fun s e hs => hs.releaseScopes e.1 e.2).notify _)

theorem clearRecord (o : Origin) (h : s₀.Within κ s) : s₀.Within κ (State.clearRecord s o).state := by
  unfold State.clearRecord
  dsimp only
  split
  · exact deny _ h.onHub
  · exact accept (h.onHub.notify _)

theorem acknowledge (o : Origin) (i : Nat) (h : s₀.Within κ s) : s₀.Within κ (State.acknowledge s o i).state := by
  unfold State.acknowledge
  repeat' split
  · exact h.deny _
  · exact h.deny _
  · exact accept (h.onHub.notify _)

theorem ceilingWrite (r : ObjRow) (i v : Nat) (h : s₀.Within κ s) : s₀.Within κ (State.ceilingWrite s r i v).state := by
  unfold State.ceilingWrite
  split
  · exact h.deny _
  · exact accept (h.keep ..).onHub

theorem forceWrite (v : Nat) (h : s₀.Within κ s) : s₀.Within κ (State.forceWrite s v).state := by
  unfold State.forceWrite
  dsimp only
  split
  · exact h.deny _
  · exact accept (h.after _)

theorem senseTest (level : Bool) (h : s₀.Within κ s) (hk : κ.lands = true) : s₀.Within κ (State.senseTest s level) := by
  unfold State.senseTest
  exact ite (h.onLands hk) (h.onLands hk).onHub

theorem keyStep (o : Origin) (v : Nat) (h : s₀.Within κ s) : s₀.Within κ (State.keyStep s o v).state := by
  unfold State.keyStep
  exact accept h.onHub

end State.Within
end Sys2Proof.Machine
end



section
/-! What the writes of the collector and of the services, the requests of a session, and the events of time, laps and the collector leave (R16, R20, R410). -/

-- One proof after the other: side by side these proofs ask for more threads than the check has memory for.
set_option Elab.async false

namespace Sys2Proof.Machine
namespace State.Within
variable {κ : Places} {s₀ s : State}

/-! ## Writes of the collector and of the services -/

theorem inject (v : Nat) (h : s₀.Within κ s) : s₀.Within κ (State.inject s v).state := by
  unfold State.inject
  dsimp only
  repeat' split
  · exact h.deny _
  · exact h.deny _
  · exact accept (h.after _)

theorem writeCollector (r : ObjRow) (o : Origin) (idx sub v : Nat) (h : s₀.Within κ s) :
    s₀.Within κ (State.writeCollector s r o idx sub v).state := by
  unfold State.writeCollector
  split
  · exact h.forceWrite ..
  · exact h.clearRecord ..
  · exact h.clearSource ..
  · exact h.clearAllSources ..
  · exact h.acknowledge ..
  · exact h.keyStep ..
  · exact h.inject ..
  · split
    · exact h.ceilingWrite ..
    · exact accept (h.keep ..)
  · exact accept (h.keep ..)

theorem writeTrailer (i : Nat) (active : Bool) (seq : Nat) (h : s₀.Within κ s) : s₀.Within κ (State.writeTrailer s i active seq) := by
  unfold State.writeTrailer
  exact h.writeSlot ..

theorem verifySlot (h : s₀.Within κ s) : s₀.Within κ (State.verifySlot s) := by
  unfold State.verifySlot
  dsimp only
  split
  · exact (h.writeTrailer ..).onHub.notify _
  · exact h.onHub.notify _

theorem patchWrite (v : Nat) (h : s₀.Within κ s) : s₀.Within κ (State.patchWrite s v).state := by
  unfold State.patchWrite
  dsimp only
  split
  · exact h.deny _
  · split
    · exact accept h.verifySlot
    · split
      · exact h.deny _
      · exact accept h.onHub
    · split
      · exact h.deny _
      · exact accept h.onHub
    · exact accept (h.eraseSlot _).onHub

theorem patchImage (data : List Byte) (h : s₀.Within κ s) : s₀.Within κ (State.patchImage s data) := by
  unfold State.patchImage
  exact (h.writeSlot ..).onHub.notify _

theorem serviceRequest (b v : Nat) (h : s₀.Within κ s) : s₀.Within κ (State.serviceRequest s b v).state := by
  unfold State.serviceRequest
  dsimp only
  exact denyIf h (denyIf h (accept h.onHub))

theorem retireWrite (r : ObjRow) (ch v : Nat) (h : s₀.Within κ s) : s₀.Within κ (State.retireWrite s r ch v).state := by
  unfold State.retireWrite
  have hk := h.keep r 0x7004 (ch + 1) v
  dsimp only
  split
  · exact h.deny _
  · exact (ite hk.storeSave hk).command _

theorem migrationStart (h : s₀.Within κ s) : s₀.Within κ (State.migrationStart s).state := by
  unfold State.migrationStart
  dsimp only
  repeat' split
  · exact h.deny _
  · exact deny _ h.onHub
  · exact accept h.onHub

theorem abortGrow (h : s₀.Within κ s) : s₀.Within κ (State.abortGrow s) := by
  unfold State.abortGrow
  dsimp only
  split
  · exact h.put.notify _
  · exact h

theorem journalClear (o : Origin) (h : s₀.Within κ s) : s₀.Within κ (State.journalClear s o) := by
  unfold State.journalClear
  split
  · exact h.onHub.notify _
  · exact h.put.onHub.notify _

theorem cursorWrite (v : Nat) (h : s₀.Within κ s) : s₀.Within κ (State.cursorWrite s v).state := by
  unfold State.cursorWrite
  split
  · exact accept h.onHub
  · exact h.deny _

theorem writeService (r : ObjRow) (o : Origin) (idx sub v : Nat) (h : s₀.Within κ s) : s₀.Within κ (State.writeService s r o idx sub v).state := by
  unfold State.writeService
  split
  · exact accept (ite h.storeSave h)
  · exact h.cursorWrite ..
  · exact accept (h.journalClear ..)
  · exact h.patchWrite ..
  · exact h.serviceRequest ..
  · exact h.retireWrite ..
  · split
    · exact accept (h.keep ..)
    · exact h.deny _
  · exact h.migrationStart
  · exact accept (h.keep ..)

theorem writeTeam (r : ObjRow) (idx sub v : Nat) (h : s₀.Within κ s) : s₀.Within κ (State.writeTeam s r idx sub v).state := by
  unfold State.writeTeam
  dsimp only
  repeat' split
  · exact h.deny _
  · exact h.deny _
  · exact accept ((h.keep ..).put (Hub.rebook_sizes ..))

/-! ## Writes of the dictionary -/

theorem store (o : Origin) (r : ObjRow) (idx sub : Nat) (data : List Byte) (h : s₀.Within κ s) :
    s₀.Within κ (State.store s o r idx sub data).state := by
  unfold State.store
  dsimp only
  split
  · exact h.writeComm ..
  · split
    · exact h.writeDevice ..
    · split
      · exact h.writeLane ..
      · split
        · exact h.writeMap ..
        · split
          · exact h.writeTime ..
          · split
            · exact h.writeNet ..
            · split
              · exact h.writeCollector ..
              · split
                · exact h.writeTeam ..
                · split
                  · split
                    · exact accept (h.patchImage _)
                    · exact h.deny _
                  · exact h.writeService ..

theorem dictWrite (o : Origin) (whole : Bool) (idx sub : Nat) (data : List Byte) (h : s₀.Within κ s) :
    s₀.Within κ (State.dictWrite s o whole idx sub data).state := by
  unfold State.dictWrite
  split
  · exact h.deny _
  · repeat' split
    · exact h.deny _
    · exact h.deny _
    · exact h.deny _
    · exact h.deny _
    · exact h.store ..

theorem writeRow (k idx sub : Nat) (data : List Byte) (h : s₀.Within κ s) : s₀.Within κ (State.writeRow s k idx sub data) := by
  unfold State.writeRow
  dsimp only
  repeat' split
  · exact h
  · exact h.respond ..
  · exact finish _ (h.onHub.dictWrite ..)

theorem writeNum (k idx sub v : Nat) (h : s₀.Within κ s) : s₀.Within κ (State.writeNum s k idx sub v) := by
  unfold State.writeNum
  split
  · exact h
  · exact ite (h.writeRow ..) h

theorem writeLaneNum (k n g sub v : Nat) (h : s₀.Within κ s) : s₀.Within κ (State.writeLaneNum s k n g sub v) := by
  unfold State.writeLaneNum
  exact ite (h.writeNum ..) h

/-! ## Requests -/

theorem serve (via : Transport) (c : Nat) {f : Request → Origin → State → State} (h : s₀.Within κ s) (hf : ∀ q o t, s₀.Within κ t → s₀.Within κ (f q o t)) :
    s₀.Within κ (s.serve via c f) := by
  unfold State.serve
  split
  · exact h
  · dsimp only
    repeat' split
    · exact h
    · exact h.onHub.answerNow ..
    · exact h.onHub.answerNow ..
    · exact h.onHub.answerNow ..
    · exact h
    · exact hf _ _ _ h.onHub

theorem serveFree (via : Transport) (c len : Nat) {f : Request → Origin → State → State} (h : s₀.Within κ s) (hf : ∀ q o t, s₀.Within κ t → s₀.Within κ (f q o t)) :
    s₀.Within κ (s.serveFree via c len f) := by
  unfold State.serveFree
  refine h.serve via c fun q o t ht => ?_
  repeat' split
  · exact ht.answerNow ..
  · exact ht.answerNow ..
  · exact hf q o t ht

theorem tagFailure (n : Nat) (confirming : Bool) (h : s₀.Within κ s) : s₀.Within κ (State.tagFailure s n confirming) := by
  unfold State.tagFailure
  have hs := h.onHub (f := fun h => (h.onRun fun r => { r with badTags := r.badTags + 1 }).onSession n fun x =>
    { x with failures := (s.hub.session n).failures + 1 })
  exact (ite hs.onHub hs).notify _

theorem serveIn (via : Transport) (c : Nat) (role : Role) (fits : List Byte → Bool) {f : Request → Origin → State → State} (h : s₀.Within κ s) (hf : ∀ q o t, s₀.Within κ t → s₀.Within κ (f q o t)) :
    s₀.Within κ (s.serveIn via c role fits f) := by
  unfold State.serveIn
  refine h.serve via c fun q o t ht => ?_
  dsimp only
  generalize (if decide (c = 3) then SessionMode.waiting else .opened) = mode
  split
  · exact ht.answerNow ..
  · split
    · exact ht.onHub
    · split
      · exact ht.tagFailure ..
      · split
        · split
          · exact ite (ht.onHub.sendTo ..) ht.onHub
          · exact ht.onHub
        · repeat' split
          · exact ht.onHub.answerNow ..
          · exact ht.onHub.answerNow ..
          · exact ht.onHub.onHub.respond ..
          · exact ht.onHub.onHub.respond ..
          · exact hf _ _ _ ht.onHub.onHub

theorem answerDiscover (o : Origin) (h : s₀.Within κ s) : s₀.Within κ (State.answerDiscover s o) := by
  unfold State.answerDiscover
  exact h.answerNow ..

theorem reclaim (n : Nat) (h : s₀.Within κ s) : s₀.Within κ (State.reclaim s n) := by
  unfold State.reclaim
  exact h.onHub.notify _

theorem openAs (q : Request) (o : Origin) (n : Nat) (role : Role) (h : s₀.Within κ s) : s₀.Within κ (State.openAs s q o n role) := by
  unfold State.openAs
  exact (h.drawBytes 8).onHub.answerNow ..

theorem answerOpen (via : Transport) (q : Request) (o : Origin) (h : s₀.Within κ s) : s₀.Within κ (State.answerOpen s via q o) := by
  unfold State.answerOpen
  split
  · exact h.answerNow ..
  · split
    · exact h.answerNow ..
    · split
      · exact h.answerNow ..
      · split
        · exact h.openAs ..
        · generalize (if _ = Role.service then s.hub.idleObserver else none) = idle
          cases idle with
          | some n => exact (h.reclaim n).openAs ..
          | none => exact (h.answerNow ..).notify _

theorem answerProvision (via : Transport) (q : Request) (o : Origin) (h : s₀.Within κ s) : s₀.Within κ (State.answerProvision s via q o) := by
  unfold State.answerProvision
  dsimp only
  generalize (if leField q.body 0 1 = 1 then Role.service else .operator) = role
  split
  · exact h.answerNow ..
  · split
    · exact h.answerNow ..
    · split
      · exact h.answerNow ..
      · split
        · exact h.answerNow ..
        · exact (h.notify _).answerNow ..

theorem answerConfirm (q : Request) (o : Origin) (h : s₀.Within κ s) : s₀.Within κ (State.answerConfirm s q o) := by
  unfold State.answerConfirm
  exact (ite (h.onHub.notify _) h.onHub).respond ..

theorem answerClose (q : Request) (o : Origin) (h : s₀.Within κ s) : s₀.Within κ (State.answerClose s q o) := by
  unfold State.answerClose
  exact h.respond ..

theorem answerRead (q : Request) (o : Origin) (h : s₀.Within κ s) : s₀.Within κ (State.answerRead s q o) := by
  unfold State.answerRead
  dsimp only
  repeat' split
  all_goals exact h.respond ..

theorem answerWrite (q : Request) (o : Origin) (h : s₀.Within κ s) : s₀.Within κ (State.answerWrite s q o) := by
  unfold State.answerWrite
  dsimp only
  split
  · exact h.respond ..
  · exact finish _ (h.dictWrite ..)

theorem giveSegment (o : Origin) (via : Transport) (data : List Byte) (at_ most : Nat) (h : s₀.Within κ s) :
    s₀.Within κ (State.giveSegment s o via data at_ most) := by
  unfold State.giveSegment
  exact h.respond ..

theorem answerSegmentRead (via : Transport) (q : Request) (o : Origin) (h : s₀.Within κ s) : s₀.Within κ (State.answerSegmentRead s via q o) := by
  unfold State.answerSegmentRead
  dsimp only
  split
  · exact h.respond ..
  · split
    · exact h.respond ..
    · split
      · split
        · exact h.respond ..
        · exact h.onHub.giveSegment ..
      · split
        · split
          · exact h.giveSegment ..
          · exact h.respond ..
        · exact h.respond ..

theorem takeSegment (o : Origin) (n idx sub total : Nat) (data : List Byte) (h : s₀.Within κ s) :
    s₀.Within κ (State.takeSegment s o n idx sub total data) := by
  unfold State.takeSegment
  repeat' split
  · exact h.onHub.respond ..
  · exact finish _ (h.onHub.dictWrite ..)
  · exact h.onHub.respond ..

theorem answerSegmentWrite (via : Transport) (q : Request) (o : Origin) (h : s₀.Within κ s) : s₀.Within κ (State.answerSegmentWrite s via q o) := by
  unfold State.answerSegmentWrite
  dsimp only
  generalize ((s.hub.session q.session).segLost || _) = lost
  split
  · exact h.respond ..
  · split
    · exact h.onHub.respond ..
    · split
      · exact h.respond ..
      · split
        · exact h.respond ..
        · split
          · exact h.respond ..
          · split
            · split
              · exact h.respond ..
              · exact (ite h.onHub h).takeSegment ..
            · split
              · split
                · exact h.takeSegment ..
                · exact h.onHub.respond ..
              · exact h.respond ..

theorem answerQueueRead (via : Transport) (q : Request) (o : Origin) (h : s₀.Within κ s) : s₀.Within κ (State.answerQueueRead s via q o) := by
  unfold State.answerQueueRead
  dsimp only
  repeat' split
  all_goals exact h.respond ..

theorem answerQueueWrite (via : Transport) (q : Request) (o : Origin) (h : s₀.Within κ s) : s₀.Within κ (State.answerQueueWrite s via q o) := by
  unfold State.answerQueueWrite
  dsimp only
  generalize (if leField q.body 0 1 = 3 then 16 else 32) = ring
  split
  · exact h.respond ..
  · split
    · exact h.respond ..
    · split
      · exact h.respond ..
      · split
        · exact h.respond ..
        · exact h.onHub.respond ..

theorem answerBufferRead (via : Transport) (q : Request) (o : Origin) (h : s₀.Within κ s) : s₀.Within κ (State.answerBufferRead s via q o) := by
  unfold State.answerBufferRead
  dsimp only
  repeat' split
  all_goals exact h.respond ..

theorem answerBufferWrite (via : Transport) (q : Request) (o : Origin) (h : s₀.Within κ s) (hk : κ.bufs = true) :
    s₀.Within κ (s.answerBufferWrite via q o) := by
  unfold State.answerBufferWrite
  dsimp only
  repeat' split
  · exact h.respond ..
  · exact h.respond ..
  · exact h.respond ..
  · exact (writeBuf _ _ h hk).respond ..

theorem spiTransaction (sck : Bool) (out : List Byte) (discarded : Bool) (h : s₀.Within κ s) :
    s₀.Within κ (State.spiTransaction s sck out discarded) := by
  unfold State.spiTransaction
  exact h.onHub (by split <;> rfl)

/-! ## Time, laps and the collector -/

theorem onNet {f : Net → Net × List Notice} (h : s₀.Within κ s) (hf : s.hub.net.shaped = true → (f s.hub.net).1.shaped = true) :
    s₀.Within κ (s.onNet f) := by
  unfold State.onNet
  dsimp only
  split
  · exact h
  · exact pumpQ3 (after_reform _ h fun a => ⟨a.1, hf a.2⟩)

theorem onNetTime {f : Net → TimeDomains → Net × TimeDomains × List Notice} (h : s₀.Within κ s) (hf : (f s.hub.net s.hub.time).1.rings = s.hub.net.rings) :
    s₀.Within κ (s.onNetTime f) := by
  unfold State.onNetTime
  dsimp only
  split
  · exact h
  · exact (h.after _ (by simp [Hub.sizes_eq, hf])).pumpQ3

theorem clockTick (runs : Bool) (f : TimeDomains → TimeDomains × List Notice) (h : s₀.Within κ s) : s₀.Within κ (State.clockTick s runs f) := by
  unfold State.clockTick
  exact ite (h.onTime f).pumpQ3 h

theorem selectMaster (second : Bool) (h : s₀.Within κ s) : s₀.Within κ (State.selectMaster s second) := by
  unfold State.selectMaster
  exact h.clockTick ..

theorem onLap (f : Lap → LapCfg → Lap × List Notice) (h : s₀.Within κ s) : s₀.Within κ (State.onLap s f) := by
  unfold State.onLap
  dsimp only
  split
  · exact h.after _
  · exact h

theorem noteBoundary (h : s₀.Within κ s) : s₀.Within κ (State.noteBoundary s) := by
  unfold State.noteBoundary
  exact h.onHub

theorem onCollector {f : Collector → CollectorCfg → Collector × List Notice} (h : s₀.Within κ s) (hf : ∀ c g, (f c g).1.sources.length = c.sources.length) :
    s₀.Within κ (s.onCollector f) := by
  unfold State.onCollector
  dsimp only
  split
  · exact h.after _ (by simp [Hub.sizes_eq, hf])
  · exact h

theorem acceptError (source kind origin address : Nat) (h : s₀.Within κ s) : s₀.Within κ (State.acceptError s source kind origin address) := by
  unfold State.acceptError
  exact h.onCollector fun c g => by simp

theorem takeStep (source step : Nat) (h : s₀.Within κ s) : s₀.Within κ (State.takeStep s source step) := by
  unfold State.takeStep
  dsimp only
  exact h.put.after _ (Hub.sizes_eq.mpr ⟨rfl, rfl, rfl, by simp, rfl⟩)

end State.Within
end Sys2Proof.Machine
end



section
/-! What escalation, starts and stops, the service of the banks, lap boundaries, link frames and team frames leave (R16, R20). -/

-- One proof after the other: side by side these proofs ask for more threads than the check has memory for.
set_option Elab.async false

namespace Sys2Proof.Machine
namespace State.Within
variable {κ : Places} {s₀ s : State}

/-! ## Escalation and the banks that are gone -/

theorem escalate (source : Nat) (h : s₀.Within κ s) : s₀.Within κ (State.escalate s source) := by
  unfold State.escalate
  dsimp only
  split
  · exact h
  · split
    · exact h.onHub
    · exact ite (h.takeStep ..) h.onHub

theorem takeDue (h : s₀.Within κ s) : s₀.Within κ (State.takeDue s) := by
  unfold State.takeDue
  refine foldl _ h fun s i hs => ?_
  split
  · exact hs.takeStep ..
  · exact hs

theorem dropSchedulesOf (b : Nat) (h : s₀.Within κ s) : s₀.Within κ (State.dropSchedulesOf s b) := by
  unfold State.dropSchedulesOf
  refine foldl _ h fun s n hs => ?_
  dsimp only
  exact (hs.put (by simp)).notify _

theorem bankGone (b : Nat) (h : s₀.Within κ s) : s₀.Within κ (State.bankGone s b) := by
  unfold State.bankGone
  have hg := h.onHub (f := fun h => h.forgetBank b)
  exact (((ite hg.abortGrow hg).after _ (Hub.sizes_eq.mpr ⟨rfl, rfl, rfl, rfl, rfl⟩)).dropSchedulesOf b).notify _

theorem hubTemp (temp : Int) (h : s₀.Within κ s) : s₀.Within κ (State.hubTemp s temp) := by
  unfold State.hubTemp
  exact h.after _

theorem notePermit (h : s₀.Within κ s) : s₀.Within κ (State.notePermit s) := by
  unfold State.notePermit
  exact h.onHub

theorem senseLands (r : HubReadings) (h : s₀.Within κ s) (hk : κ.lands = true) : s₀.Within κ (s.senseLands r) := by
  unfold State.senseLands
  exact (h.onLands hk).senseTest _ hk

theorem sense (r : HubReadings) (h : s₀.Within κ s) (hl : κ.lands = true) (hp : κ.pwr = true) : s₀.Within κ (s.sense r) := by
  unfold State.sense
  dsimp only
  have hw : s₀.Within κ { s with pwr := { s.pwr with
      vcoreMv := if s.pwr.vcore then r.vcore else 0, vioMv := if s.pwr.vio then r.vio else 0, vphyMv := if s.pwr.vphy then r.vphy else 0 } } := h.onPwr hp
  have h₁ := ite (p := s.pwr.vio = true) (hw.senseLands r hl) hw
  exact (ite (h₁.hubTemp r.temp) h₁).notePermit

/-! ## Starts and stops -/

theorem startRuntime (h : s₀.Within κ s) : s₀.Within κ (State.startRuntime s) := by
  unfold State.startRuntime
  dsimp only
  have hd := h.drawBit.drawBytes 4
  refine notify _ (reform ?_ fun hf => ?_)
  · split
    · exact writeTrailer _ _ _ (ite (hd.put rfl) hd)
    · exact ite (hd.put rfl) hd
  · generalize State.hub _ = g at hf
    simp only [Hub.formed, Hub.shaped_iff] at hf ⊢
    obtain ⟨⟨hl, -, -, -, -, hso, -⟩, hn⟩ := hf
    refine ⟨⟨by simp [hl], by simp, rfl, rfl, rfl, hso, rfl, rfl, ?_, rfl, rfl, rfl, rfl⟩, hn⟩
    split
    · simp [State.slotStates_length]
    · exact State.slotStates_length _

theorem reportSupply (h : s₀.Within κ s) : s₀.Within κ (State.reportSupply s) := by
  unfold State.reportSupply
  exact ite (h.notify _) h

theorem startPorts (h : s₀.Within κ s) : s₀.Within κ (State.startPorts s) := by
  unfold State.startPorts
  exact ite ((h.startPort 0).startPort 1).pumpQ3 h

theorem setTier (mv : Nat) (h : s₀.Within κ s) (hp : κ.pwr = true) : s₀.Within κ (s.setTier mv) := by
  unfold State.setTier
  exact (h.onPwr hp).after _

theorem lapBegin (h : s₀.Within κ s) : s₀.Within κ (State.lapBegin s) := by
  unfold State.lapBegin
  exact h.after _

theorem wakeUp (h : s₀.Within κ s) : s₀.Within κ (State.wakeUp s) := by
  unfold State.wakeUp
  dsimp only
  exact (((h.after _).lapBegin).after _ (by simp [Hub.sizes_eq])).startPorts

theorem startSteps (romOk selfOk : Bool) (h : s₀.Within κ s) : s₀.Within κ (State.startSteps s romOk selfOk) := by
  unfold State.startSteps
  exact ite h.onHub.startRuntime h.onHub.onHub

theorem hubStart (samples : List Nat) (romOk selfOk : Bool) (temp : Int) (h : s₀.Within κ s) :
    s₀.Within κ (State.hubStart s samples romOk selfOk temp) := by
  unfold State.hubStart
  exact ite (h.onHub.startSteps ..).onHub (h.onHub.startSteps ..)

theorem turnSlots (k : Planned) (h : s₀.Within κ s) : s₀.Within κ (State.turnSlots s k) := by
  unfold State.turnSlots
  dsimp only
  split
  · split
    · exact (h.writeTrailer ..).writeTrailer ..
    · exact h.writeTrailer ..
  · split
    · exact h.writeTrailer ..
    · exact h
  · exact h

theorem restart (k : Planned) (h : s₀.Within κ s) : s₀.Within κ (State.restart s k) := by
  unfold State.restart
  exact onHub (h.turnSlots k)

theorem sleep (h : s₀.Within κ s) : s₀.Within κ (State.sleep s) := by
  unfold State.sleep
  refine h.after _ ?_
  have e := Hub.closeSessions_sizes s.hub (List.range 16)
  dsimp only
  generalize s.hub.closeSessions (List.range 16) = g at e ⊢
  simpa [Hub.sizes_eq, Net.rings_eq, Run.sizes_eq, Hub.dropPermit] using e

theorem announce (x : Stop) (h : s₀.Within κ s) : s₀.Within κ (State.announce s x) := by
  unfold State.announce
  dsimp only
  split <;> exact h.put

theorem abandonStop (k : Planned) (h : s₀.Within κ s) : s₀.Within κ (State.abandonStop s k) := by
  unfold State.abandonStop
  have hs := (h.onHub (f := fun h => h.onRun fun r => { r with stop := none })).takeDue
  generalize State.takeDue _ = t at hs
  have ho : s₀.Within κ { t with hub := (t.hub.order t.hub.dogOrders).1 } := hs.put (by simp)
  dsimp only
  split
  · exact ho.notify _
  · exact ho.notify _
  · exact ho

theorem endStop (h : s₀.Within κ s) : s₀.Within κ (State.endStop s) := by
  unfold State.endStop
  split
  · exact h
  · split
    · exact h
    · split
      · split
        · exact h
        · exact ite (h.abandonStop _) (h.restart _)
      · exact ite h h.sleep

theorem advanceStop (h : s₀.Within κ s) : s₀.Within κ (State.advanceStop s) := by
  unfold State.advanceStop
  split
  · exact h
  · split
    · exact h.endStop
    · split
      · exact (h.announce _).endStop
      · exact ite h.storeSave h

theorem beginStop (k : Planned) (h : s₀.Within κ s) : s₀.Within κ (State.beginStop s k) := by
  unfold State.beginStop
  have hs := h.onHub (f := fun h => h.onRun fun r => { r with stop := some { kind := k } })
  dsimp only
  split
  · exact (ite hs.onHub hs).advanceStop
  · exact hs.onHub.advanceStop

theorem execute (j : Planned) (h : s₀.Within κ s) (hk : κ.banks = true) : s₀.Within κ (s.execute j) := by
  unfold State.execute
  split
  · exact ((h.stopPort ..).startPort _).pumpQ3
  · exact h.hubResetFree 3
  · exact (h.onBanks hk fun b x => .guard (Bank.halt_follows ..)).hubResetFree 4
  · exact h.beginStop _

theorem executePlanned (h : s₀.Within κ s) (hk : κ.banks = true) : s₀.Within κ s.executePlanned := by
  unfold State.executePlanned
  exact foldl _ h.onHub fun s j hs => ite (hs.execute j hk) hs

/-! ## The service of the banks -/

theorem serviceEnd (b code : Nat) (m : ServiceMode) (faults : List Notice) (h : s₀.Within κ s) :
    s₀.Within κ (State.serviceEnd s b code m faults) := by
  unfold State.serviceEnd
  exact h.onHub.notify _

theorem isolate (b : Nat) (h : s₀.Within κ s) : s₀.Within κ (State.isolate s b) := by
  unfold State.isolate
  dsimp only
  refine put (foldl _ h fun s n hs => ite (hs.withdraw n).onHub hs) ?_
  simp

theorem retireBank (b : Nat) (v : Bool) (h : s₀.Within κ s) : s₀.Within κ (State.retireBank s b v).1 := by
  unfold State.retireBank
  dsimp only
  refine (onHub (onHub h ?_)).storeSave
  exact Hub.foldl_sizes _ _ _ fun _ _ => rfl

theorem returnBank (b : Nat) (h : s₀.Within κ s) : s₀.Within κ (State.returnBank s b) := by
  unfold State.returnBank
  have hr : s₀.Within κ (if s.hub.serviceOf b = .retired then s.retireBank b false else (s.storeSave, [])).1 := by
    split
    · exact h.retireBank ..
    · exact h.storeSave
  dsimp only
  exact (hr.put (by simp)).serviceEnd ..

theorem serviceApply (h : s₀.Within κ s) : s₀.Within κ (State.serviceApply s) := by
  unfold State.serviceApply
  split
  · exact h
  · split
    · exact h
    · split
      · exact h.serviceEnd ..
      · split
        · exact h.isolate _
        · dsimp only
          exact h.put (by simp)
        · dsimp only
          exact h.put (by simp)
        · dsimp only
          exact ((h.retireBank _ true).put (by simp)).serviceEnd ..
        · exact h.returnBank _

theorem migrationBegin (h : s₀.Within κ s) : s₀.Within κ (State.migrationBegin s) := by
  unfold State.migrationBegin
  dsimp only
  split
  · exact h
  · split
    · exact h.onHub
    · exact h.put (by simp)

theorem migrationEnd (h : s₀.Within κ s) : s₀.Within κ (State.migrationEnd s) := by
  unfold State.migrationEnd
  dsimp only
  exact (h.applyMap ..).storeSave.onHub.notify _

theorem migrationNext (h : s₀.Within κ s) : s₀.Within κ (State.migrationNext s) := by
  unfold State.migrationNext
  dsimp only
  split
  · exact h
  · split
    · exact h.put (by simp)
    · exact h.migrationEnd

/-! ## The lap boundary -/

theorem leaveTeam (h : s₀.Within κ s) : s₀.Within κ (State.leaveTeam s) := by
  unfold State.leaveTeam
  refine reform (foldl _ h fun s n hs => hs.withdraw n) fun hf => ?_
  generalize (s.hub.proposedLanes.foldl State.withdraw s).hub = g at hf ⊢
  have hg := Hub.formed_of_sizes (Hub.sendTeam_sizes g 4 [0#8, 0#8, 0#8, 0#8]) hf
  simp only [Hub.formed, Hub.shaped_iff] at hg ⊢
  obtain ⟨⟨hl, hv, hse, hsc, hsy, hso, hsv, -, hr⟩, hn⟩ := hg
  exact ⟨⟨hl, hv, hse, hsc, hsy, hso, hsv, rfl, hr⟩, hn⟩

theorem refit (b : Nat) (h : s₀.Within κ s) : s₀.Within κ (s.refit b).1 := by
  unfold State.refit
  dsimp only
  split
  · exact h.cancel ..
  · refine put (h.cancel ..) ?_
    rw [Hub.foldl_sizes_fst]
    exact fun x c => Hub.defer_sizes ..

theorem refits (before : Hub) (h : s₀.Within κ s) : s₀.Within κ (s.refits before).1 := by
  unfold State.refits
  exact foldl_fst _ h fun x b hx => hx.refit b

theorem teamApply (before : Hub) (h : s₀.Within κ s) : s₀.Within κ (State.teamApply before s) := by
  unfold State.teamApply
  dsimp only
  split
  · exact team _ h.form
  · split
    · exact team _ h.leaveTeam
    · exact ite (team _ (h.refits before)) h

theorem boundaryValues (h : s₀.Within κ s) : s₀.Within κ (State.boundaryValues s) := by
  unfold State.boundaryValues
  exact h.onHub

theorem boundaryWork (before : Hub) (h : s₀.Within κ s) : s₀.Within κ (State.boundaryWork before s) := by
  unfold State.boundaryWork
  split
  · exact h
  · have h₁ := h.teamApply before
    have h₂ := ite (p := s.hub.run.boundary.commit = true) h₁.commitApply h₁
    have h₃ := ite (p := s.hub.run.boundary.service = true) h₂.serviceApply h₂
    exact ite h₃.migrationBegin h₃

/-! ## Link frames -/

theorem downlink (b : Nat) (h : s₀.Within κ s) (hk : κ.banks = true) : s₀.Within κ (s.downlink b) := by
  unfold State.downlink
  dsimp only
  refine onHub (h.onBank hk fun x => .of_core rfl) ?_
  simp [Hub.sizes_eq, Run.sizes_eq]

theorem countDiscards (b n : Nat) (h : s₀.Within κ s) : s₀.Within κ (State.countDiscards s b n) := by
  unfold State.countDiscards
  exact ite (h.onHub.notify _) h.onHub

theorem bankStarted (b : Nat) (h : s₀.Within κ s) : s₀.Within κ (State.bankStarted s b) := by
  unfold State.bankStarted
  exact (h.bankGone b).onHub (by simp [Hub.sizes_eq])

theorem bankMessage (b : Nat) (m : FaultMsg) (h : s₀.Within κ s) : s₀.Within κ (State.bankMessage b s m) := by
  unfold State.bankMessage
  dsimp only
  split
  · exact abortGrow (h.after _ (by simp [Hub.sizes_eq]))
  · exact h.after _ (by simp [Hub.sizes_eq])

theorem snapshotsDone (h : s₀.Within κ s) : s₀.Within κ (State.snapshotsDone s) := by
  unfold State.snapshotsDone
  refine (h.onHub ?_).answerWaiting ..
  simp [Run.sizes_eq, foldl_editAt_length]

theorem acknowledged (b : Nat) (acks : List Nat) (h : s₀.Within κ s) : s₀.Within κ (State.acknowledged s b acks) := by
  unfold State.acknowledged
  exact h.onHub.answerWaiting ..

theorem scheduleReports (b : Nat) (ran : List (Nat × Bool)) (h : s₀.Within κ s) : s₀.Within κ (State.scheduleReports s b ran) := by
  unfold State.scheduleReports
  refine foldl _ h fun s e hs => ?_
  dsimp only
  split
  · exact hs.notify _
  · exact (hs.put (by simp)).notify _

theorem telemetry (b : Nat) (old new : BankCore) (h : s₀.Within κ s) : s₀.Within κ (State.telemetry s b old new) := by
  unfold State.telemetry
  dsimp only
  have hb : s₀.Within κ (s.onHub fun h =>
      let h := { h with views := editAt h.views b fun _ => some new }.noteAgreement b new s.now
      let h := if new.thermal = .shedding ∧ old.thermal ≠ .shedding then h.setShedDue b s.now else h
      h.onRun fun r => { r with stop := r.stop.map fun x => if x.announced then { x with acked := editAt x.acked b fun _ => new.restartHold } else x }) := by
    refine h.onHub ?_
    dsimp only
    split <;> simp [Hub.sizes_eq, Run.sizes_eq, Hub.setShedDue, Hub.noteAgreement]
  exact ite ((hb.notify _).serviceEnd ..) (hb.notify _) |>.snapshotsDone.migrationNext

theorem uplink (b : Nat) (f : UpFrame) (h : s₀.Within κ s) : s₀.Within κ (State.uplink s b f) := by
  unfold State.uplink
  dsimp only
  have h₁ := ite (p := f.first = true) (h.bankStarted b) h
  generalize (if f.first = true then s.bankStarted b else s) = t at h₁ ⊢
  have h₂ := (foldl (f := State.bankMessage b) f.msgs (onHub (f := fun h => h.onLink b fun l => { l with reported := some f.discards })
    (h₁.countDiscards b ((t.hub.link b).newDiscards f.discards))) fun s m hs => hs.bankMessage b m)
  have h₃ := (h₂.acknowledged b f.acks).scheduleReports b f.schedRan
  split
  · exact h₃.telemetry ..
  · split
    · exact h₃.onHub
    · exact h₃

theorem gaveUp (b : Nat) (stale : List LinkReq) (h : s₀.Within κ s) : s₀.Within κ (State.gaveUp s b stale) := by
  unfold State.gaveUp
  dsimp only
  have h₁ := (h.onHub (f := fun h => h.onRun fun r => { r with snapWait := r.snapWait.filter fun w => !w.2.2.any (stale.map fun r => (b, r.cmd.id)).contains })).answerWaiting
     (stale.map fun r => (b, r.cmd.id)) 0x0309
  generalize State.answerWaiting _ _ _ = t at h₁ ⊢
  have h₂ : s₀.Within κ (if (t.hub.run.migration.open_.any (stale.map fun r => (b, r.cmd.id)).contains && t.hub.run.migration.grow) = true then t.abortGrow
      else if t.hub.run.migration.open_.any (stale.map fun r => (b, r.cmd.id)).contains = true then t.migrationNext else t) :=
    ite h₁.abortGrow (ite h₁.migrationNext h₁)
  exact ite (h₂.serviceEnd ..) h₂

/-! ## Claiming a bank -/

theorem adoptValue (idx sub v : Nat) (h : s₀.Within κ s) : s₀.Within κ (State.adoptValue s idx sub v) := by
  unfold State.adoptValue
  split
  · exact ite h h.onHub
  · exact h

theorem adoptStore (b : Nat) (c : BankCore) (h : s₀.Within κ s) : s₀.Within κ (State.adoptStore s b c) := by
  unfold State.adoptStore
  refine ((foldl _ h fun s p hs => ?_).adoptValue ..).adoptValue ..
  exact (foldl _ hs fun s e hs => hs.adoptValue ..).adoptValue ..

theorem claimStore (b : Nat) (c : BankCore) (h : s₀.Within κ s) : s₀.Within κ (State.claimStore s b c) := by
  unfold State.claimStore
  dsimp only
  split
  · exact h.put
  · exact ite (h.adoptStore ..) h.put

theorem claimLane (n : Nat) (h : s₀.Within κ s) : s₀.Within κ (State.claimLane s n) := by
  unfold State.claimLane
  split
  · exact h
  · split
    · exact h
    · exact ite h.onHub h.put

theorem claimLanes (b : Nat) (h : s₀.Within κ s) : s₀.Within κ (State.claimLanes s b) := by
  unfold State.claimLanes
  dsimp only
  split
  · exact h.put
  · exact (foldl _ h fun s n hs => hs.claimLane n).put (Hub.rebook_sizes ..)

theorem claimGlide (b : Nat) (c : BankCore) (h : s₀.Within κ s) : s₀.Within κ (State.claimGlide s b c) := by
  unfold State.claimGlide
  have hn := ite (p := c.escGlide = true) (h.notify [.fault 0x33 0xC 0xFF]) h
  exact ite (hn.takeStep ..) (ite hn.put hn)

theorem claimCause (b : Nat) (e : Nat × Nat × Nat) (h : s₀.Within κ s) : s₀.Within κ (State.claimCause b s e) := by
  unfold State.claimCause
  dsimp only
  split
  · exact h.onHub
  · exact h.acceptError ..

theorem claimCauses (b : Nat) (c : BankCore) (h : s₀.Within κ s) : s₀.Within κ (State.claimCauses s b c) := by
  unfold State.claimCauses
  dsimp only
  exact onHub (foldl _ h fun s e hs => hs.claimCause b e) (Hub.sizes_eq.mpr ⟨rfl, rfl, rfl, by simp, rfl⟩)

theorem claimService (b : Nat) (c : BankCore) (h : s₀.Within κ s) : s₀.Within κ (State.claimService s b c) := by
  unfold State.claimService
  dsimp only
  split
  · exact h.serviceEnd ..
  · refine h.onHub ((Hub.onRun_sizes _ _ ?_).trans (Hub.setService_sizes ..))
    exact apply_ite Run.sizes _ _ _ |>.trans (ite_self _)

theorem claim (b : Nat) (c : BankCore) (h : s₀.Within κ s) : s₀.Within κ (State.claim s b c) := by
  unfold State.claim
  dsimp only
  refine notify _ (claimService _ _ (claimCauses _ _ (claimGlide _ _ ?_)))
  have hs := h.onHub (f := fun h => { (h.onLink b fun l => { l with heard := none }) with views := editAt h.views b fun _ => some c }.noteAgreement b c s.now)
    (by simp [Hub.sizes_eq])
  exact put (claimLanes _ (claimStore _ _ hs)) (by simp)

theorem requestAgain (q : StepRequest) (h : s₀.Within κ s) : s₀.Within κ (State.requestAgain s q) := by
  unfold State.requestAgain
  exact h.put

theorem resumeSteps (h : s₀.Within κ s) : s₀.Within κ (State.resumeSteps s) := by
  unfold State.resumeSteps
  exact (foldl _ h.onHub fun s q hs => hs.requestAgain q).takeDue

theorem readyRecords (h : s₀.Within κ s) : s₀.Within κ (State.readyRecords s) := by
  unfold State.readyRecords
  exact (h.onHub.record ..).notify _

theorem dictionaryReady (h : s₀.Within κ s) : s₀.Within κ (State.dictionaryReady s) := by
  unfold State.dictionaryReady
  exact ((((h.onHub.readyRecords).notify _).onHub.dogBegin.startPorts).resumeSteps).storeNext

/-! ## Team frames -/

theorem onTeamFrame (type : Nat) {f : TeamFrame → State → State × List Notice} {note : TeamFrame → Nat → Hub → Hub} (h : s₀.Within κ s) (hf : ∀ a t, s₀.Within κ t → s₀.Within κ (f a t).1) (hn : ∀ a n h, (note a n h).sizes = Hub.sizes h) :
    s₀.Within κ (s.onTeamFrame type f note) := by
  unfold State.onTeamFrame
  split
  · exact h
  · exact ite h.onHub (teamSince _ _ (hf _ _ (h.onHub.onHub (by simp [hn]))))

theorem teamTick (due : Bool) {f : State → State × List Notice} (h : s₀.Within κ s) (hf : s₀.Within κ (f s).1) : s₀.Within κ (s.teamTick due f) := by
  unfold State.teamTick
  exact ite (team _ hf) h

theorem changePacer (m : Nat) (h : s₀.Within κ s) : s₀.Within κ (State.changePacer s m).1 := by
  unfold State.changePacer
  exact h.onHub.join m

theorem knownPacer (m : Nat) (known : Bool) (pacers : List Nat) (h : s₀.Within κ s) :
    s₀.Within κ (if !known then (s, ([] : List Notice)) else if s.hub.run.team.pacer = m then (s.onHub fun h => h.followPacer m, []) else if lowestBy s.hub.keyOf pacers = some m then s.changePacer m else (s, [])).1 := by
  split
  · exact h
  · split
    · exact h.onHub (f := fun h => h.followPacer m)
    · split
      · exact h.changePacer _
      · exact h

theorem hearPacer (fr : TeamFrame) (known : Bool) (h : s₀.Within κ s) : s₀.Within κ (State.hearPacer s fr known).1 := by
  unfold State.hearPacer
  dsimp only
  split
  · exact h.join _
  · split
    · exact (h.cancel ..).onHub.join _
    · exact h
  · exact h.knownPacer ..
  · exact h.knownPacer ..
  · exact h

theorem pacerJudges (m : Nat) (h : s₀.Within κ s) : s₀.Within κ (State.pacerJudges s m) := by
  unfold State.pacerJudges
  dsimp only
  split
  · exact h
  · split
    · exact h.onHub.onHub.cancel ..
    · exact h.onHub

theorem memberGone (m : Nat) (h : s₀.Within κ s) : s₀.Within κ (State.memberGone s m).1 := by
  unfold State.memberGone
  dsimp only
  split
  · exact h.onHub.cancel ..
  · split
    · exact h.elect
    · exact h

theorem memberLost (m : Nat) (h : s₀.Within κ s) : s₀.Within κ (State.memberLost s m).1 := by
  unfold State.memberLost
  exact h.onHub.memberGone m

end State.Within
end Sys2Proof.Machine
end



section
/-! Where each instruction that is no event of a channel or bank and no plain write of an object leads: which places it changes (R16, R20). -/

-- One proof after the other: side by side these proofs ask for more threads than the check has memory for.
set_option Elab.async false

namespace Sys2Proof.Machine

/-- Every state that the outcome `o` leads to follows from `s` within `κ`. -/
def State.Leads (κ : Places) (s : State) (o : Host.Outcome State Fault Refusal) : Prop := ∀ t, o = .next t → s.Within κ t

theorem editAt_getD_const {α : Type} (l : List α) (i : Nat) (f : α → α) (d : α) : (editAt l i fun _ => f (l.getD i d)) = editAt l i f := by
  induction l generalizing i with
  | nil => rfl
  | cons a l ih =>
    cases i with
    | zero => rfl
    | succ i => exact congrArg (a :: ·) (ih i)

theorem State.onBank_const (s : State) (b : Nat) (f : Bank → Bank) : (s.onBank b fun _ => f (s.bank b)) = s.onBank b f :=
  congrArg (fun l => { s with banks := l }) (editAt_getD_const ..)

section
open State.Within

variable {κ : Places} {s : State}

theorem State.Leads.next {t : State} (h : s.Within κ t) : s.Leads κ (.next t) := by
  intro _ e
  injection e with e
  exact e ▸ h

/-! ## The links -/

theorem execDownlinkFrameSend_leads (b : Nat) (r : HubReadings) (hb : κ.banks = true) (hl : κ.lands = true) (hp : κ.pwr = true) :
    s.Leads κ (execDownlinkFrameSend b r s) := by
  have h := sense r (refl s) hl hp
  exact .next (ite (h.downlink b hb) h)

theorem execUplinkFrameRx_leads (b : Nat) (ok : Bool) (hb : κ.banks = true) : s.Leads κ (execUplinkFrameRx b ok s) := by
  refine .next ?_
  split
  · exact refl s
  · split
    · exact refl s
    · have h := (refl s).onBank (b := b) (f := fun x => { x with up := none }) hb fun x => .of_core rfl
      dsimp only
      split
      · exact h
      · split
        · exact (h.uplink ..).advanceStop
        · exact h.countDiscards ..

theorem execCommandGiveUp_leads (b : Nat) : s.Leads κ (execCommandGiveUp b s) := by
  refine .next ?_
  dsimp only
  split
  · exact (((refl s).onHub.notify _).gaveUp ..).advanceStop
  · exact refl s

/-! ## Supplies -/

theorem execVcorePresent_leads (mv held : Nat) (hp : κ.pwr = true) : s.Leads κ (execVcorePresent mv held s) := by
  refine .next ?_
  split
  · exact reshape (onPwr (refl s) hp) fun _ => ⟨rfl, rfl⟩
  · exact refl s

theorem execVcoreAbsent_leads (mv held step : Nat) (landed : Bool) (hp : κ.pwr = true) : s.Leads κ (execVcoreAbsent mv held step landed s) := by
  refine .next ?_
  split
  · have h := onPwr (w := { s.pwr with vcore := false, vcoreMv := 0 }) (refl s) hp
    exact hubReset 1 (reshape h id)
  · exact refl s

theorem execVioPresent_leads (mv held : Nat) (hb : κ.banks = true) (hp : κ.pwr = true) : s.Leads κ (execVioPresent mv held s) := by
  refine .next ?_
  split
  · exact ((onPwr (refl s) hp).onBanks hb fun b x => x.setInputValid_follows b s.now true).reportSupply
  · exact refl s

theorem execVioAbsent_leads (mv held : Nat) (hb : κ.banks = true) (hl : κ.lands = true) (hp : κ.pwr = true) : s.Leads κ (execVioAbsent mv held s) := by
  refine .next ?_
  split
  · have h := onPwr (w := { s.pwr with vio := false, vioMv := 0 }) (onLands (l := {}) (refl s) hl) hp
    exact (h.onBanks hb fun b x => x.setInputValid_follows b s.now false).after _
  · exact refl s

theorem execVphyPresent_leads (mv held : Nat) (hp : κ.pwr = true) : s.Leads κ (execVphyPresent mv held s) := by
  refine .next ?_
  split
  · have h := startPorts (onPwr (w := { s.pwr with vphy := true, vphyMv := mv }) (refl s) hp)
    exact ite (h.reportSupply.notify _) h
  · exact refl s

theorem execVphyAbsent_leads (mv held : Nat) (hp : κ.pwr = true) : s.Leads κ (execVphyAbsent mv held s) := by
  refine .next ?_
  split
  · exact (((onPwr (refl s) hp).notify _).stopPort ..).stopPort ..
  · exact refl s

theorem execVsupAbsent_leads (b mv held : Nat) (hb : κ.banks = true) : s.Leads κ (execVsupAbsent b mv held s) := by
  refine .next ?_
  dsimp only
  split
  · have h := (refl s).onBank (b := b) (f := fun y => y.powerOff s.now) hb fun y => y.halt_follows ..
    split
    · exact (h.bankGone b).notify _
    · exact h.onHub
  · exact refl s

theorem execTierLower_leads (mv held : Nat) (hp : κ.pwr = true) : s.Leads κ (execTierLower mv held s) :=
  .next (ite ((refl s).setTier mv hp) (refl s))

theorem execTierRaise_leads (mv held : Nat) (hp : κ.pwr = true) : s.Leads κ (execTierRaise mv held s) :=
  .next (ite ((refl s).setTier mv hp) (refl s))

theorem execSynthLock_leads (mv : Nat) (hp : κ.pwr = true) : s.Leads κ (execSynthLock mv s) := by
  refine .next ?_
  split
  · exact (onPwr (refl s) hp).onHub
  · have h := (refl s).onHub (κ := κ) (f := fun h => { h with synth := 1 })
    exact (ite h (h.setTier mv hp)).wakeUp
  · exact refl s

/-! ## The clock, the start and the lands of the hub -/

theorem execCalibrationStart_leads (temp : Int) : s.Leads κ (execCalibrationStart temp s) := by
  refine .next ?_
  dsimp only
  split
  · exact (refl s).after _
  · exact refl s

theorem execCalibrationEnd_leads : s.Leads κ (execCalibrationEnd s) := .next (ite (refl s).onHub (refl s))

theorem execReferenceClockLoss_leads (silent : Nat) : s.Leads κ (execReferenceClockLoss silent s) :=
  .next (ite ((refl s).hubResetFree 9).onHub (refl s))

theorem execReferenceClockRestored_leads (running : Nat) : s.Leads κ (execReferenceClockRestored running s) := .next (ite (refl s).onHub (refl s))

theorem execRuntimeWatchdogExpiry_leads (silent : Nat) : s.Leads κ (execRuntimeWatchdogExpiry silent s) :=
  .next (ite ((refl s).hubResetFree 8) (refl s))

theorem execStepConfirmTimeout_leads : s.Leads κ (execStepConfirmTimeout s) := .next (ite ((refl s).hubResetFree 0x0A) (refl s))

theorem execRstnReset_leads (width : Nat) : s.Leads κ (execRstnReset width s) := by
  refine .next ?_
  dsimp only
  split
  · exact refl s
  · split
    · exact (refl s).hubResetFree 2
    · exact ite ((refl s).drawBit.hubResetFree 2) (refl s).drawBit

theorem execHubResetRelease_leads (samples : List Nat) (romOk selfOk : Bool) (temp : Int) : s.Leads κ (execHubResetRelease samples romOk selfOk temp s) := by
  refine .next ?_
  split
  · exact ((refl s).hubStart ..).notify _
  · exact ((refl s).startSteps ..).notify _
  · exact refl s

theorem execStartRetry_leads (samples : List Nat) (romOk selfOk : Bool) (temp : Int) : s.Leads κ (execStartRetry samples romOk selfOk temp s) :=
  .next (ite ((refl s).hubStart ..) (refl s))

theorem execBankClaim_leads (b : Nat) : s.Leads κ (execBankClaim b s) := by
  refine .next ?_
  split
  · exact ite ((refl s).claim ..) (refl s)
  · exact refl s

theorem execDictionaryReady_leads : s.Leads κ (execDictionaryReady s) := .next (ite (refl s).dictionaryReady (refl s))

theorem execWakeExitStandby_leads (held : Nat) (hl : κ.lands = true) : s.Leads κ (execWakeExitStandby held s) := by
  refine .next ?_
  split
  · exact refl s
  · have h := onLands (l := { s.lands with wake := true, wakeAt := none }) (refl s) hl
    dsimp only
    split
    · exact h.onHub
    · exact ite h.onHub h
    · exact h

theorem execInEdgeAccept_leads (pin : Nat) (level : Bool) (held : Nat) (hb : κ.banks = true) (hl : κ.lands = true) :
    s.Leads κ (execInEdgeAccept pin level held s) := by
  refine .next ?_
  split
  · exact (onLands (refl s) hl).onBanks hb fun b x => x.inputEdge_follows b s.now pin level held
  · exact refl s

theorem execZxEdgeAccept_leads (input : Nat) (level : Bool) (at_ : Nat) (hl : κ.lands = true) : s.Leads κ (execZxEdgeAccept input level at_ s) := by
  refine .next ?_
  split
  · exact (onLands (refl s) hl).onLap _
  · exact refl s

theorem execFactoryTestKey_leads (k v : Nat) (high : Bool) (hl : κ.lands = true) : s.Leads κ (execFactoryTestKey k v high s) :=
  .next (((refl s).senseTest _ hl).writeNum ..)

theorem execFactoryTestExit_leads (hl : κ.lands = true) : s.Leads κ (execFactoryTestExit s) := .next ((refl s).senseTest _ hl)

/-! ## Banks -/

theorem execThermalWarningClear_leads (ch : Nat) (temp : Int) (hb : κ.banks = true) : s.Leads κ (execThermalWarningClear ch temp s) := by
  have h := (refl s).onBank (b := ch / 12) (f := fun x => x.act (ch / 12) s.now fun c => c.read (ch % 12) temp s.now) hb
    fun x => x.act_follows _ _ _ (BankCore.read_tame ..)
  refine .next (ite (foldl _ h fun s k hs => ?_) h)
  exact hs.onBank hb fun x => (x.thermalWarnClear_stays ..).1

theorem execScheduleApply_leads (b lane : Nat) (hb : κ.banks = true) : s.Leads κ (execScheduleApply b lane s) := by
  refine .next ?_
  dsimp only
  split
  · exact (refl s).onBank hb fun x => x.dropSchedule_follows ..
  · rw [s.onBank_const b fun x => x.applySchedule b s.now lane]
    have h := (refl s).onBank (b := b) (f := fun x => x.applySchedule b s.now lane) hb fun x => x.applySchedule_follows ..
    split
    · exact ite h.onHub h
    · exact h

theorem execRetrimComplete_leads (b : Nat) (within : Bool) (hb : κ.banks = true) : s.Leads κ (execRetrimComplete b within s) := by
  refine .next ?_
  dsimp only
  split
  · have h := ((refl s).put rfl : s.Within κ { s with free := s.free + 1 }).onBank (b := b) (f := fun x => x.retrimDone b s.now (Config.trims b s.free) within) hb
      fun x => x.retrimDone_follows ..
    exact ite (h.serviceEnd ..) h
  · exact refl s

theorem execShedGroup_leads (b : Nat) : s.Leads κ (execShedGroup b s) := by
  refine .next ?_
  dsimp only
  split
  · split
    · exact ((refl s).put (by simp [Run.sizes_eq])).notify _
    · exact refl s
  · exact refl s

theorem execRestoreGroup_leads (b : Nat) : s.Leads κ (execRestoreGroup b s) := by
  refine .next ?_
  dsimp only
  split
  · split
    · exact ((refl s).put (by simp [Run.sizes_eq])).notify _
    · exact refl s
  · exact refl s

/-! ## The memory window and the charge permit -/

theorem execMramWindowClose_leads (temp : Int) : s.Leads κ (execMramWindowClose temp s) := .next (ite (((refl s).hubTemp temp).after _) (refl s))

theorem execMramWindowOpen_leads (temp : Int) (held : Nat) : s.Leads κ (execMramWindowOpen temp held s) := by
  refine .next ?_
  split
  · have h := ((refl s).hubTemp (κ := κ) temp).after (f := fun h => { h.beginFlush with windowCode := 0 }) [.event 12 0x2020 2, .gone 0x35]
      (Hub.beginFlush_sizes _)
    exact ite h.storeNext h
  · exact refl s

theorem execDeferralMarker_leads (temp : Int) : s.Leads κ (execDeferralMarker temp s) := .next (ite ((refl s).hubTemp temp) (refl s))

theorem execChgpermHigh_leads (held : Nat) : s.Leads κ (execChgpermHigh held s) := .next (ite (refl s).onHub (refl s))

theorem execChgpermLow_leads : s.Leads κ (execChgpermLow s) := .next (ite (refl s).onHub (refl s))

/-! ## The watchdog, the laps and the capture -/

theorem execWatchdogLateMiss_leads : s.Leads κ (execWatchdogLateMiss s) := .next (ite ((refl s).dogLate ..) (refl s))

theorem execLapBoundaryApply_leads (hb : κ.banks = true) : s.Leads κ (execLapBoundaryApply s) := by
  refine .next ?_
  dsimp only
  split
  · have h := ((refl s).onHub (κ := κ) (f := fun h => { h with lap := { h.lap with boundaryDue := false } })).boundaryValues
    exact ((((ite h (h.onLap _)).boundaryWork s.hub).notify _).executePlanned hb).advanceStop
  · exact refl s

theorem execLapOrigin_leads : s.Leads κ (execLapOrigin s) := by
  refine .next ?_
  dsimp only
  split
  · have h := (refl s).onLap (κ := κ) fun l c => l.origin c s.now
    exact ((ite h.onHub h).onHub (by simp [Hub.sizes_eq])).noteBoundary.pumpQ3
  · exact refl s

theorem execScheduleResolve_leads (lane : Nat) : s.Leads κ (execScheduleResolve lane s) := by
  refine .next ?_
  split
  · dsimp only
    exact ((refl s).put (by split <;> simp)).notify _
  · exact refl s

theorem execSyncWindowEnd_leads (lane : Nat) (currents unblanked : List Nat) : s.Leads κ (execSyncWindowEnd lane currents unblanked s) := by
  refine .next ?_
  dsimp only
  split
  · exact ite (refl s).onHub (refl s)
  · exact refl s

theorem execCaptureStart_leads : s.Leads κ (execCaptureStart s) := by
  refine .next ?_
  dsimp only
  split
  · exact ite ((refl s).after _) (refl s)
  · exact refl s

theorem execCaptureSample_leads (mean : Nat) (blanked limited : Bool) : s.Leads κ (execCaptureSample mean blanked limited s) :=
  .next (ite ((refl s).after _ rfl) (refl s))

/-! ## The collector -/

theorem execFaultErrorAcceptS_leads (source kind origin address : Nat) : s.Leads κ (execFaultErrorAcceptS source kind origin address s) :=
  .next (ite ((refl s).acceptError ..) (refl s))

theorem execFaultErrorAcceptD_leads (source kind origin address : Nat) : s.Leads κ (execFaultErrorAcceptD source kind origin address s) :=
  .next (ite ((refl s).acceptError ..) (refl s))

theorem execFaultState0Accept_leads (source : Nat) : s.Leads κ (execFaultState0Accept source s) :=
  .next ((refl s).onCollector fun c _ => by split <;> simp)

theorem execErrnPulseEnd_leads : s.Leads κ (execErrnPulseEnd s) := .next ((refl s).onCollector fun c _ => by simp)

theorem execGraceExpiry_leads (source : Nat) : s.Leads κ (execGraceExpiry source s) := .next (ite ((refl s).escalate source) (refl s))

theorem execEscalationStep_leads (source : Nat) : s.Leads κ (execEscalationStep source s) := .next (ite (refl s) ((refl s).escalate source))

/-! ## The time domains and the network stage -/

theorem execGptpSyncRx_leads (n origin interval : Nat) : s.Leads κ (execGptpSyncRx n origin interval s) :=
  .next (ite ((refl s).clockTick ..) (refl s))

theorem execSecondDomainSample_leads (n origin interval : Nat) : s.Leads κ (execSecondDomainSample n origin interval s) :=
  .next (ite ((refl s).clockTick ..) (refl s))

theorem execGptpAnnounceRx_leads (n : Nat) (second : Bool) (vector steps : Nat) : s.Leads κ (execGptpAnnounceRx n second vector steps s) :=
  .next (ite ((refl s).clockTick ..) (refl s))

theorem execGptpPdelayExchange_leads (n responders delay : Nat) : s.Leads κ (execGptpPdelayExchange n responders delay s) :=
  .next (ite ((refl s).onHub.clockTick ..) (refl s))

theorem execPpsEdgeCapture_leads (low : Nat) : s.Leads κ (execPpsEdgeCapture low s) := .next (ite ((refl s).clockTick ..) (refl s))

theorem execPpsOutputRise_leads : s.Leads κ (execPpsOutputRise s) := .next (ite ((refl s).clockTick ..) (refl s))

theorem execGptpSyncSend_leads (n : Nat) (second : Bool) : s.Leads κ (execGptpSyncSend n second s) := .next (ite (refl s).onHub (refl s))

theorem execGptpAnnounceSend_leads (n : Nat) : s.Leads κ (execGptpAnnounceSend n s) := by
  refine .next ?_
  split
  · have h := ((refl s).selectMaster (κ := κ) false).onHub (f := fun h => h.sendGptp n (announceKind false) (s.selectMaster false).now [h.announceFrame n false])
    dsimp only
    split
    · exact onHub (h.selectMaster true) (Hub.sendGptp_sizes ..)
    · exact h
  · exact refl s

theorem execTransmitOpportunity_leads (n id : Nat) : s.Leads κ (execTransmitOpportunity n id s) :=
  .next (ite ((refl s).onNet fun h => (Net.shaped_of_rings (by simp)).trans h) (refl s))

theorem execTransmitAbort_leads (n : Nat) : s.Leads κ (execTransmitAbort n s) := .next (ite ((refl s).onNetTime (by simp)) (refl s))

theorem execFrameTransmitEnd_leads (n : Nat) : s.Leads κ (execFrameTransmitEnd n s) := .next (ite ((refl s).onNetTime (by simp)) (refl s))

theorem execBeaconLost_leads (n : Nat) : s.Leads κ (execBeaconLost n s) :=
  .next (ite ((refl s).onNet fun h => (Net.shaped_of_rings (by simp)).trans h) (refl s))

theorem execBeaconSeen_leads (n : Nat) : s.Leads κ (execBeaconSeen n s) :=
  .next (ite ((refl s).onNet fun h => (Net.shaped_of_rings (by simp)).trans h) (refl s))

theorem execReceiveErrorRateClear_leads (n : Nat) : s.Leads κ (execReceiveErrorRateClear n s) :=
  .next (ite ((refl s).onNet fun h => (Net.shaped_of_rings (by simp)).trans h) (refl s))

theorem execLearnEntryAgeOut_leads (mac : Nat) : s.Leads κ (execLearnEntryAgeOut mac s) :=
  .next ((refl s).onNet fun h => (Net.shaped_of_rings (by simp)).trans h)

theorem execQ3LaunchEligible_leads : s.Leads κ (execQ3LaunchEligible s) :=
  .next ((refl s).onNet fun h => (Net.shaped_of_rings (by simp)).trans h)

theorem execQ4Handover_leads : s.Leads κ (execQ4Handover s) :=
  .next ((refl s).onNet fun h => (Net.shaped_of_rings (by simp)).trans h)

theorem execMediumWaitTimeout_leads : s.Leads κ (execMediumWaitTimeout s) := .next ((refl s).onNetTime (by simp))

theorem execFrameIngress_leads (n : Nat) (frame : List Byte) (e : Bool) (hk : κ.bufs = true) : s.Leads κ (execFrameIngress n frame e s) := by
  refine .next ?_
  split
  · dsimp only
    split
    · exact ((refl s).writeBuf _ _ hk |>.after _ (by simp [Hub.sizes_eq])).pumpQ3
    · exact ((refl s).after _ (by simp [Hub.sizes_eq])).pumpQ3
  · exact refl s

theorem execQ5Classify_leads : s.Leads κ (execQ5Classify s) := by
  refine .next ?_
  dsimp only
  split
  · exact refl s
  · refine (refl s).after_reform _ fun hf => ?_
    have hr (d : Nat) (l : List (Nat × NetItem)) : Hub.formed (Hub.releaseQ5 { s.hub with net := (s.hub.net.classifyAs d).1, q5Held := l }) :=
      ⟨hf.1, Net.classifyAs_shaped _ _ hf.2⟩
    split
    · exact Hub.formed_of_sizes (Hub.teamHeard_sizes ..) (hr _ _)
    · exact hr _ _

/-! ## The serial interface, requests and sessions -/

theorem execSpiWriteQ0_leads (sck : Bool) (data : List Byte) : s.Leads κ (execSpiWriteQ0 sck data s) := by
  refine .next ?_
  split
  · exact refl s
  · split
    · exact ((refl s).spiTransaction ..).notify _
    · exact ite ((refl s).spiTransaction ..) (onHub ((refl s).spiTransaction ..))

theorem execSpiReadQ1_leads (sck : Bool) (clocked : Nat) : s.Leads κ (execSpiReadQ1 sck clocked s) := by
  refine .next ?_
  split
  · exact refl s
  · dsimp only
    split
    · exact (refl s).spiTransaction ..
    · refine onHub ((refl s).spiTransaction ..) ?_
      split <;> simp [Hub.sizes_eq, Net.rings_eq]

theorem execSpiStatus_leads (sck : Bool) : s.Leads κ (execSpiStatus sck s) := .next (ite (refl s) ((refl s).spiTransaction ..))

theorem execSpiTransactionDiscard_leads (sck : Bool) : s.Leads κ (execSpiTransactionDiscard sck s) := .next (ite ((refl s).spiTransaction ..) (refl s))

theorem execRequestDiscard_leads (via : Transport) : s.Leads κ (execRequestDiscard via s) := by
  refine .next ?_
  split
  · split
    · exact refl s
    · cases via <;> exact (refl s).onHub
  · exact refl s

theorem execResponsePostResume_leads : s.Leads κ (execResponsePostResume s) := by
  refine .next ?_
  dsimp only
  split
  · refine (refl s).onHub (Hub.sizes_eq.mpr ⟨rfl, rfl, Run.heldSent_sizes .., rfl, ?_⟩)
    exact Net.foldl_rings _ _ _ fun n d => Net.postQ1_rings ..
  · exact refl s

theorem execConfirmTimeout_leads (n : Nat) : s.Leads κ (execConfirmTimeout n s) := .next (ite (refl s).onHub (refl s))

theorem execSessionReclaim_leads (n : Nat) : s.Leads κ (execSessionReclaim n s) := .next (ite ((refl s).reclaim n) (refl s))

theorem execSegmentTimeout_leads (n : Nat) : s.Leads κ (execSegmentTimeout n s) := by
  refine .next ?_
  split
  · exact ite (refl s).onHub (refl s)
  · exact refl s

theorem execKeyWrite_leads (k : Nat) (role : Role) (key : List Byte) : s.Leads κ (execKeyWrite k role key s) := by
  cases role
  · exact .next (refl s)
  · exact .next ((refl s).writeRow ..)
  · exact .next ((refl s).writeRow ..)

theorem execArpRequest_leads : s.Leads κ (execArpRequest s) := by
  refine .next ?_
  split
  · exact ite (refl s).onHub (refl s)
  · exact refl s

theorem execIcmpEcho_leads : s.Leads κ (execIcmpEcho s) := by
  refine .next ?_
  split
  · dsimp only
    split
    · exact ite (refl s).onHub (refl s)
    · exact refl s
  · exact refl s

/-! ## The team -/

theorem execTeamStatusSend_leads : s.Leads κ (execTeamStatusSend s) := by
  refine .next ((refl s).teamTick _ ?_)
  have h₁ := (refl s).onHub (κ := κ) (f := fun h => h.onTeam fun t => { t with lastRef := h.refIdentity })
  generalize (s.onHub fun h => h.onTeam fun t => { t with lastRef := h.refIdentity }) = u at h₁
  have h₂ := h₁.onHub (f := fun h => (h.sendTeam 1 u.statusBody).onTeam fun t =>
    { t with statusAt := u.now + max 5000000 (h.act 0x6000 7 100 / 4 * 1000000) })
  dsimp only
  split
  · exact foldl _ h₂ fun s m hs => hs.onHub
  · exact h₂

theorem execTeamStatusRx_leads : s.Leads κ (execTeamStatusRx s) := by
  refine .next ((refl s).onTeamFrame _ (fun fr t ht => ?_) fun fr n h => by simp)
  have hp : s.Within κ (if leField fr.body 0 1 = 4 then t.hearPacer fr (!t.hub.numberTaken fr.mac fr.num t.now) else (t, [])).1 := by
    split
    · exact ht.hearPacer ..
    · exact ht
  dsimp only
  exact ite (hp.pacerJudges _) hp

theorem execTeamJoinRx_leads : s.Leads κ (execTeamJoinRx s) := by
  refine .next ((refl s).onTeamFrame _ (fun fr t ht => ?_) fun fr n h => rfl)
  dsimp only
  split
  · exact ht
  · split
    · dsimp only
      exact ht.onHub
    · dsimp only
      exact ht.onHub

theorem execTeamJoinReplyRx_leads : s.Leads κ (execTeamJoinReplyRx s) := by
  refine .next ((refl s).onTeamFrame _ (fun fr t ht => ?_) fun fr n h => rfl)
  dsimp only
  split
  · split
    · dsimp only
      exact foldl _ ht.onHub fun s n hs => hs.propose n
    · split
      · dsimp only
        exact ht.onHub
      · exact ht
  · dsimp only
    split
    · exact ht.onHub
    · exact ht.onHub

theorem execTeamLeaveRx_leads : s.Leads κ (execTeamLeaveRx s) := by
  refine .next ((refl s).onTeamFrame _ (fun fr t ht => ?_) fun fr n h => rfl)
  dsimp only
  split
  · exact ht
  · split
    · dsimp only
      exact (ht.onHub.memberGone _).onHub
    · exact memberGone _ ht.onHub

theorem execMemberTimeout_leads (m : Nat) : s.Leads κ (execMemberTimeout m s) := by
  refine .next ((refl s).teamTick _ ?_)
  split
  · dsimp only
    exact (refl s).onHub
  · exact (refl s).memberLost m

theorem execAwayTimeout_leads (m : Nat) : s.Leads κ (execAwayTimeout m s) := .next ((refl s).teamTick _ ((refl s).memberLost m))

/-- A proposal that a frame holds has a time that is a product with 10^9: written as a pair, its queueing can be taken apart without evaluating it. -/
theorem Hub.queueProposal_eta : Hub.queueProposal = fun h p => ((h.queueProposal p).1, (h.queueProposal p).2) := rfl

theorem execTeamProposeRx_leads : s.Leads κ (execTeamProposeRx s) := by
  unfold execTeamProposeRx
  rw [Hub.queueProposal_eta]
  refine .next ((refl s).onTeamFrame _ (fun fr t ht => ?_) fun fr n h => rfl)
  dsimp only
  split
  · exact ht
  · split
    · dsimp only
      exact ht.onHub
    · dsimp only
      exact ht.put (Hub.queueProposal_sizes ..)

theorem execTeamWithdrawRx_leads : s.Leads κ (execTeamWithdrawRx s) := by
  refine .next ((refl s).onTeamFrame _ (fun fr t ht => ?_) fun fr n h => rfl)
  dsimp only
  split
  · exact ht
  · dsimp only
    exact ht.onHub.cancel ..

theorem execTeamIntentRx_leads : s.Leads κ (execTeamIntentRx s) := by
  refine .next ((refl s).onTeamFrame _ (fun fr t ht => ?_) fun fr n h => rfl)
  split
  · exact ht
  · dsimp only
    exact ht.onHub

theorem execTeamCommitRx_leads : s.Leads κ (execTeamCommitRx s) := by
  refine .next ((refl s).onTeamFrame _ (fun fr t ht => ?_) fun fr n h => rfl)
  dsimp only
  split
  · exact ht
  · split
    · exact ht
    · split
      · exact ht
      · exact ht.put (by simp)

theorem execTeamCancelRx_leads : s.Leads κ (execTeamCancelRx s) := by
  refine .next ((refl s).onTeamFrame _ (fun fr t ht => ?_) fun fr n h => rfl)
  dsimp only
  split
  · exact ht
  · exact ht.put (by simp)

theorem execTeamRejectRx_leads : s.Leads κ (execTeamRejectRx s) := by
  refine .next ((refl s).onTeamFrame _ (fun fr t ht => ?_) fun fr n h => rfl)
  dsimp only
  split
  · exact ht
  · split
    · exact ht
    · exact ht.put (by simp)

theorem execFormationWindowEnd_leads : s.Leads κ (execFormationWindowEnd s) := .next ((refl s).teamTick _ (refl s).elect)

theorem execPacerClaimTimeout_leads : s.Leads κ (execPacerClaimTimeout s) := .next ((refl s).teamTick _ (refl s).onHub.elect)

theorem execJoinReplyTimeout_leads : s.Leads κ (execJoinReplyTimeout s) := .next ((refl s).teamTick _ (refl s).form)

theorem execJoinRetry_leads : s.Leads κ (execJoinRetry s) := by
  refine .next ((refl s).teamTick _ ?_)
  dsimp only
  exact (refl s).onHub

theorem execPublicationTime_leads : s.Leads κ (execPublicationTime s) := .next ((refl s).teamTick _ ((refl s).put (by simp)))

theorem execCommitSendTime_leads : s.Leads κ (execCommitSendTime s) := .next ((refl s).teamTick _ ((refl s).put (by simp)))

theorem execCommitDeadline_leads : s.Leads κ (execCommitDeadline s) := .next ((refl s).teamTick _ ((refl s).put (by simp)))

theorem execEntryTargetReached_leads : s.Leads κ (execEntryTargetReached s) := .next ((refl s).teamTick _ ((refl s).put (by simp)))

/-! ## The store and the journal -/

theorem execStoreWriteComplete_leads (verified : Bool) : s.Leads κ (execStoreWriteComplete verified s) :=
  .next (ite ((refl s).storeDone verified).flushDone.advanceStop (refl s))

theorem execSaveDelayExpiry_leads : s.Leads κ (execSaveDelayExpiry s) := .next (ite (refl s).storeSave (refl s))

theorem execJournalRecordWrite_leads : s.Leads κ (execJournalRecordWrite s) := .next (ite (refl s).journalWrite.advanceStop (refl s))

theorem execRestartHoldAckTimeout_leads : s.Leads κ (execRestartHoldAckTimeout s) := by
  refine .next ?_
  split
  · exact ite ((refl s).abandonStop _) (refl s)
  · exact refl s

end
end Sys2Proof.Machine
end


section
/-! Which places each command may change, by the lists of commands that may (R16, R20, R369). -/

-- One proof after the other: side by side these proofs ask for more threads than the check has memory for.
set_option Elab.async false

namespace Sys2Proof.Machine

/-- The places outside the hub that a command may change. -/
def places (c : Instr) : Places where
  banks := (chanEvent c).isSome || (bankEvent c).isSome || otherBankCommand c
  pwr := supplyCommand c
  lands := landCommand c
  bufs := bufferCommand c

/-- A command that is no event of a channel or bank keeps to its places. -/
theorem exec_leads_beside {c : Instr} (hc : chanEvent c = none) (hb : bankEvent c = none) (s : State) : s.Leads (places c) (exec c s) := by
  cases c with
  | eventAcknowledge | resetRequestRuntimeRestart | resetRequestHubReset | resetRequestWholeDevice | standbyRequest | mapCommit
  | sensorReadmit | permitRequestWrite | watchdogArm | watchdogDisarm | strideToken | lapSnapshot | lapCountPreset | captureArm | captureAbort
  | q7ReadIndexWrite | clearSource | clearAll | recordClear | acknowledgeSource | faultInject | groupDForceWrite | incrementWrite
  | servoOwnerTake | servoOwnerReturn | ppsModeWrite | teamEnable | teamDisable | saveRequest | journalClear | journalCursorWrite | patchVerify
  | patchErase | patchActivate | patchRevert | migrationStart =>
    exact .next ((State.Within.refl s).writeNum ..)
  | laneCommandOff | laneCommandOn | laneCommandFollow | rampTargetWrite | unlock | snapshotTrigger | sheddingPriorityWrite
  | patternEntryWrite | laneFailsafeEnter | laneReleaseAsStored | laneReleaseToOff | scheduleArm | scheduleCancel =>
    exact .next ((State.Within.refl s).writeLaneNum ..)
  | transportConfigWrite | registerWrite =>
    exact .next ((State.Within.refl s).writeRow ..)
  | resetRequestPortReset | bankFailsafeEnter | bankReleaseAsStored | bankReleaseToOff | escalationCeilingWrite | timeSet | stepAdjust
  | queueProducerWrite | queueConsumerWrite | overflowFlagClear | portEnable | portDisable | plcaSettingWrite | sessionCloseObject | bankIsolate
  | bankResetRequest | bankRetrim | bankRetire | bankReturnToService | channelRetireWrite =>
    exact .next (.ite ((State.Within.refl s).writeNum ..) (.refl s))
  | profileSlotWrite =>
    exact .next (.ite ((State.Within.refl s).writeRow ..) (.refl s))
  | downlinkFrameSend => exact execDownlinkFrameSend_leads _ _ rfl rfl rfl
  | uplinkFrameRx => exact execUplinkFrameRx_leads _ _ rfl
  | commandGiveUp => exact execCommandGiveUp_leads _
  | vcorePresent => exact execVcorePresent_leads _ _ rfl
  | vcoreAbsent => exact execVcoreAbsent_leads _ _ _ _ rfl
  | vioPresent => exact execVioPresent_leads _ _ rfl rfl
  | vphyPresent => exact execVphyPresent_leads _ _ rfl
  | vsupAbsent => exact execVsupAbsent_leads _ _ _ rfl
  | tierLower => exact execTierLower_leads _ _ rfl
  | tierRaise => exact execTierRaise_leads _ _ rfl
  | synthLock => exact execSynthLock_leads _ rfl
  | calibrationStart => exact execCalibrationStart_leads _
  | rstnReset => exact execRstnReset_leads _
  | hubResetRelease => exact execHubResetRelease_leads _ _ _ _
  | startRetry => exact execStartRetry_leads _ _ _ _
  | bankClaim => exact execBankClaim_leads _
  | wakeExitStandby => exact execWakeExitStandby_leads _ rfl
  | inEdgeAccept => exact execInEdgeAccept_leads _ _ _ rfl rfl
  | thermalWarningClear => exact execThermalWarningClear_leads _ _ rfl
  | shedGroup => exact execShedGroup_leads _
  | restoreGroup => exact execRestoreGroup_leads _
  | mramWindowClose => exact execMramWindowClose_leads _
  | mramWindowOpen => exact execMramWindowOpen_leads _ _
  | deferralMarker => exact execDeferralMarker_leads _
  | chgpermHigh => exact execChgpermHigh_leads _
  | zxEdgeAccept => exact execZxEdgeAccept_leads _ _ _ rfl
  | scheduleResolve => exact execScheduleResolve_leads _
  | scheduleApply => exact execScheduleApply_leads _ _ rfl
  | syncWindowEnd => exact execSyncWindowEnd_leads _ _ _
  | captureSample => exact execCaptureSample_leads _ _ _
  | faultErrorAcceptS => exact execFaultErrorAcceptS_leads _ _ _ _
  | faultErrorAcceptD => exact execFaultErrorAcceptD_leads _ _ _ _
  | faultState0Accept => exact execFaultState0Accept_leads _
  | graceExpiry => exact execGraceExpiry_leads _
  | escalationStep => exact execEscalationStep_leads _
  | factoryTestKey => exact execFactoryTestKey_leads _ _ _ rfl
  | gptpSyncRx => exact execGptpSyncRx_leads _ _ _
  | secondDomainSample => exact execSecondDomainSample_leads _ _ _
  | gptpAnnounceRx => exact execGptpAnnounceRx_leads _ _ _ _
  | gptpPdelayExchange => exact execGptpPdelayExchange_leads _ _ _
  | ppsEdgeCapture => exact execPpsEdgeCapture_leads _
  | transmitOpportunity => exact execTransmitOpportunity_leads _ _
  | transmitAbort => exact execTransmitAbort_leads _
  | frameTransmitEnd => exact execFrameTransmitEnd_leads _
  | beaconLost => exact execBeaconLost_leads _
  | frameIngress => exact execFrameIngress_leads _ _ _ rfl
  | learnEntryAgeOut => exact execLearnEntryAgeOut_leads _
  | spiWriteQ0 => exact execSpiWriteQ0_leads _ _
  | spiReadQ1 => exact execSpiReadQ1_leads _ _
  | requestDiscard => exact execRequestDiscard_leads _
  | discover => exact .next ((State.Within.refl s).serveFree _ _ _ fun _ _ _ h => h.answerDiscover ..)
  | openSession => exact .next ((State.Within.refl s).serveFree _ _ _ fun _ _ _ h => h.answerOpen ..)
  | confirm => exact .next ((State.Within.refl s).serveIn _ _ _ _ fun _ _ _ h => h.answerConfirm ..)
  | close => exact .next ((State.Within.refl s).serveIn _ _ _ _ fun _ _ _ h => h.answerClose ..)
  | keepalive => exact .next ((State.Within.refl s).serveIn _ _ _ _ fun _ _ _ h => h.respond ..)
  | provision => exact .next ((State.Within.refl s).serveFree _ _ _ fun _ _ _ h => h.answerProvision ..)
  | read => exact .next ((State.Within.refl s).serveIn _ _ _ _ fun _ _ _ h => h.answerRead ..)
  | write => exact .next ((State.Within.refl s).serveIn _ _ _ _ fun _ _ _ h => h.answerWrite ..)
  | segmentRead => exact .next ((State.Within.refl s).serveIn _ _ _ _ fun _ _ _ h => h.answerSegmentRead ..)
  | segmentWrite => exact .next ((State.Within.refl s).serveIn _ _ _ _ fun _ _ _ h => h.answerSegmentWrite ..)
  | queueRead => exact .next ((State.Within.refl s).serveIn _ _ _ _ fun _ _ _ h => h.answerQueueRead ..)
  | queueWrite => exact .next ((State.Within.refl s).serveIn _ _ _ _ fun _ _ _ h => h.answerQueueWrite ..)
  | bufferRead => exact .next ((State.Within.refl s).serveIn _ _ _ _ fun _ _ _ h => h.answerBufferRead ..)
  | bufferWrite => exact .next ((State.Within.refl s).serveIn _ _ _ _ fun _ _ _ h => h.answerBufferWrite _ _ _ rfl)
  | confirmTimeout => exact execConfirmTimeout_leads _
  | sessionReclaim => exact execSessionReclaim_leads _
  | segmentTimeout => exact execSegmentTimeout_leads _
  | keyWrite => exact execKeyWrite_leads _ _ _
  | memberTimeout => exact execMemberTimeout_leads _
  | awayTimeout => exact execAwayTimeout_leads _
  | storeWriteComplete => exact execStoreWriteComplete_leads _
  | retrimComplete => exact execRetrimComplete_leads _ _ rfl
  | beaconSeen => exact execBeaconSeen_leads _
  | gptpSyncSend => exact execGptpSyncSend_leads _ _
  | gptpAnnounceSend => exact execGptpAnnounceSend_leads _
  | receiveErrorRateClear => exact execReceiveErrorRateClear_leads _
  | vioAbsent => exact execVioAbsent_leads _ _ rfl rfl rfl
  | vphyAbsent => exact execVphyAbsent_leads _ _ rfl
  | calibrationEnd => exact execCalibrationEnd_leads
  | referenceClockLoss => exact execReferenceClockLoss_leads _
  | referenceClockRestored => exact execReferenceClockRestored_leads _
  | runtimeWatchdogExpiry => exact execRuntimeWatchdogExpiry_leads _
  | dictionaryReady => exact execDictionaryReady_leads
  | lapBoundaryApply => exact execLapBoundaryApply_leads rfl
  | chgpermLow => exact execChgpermLow_leads
  | watchdogLateMiss => exact execWatchdogLateMiss_leads
  | lapOrigin => exact execLapOrigin_leads
  | captureStart => exact execCaptureStart_leads
  | errnPulseEnd => exact execErrnPulseEnd_leads
  | stepConfirmTimeout => exact execStepConfirmTimeout_leads
  | factoryTestExit => exact execFactoryTestExit_leads rfl
  | ppsOutputRise => exact execPpsOutputRise_leads
  | q3LaunchEligible => exact execQ3LaunchEligible_leads
  | mediumWaitTimeout => exact execMediumWaitTimeout_leads
  | q4Handover => exact execQ4Handover_leads
  | q5Classify => exact execQ5Classify_leads
  | spiStatus => exact execSpiStatus_leads _
  | spiTransactionDiscard => exact execSpiTransactionDiscard_leads _
  | responsePostResume => exact execResponsePostResume_leads
  | arpRequest => exact execArpRequest_leads
  | icmpEcho => exact execIcmpEcho_leads
  | teamStatusSend => exact execTeamStatusSend_leads
  | teamStatusRx => exact execTeamStatusRx_leads
  | teamJoinRx => exact execTeamJoinRx_leads
  | teamJoinReplyRx => exact execTeamJoinReplyRx_leads
  | teamLeaveRx => exact execTeamLeaveRx_leads
  | teamProposeRx => exact execTeamProposeRx_leads
  | teamWithdrawRx => exact execTeamWithdrawRx_leads
  | teamIntentRx => exact execTeamIntentRx_leads
  | teamCommitRx => exact execTeamCommitRx_leads
  | teamCancelRx => exact execTeamCancelRx_leads
  | teamRejectRx => exact execTeamRejectRx_leads
  | formationWindowEnd => exact execFormationWindowEnd_leads
  | pacerClaimTimeout => exact execPacerClaimTimeout_leads
  | joinReplyTimeout => exact execJoinReplyTimeout_leads
  | joinRetry => exact execJoinRetry_leads
  | publicationTime => exact execPublicationTime_leads
  | commitSendTime => exact execCommitSendTime_leads
  | commitDeadline => exact execCommitDeadline_leads
  | entryTargetReached => exact execEntryTargetReached_leads
  | saveDelayExpiry => exact execSaveDelayExpiry_leads
  | journalRecordWrite => exact execJournalRecordWrite_leads
  | restartHoldAckTimeout => exact execRestartHoldAckTimeout_leads
  | announceReceiptTimeout | hostServoTimeout | syncReceiptTimeout | holdoverLimit | ppsMissing | ppsOutputFall =>
    exact .next ((State.Within.refl s).clockTick ..)
  | armDeadlineExpiry => exact .next ((State.Within.refl s).dogDeadline)
  | votedCrossing | missingCrossing => exact .next ((State.Within.refl s).onLap ..)
  | _ => simp [chanEvent, bankEvent] at hc hb

theorem exec_leads (c : Instr) (s : State) : s.Leads (places c) (exec c s) := by
  rcases hc : chanEvent c with _ | ch
  · rcases hb : bankEvent c with _ | b
    · exact exec_leads_beside hc hb s
    · obtain ⟨f, he, hf⟩ := exec_bankEvent hb s
      rw [he]
      exact .next ((State.Within.refl s).onBank (by simp [places, hb]) hf)
  · obtain ⟨f, he, hf⟩ := exec_chanEvent hc
    rw [he]
    exact .next ((State.Within.refl s).onBank (by simp [places, hc]) fun x => (hf x _ _ _).1)

/-- A command keeps to its places. -/
theorem exec_within {c : Instr} {s t : State} (h : exec c s = .next t) : s.Within (places c) t := exec_leads c s t h

end Sys2Proof.Machine
end


section
/-! The settling of O58 and O56: commands keep to their places, and steps keep the shape of the state. -/

namespace Sys2Proof.Machine

/-! ## What a received frame and a buffer write store -/

theorem Net.editPort_q5 (n : Net) (i : Nat) (f : Port → Port) : (n.editPort i f).q5 = n.q5 := by
  unfold Net.editPort
  split <;> rfl

theorem Net.learn_q5 (n : Net) (i mac now : Nat) : (n.learn i mac now).q5 = n.q5 := by
  unfold Net.learn
  repeat' split
  all_goals rfl

theorem Net.forward_q5 (n : Net) (c : NetCfg) (i : Nat) (data : List Byte) : (n.forward c i data).1.q5 = n.q5 := by
  unfold Net.forward
  dsimp only
  repeat' split
  all_goals exact Net.editPort_q5 ..

theorem Net.forwardAll_q5 (c : NetCfg) (data : List Byte) (out : List Nat) (x : Net × List Notice) :
    (out.foldl (fun (acc : Net × List Notice) p => ((acc.1.forward c p data).1, acc.2 ++ (acc.1.forward c p data).2)) x).1.q5 = x.1.q5 := by
  induction out generalizing x with
  | nil => rfl
  | cons p out ih => exact (ih _).trans (Net.forward_q5 ..)

/-- What a received frame stores goes to the buffer of the next Q5 entry, and is the frame without its check sequence (R369, R375). -/
theorem Net.ingress_stored {n : Net} {c : NetCfg} {i now short k : Nat} {frame data : List Byte} {e d co : Bool}
    (h : (n.ingress c i now short frame e d co).2.1 = some (k, data)) : k = n.q5.prod ∧ data = Ready.frameData frame := by
  unfold Net.ingress at h
  dsimp only at h
  split at h
  · cases h
  · split at h
    · cases h
    · split at h
      · unfold Net.deliver at h
        split at h
        · cases h
        · obtain ⟨rfl, rfl⟩ := Prod.mk.inj (Option.some.inj h)
          exact ⟨by rw [Net.forwardAll_q5, Net.learn_q5, Net.editPort_q5], rfl⟩
      · cases h

theorem State.readCell_writeBuf_other (s : State) (a b : Nat) (data : List Byte) (h : b < a ∨ a + data.length ≤ b) :
    readCell bufBlank (s.writeBuf a data).bufs b = readCell bufBlank s.bufs b := readCell_writeCells_other _ _ _ _ h

theorem execFrameIngress_bufs {n a : Nat} {frame : List Byte} {e : Bool} {s t : State} (ht : exec (.frameIngress n frame e) s = .next t)
    (ha : a < rxBase s.hub.net.q5.prod ∨ rxBase s.hub.net.q5.prod + (Ready.frameData frame).length ≤ a) :
    readCell bufBlank t.bufs a = readCell bufBlank s.bufs a := by
  injection ht with ht
  subst ht
  split
  · dsimp only
    split
    next i data hm =>
      obtain ⟨rfl, rfl⟩ := Net.ingress_stored hm
      rw [(State.Within.pumpQ3 (κ := {}) ((State.Within.refl _).after _ (by simp [Hub.sizes_eq]))).bufs rfl]
      exact s.readCell_writeBuf_other _ _ _ ha
    next => rw [(State.Within.pumpQ3 (κ := {}) ((State.Within.refl s).after _ (by simp [Hub.sizes_eq]))).bufs rfl]
  · rfl

/-- A service leaves what holds of the buffers, where its own work does for the request that stands. -/
theorem State.serve_bufs {R : List Host.Cell → Prop} {s : State} {via : Transport} {c : Nat} {f : Request → Origin → State → State} (h : R s.bufs)
    (hf : ∀ q o t, s.hub.request via = some q → R t.bufs → R (f q o t).bufs) : R (s.serve via c f).bufs := by
  have keep {t : State} (w : s.Within {} t) : R t.bufs := w.bufs rfl ▸ h
  have hpop := (State.Within.refl s (κ := {})).onHub (f := fun h => h.pop via)
  unfold State.serve
  split
  · exact h
  next q hq =>
    dsimp only
    repeat' split
    · exact h
    · exact keep (hpop.answerNow ..)
    · exact keep (hpop.answerNow ..)
    · exact keep (hpop.answerNow ..)
    · exact h
    · exact hf _ _ _ hq h

theorem State.serveIn_bufs {R : List Host.Cell → Prop} {s : State} {via : Transport} {c : Nat} {role : Role} {fits : List Byte → Bool}
    {f : Request → Origin → State → State} (h : R s.bufs) (hf : ∀ q o t, s.hub.request via = some q → R t.bufs → R (f q o t).bufs) :
    R (s.serveIn via c role fits f).bufs := by
  unfold State.serveIn
  refine s.serve_bufs h fun q o t hq ht => ?_
  have keep {u : State} (w : t.Within {} u) : R u.bufs := w.bufs rfl ▸ ht
  have hr := State.Within.refl t (κ := {})
  dsimp only
  generalize (if decide (c = 3) then SessionMode.waiting else .opened) = mode
  split
  · exact keep (hr.answerNow ..)
  · split
    · exact keep hr.onHub
    · split
      · exact keep (hr.tagFailure ..)
      · split
        · split
          · exact keep (.ite (hr.onHub.sendTo ..) hr.onHub)
          · exact keep hr.onHub
        · repeat' split
          · exact keep (hr.onHub.answerNow ..)
          · exact keep (hr.onHub.answerNow ..)
          · exact keep (hr.onHub.onHub.respond ..)
          · exact keep (hr.onHub.onHub.respond ..)
          · exact hf _ _ _ hq ht

theorem State.answerBufferWrite_bufs {s : State} {via : Transport} {q : Request} {o : Origin} {a : Nat}
    (ha : ∀ base, Ready.askedBuffer q = some base → a < base ∨ base + leField q.body 4 2 ≤ a) :
    readCell bufBlank (s.answerBufferWrite via q o).bufs a = readCell bufBlank s.bufs a := by
  have keep (c : Nat) (t : State) : (t.respond o c).bufs = t.bufs := ((State.Within.refl t (κ := {})).respond ..).bufs rfl
  unfold State.answerBufferWrite
  dsimp only
  split
  · rw [keep]
  · split
    · rw [keep]
    next hzero =>
      split
      · rw [keep]
      next base hb =>
        rw [keep]
        refine s.readCell_writeBuf_other _ _ _ ((ha base ?_).imp_right fun h => ?_)
        · rwa [Ready.askedBuffer, not_not.mp hzero]
        · exact (Nat.add_le_add_left (by simp [slice]) base).trans h

/-! ## The obligations -/

/-- Settles O58, from where each command leads. -/
theorem commandsKeepToTheirPlaces : Obligations.CommandsKeepToTheirPlaces := by
  refine ⟨fun c s t h => ?_, fun s t n frame e a h => execFrameIngress_bufs h, fun s t via a h ha => ?_⟩
  · have w := exec_within h
    exact ⟨fun hc hb ho => w.banks (by simp [places, hc, hb, ho]), w.pwr, w.lands, w.bufs⟩
  · injection h with h
    subst h
    exact State.serveIn_bufs (R := fun m => readCell bufBlank m a = readCell bufBlank s.bufs a) rfl fun q o t hq ht =>
      (State.answerBufferWrite_bufs (ha q · hq)).trans ht

/-- A step that runs a command takes it from the queue and keeps to its places; one that runs none lets the clocks go on. -/
theorem step_within {s t : State} (h : step s = .next t) : ∃ κ, s.Within κ t := by
  unfold step at h
  split at h
  · injection h with h
    subst h
    refine ⟨{}, (State.Within.refl s).put ?_⟩
    split <;> rfl
  next c rest _ => exact ⟨places c, ((State.Within.refl s).put (p := rest) (hub := s.hub) rfl).trans (exec_within h)⟩

theorem State.formed_iff (s : State) : s.formed = true ↔ s.shaped = true ∧ s.hub.formed := by
  simp only [State.formed, Hub.formed, Bool.and_eq_true, and_assoc]

/-- Settles O56, by what every command and every tick keeps. -/
theorem everyStepKeepsTheShapeOfTheState : Obligations.EveryStepKeepsTheShapeOfTheState := by
  refine ⟨fun s t h hf => ?_, fun s t h => ?_⟩
  · obtain ⟨κ, w⟩ := step_within h
    obtain ⟨hs, hh⟩ := s.formed_iff.mp hf
    exact t.formed_iff.mpr ⟨w.shaped hs, w.formed hh⟩
  · obtain ⟨κ, w⟩ := step_within h
    exact w.course

end Sys2Proof.Machine
end


section
/-! The refutation of O60: a frame for the runtime that is classified behind an unread frame for the host is held (R376), and what is held is a part of the
hub of its own. -/

namespace Sys2Proof.Machine

theorem Net.classifyAs_quiet (n : Net) (d : Nat) : ∀ m ∈ (n.classifyAs d).2, Notice.quiet m = true := by
  unfold Net.classifyAs
  split
  · simp
  · dsimp only
    split <;> simp [Notice.quiet]

/-- What is held after an item is classified: what was held and the item, as far as an unread entry is before it. -/
theorem execQ5Classify_q5Held {s t : State} {x : NetItem} (ht : exec .q5Classify s = .next t) (hs : s.hub.taking = true)
    (hp : s.hub.net.classify ≠ s.hub.net.q5.prod) (hx : Ready.q5Item s = some x) :
    t.hub.q5Held = (Hub.releaseQ5 { s.hub with
      net := (s.hub.net.classifyAs 1).1, q5Held := s.hub.q5Held ++ [(s.hub.net.classify, x)] }).q5Held := by
  injection ht with ht
  subst ht
  unfold Ready.q5Item Ready.q5Data at hx
  simp only [hs, hp, hx, Bool.not_true, decide_false, Bool.or_self, Bool.false_eq_true, if_false, Option.isSome_some, if_true]
  unfold State.after
  rw [State.notify_hub_q5Held _ _ (Net.classifyAs_quiet _ _), State.onHub_hub]
  split <;> rfl

/-- What is held behind an unread entry stays held. -/
theorem Hub.releaseQ5_q5Held_behind {h : Hub} {k : Nat} {x : NetItem} (hq : h.q5Held = [(k, x)])
    (hb : inUse k h.net.q5.cons 64 < inUse h.net.classify h.net.q5.cons 64) : h.releaseQ5.q5Held = [(k, x)] := by
  simp [Hub.releaseQ5, hq, hb]

/-- A device with a frame for the host unread in entry 0 of Q5, and a raw DISCOVER to all in entry 1, not yet classified. -/
def discoverBehindHostFrame : State :=
  { State.reset with
    pwr := { vcore := true, vio := true, vphy := true, vcoreMv := 1100, vioMv := 1800, vphyMv := 3300 }
    hub := { phase := .running, run := { ready := true }
             net := { classify := 1, q5 := { prod := 2, slots := 2 ^ 54 :: (17 * 2 ^ 32) :: List.replicate 62 0 } } }
    bufs := writeCells bufBlank [] (rxBase 1) (List.replicate 6 0xFF#8 ++ [2#8, 0#8, 0#8, 0#8, 0#8, 7#8, 0x88#8, 0xB5#8, 1#8, 1#8, 1#8]) }

theorem discoverBehindHostFrame_item : (Ready.q5Item discoverBehindHostFrame).isSome = true := by
  have ht : (rxFrame (Ready.q5Data discoverBehindHostFrame)).type = 0x88B5 := by decide +kernel
  have hd : (rxFrame (Ready.q5Data discoverBehindHostFrame)).dst = broadcastMac := by decide +kernel
  have hp : (rxFrame (Ready.q5Data discoverBehindHostFrame)).payload = [1#8, 1#8, 1#8] := by decide +kernel
  have hr : discoverBehindHostFrame.hub.rawOn = true := by decide +kernel
  have hi : isDiscover [1#8, 1#8, 1#8] = true := by decide +kernel
  simp [Ready.q5Item, Hub.itemOf, Hub.rawItem, ht, hd, hp, hr, hi, netNat]

/-- Refutes O60: `q5Classify` holds the DISCOVER that it classifies behind an unread frame for the host. -/
theorem not_hubEventsChangeOnlyTheirPart : ¬ Obligations.HubEventsChangeOnlyTheirPart := by
  intro h
  obtain ⟨x, hx⟩ := Option.isSome_iff_exists.mp discoverBehindHostFrame_item
  obtain ⟨-, -, -, -, -, -, -, -, -, hservice⟩ := h .q5Classify discoverBehindHostFrame _ rfl
  obtain ⟨-, hcalm⟩ := hservice rfl
  have hq5 := congrArg Hub.q5Held hcalm
  have hheld := execQ5Classify_q5Held (s := discoverBehindHostFrame) rfl rfl (by decide) hx
  have hbehind : inUse 1 (discoverBehindHostFrame.hub.net.classifyAs 1).1.q5.cons 64
      < inUse (discoverBehindHostFrame.hub.net.classifyAs 1).1.classify (discoverBehindHostFrame.hub.net.classifyAs 1).1.q5.cons 64 := by
    decide +kernel
  rw [Hub.releaseQ5_q5Held_behind (k := 1) (x := x) rfl hbehind] at hheld
  cases hheld.symm.trans hq5

end Sys2Proof.Machine
end


section
/-! O12 and O14: what the frames of a bank link bring, and what a lost link does. -/

namespace Sys2Proof.Machine

/-! ## Events that leave glide as it was -/

/-- What an event establishes of a bank, and driving and late trips keep while the bank does not leave glide, is so after the event. -/
theorem Bank.act_induct {P : BankCore → Prop} {now : Nat} (settled : ∀ x c : BankCore, x.leavesToSafe c = false → P c → P (x.settle c now))
    (tripped : ∀ (c : BankCore) p, P c → P (c.editChan p fun ch => c.trip now p .overload ch)) (b : Bank) (n : Nat) (f : BankCore → BankCore)
    (hg : (f (b.core.rebase now)).glideOn = b.core.glideOn) (h : P (f (b.core.rebase now))) : P (b.act n now f).core := by
  have once := settled _ _ (BankCore.leavesToSafe_same (b.core.rebase now) _ hg) h
  have trips : ∀ (l : List Nat) (c : BankCore), P c → P (l.foldl (fun c p => c.editChan p fun ch => c.trip now p .overload ch) c) := by
    intro l
    induction l with
    | nil => exact fun c hc => hc
    | cons p l ih => exact fun c hc => ih _ (tripped c p hc)
  rw [Bank.act_core_all]
  split
  · exact once
  · exact settled _ _ (BankCore.leavesToSafe_same _ _ (BankCore.trips_keep _ now _).2.1) (trips _ _ once)

theorem Bank.actWith_induct {P : BankCore → Prop} {now : Nat} (settled : ∀ x c : BankCore, x.leavesToSafe c = false → P c → P (x.settle c now))
    (tripped : ∀ (c : BankCore) p, P c → P (c.editChan p fun ch => c.trip now p .overload ch)) (b : Bank) (n : Nat) (es : List (Nat × Nat × Nat))
    (f : BankCore → BankCore) (hg : (f (b.core.rebase now)).glideOn = b.core.glideOn) (h : P (f (b.core.rebase now))) :
    P (b.actWith n now es f).core := by
  have hcore : (es.foldl (fun b e => b.post n (12 * n + e.1) e.2.1 e.2.2 true) b).core = b.core := Bank.foldl_post_core _ (fun _ _ => by simp) _ _
  exact Bank.act_induct settled tripped _ n f (by rw [hcore]; exact hg) (by rw [hcore]; exact h)

/-- A trip keeps the normal state and the causes of fail-safe of its channel. -/
theorem BankCore.trip_sources (b : BankCore) (now p : Nat) (k : TripKind) (x : Chan) :
    (b.trip now p k x).io.normal = x.io.normal ∧ (b.trip now p k x).io.c = x.io.c := by
  have lapse : (x.lapseCounts now).io = x.io := by
    unfold Chan.lapseCounts
    split <;> rfl
  have off : ∀ (r : Nat) (y : Chan), (b.turnOff now p r y).io.normal = y.io.normal ∧ (b.turnOff now p r y).io.c = y.io.c := by
    intro r y
    have := b.turnOff_kept now p r y
    simp only [Chan.kept, Prod.mk.injEq] at this
    obtain ⟨-, -, -, hn, hc, -⟩ := this
    exact ⟨hn, hc⟩
  unfold BankCore.trip
  dsimp only
  rw [← lapse]
  split
  · exact off _ _
  · exact ⟨rfl, rfl⟩

/-- The normal state of a channel, through driving and late trips. -/
theorem Bank.act_normal (b : Bank) (n now p : Nat) (d : Drive) (f : BankCore → BankCore) (hg : (f (b.core.rebase now)).glideOn = b.core.glideOn)
    (hl : p < (f (b.core.rebase now)).chans.length) (h : ((f (b.core.rebase now)).chan p).io.normal = d) :
    ((b.act n now f).core.chan p).io.normal = d := by
  refine (Bank.act_induct (P := fun c => p < c.chans.length ∧ (c.chan p).io.normal = d) ?_ ?_ b n f hg ⟨hl, h⟩).2
  · rintro x c hx ⟨hp, hn⟩
    refine ⟨hp.trans_eq (congrArg Prod.fst (BankCore.settle_sizes x c now)).symm, ?_⟩
    rw [BankCore.settle_chan _ _ _ _ hp hx, BankCore.finish_io_normal]
    exact hn
  · rintro c q ⟨hp, hn⟩
    refine ⟨by simpa using hp, ?_⟩
    by_cases e : p = q
    · subst e
      rw [BankCore.chan_editChan_same _ _ _ hp, (c.trip_sources now p .overload _).1]
      exact hn
    · rw [BankCore.chan_editChan_other _ _ _ _ e]
      exact hn

/-- Every channel in channel fail-safe, the hold at its end, the cause as given. -/
structure BankCore.HoldLost (cause : FailSafeCause) (held : Bool) (c : BankCore) : Prop where
  chans : c.chans.length = 12
  safe : ∀ p, p < 12 → (c.chan p).io.c = true
  cause : c.lastCause = cause
  silent : c.silent = true
  holdFrom : c.holdFrom = none
  restartHold : c.restartHold = held
  expired : c.holdExpired = true

theorem BankCore.HoldLost.settle {cause : FailSafeCause} {held : Bool} (x : BankCore) {c : BankCore} (now : Nat) (hx : x.leavesToSafe c = false)
    (h : c.HoldLost cause held) : (x.settle c now).HoldLost cause held := by
  refine ⟨(congrArg Prod.fst (BankCore.settle_sizes x c now)).trans h.chans, fun p hp => ?_, ?_, by simp [h.silent], by simp [h.holdFrom],
    by simp [h.restartHold], ?_⟩
  · rw [BankCore.settle_chan _ _ _ _ (h.chans ▸ hp) hx, BankCore.finish_io_c]
    exact h.safe p hp
  · rw [BankCore.settle_stay _ _ _ hx]
    exact h.cause
  · rw [BankCore.settle_stay _ _ _ hx]
    show (c.holdExpired && c.chans.any fun ch => ch.io.c) = true
    rw [h.expired, Bool.true_and, List.any_eq_true]
    have hl : 0 < c.chans.length := by rw [h.chans]; decide
    have h0 := h.safe 0 (by decide)
    unfold BankCore.chan at h0
    rw [List.getD_eq_getElem?_getD, List.getElem?_eq_getElem hl] at h0
    exact ⟨_, List.getElem_mem hl, h0⟩

theorem BankCore.HoldLost.trip {cause : FailSafeCause} {held : Bool} {c : BankCore} (now q : Nat) (h : c.HoldLost cause held) :
    (c.editChan q fun ch => c.trip now q .overload ch).HoldLost cause held := by
  refine ⟨by simp [h.chans], fun p hp => ?_, h.cause, h.silent, h.holdFrom, h.restartHold, h.expired⟩
  by_cases e : p = q
  · subst e
    rw [BankCore.chan_editChan_same _ _ _ (h.chans ▸ hp), (c.trip_sources now p .overload _).2]
    exact h.safe p hp
  · rw [BankCore.chan_editChan_other _ _ _ _ e]
    exact h.safe p hp

theorem BankCore.failSafeAll_chan (c : BankCore) (cause : FailSafeCause) (p : Nat) (hp : p < c.chans.length) :
    ((c.failSafeAll cause).chan p).io.c = true := by
  unfold BankCore.failSafeAll BankCore.chan
  simp [List.getD_eq_getElem?_getD, List.getElem?_eq_getElem hp]

/-- Fail-safe by the end of a hold, as the event of it sets the bank. -/
theorem BankCore.failSafeAll_holdLost (c : BankCore) (cause : FailSafeCause) (held : Bool) (h : c.chans.length = 12) :
    BankCore.HoldLost cause held { c.failSafeAll cause with holdFrom := none, restartHold := held, silent := true, holdExpired := true } :=
  ⟨by simp [BankCore.failSafeAll, h], fun p hp => c.failSafeAll_chan cause p (h ▸ hp), rfl, rfl, rfl, rfl, rfl⟩

theorem earliest_le (nominal percent : Nat) : earliest nominal percent ≤ nominal := by
  unfold earliest
  exact Nat.div_le_of_le_mul (by rw [Nat.mul_comm]; exact Nat.mul_le_mul_right _ (Nat.sub_le _ _))

theorem elapsed_mono {t : Option Nat} {d e now : Nat} (h : elapsed t d now = true) (he : e ≤ d) : elapsed t e now = true := by
  cases t with
  | none => exact h
  | some t =>
    unfold elapsed at h ⊢
    simp only [decide_eq_true_eq] at h ⊢
    omega

/-- A hold that expires, of a bank that runs with it (R23, R24). -/
theorem Bank.actWith_holdLost (b : Bank) (n now k : Nat) (cause : FailSafeCause) (held : Bool) (f : BankCore → BankCore) (hs : b.core.chans.length = 12)
    (hf : f (b.core.rebase now)
      = { (b.core.rebase now).failSafeAll cause with holdFrom := none, restartHold := held, silent := true, holdExpired := true }) :
    (b.actWith n now [(8, k, 0xFF)] f).core.HoldLost cause held := by
  refine Bank.actWith_induct (P := BankCore.HoldLost cause held) (fun x c hx h => h.settle x now hx) (fun c q h => h.trip now q) b n _ f ?_ ?_
  · rw [hf]; rfl
  · rw [hf]; exact BankCore.failSafeAll_holdLost _ cause held (by simpa using hs)

/-! ## A bank that runs, and its frames -/

theorem Ready.bankRuns_iff {s : State} {b : Nat} : Ready.bankRuns s b = true ↔ b < 4 ∧ s.shaped = true ∧ (s.bank b).core.running = true := by
  simp [Ready.bankRuns, and_assoc]

/-- An event of a bank that runs leaves its bank as the event does. -/
theorem State.bank_onBank_runs {s : State} {b : Nat} (h : Ready.bankRuns s b = true) (f : Bank → Bank) : (s.onBank b f).bank b = f (s.bank b) := by
  obtain ⟨hb, hs, -⟩ := Ready.bankRuns_iff.1 h
  exact State.bank_onBank_same _ _ _ (State.shaped_banks hs ▸ hb)

theorem State.chan_of_bank (s : State) (b p : Nat) (hp : p < 12) : s.chan (12 * b + p) = (s.bank b).core.chan p := by
  unfold State.chan
  rw [show (12 * b + p) / 12 = b by omega, show (12 * b + p) % 12 = p by omega]

theorem Ready.arrived_iff {s : State} {b : Nat} {f : DownFrame} :
    Ready.arrived s b f = true ↔ Ready.bankRuns s b = true ∧ (s.bank b).down = some f ∧ f.startAt + 12800 ≤ s.now := by
  simp [Ready.arrived, and_assoc]

/-- A frame that is not valid (R21). -/
theorem Bank.receive_invalid {b : Bank} {f : DownFrame} {now : Nat} (n : Nat) (hd : b.down = some f) (hr : b.core.running = true)
    (ht : f.startAt + 12800 ≤ now) :
    b.receive n now false = { b with down := none, detected := some f.startAt, discards := b.discards + 1 } := by
  unfold Bank.receive
  simp [hd, hr, frameTime, Nat.not_lt.2 ht]

/-- What a valid frame brings before its commands (R20, R23, R24). -/
def Bank.hears (b : Bank) (now : Nat) (f : DownFrame) : Bank :=
  { b with
    down := none, detected := some f.startAt
    core := { b.core with holdFrom := some now, silent := false, restartHold := f.hold, lastValidRx := some now }
    acked := b.acked.filter fun i => f.cmds.any fun c => c.id == i
    msgs := b.msgs.filter fun m => !f.msgAcks.contains m.seq }

/-- A valid frame. -/
theorem Bank.receive_valid {b : Bank} {f : DownFrame} {now : Nat} (n : Nat) (hd : b.down = some f) (hr : b.core.running = true)
    (ht : f.startAt + 12800 ≤ now) :
    b.receive n now true = f.cmds.foldl (fun b c => b.take n now c) ((b.hears now f).reportLoss n) := by
  unfold Bank.receive Bank.hears
  simp [hd, hr, frameTime, Nat.not_lt.2 ht]

theorem Bank.reportLoss_none (b : Bank) (n : Nat) (h : b.lostMsgs = 0) : b.reportLoss n = b := by
  unfold Bank.reportLoss
  simp [h]

theorem Bank.reportLoss_acks (b : Bank) (n : Nat) : (b.reportLoss n).acked = b.acked ∧ (b.reportLoss n).acksDue = b.acksDue := by
  unfold Bank.reportLoss
  split <;> simp

/-- An untagged normal state that a bank has not acknowledged yet. -/
theorem Bank.take_setNormal {b : Bank} {c : LinkCmd} {p : Nat} {d : Drive} (n now : Nat) (hr : b.core.running = true)
    (ha : b.acked.contains c.id = false) (ht : c.tag = none) (hc : c.cmd = .setNormal p d) :
    b.take n now c = Bank.act { b with acksDue := b.acksDue ++ [c.id], acked := b.acked ++ [c.id] } n now fun core => core.command now (.setNormal p d) := by
  unfold Bank.take
  simp only [hr, ha, ht, hc, Bool.not_true, Bool.false_eq_true, if_false]
  rfl

/-- The normal state, the acknowledgement and the hold time after an untagged normal state. -/
theorem Bank.take_setNormal_leaves {b : Bank} {c : LinkCmd} {p : Nat} {d : Drive} (n now : Nat) (hr : b.core.running = true)
    (ha : b.acked.contains c.id = false) (ht : c.tag = none) (hc : c.cmd = .setNormal p d) (hp : p < b.core.chans.length) :
    ((b.take n now c).core.chan p).io.normal = d ∧ (b.take n now c).acksDue = b.acksDue ++ [c.id]
      ∧ (b.take n now c).core.holdFrom = b.core.holdFrom := by
  rw [Bank.take_setNormal n now hr ha ht hc]
  refine ⟨Bank.act_normal _ n now p d _ rfl (by simpa [BankCore.command] using hp) ?_, Bank.act_acksDue _ _ _ _, ?_⟩
  · unfold BankCore.command
    rw [BankCore.chan_editChan_same _ _ _ (by simpa using hp)]
  · exact Bank.act_keeps BankCore.holdFrom (by simp) (by simp) _ _ _ _

/-! ## The frame that the hub sends -/

theorem Hub.serves_of_runtimeOn {h : Hub} (hr : h.runtimeOn = true) : h.serves = true := by
  simp only [Hub.runtimeOn, Hub.serves, decide_eq_true_eq] at hr ⊢
  exact hr.elim .inl fun h => .inr (.inl h)

/-- What the temperature of the hub leaves alone. -/
theorem State.hubTemp_leaves (s : State) (temp : Int) :
    (s.hubTemp temp).now = s.now ∧ (s.hubTemp temp).banks = s.banks ∧ (s.hubTemp temp).pwr = s.pwr ∧ (s.hubTemp temp).lands = s.lands
    ∧ (s.hubTemp temp).hub.links = s.hub.links ∧ (s.hubTemp temp).hub.run.stop = s.hub.run.stop ∧ (s.hubTemp temp).hub.phase = s.hub.phase
    ∧ (s.hubTemp temp).hub.temp = temp := by
  have quiet : ∀ ns, (∀ n ∈ ns, Notice.quiet n = true) → ∀ t, t = State.notify (s.onHub fun h => { h with temp := temp }) ns →
      t.now = s.now ∧ t.banks = s.banks ∧ t.pwr = s.pwr ∧ t.lands = s.lands ∧ t.hub.links = s.hub.links ∧ t.hub.run.stop = s.hub.run.stop
        ∧ t.hub.phase = s.hub.phase ∧ t.hub.temp = temp := by
    rintro ns hq _ rfl
    exact ⟨State.notify_now _ _ hq, State.notify_banks _ _ hq, State.notify_pwr _ _ hq, State.notify_lands _ _ hq, State.notify_hub_links _ _ hq,
      State.notify_hub_run_stop _ _ hq, State.notify_hub_phase _ _ hq, State.notify_hub_temp _ _ hq⟩
  refine quiet _ ?_ _ rfl
  split <;> simp [Notice.quiet]

/-- The state after the supplies and the lands of a reading. -/
def State.sensedLands (s : State) (r : HubReadings) : State :=
  let s : State := { s with pwr := { s.pwr with
    vcoreMv := if s.pwr.vcore then r.vcore else 0, vioMv := if s.pwr.vio then r.vio else 0, vphyMv := if s.pwr.vphy then r.vphy else 0 } }
  if s.pwr.vio then s.senseLands r else s

theorem State.sense_eq (s : State) (r : HubReadings) (h : s.hub.serves = true) : s.sense r = ((s.sensedLands r).hubTemp r.temp).notePermit := by
  have hs : (s.sensedLands r).hub.serves = true := by
    unfold State.sensedLands State.senseLands State.senseTest
    dsimp only
    repeat' split
    all_goals exact h
  exact congrArg State.notePermit (if_pos hs)

/-- What the supplies and the lands leave alone, and what they take. -/
theorem State.sensedLands_leaves (s : State) (r : HubReadings) :
    (s.sensedLands r).now = s.now ∧ (s.sensedLands r).banks = s.banks ∧ (s.sensedLands r).hub.links = s.hub.links
    ∧ (s.sensedLands r).hub.run.stop = s.hub.run.stop ∧ (s.sensedLands r).hub.phase = s.hub.phase
    ∧ (s.sensedLands r).pwr.vcoreMv = (if s.pwr.vcore then r.vcore else 0) ∧ (s.sensedLands r).pwr.vioMv = (if s.pwr.vio then r.vio else 0)
    ∧ (s.sensedLands r).pwr.vphyMv = (if s.pwr.vphy then r.vphy else 0)
    ∧ (s.pwr.vio = true → (s.sensedLands r).lands.wake = r.wake ∧ (s.sensedLands r).lands.test = r.test ∧ (s.sensedLands r).lands.pps = r.pps
      ∧ (s.sensedLands r).lands.zxa = r.zxa ∧ (s.sensedLands r).lands.zxb = r.zxb) := by
  unfold State.sensedLands State.senseLands State.senseTest
  dsimp only
  split
  · split <;> exact ⟨rfl, rfl, rfl, rfl, rfl, rfl, rfl, rfl, fun _ => ⟨rfl, rfl, rfl, rfl, rfl⟩⟩
  · rename_i hv
    exact ⟨rfl, rfl, rfl, rfl, rfl, rfl, rfl, rfl, fun h => absurd h hv⟩

theorem State.notePermit_leaves (s : State) :
    s.notePermit.now = s.now ∧ s.notePermit.banks = s.banks ∧ s.notePermit.pwr = s.pwr ∧ s.notePermit.lands = s.lands
      ∧ s.notePermit.hub.links = s.hub.links ∧ s.notePermit.hub.run.stop = s.hub.run.stop ∧ s.notePermit.hub.phase = s.hub.phase
      ∧ s.notePermit.hub.temp = s.hub.temp := ⟨rfl, rfl, rfl, rfl, rfl, rfl, rfl, rfl⟩

/-- The readings of a hub that serves. -/
theorem State.sense_leaves (s : State) (r : HubReadings) (h : s.hub.serves = true) :
    (s.sense r).now = s.now ∧ (s.sense r).banks = s.banks ∧ (s.sense r).hub.links = s.hub.links ∧ (s.sense r).hub.run.stop = s.hub.run.stop
    ∧ (s.sense r).hub.phase = s.hub.phase ∧ (s.sense r).hub.temp = r.temp
    ∧ (s.sense r).pwr.vcoreMv = (if s.pwr.vcore then r.vcore else 0) ∧ (s.sense r).pwr.vioMv = (if s.pwr.vio then r.vio else 0)
    ∧ (s.sense r).pwr.vphyMv = (if s.pwr.vphy then r.vphy else 0)
    ∧ (s.pwr.vio = true → (s.sense r).lands.wake = r.wake ∧ (s.sense r).lands.test = r.test ∧ (s.sense r).lands.pps = r.pps
      ∧ (s.sense r).lands.zxa = r.zxa ∧ (s.sense r).lands.zxb = r.zxb) := by
  obtain ⟨now, banks, pwr, lands, links, stop, phase, temp⟩ := (s.sensedLands r).hubTemp_leaves r.temp
  obtain ⟨now', banks', links', stop', phase', reads⟩ := s.sensedLands_leaves r
  have noted := ((s.sensedLands r).hubTemp r.temp).notePermit_leaves
  rw [← State.sense_eq s r h] at noted
  obtain ⟨now₂, banks₂, pwr₂, lands₂, links₂, stop₂, phase₂, temp₂⟩ := noted
  rw [now₂, banks₂, links₂, stop₂, phase₂, temp₂, pwr₂, lands₂, now, banks, links, stop, phase, temp, pwr, lands]
  exact ⟨now', banks', links', stop', phase', rfl, reads⟩

/-- A frame that is sent (R20). -/
theorem execDownlinkFrameSend_sends {s : State} {b : Nat} (r : HubReadings) (h : Ready.downlinkFrameSend s b = true) :
    execDownlinkFrameSend b r s = .next ((s.sense r).downlink b) := by
  simp only [Ready.downlinkFrameSend, Bool.and_eq_true, decide_eq_true_eq] at h
  obtain ⟨⟨⟨⟨⟨hb, -⟩, -⟩, hr⟩, hs⟩, ht⟩ := h
  obtain ⟨now, -, links, -, phase, -⟩ := s.sense_leaves r (Hub.serves_of_runtimeOn hr)
  have hr' : (s.sense r).hub.runtimeOn = true := by unfold Hub.runtimeOn at hr ⊢; rw [phase]; exact hr
  have hl : (s.sense r).hub.link b = s.hub.link b := by unfold Hub.link; rw [links]
  unfold execDownlinkFrameSend
  dsimp only
  rw [if_pos]
  simp only [hr', hl, State.cycle, now, cycleTime, frameOffset, Bool.and_eq_true, decide_eq_true_eq]
  exact ⟨⟨⟨hb, trivial⟩, hs⟩, ht⟩

/-- The frame that the hub has for a bank (R20). -/
def State.frameFor (s : State) (b : Nat) : DownFrame :=
  { startAt := s.now, cmds := (s.hub.link b).queue.map LinkReq.cmd, hold := s.hub.announces, msgAcks := (s.hub.link b).msgAcks }

/-- The link of a bank after its frame is sent (R22). -/
def State.linkSent (s : State) (l : Link) : Link :=
  { l with sentIn := some s.cycle, msgAcks := [], queue := l.queue.map fun r => { r with first := some (r.first.getD s.now) } }

/-- What sending a frame changes of the banks and the links, and what it leaves alone (R20, R22). -/
theorem State.downlink_parts (s : State) (b : Nat) :
    (s.downlink b).banks = editAt s.banks b (fun x => { x with down := some (s.frameFor b) })
      ∧ (s.downlink b).hub.links = editAt s.hub.links b s.linkSent ∧ (s.downlink b).hub.temp = s.hub.temp ∧ (s.downlink b).pwr = s.pwr
      ∧ (s.downlink b).lands = s.lands := by
  unfold State.downlink State.onHub
  exact ⟨rfl, rfl, rfl, rfl, rfl⟩

theorem State.linkSent_cmds (s : State) (l : Link) : (s.linkSent l).queue.map LinkReq.cmd = l.queue.map LinkReq.cmd := by
  unfold State.linkSent
  rw [List.map_map]
  rfl

/-- The bank and its link after a frame is sent (R20, R22). -/
theorem State.downlink_sends {s : State} {b : Nat} (hb : b < s.banks.length) (hl : b < s.hub.links.length) :
    ((s.downlink b).bank b).down = some (s.frameFor b) ∧ (s.downlink b).hub.link b = s.linkSent (s.hub.link b)
      ∧ ∀ c, c ≠ b → (s.downlink b).bank c = s.bank c := by
  obtain ⟨banks, links, -⟩ := s.downlink_parts b
  unfold State.bank Hub.link
  rw [banks, links, editAt_getD_same _ _ _ _ hb, editAt_getD_same _ _ _ _ hl]
  exact ⟨rfl, rfl, fun c hc => editAt_getD_other _ _ _ _ _ (Ne.symm hc)⟩

theorem Hub.shaped_links {h : Hub} (hs : h.shaped = true) : h.links.length = 4 := ((h.shaped_iff).1 hs).1

/-- Settles O12: the frame as it is sent, as it is refused, and as it is taken with none or one command. -/
theorem downlinkFramesCarryCommands : Obligations.DownlinkFramesCarryCommands := by
  refine ⟨fun s b r h => ⟨_, execDownlinkFrameSend_sends r h, ?_⟩, fun s b f h => ⟨_, rfl, ?_⟩, fun s b f h hc hm => ⟨_, rfl, ?_⟩,
    fun s b f c p d h hc hset htag hp ha => ⟨_, rfl, ?_⟩⟩
  · simp only [Ready.downlinkFrameSend, Bool.and_eq_true, decide_eq_true_eq] at h
    obtain ⟨⟨⟨⟨⟨hb, hsh⟩, hh⟩, hr⟩, -⟩, -⟩ := h
    obtain ⟨now, banks, links, stop, -, temp, vcore, vio, vphy, lands⟩ := s.sense_leaves r (Hub.serves_of_runtimeOn hr)
    have hbank : ∀ c, (s.sense r).bank c = s.bank c := fun c => by unfold State.bank; rw [banks]
    have hlink : (s.sense r).hub.link b = s.hub.link b := by unfold Hub.link; rw [links]
    have hann : (s.sense r).hub.announces = s.hub.announces := by unfold Hub.announces; rw [stop]
    obtain ⟨down, sent, others⟩ := State.downlink_sends (s := s.sense r) (b := b)
      (by rw [banks, State.shaped_banks hsh]; exact hb) (by rw [links, Hub.shaped_links hh]; exact hb)
    obtain ⟨-, -, htemp, hpwr, hlands⟩ := (s.sense r).downlink_parts b
    unfold State.frameFor at down
    rw [now, hlink, hann] at down
    rw [hlink] at sent
    rw [sent, State.linkSent_cmds, htemp, hpwr, hlands]
    exact ⟨down, congrArg (fun n => some (n / 50000)) now, rfl, rfl, fun c hc => (others c hc).trans (hbank c), temp, vcore, vio, vphy, lands⟩
  · obtain ⟨hb, hd, ht⟩ := Ready.arrived_iff.1 h
    rw [State.bank_onBank_runs hb, Bank.receive_invalid b hd (Ready.bankRuns_iff.1 hb).2.2 ht]
    exact ⟨rfl, rfl, rfl, rfl⟩
  · obtain ⟨hb, hd, ht⟩ := Ready.arrived_iff.1 h
    rw [State.bank_onBank_runs hb, Bank.receive_valid b hd (Ready.bankRuns_iff.1 hb).2.2 ht, hc, Bank.reportLoss_none _ _ (by exact hm)]
    exact ⟨rfl, rfl, rfl, rfl, rfl, rfl, rfl, rfl⟩
  · obtain ⟨hb, hd, ht⟩ := Ready.arrived_iff.1 h
    obtain ⟨h4, hsh, hr⟩ := Ready.bankRuns_iff.1 hb
    obtain ⟨hacked, hdue⟩ := ((s.bank b).hears s.now f).reportLoss_acks b
    have hcore := ((s.bank b).hears s.now f).reportLoss_core b
    have hnew : (((s.bank b).hears s.now f).reportLoss b).acked.contains c.id = false := by
      rw [hacked]
      simp only [Bank.hears, List.contains_eq_mem, decide_eq_false_iff_not, List.mem_filter] at ha ⊢
      exact fun hm => ha hm.1
    obtain ⟨normal, due, hold⟩ := Bank.take_setNormal_leaves (b := ((s.bank b).hears s.now f).reportLoss b) b s.now
      (by rw [hcore]; exact hr) hnew htag hset (by rw [hcore]; exact (State.shaped_chans hsh b h4).symm ▸ hp)
    have ht' : (s.onBank b fun x => x.receive b s.now true).bank b = (((s.bank b).hears s.now f).reportLoss b).take b s.now c := by
      rw [State.bank_onBank_runs hb, Bank.receive_valid b hd hr ht, hc]
      rfl
    rw [State.chan_of_bank _ _ _ hp, ht', due, hdue, hold, hcore]
    exact ⟨normal, rfl, rfl⟩

end Sys2Proof.Machine
end


section
/-! O14: what a link that is lost does to the bank, and what the hub gives up. -/

namespace Sys2Proof.Machine

/-- The hold time of a bank that runs has expired. -/
theorem Bank.holdExpiry_due {b : Bank} (n now : Nat) (hr : b.core.running = true) (hh : b.core.restartHold = false)
    (he : elapsed b.core.holdFrom (b.core.holdTime * 1000000) now = true) :
    b.holdExpiry n now = b.actWith n now [(8, 1, 0xFF)] fun c =>
      { c.failSafeAll .holdExpiry with holdFrom := none, silent := true, holdExpired := true } := by
  unfold Bank.holdExpiry
  rw [if_pos]
  simp [hr, hh, elapsed_mono he (earliest_le _ 2)]

/-- The restart hold of a bank that runs has expired. -/
theorem Bank.restartHoldExpiry_due {b : Bank} (n now : Nat) (hr : b.core.running = true) (hh : b.core.restartHold = true)
    (he : elapsed b.core.holdFrom 150000000 now = true) :
    b.restartHoldExpiry n now = b.actWith n now [(8, 2, 0xFF)] fun c =>
      { c.failSafeAll .restartHoldExpiry with holdFrom := none, restartHold := false, silent := true, holdExpired := true } := by
  unfold Bank.restartHoldExpiry
  rw [if_pos]
  simp [hr, hh, elapsed_mono he (earliest_le _ 2)]

/-! ## Giving up -/

theorem Ready.idle_iff {s : State} : Ready.idle s = true ↔
    s.hub.run.waiting = [] ∧ s.hub.run.snapWait = [] ∧ s.hub.run.stop = none ∧ s.hub.run.migration.result ≠ 2 := by
  simp [Ready.idle, and_assoc]

theorem State.answerWaiting_none {s : State} (h : s.hub.run.waiting = []) (done : List (Nat × Nat)) (status : Nat) : s.answerWaiting done status = s := by
  have hsame : (s.onHub fun h => h.onRun fun r => { r with waiting := [] }) = s := by
    rw [← h]
    rfl
  unfold State.answerWaiting
  dsimp only
  rw [h]
  exact hsame

theorem State.abortGrow_none {s : State} (h : s.hub.run.migration.result ≠ 2) : s.abortGrow = s :=
  if_neg fun hm => h hm.1

theorem State.migrationNext_none {s : State} (h : s.hub.run.migration.result ≠ 2) : s.migrationNext = s := if_pos (.inl h)

theorem State.advanceStop_none {s : State} (h : s.hub.run.stop = none) : s.advanceStop = s := by
  unfold State.advanceStop
  rw [h]

/-- Commands that are given up, where nothing waits for them. -/
theorem State.gaveUp_idle {s : State} {b : Nat} (h : Ready.idle s = true) (hs : (s.hub.serviceOf b).underway = false) (stale : List LinkReq) :
    s.gaveUp b stale = s := by
  obtain ⟨hw, hsnap, -, hm⟩ := Ready.idle_iff.1 h
  have hsame : (s.onHub fun h => h.onRun fun r => { r with snapWait := r.snapWait.filter fun w => !w.2.2.any (stale.map fun r => (b, r.cmd.id)).contains })
      = s := by
    have hnone : (s.onHub fun h => h.onRun fun r => { r with snapWait := [] }) = s := by
      rw [← hsnap]
      rfl
    refine Eq.trans ?_ hnone
    show State.mk _ _ _ _ _ _ _ _ _ _ _ = State.mk _ _ _ _ _ _ _ _ _ _ _
    dsimp only [State.onHub, Hub.onRun]
    rw [hsnap]
    rfl
  unfold State.gaveUp
  dsimp only
  rw [hsame, State.answerWaiting_none hw, State.abortGrow_none hm, State.migrationNext_none hm]
  simp [hs]

theorem Hub.outOfReset_of_runtimeOn {h : Hub} (hr : h.runtimeOn = true) : h.outOfReset = true := by
  unfold Hub.outOfReset
  rw [Hub.serves_of_runtimeOn hr, Bool.true_or]

theorem Ready.idle_congr {s t : State} (hw : t.hub.run.waiting = s.hub.run.waiting) (hs : t.hub.run.snapWait = s.hub.run.snapWait)
    (hp : t.hub.run.stop = s.hub.run.stop) (hm : t.hub.run.migration = s.hub.run.migration) : Ready.idle t = Ready.idle s := by
  unfold Ready.idle
  rw [hw, hs, hp, hm]

/-- Nothing begins to wait by a quiet report. -/
theorem Ready.idle_notify (s : State) (ns : List Notice) (hq : ∀ n ∈ ns, Notice.quiet n = true) : Ready.idle (s.notify ns) = Ready.idle s :=
  Ready.idle_congr (State.notify_hub_run_waiting _ _ hq) (State.notify_hub_run_snapWait _ _ hq) (State.notify_hub_run_stop _ _ hq)
    (State.notify_hub_run_migration _ _ hq)

/-- The link of a bank reports a fault of its source. -/
theorem Notice.link_quiet (b kind : Nat) : ∀ n ∈ [Notice.fault (12 * b + 8) kind 0xFF], Notice.quiet n = true := by
  intro n hn
  rw [List.mem_singleton] at hn
  subst hn
  simp only [Notice.quiet, decide_eq_true_eq]
  omega

theorem State.notify_link {s : State} {b : Nat} (hb : b < 4) (kind : Nat) (hk : kind ≠ 0) (ho : s.hub.outOfReset = true) :
    (s.notify [.fault (12 * b + 8) kind 0xFF]).hub.collector.stands (12 * b + 8) = true := by
  refine State.notify_fault s _ kind 0xFF [] ?_ (by omega) (by omega) hk ho (by simp)
  have h4 : b = 0 ∨ b = 1 ∨ b = 2 ∨ b = 3 := by omega
  rcases h4 with rfl | rfl | rfl | rfl <;> decide

/-- The state after stale commands are dropped and reported (R22). -/
theorem execCommandGiveUp_drops {s : State} {b : Nat} (h : Ready.commandGiveUp s b = true) :
    execCommandGiveUp b s = .next (State.notify
      (s.onHub fun h => h.onLink b fun l => { l with queue := l.queue.filter fun r => !Ready.stale s r }) [.fault (12 * b + 8) 3 0xFF]) := by
  simp only [Ready.commandGiveUp, Bool.and_eq_true, decide_eq_true_eq, Bool.not_eq_true'] at h
  obtain ⟨⟨⟨⟨⟨hb, -⟩, hr⟩, hq⟩, hi⟩, hs⟩ := h
  have hne : ((s.hub.link b).queue.filter fun r => elapsed r.first 1000000 s.now).isEmpty = false := by
    rw [List.isEmpty_eq_false_iff]
    intro hnil
    obtain ⟨r, hmem, hstale⟩ := List.any_eq_true.1 hq
    exact List.filter_eq_nil_iff.1 hnil r hmem hstale
  have hquiet := Notice.link_quiet b 3
  have rest : ∀ d : State, Ready.idle d = true → (d.hub.serviceOf b).underway = false → ∀ l, (d.gaveUp b l).advanceStop = d := fun d hd hu l => by
    rw [State.gaveUp_idle hd hu, State.advanceStop_none (Ready.idle_iff.1 hd).2.2.1]
  have dropped : ∀ f, Ready.idle (s.onHub fun h => h.onLink b f) = true := fun _ => hi
  unfold execCommandGiveUp
  dsimp only
  rw [hr, hne]
  simp only [Bool.not_false, Bool.and_self, if_true]
  rw [rest _ ((Ready.idle_notify _ _ hquiet).trans (dropped _))]
  · rfl
  · unfold Hub.serviceOf at hs ⊢
    rw [State.notify_hub_run_service _ _ hquiet]
    exact hs

theorem Hub.link_onLink_same {h : Hub} {b : Nat} (hb : b < h.links.length) (f : Link → Link) : (h.onLink b f).link b = f (h.link b) :=
  editAt_getD_same h.links b f {} hb

/-- Settles O14: every channel in fail-safe through driving and late trips, and the commands dropped where nothing waits for them. -/
theorem lostLinksEndInFailSafe : Obligations.LostLinksEndInFailSafe := by
  refine ⟨fun s b h => ⟨_, rfl, ?_⟩, fun s b h => ⟨_, rfl, ?_⟩, fun s b h => ⟨_, execCommandGiveUp_drops h, ?_⟩⟩
  · simp only [Ready.holdTimerExpiry, Bool.and_eq_true, Bool.not_eq_true'] at h
    obtain ⟨⟨hb, hh⟩, he⟩ := h
    obtain ⟨h4, hs, hr⟩ := Ready.bankRuns_iff.1 hb
    have lost := (s.bank b).actWith_holdLost b s.now 1 .holdExpiry (s.bank b).core.restartHold (fun c =>
      { c.failSafeAll .holdExpiry with holdFrom := none, silent := true, holdExpired := true }) (State.shaped_chans hs b h4) rfl
    rw [← Bank.holdExpiry_due b s.now hr hh he, ← State.bank_onBank_runs hb fun x => x.holdExpiry b s.now] at lost
    refine ⟨fun p hp => ?_, lost.cause, lost.silent, lost.holdFrom, lost.expired, fun hm => ?_⟩
    · rw [State.chan_of_bank _ _ _ hp]
      exact lost.safe p hp
    · rw [State.bank_onBank_runs hb, Bank.holdExpiry_due b s.now hr hh he]
      exact Bank.actWith_reports _ _ _ _ _ _ _ hm
  · simp only [Ready.restartHoldExpiry, Bool.and_eq_true] at h
    obtain ⟨⟨hb, hh⟩, he⟩ := h
    obtain ⟨h4, hs, hr⟩ := Ready.bankRuns_iff.1 hb
    have lost := (s.bank b).actWith_holdLost b s.now 2 .restartHoldExpiry false (fun c =>
      { c.failSafeAll .restartHoldExpiry with holdFrom := none, restartHold := false, silent := true, holdExpired := true }) (State.shaped_chans hs b h4) rfl
    rw [← Bank.restartHoldExpiry_due b s.now hr hh he, ← State.bank_onBank_runs hb fun x => x.restartHoldExpiry b s.now] at lost
    refine ⟨fun p hp => ?_, lost.cause, lost.silent, lost.holdFrom, lost.restartHold, lost.expired, fun hm => ?_⟩
    · rw [State.chan_of_bank _ _ _ hp]
      exact lost.safe p hp
    · rw [State.bank_onBank_runs hb, Bank.restartHoldExpiry_due b s.now hr hh he]
      exact Bank.actWith_reports _ _ _ _ _ _ _ hm
  · simp only [Ready.commandGiveUp, Bool.and_eq_true, decide_eq_true_eq, Bool.not_eq_true'] at h
    obtain ⟨⟨⟨⟨⟨hb, hh⟩, hr⟩, -⟩, -⟩, -⟩ := h
    refine ⟨?_, State.notify_link hb 3 (by decide) (Hub.outOfReset_of_runtimeOn hr)⟩
    unfold Hub.link
    rw [State.notify_hub_links _ _ (Notice.link_quiet b 3)]
    exact congrArg Link.queue (Hub.link_onLink_same (by rw [Hub.shaped_links hh]; exact hb) _)

end Sys2Proof.Machine
end


section
/-! O13: what an uplink frame carries, and what it brings to the hub. -/

namespace Sys2Proof.Machine

/-! ## The frame that the bank sends -/

/-- Messages are only added. -/
theorem Bank.post_msgs (b : Bank) (o s k a : Nat) (e : Bool) : b.msgs <+: (b.post o s k a e).msgs := by
  unfold Bank.post
  split
  · exact List.prefix_append _ _
  · exact List.prefix_rfl

theorem Bank.foldl_msgs {α : Type} (f : Bank → α → Bank) (hf : ∀ b a, Bank.msgs b <+: (f b a).msgs) (l : List α) (b : Bank) :
    b.msgs <+: (l.foldl f b).msgs := by
  induction l generalizing b with
  | nil => exact List.prefix_rfl
  | cons a l ih => exact (hf b a).trans (ih _)

theorem Bank.report_msgs (b : Bank) (n : Nat) (before : BankCore) : b.msgs <+: (b.report n before).msgs := by
  unfold Bank.report
  exact (Bank.foldl_msgs _ (fun b x => b.post_msgs _ _ _ _ _) _ _).trans (Bank.foldl_msgs _ (fun b x => b.post_msgs _ _ _ _ _) _ _)

theorem Bank.act_msgs (b : Bank) (n now : Nat) (f : BankCore → BankCore) : b.msgs <+: (b.act n now f).msgs := by
  unfold Bank.act
  refine List.IsPrefix.trans ?_ (Bank.report_msgs _ n _)
  exact Bank.foldl_msgs _ (fun b x => b.post_msgs _ _ _ _ _) _ b

/-- The bank as its own measurement leaves it (R20). -/
def Bank.measured (b : Bank) (n now : Nat) (r : Readings) : Bank := b.act n now fun c => (c.measure now r).compare now

theorem Bank.measured_supply (b : Bank) (n now : Nat) (r : Readings) : (b.measured n now r).core.supply = r.supply :=
  Bank.act_keeps BankCore.supply (by simp) (by simp) _ _ _ _

theorem Bank.measured_msgs (b : Bank) (n now : Nat) (r : Readings) : b.msgs <+: (b.measured n now r).msgs := Bank.act_msgs _ _ _ _

/-- A frame that is due. -/
theorem Bank.send_due {b : Bank} {now : Nat} (n : Nat) (r : Readings) (hr : b.core.running = true) (hd : elapsed b.detected 25000 now = true) :
    b.send n now r = { b.measured n now r with
      detected := none, acksDue := [], schedRan := [], firstUp := false
      up := some { startAt := now, acks := b.acksDue, msgs := (b.measured n now r).msgs.take 2, first := b.firstUp
                   discards := b.discards, schedRan := b.schedRan, core := (b.measured n now r).core } } := by
  unfold Bank.send
  cases h : b.detected with
  | none => rw [h] at hd; exact absurd hd Bool.false_ne_true
  | some t =>
    rw [h] at hd
    simp only [elapsed, decide_eq_true_eq] at hd
    simp only [hr, hd, decide_true, Bool.and_self, if_true]
    have same : (b.measured n now r).acksDue = b.acksDue ∧ (b.measured n now r).firstUp = b.firstUp ∧ (b.measured n now r).discards = b.discards
        ∧ (b.measured n now r).schedRan = b.schedRan := ⟨by simp [Bank.measured], by simp [Bank.measured], by simp [Bank.measured], by simp [Bank.measured]⟩
    obtain ⟨acks, first, discards, ran⟩ := same
    rw [← acks, ← first, ← discards, ← ran]
    rfl

/-! ## Frames that the hub discards -/

theorem Ready.uplinkArrived_iff {s : State} {b : Nat} {f : UpFrame} : Ready.uplinkArrived s b f = true ↔
    b < 4 ∧ s.shaped = true ∧ s.hub.shaped = true ∧ (s.bank b).up = some f ∧ f.startAt + 12800 ≤ s.now := by
  simp [Ready.uplinkArrived, and_assoc]

/-- The state after the frame of a bank is taken from its line. -/
def State.lineTaken (s : State) (b : Nat) : State := s.onBank b fun x => { x with up := none }

theorem State.lineTaken_up {s : State} {b : Nat} (hb : b < 4) (hs : s.shaped = true) : ((s.lineTaken b).bank b).up = none := by
  unfold State.lineTaken
  rw [State.bank_onBank_same _ _ _ (State.shaped_banks hs ▸ hb)]

/-- A frame that has arrived at a hub whose runtime is on. -/
theorem execUplinkFrameRx_arrived {s : State} {b : Nat} {f : UpFrame} (crcOk : Bool) (h : Ready.uplinkArrived s b f = true) (hr : s.hub.runtimeOn = true) :
    execUplinkFrameRx b crcOk s
      = .next (if crcOk then ((s.lineTaken b).uplink b f).advanceStop else (s.lineTaken b).countDiscards b 1) := by
  obtain ⟨-, -, -, hup, ht⟩ := Ready.uplinkArrived_iff.1 h
  have hr' : (s.lineTaken b).hub.runtimeOn = true := hr
  unfold execUplinkFrameRx
  simp only [hup, frameTime, Nat.not_lt.2 ht, if_false]
  rw [← State.lineTaken, hr']
  rfl

/-- Discards that are not yet too many are kept with their times. -/
theorem State.countDiscards_few {s : State} {b n : Nat} (h : (Ready.recentDiscards s b).length + n < 16) :
    s.countDiscards b n = s.onHub fun h => h.onLink b fun l => { l with discards := Ready.recentDiscards s b ++ List.replicate n s.now } := by
  unfold State.countDiscards
  rw [if_neg (by rw [List.length_append, List.length_replicate]; exact Nat.not_le.2 h)]
  rfl

/-- Too many discards are a fault of the link, and the count starts anew (R21). -/
theorem State.countDiscards_many {s : State} {b n : Nat} (h : 16 ≤ (Ready.recentDiscards s b).length + n) :
    s.countDiscards b n = (s.onHub fun h => h.onLink b fun l => { l with discards := [] }).notify [.fault (12 * b + 8) 4 0xFF] := by
  unfold State.countDiscards
  rw [if_pos (by rw [List.length_append, List.length_replicate]; exact h)]

/-! ## Telemetry -/

/-- The banks, the views, the commands on the link of a bank, and what waits for acknowledgements, are as they were. -/
structure State.Calm (b : Nat) (s t : State) : Prop where
  banks : t.banks = s.banks
  views : t.hub.views = s.hub.views
  queue : (t.hub.link b).queue = (s.hub.link b).queue
  links : t.hub.links.length = s.hub.links.length
  idle : Ready.idle t = Ready.idle s
  service : t.hub.run.service = s.hub.run.service

theorem State.Calm.trans {b : Nat} {s t u : State} (h : State.Calm b s t) (g : State.Calm b t u) : State.Calm b s u :=
  ⟨g.banks.trans h.banks, g.views.trans h.views, g.queue.trans h.queue, g.links.trans h.links, g.idle.trans h.idle, g.service.trans h.service⟩

theorem State.notify_calmly (b : Nat) (s : State) (ns : List Notice) (hq : ∀ n ∈ ns, Notice.quiet n = true) : State.Calm b s (s.notify ns) :=
  ⟨State.notify_banks _ _ hq, State.notify_hub_views _ _ hq, by unfold Hub.link; rw [State.notify_hub_links _ _ hq],
    congrArg List.length (State.notify_hub_links _ _ hq), Ready.idle_notify _ _ hq, State.notify_hub_run_service _ _ hq⟩

theorem State.onLink_calm {b : Nat} (s : State) (hl : b < s.hub.links.length) (f : Link → Link) (hf : ∀ l, (f l).queue = l.queue) :
    State.Calm b s (s.onHub fun h => h.onLink b f) :=
  ⟨rfl, rfl, by rw [State.onHub_hub, Hub.link_onLink_same hl, hf], by simp [Hub.onLink], rfl, rfl⟩

theorem State.countDiscards_calm {b : Nat} (s : State) (n : Nat) (hl : b < s.hub.links.length) : State.Calm b s (s.countDiscards b n) := by
  by_cases h : 16 ≤ (Ready.recentDiscards s b).length + n
  · rw [State.countDiscards_many h]
    have cleared := s.onLink_calm hl (fun l => { l with discards := [] }) fun _ => rfl
    exact cleared.trans (State.notify_calmly b _ _ (Notice.link_quiet b 4))
  · rw [State.countDiscards_few (Nat.not_le.1 h)]
    exact s.onLink_calm hl _ fun _ => rfl

theorem State.snapshotsDone_idle {s : State} (h : Ready.idle s = true) : s.snapshotsDone = s := by
  obtain ⟨hw, hsnap, -, -⟩ := Ready.idle_iff.1 h
  have hnone : (s.onHub fun h => h.onRun fun r => { r with snapWait := [] }) = s := by
    rw [← hsnap]
    rfl
  unfold State.snapshotsDone
  dsimp only
  rw [State.answerWaiting_none (by exact hw)]
  refine Eq.trans ?_ hnone
  dsimp only [State.onHub, Hub.onRun]
  rw [hsnap]
  rfl

/-- What telemetry reports cannot reset the hub. -/
theorem telemetryNotices_quiet (b : Nat) (old new : BankCore) (before after : Hub) : ∀ n ∈ telemetryNotices b old new before after, Notice.quiet n = true := by
  have thermal : ∀ n ∈ (if new.thermal = .tripped then [] else [Notice.event 4 0x2024 3])
      ++ [.journal 0xA (thermalCode new.thermal) [BitVec.ofNat 8 b, 0#8]], Notice.quiet n = true := by
    split <;> simp [Notice.quiet]
  have warned : ∀ n ∈ prewarnings before after, Notice.quiet n = true := by
    intro n hn
    rcases List.mem_append.1 hn with hn | hn
    · obtain ⟨k, -, hn⟩ := List.mem_flatMap.1 hn
      obtain ⟨ch, -, rfl⟩ := List.mem_map.1 hn
      rfl
    · split at hn
      · rw [List.mem_singleton.1 hn]; rfl
      · exact absurd hn List.not_mem_nil
  have degraded : ∀ n ∈ before.degradedNotices after, Notice.quiet n = true := by
    intro n hn
    obtain ⟨k, -, rfl⟩ := List.mem_map.1 hn
    rfl
  intro n hn
  unfold telemetryNotices at hn
  simp only [List.mem_append] at hn
  rcases hn with ((hn | hn) | hn) | hn
  · split at hn
    · exact absurd hn List.not_mem_nil
    · exact thermal n hn
  · split at hn
    · exact absurd hn List.not_mem_nil
    · rw [List.mem_singleton.1 hn]; rfl
  · exact warned n hn
  · exact degraded n hn

/-- Telemetry of a bank in service: its view is what the frame brings. -/
theorem State.telemetry_idle {s : State} {b : Nat} (old new : BankCore) (hv : b < s.hub.views.length) (hi : Ready.idle s = true)
    (hs : s.hub.serviceOf b ≠ .isolating) :
    (s.telemetry b old new).banks = s.banks ∧ (s.telemetry b old new).hub.view b = some new
      ∧ (s.telemetry b old new).hub.links = s.hub.links ∧ Ready.idle (s.telemetry b old new) = true := by
  unfold State.telemetry
  dsimp only
  generalize hd : s.onHub _ = d
  have seen : d.banks = s.banks ∧ d.hub.views = editAt s.hub.views b (fun _ => some new) ∧ d.hub.links = s.hub.links ∧ Ready.idle d = true
      ∧ d.hub.run.service = s.hub.run.service := by
    obtain ⟨hw, hsnap, hstop, hm⟩ := Ready.idle_iff.1 hi
    subst hd
    rw [Ready.idle_iff]
    have stopped : ∀ f : Stop → Stop, s.hub.run.stop.map f = none := by simp [hstop]
    dsimp only [State.onHub]
    split <;> dsimp only [Hub.onRun, Hub.setShedDue, Hub.noteAgreement] <;> exact ⟨rfl, rfl, rfl, ⟨hw, hsnap, stopped _, hm⟩, rfl⟩
  obtain ⟨banks, views, links, idle, service⟩ := seen
  have calm := State.notify_calmly b d _ (telemetryNotices_quiet b old new s.hub d.hub)
  have linksNow : (d.notify (telemetryNotices b old new s.hub d.hub)).hub.links = d.hub.links :=
    State.notify_hub_links _ _ (telemetryNotices_quiet b old new s.hub d.hub)
  generalize d.notify (telemetryNotices b old new s.hub d.hub) = e at calm linksNow ⊢
  have idleNow : Ready.idle e = true := calm.idle.trans idle
  have inService : e.hub.serviceOf b ≠ .isolating := by
    unfold Hub.serviceOf at hs ⊢
    rw [calm.service, service]
    exact hs
  rw [if_neg fun h => inService h.1, State.snapshotsDone_idle idleNow, State.migrationNext_none (Ready.idle_iff.1 idleNow).2.2.2]
  refine ⟨calm.banks.trans banks, ?_, linksNow.trans links, idleNow⟩
  unfold Hub.view
  rw [calm.views, views]
  exact editAt_getD_same _ _ _ _ hv

/-- The queue of a bank after its acknowledgements. -/
theorem State.acknowledged_idle {s : State} {b : Nat} (acks : List Nat) (hi : Ready.idle s = true) :
    s.acknowledged b acks = s.onHub fun h => h.onLink b fun l => { l with queue := l.queue.filter fun r => !acks.contains r.cmd.id } := by
  unfold State.acknowledged
  dsimp only
  rw [State.answerWaiting_none]
  exact (Ready.idle_iff.1 hi).1

theorem State.scheduleReports_nil (s : State) (b : Nat) : s.scheduleReports b [] = s := rfl

/-- What taking the acknowledged commands from the queue of a bank leaves. -/
theorem State.takeAcked {b : Nat} (s : State) (hl : b < s.hub.links.length) (acks : List Nat) :
    let t := s.onHub fun h => h.onLink b fun l => { l with queue := l.queue.filter fun r => !acks.contains r.cmd.id }
    t.banks = s.banks ∧ t.hub.views = s.hub.views ∧ (t.hub.link b).queue = (s.hub.link b).queue.filter (fun r => !acks.contains r.cmd.id)
      ∧ Ready.idle t = Ready.idle s ∧ t.hub.run.service = s.hub.run.service :=
  ⟨rfl, rfl, congrArg Link.queue (Hub.link_onLink_same hl _), rfl, rfl⟩

/-- A valid frame that only brings telemetry (R20, R22). -/
theorem State.uplink_telemetry {s : State} {b : Nat} {f : UpFrame} (h : Ready.telemetry s b f = true) :
    ((s.lineTaken b).uplink b f).banks = (s.lineTaken b).banks ∧ ((s.lineTaken b).uplink b f).hub.view b = some f.core
      ∧ (((s.lineTaken b).uplink b f).hub.link b).queue = (s.hub.link b).queue.filter (fun r => !f.acks.contains r.cmd.id)
      ∧ ((s.lineTaken b).uplink b f).hub.run.stop = none := by
  simp only [Ready.telemetry, Bool.and_eq_true, Bool.not_eq_true', decide_eq_true_eq, List.isEmpty_iff] at h
  obtain ⟨⟨⟨⟨⟨⟨⟨⟨ha, -⟩, hp⟩, hfirst⟩, hmsgs⟩, hran⟩, hnew⟩, hi⟩, hs⟩ := h
  obtain ⟨hb, -, hh, -, -⟩ := Ready.uplinkArrived_iff.1 ha
  have hl : b < (s.lineTaken b).hub.links.length := by show b < s.hub.links.length; rw [Hub.shaped_links hh]; exact hb
  have hv : b < s.hub.views.length := by rw [((Hub.shaped_iff _).1 hh).2.1]; exact hb
  have counted := (s.lineTaken b).countDiscards_calm 0 hl
  unfold State.uplink
  rw [hfirst, hmsgs, hran]
  dsimp only
  rw [if_neg Bool.false_ne_true, show ((s.lineTaken b).hub.link b).newDiscards f.discards = 0 from hnew]
  generalize (s.lineTaken b).countDiscards b 0 = d at counted ⊢
  have noted := counted.trans (d.onLink_calm (counted.links ▸ hl) (fun l => { l with reported := some f.discards }) fun _ => rfl)
  generalize (d.onHub fun h => h.onLink b fun l => { l with reported := some f.discards }) = e at noted ⊢
  have idle : Ready.idle e = true := noted.idle.trans hi
  rw [List.foldl_nil, State.acknowledged_idle f.acks idle, State.scheduleReports_nil]
  obtain ⟨old, hold⟩ := Option.isSome_iff_exists.1 hp
  have taken := e.takeAcked (b := b) (noted.links ▸ hl) f.acks
  generalize (e.onHub fun h => h.onLink b fun l => { l with queue := l.queue.filter fun r => !f.acks.contains r.cmd.id }) = d at taken ⊢
  obtain ⟨dbanks, dviews, dqueue, didle, dservice⟩ := taken
  have views : d.hub.views = s.hub.views := dviews.trans noted.views
  have view : d.hub.view b = some old := by unfold Hub.view; rw [views]; exact hold
  rw [view]
  dsimp only
  obtain ⟨banks, seen, links, still⟩ := State.telemetry_idle (b := b) old f.core (views ▸ hv) (didle.trans idle)
    (by unfold Hub.serviceOf at hs ⊢; rw [dservice, noted.service]; exact hs)
  refine ⟨banks.trans (dbanks.trans noted.banks), seen, ?_, (Ready.idle_iff.1 still).2.2.1⟩
  unfold Hub.link at dqueue ⊢
  rw [links, dqueue]
  exact congrArg _ noted.queue

/-- Settles O13: the frame as it is sent, the count of discards below and at its limit, and the frame of telemetry step by step. -/
theorem uplinkFramesReportTheBank : Obligations.UplinkFramesReportTheBank := by
  refine ⟨fun s b r h => ⟨_, ((s.bank b).measured b s.now r).core, rfl, ?_⟩, fun s b f h hr hf => ?_, fun s b f h hr hf => ?_, fun s b f h => ?_⟩
  · simp only [Ready.bankUplinkSend, Bool.and_eq_true] at h
    obtain ⟨hb, hd⟩ := h
    have msgs := (s.bank b).measured_msgs b s.now r
    have supply := (s.bank b).measured_supply b s.now r
    rw [State.bank_onBank_runs hb, Bank.send_due b r (Ready.bankRuns_iff.1 hb).2.2 hd]
    generalize (s.bank b).measured b s.now r = m at msgs supply ⊢
    exact ⟨rfl, msgs, rfl, supply, rfl, rfl, rfl⟩
  · obtain ⟨hb, hs, hh, -, -⟩ := Ready.uplinkArrived_iff.1 h
    refine ⟨_, execUplinkFrameRx_arrived false h hr, ?_⟩
    rw [if_neg Bool.false_ne_true, State.countDiscards_few (s := s.lineTaken b) (Nat.succ_lt_succ hf)]
    refine ⟨State.lineTaken_up hb hs, ?_, rfl⟩
    exact congrArg Link.discards (Hub.link_onLink_same (by show b < s.hub.links.length; rw [Hub.shaped_links hh]; exact hb) _)
  · obtain ⟨hb, hs, hh, -, -⟩ := Ready.uplinkArrived_iff.1 h
    refine ⟨_, execUplinkFrameRx_arrived false h hr, ?_⟩
    rw [if_neg Bool.false_ne_true, State.countDiscards_many (s := s.lineTaken b) (Nat.succ_le_succ hf)]
    have hquiet := Notice.link_quiet b 4
    refine ⟨?_, ?_, State.notify_link hb 4 (by decide) (Hub.outOfReset_of_runtimeOn hr)⟩
    · unfold State.bank
      rw [State.notify_banks _ _ hquiet]
      exact State.lineTaken_up hb hs
    · unfold Hub.link
      rw [State.notify_hub_links _ _ hquiet]
      exact congrArg Link.discards (Hub.link_onLink_same (by show b < s.hub.links.length; rw [Hub.shaped_links hh]; exact hb) _)
  · have hr : Ready.uplinkArrived s b f = true ∧ s.hub.runtimeOn = true := by
      simp only [Ready.telemetry, Bool.and_eq_true] at h
      obtain ⟨⟨⟨⟨⟨⟨⟨⟨ha, hr⟩, -⟩, -⟩, -⟩, -⟩, -⟩, -⟩, -⟩ := h
      exact ⟨ha, hr⟩
    obtain ⟨hb, hs, -, -, -⟩ := Ready.uplinkArrived_iff.1 hr.1
    obtain ⟨banks, view, queue, stop⟩ := State.uplink_telemetry h
    refine ⟨_, execUplinkFrameRx_arrived true hr.1 hr.2, ?_⟩
    rw [if_pos rfl, State.advanceStop_none stop]
    refine ⟨?_, view, queue⟩
    unfold State.bank
    rw [banks]
    exact State.lineTaken_up hb hs

end Sys2Proof.Machine
end


section
/-! Writes to objects as a session makes them: which row they carry, and what the answer leaves (R39, R391). -/

namespace Sys2Proof.Machine

/-! ## Bytes and their number -/

/-- The number of some bytes gives the bytes back (R12). -/
theorem leBytes_leNat (data : List Byte) : leBytes data.length (leNat data) = data := by
  have low : ∀ (b : Byte) (n i : Nat), (b.toNat + 256 * n) / 256 ^ (i + 1) = n / 256 ^ i := by
    intro b n i
    rw [Nat.pow_succ', ← Nat.div_div_eq_div_mul, Nat.add_mul_div_left _ _ (by decide), Nat.div_eq_of_lt b.isLt, Nat.zero_add]
  induction data with
  | nil => rfl
  | cons b bs ih =>
    unfold leBytes at ih ⊢
    rw [List.length_cons, List.range_succ_eq_map, List.map_cons, List.map_map]
    have head : BitVec.ofNat 8 (leNat (b :: bs) / 256 ^ 0) = b := by
      apply BitVec.eq_of_toNat_eq
      simp only [leNat, Nat.pow_zero, Nat.div_one, BitVec.toNat_ofNat]
      omega
    have tail : ((fun i => BitVec.ofNat 8 (leNat (b :: bs) / 256 ^ i)) ∘ Nat.succ) = fun i => BitVec.ofNat 8 (leNat bs / 256 ^ i) := by
      funext i
      simp only [Function.comp_apply, Nat.succ_eq_add_one, leNat, low]
    rw [head, tail, ih]

/-! ## Answers -/

/-- The state after a session is used. -/
def State.usedBy (s : State) (k : Nat) : State := s.onHub fun h => h.onSession k fun x => { x with lastUsed := s.now }

/-- The state after an answer by the last reply, for a request that came in a command of this model. -/
def State.replied (s : State) (status : Nat) : State := s.onHub fun h => { h with lastReply := responseBody status [] }

theorem State.respond_direct (s : State) (k status : Nat) (after : After) :
    s.respond { session := k, arrival := s.now } status [] after = (s.replied status).doAfter after := rfl

theorem State.doAfter_nothing (s : State) : s.doAfter {} = s := rfl

theorem Written.finish_accept (s : State) (k at_ : Nat) : (State.accept s).finish { session := k, arrival := at_ } = s.replied 0 := rfl

theorem Written.finish_deny (s : State) (k at_ code : Nat) (hc : code ≠ 0) : (s.deny code).finish { session := k, arrival := at_ } = s.replied code := by
  unfold Written.finish State.deny
  rw [if_neg fun h => hc h.1]
  rfl

/-- An accepted value with what follows its answer. -/
theorem Written.finish_then (s : State) (k at_ : Nat) (after : After) :
    Written.finish { state := s, then_ := after } { session := k, arrival := at_ } = (s.replied 0).doAfter after := rfl

theorem State.replied_accepted (s : State) : Ready.accepted (s.replied 0) := rfl

theorem State.replied_refused (s : State) (code : Nat) : Ready.refused (s.replied code) code := rfl

/-! ## Rows -/

theorem Ready.mayWrite_row {s : State} {k idx sub v : Nat} (h : Ready.mayWrite s k idx sub v = true) :
    ∃ r, rowOf s.rtVersion idx sub = some r ∧ objRows.find? (fun r => r.has idx sub) = some r ∧ v < 256 ^ r.size := by
  unfold Ready.mayWrite at h
  simp only [Bool.and_eq_true] at h
  obtain ⟨-, hv⟩ := h
  cases hr : rowOf s.rtVersion idx sub with
  | none => rw [hr] at hv; exact absurd hv Bool.false_ne_true
  | some r =>
    simp only [hr, Bool.and_eq_true, decide_eq_true_eq] at hv
    obtain ⟨⟨-, hlt⟩, -⟩ := hv
    refine ⟨r, rfl, ?_, hlt⟩
    unfold rowOf at hr
    split at hr
    · exact absurd hr (by simp)
    · exact hr

/-- A write row that carries its value as bytes of the size of its object. -/
theorem State.writeNum_stores {s : State} {k idx sub v : Nat} (h : Ready.mayWrite s k idx sub v = true) (hf : s.hub.slotTaken idx = false) :
    ∃ r data, rowOf s.rtVersion idx sub = some r ∧ leNat data = v ∧ s.writeNum k idx sub v
      = ((s.usedBy k).store { session := k, arrival := s.now } r idx sub data).finish { session := k, arrival := s.now } := by
  obtain ⟨r, hr, hfind, hlt⟩ := Ready.mayWrite_row h
  have bytes : Ready.mayWriteBytes s k idx sub (leBytes r.size v) = true := by
    unfold Ready.mayWriteBytes
    rw [leNat_leBytes _ _ hlt, h, hr]
    simp
  obtain ⟨r', hr', hw⟩ := State.writeRow_eq s k idx sub _ bytes hf
  obtain rfl : r = r' := Option.some.inj (hr.symm.trans hr')
  refine ⟨r, leBytes r.size v, hr, leNat_leBytes _ _ hlt, ?_⟩
  unfold State.writeNum
  rw [hfind]
  dsimp only
  rw [if_pos hlt, hw]
  rfl

theorem Hub.slotTaken_below (h : Hub) (idx : Nat) (hi : idx < 0x3800) : h.slotTaken idx = false := by
  unfold Hub.slotTaken
  rw [decide_eq_false (Nat.not_le.2 hi), Bool.false_and, Bool.false_and]

theorem Hub.slotTaken_above (h : Hub) (idx : Nat) (hi : 0x3810 ≤ idx) : h.slotTaken idx = false := by
  unfold Hub.slotTaken
  rw [decide_eq_false (Nat.not_lt.2 hi), Bool.and_false, Bool.false_and]

theorem State.store_comm (s : State) (o : Origin) (r : ObjRow) {idx : Nat} (sub : Nat) (data : List Byte) (h : idx < 0x2000) :
    s.store o r idx sub data = s.writeComm r idx sub (leNat data) := if_pos h

theorem State.store_device (s : State) (o : Origin) (r : ObjRow) {idx : Nat} (sub : Nat) (data : List Byte) (h : 0x2000 ≤ idx) (h' : idx < 0x3000) :
    s.store o r idx sub data = s.writeDevice r o idx sub (leNat data) := (if_neg (Nat.not_lt.2 h)).trans (if_pos h')

/-- A write of an object of the communication group. -/
theorem State.writeNum_comm {s : State} {k idx sub v : Nat} (h : Ready.mayWrite s k idx sub v = true) (hi : idx < 0x2000) :
    ∃ r, rowOf s.rtVersion idx sub = some r
      ∧ s.writeNum k idx sub v = ((s.usedBy k).writeComm r idx sub v).finish { session := k, arrival := s.now } := by
  obtain ⟨r, data, hr, rfl, hw⟩ := State.writeNum_stores h (s.hub.slotTaken_below idx (by omega))
  exact ⟨r, hr, by rw [hw, State.store_comm _ _ _ _ _ hi]⟩

/-- A write of an object of the device group. -/
theorem State.writeNum_device {s : State} {k idx sub v : Nat} (h : Ready.mayWrite s k idx sub v = true) (hi : 0x2000 ≤ idx) (hi' : idx < 0x3000) :
    ∃ r, s.writeNum k idx sub v
      = ((s.usedBy k).writeDevice r { session := k, arrival := s.now } idx sub v).finish { session := k, arrival := s.now } := by
  obtain ⟨r, data, -, rfl, hw⟩ := State.writeNum_stores h (s.hub.slotTaken_below idx (by omega))
  exact ⟨r, by rw [hw, State.store_device _ _ _ _ _ hi hi']⟩

/-! ## Requests of reset and standby -/

/-- The acknowledgement of events (R381). -/
theorem State.writeComm_acknowledge (s : State) (r : ObjRow) (mask : Nat) :
    s.writeComm r 0x1030 3 mask = State.accept (s.onHub fun h => { h with pending := h.pending &&& ~~~BitVec.ofNat 16 mask }) := by
  unfold State.writeComm
  rw [if_neg (by decide), if_neg (by decide), if_neg (by decide), if_pos ⟨rfl, rfl⟩]

/-- A reset request (R81). -/
theorem State.writeNum_reset {s : State} {k v : Nat} (h : Ready.mayWrite s k 0x2014 3 v = true) :
    s.writeNum k 0x2014 3 v = if v = 1 ∧ s.hub.shadowed = true then (s.usedBy k).replied 0x0307
      else ((s.usedBy k).onHub fun h => h.plan (resetOf v)).replied 0 := by
  obtain ⟨r, hw⟩ := State.writeNum_device h (by decide) (by decide)
  have hs : (s.usedBy k).hub.shadowed = s.hub.shadowed := rfl
  rw [hw]
  show ((s.usedBy k).resetWrite 3 v).finish _ = _
  unfold State.resetWrite
  rw [if_pos rfl, hs]
  split
  · exact Written.finish_deny _ _ _ _ (by decide)
  · exact Written.finish_accept _ _ _

/-- A standby request (R94). -/
theorem State.writeNum_standby {s : State} {k : Nat} (h : Ready.mayWrite s k 0x2014 4 1 = true) :
    s.writeNum k 0x2014 4 1 = if s.hub.windowCode ≠ 0 then (s.usedBy k).replied 0x0307
      else ((s.usedBy k).onHub fun h => h.plan .standby).replied 0 := by
  obtain ⟨r, hw⟩ := State.writeNum_device h (by decide) (by decide)
  have hs : (s.usedBy k).hub.windowCode = s.hub.windowCode := rfl
  rw [hw]
  show ((s.usedBy k).resetWrite 4 1).finish _ = _
  unfold State.resetWrite
  rw [if_neg (by decide), hs]
  split
  · exact Written.finish_deny _ _ _ _ (by decide)
  · exact Written.finish_accept _ _ _

/-- What a planned request leaves: it is accepted, and it replaces the request of its object (R35). -/
theorem State.planned_replied (s : State) (k : Nat) (p : Planned) :
    Ready.accepted (((s.usedBy k).onHub fun h => h.plan p).replied 0)
      ∧ (((s.usedBy k).onHub fun h => h.plan p).replied 0).hub.run.planned = s.hub.run.planned.filter (fun q => decide (q.object ≠ p.object)) ++ [p] :=
  ⟨rfl, rfl⟩

/-- Settles O33: each request is one write row, planned or refused. -/
theorem eventsResetsAndStandbyAreRequested : Obligations.EventsResetsAndStandbyAreRequested := by
  refine ⟨fun s k mask h => ⟨_, rfl, ?_⟩, fun s k h hs => ⟨_, rfl, ?_⟩, fun s k h hs => ⟨_, rfl, ?_⟩, fun s k h => ⟨_, rfl, ?_⟩,
    fun s k n hn h => ⟨_, rfl, ?_⟩, fun s k h => ⟨_, rfl, ?_⟩, fun s k h hc => ⟨_, rfl, ?_⟩, fun s k h hc => ⟨_, rfl, ?_⟩⟩
  · obtain ⟨r, -, hw⟩ := State.writeNum_comm h (by decide)
    rw [hw, State.writeComm_acknowledge, Written.finish_accept]
    exact ⟨rfl, rfl⟩
  · rw [State.writeNum_reset h, if_neg (by simp [hs])]
    exact s.planned_replied k .restart
  · rw [State.writeNum_reset h, if_pos ⟨rfl, hs⟩]
    exact ⟨rfl, rfl⟩
  · rw [State.writeNum_reset h, if_neg (by simp)]
    exact s.planned_replied k .hubReset
  · rw [if_pos hn, State.writeNum_reset h, if_neg (by omega)]
    have hp : resetOf (3 + n) = .portReset n := by
      obtain rfl | rfl : n = 0 ∨ n = 1 := by omega
      · rfl
      · rfl
    rw [hp]
    exact s.planned_replied k (.portReset n)
  · rw [State.writeNum_reset h, if_neg (by simp)]
    exact s.planned_replied k .wholeReset
  · rw [State.writeNum_standby h, if_neg (by simp [hc])]
    exact s.planned_replied k .standby
  · rw [State.writeNum_standby h, if_pos hc]
    exact ⟨rfl, rfl⟩

end Sys2Proof.Machine
end


section
/-! O45: what follows the answer to a write, and the writes of sensors, sessions, keys, transport and plain objects. -/

namespace Sys2Proof.Machine

/-! ## Sessions -/

/-- The use of a session leaves the state, the role and the endpoint of every session. -/
theorem State.usedBy_session (s : State) (k n : Nat) :
    ∃ at_, (s.usedBy k).hub.session n = { s.hub.session n with lastUsed := at_ } := by
  by_cases e : k = n
  · subst e
    by_cases hk : k < s.hub.run.sessions.length
    · exact ⟨s.now, editAt_getD_same s.hub.run.sessions k (fun x => { x with lastUsed := s.now }) {} hk⟩
    · refine ⟨(s.hub.session k).lastUsed, ?_⟩
      have none : ∀ l : List Session, l.length ≤ k → l.getD k {} = {} := fun l hl => by
        rw [List.getD_eq_getElem?_getD, List.getElem?_eq_none hl]
        rfl
      exact (none _ ((editAt_length _ _ _).trans_le (Nat.not_lt.1 hk))).trans (none _ (Nat.not_lt.1 hk)).symm
  · exact ⟨(s.hub.session n).lastUsed, editAt_getD_other s.hub.run.sessions k n _ {} e⟩

theorem State.usedBy_sessionsWith (s : State) (k : Nat) (f : Session → Bool) (hf : ∀ x at_, f { x with lastUsed := at_ } = f x) :
    (s.usedBy k).hub.sessionsWith f = s.hub.sessionsWith f := by
  unfold Hub.sessionsWith
  apply List.filter_congr
  intro n _
  obtain ⟨at_, hn⟩ := s.usedBy_session k n
  rw [hn, hf]

theorem State.usedBy_transportCloses (s : State) (k sub v : Nat) : (s.usedBy k).hub.transportCloses sub v = s.hub.transportCloses sub v := by
  have hv : ∀ sub d, (s.usedBy k).hub.val 0x1040 sub d = s.hub.val 0x1040 sub d := fun _ _ => rfl
  unfold Hub.transportCloses
  simp only [hv, s.usedBy_sessionsWith k Session.onRaw (fun _ _ => rfl), s.usedBy_sessionsWith k Session.onUdp (fun _ _ => rfl)]

/-- A closed session is free, and the others are as they were. -/
theorem Hub.closeSession_session (h : Hub) (m n : Nat) : (h.closeSession m).session n = if m = n then {} else h.session n := by
  show (editAt h.run.sessions m fun _ => {}).getD n {} = _
  split
  · subst m
    by_cases hn : n < h.run.sessions.length
    · rw [editAt_getD_same _ _ _ _ hn]
    · rw [List.getD_eq_getElem?_getD, List.getElem?_eq_none (by rw [editAt_length]; exact Nat.not_lt.1 hn)]
      rfl
  · rename_i e
    exact editAt_getD_other _ _ _ _ _ e

theorem Hub.closeSessions_stays (ns : List Nat) (h : Hub) (n : Nat) (hn : (h.session n).mode = .free) : ((h.closeSessions ns).session n).mode = .free := by
  induction ns generalizing h with
  | nil => exact hn
  | cons m ns ih =>
    refine ih (h.closeSession m) ?_
    rw [Hub.closeSession_session]
    split
    · rfl
    · exact hn

theorem Hub.closeSessions_free (ns : List Nat) (h : Hub) (n : Nat) (hn : n ∈ ns) : ((h.closeSessions ns).session n).mode = .free := by
  induction ns generalizing h with
  | nil => exact absurd hn List.not_mem_nil
  | cons m ns ih =>
    rcases List.mem_cons.1 hn with rfl | hn
    · refine Hub.closeSessions_stays ns (h.closeSession n) n ?_
      rw [Hub.closeSession_session, if_pos rfl]
    · exact ih (h.closeSession m) hn

/-- What closing sessions leaves alone. -/
theorem Hub.closeSessions_leaves (ns : List Nat) (h : Hub) :
    (h.closeSessions ns).lastReply = h.lastReply ∧ (h.closeSessions ns).run.accepted = h.run.accepted
      ∧ (h.closeSessions ns).run.inForce = h.run.inForce ∧ (h.closeSessions ns).run.store = h.run.store := by
  induction ns generalizing h with
  | nil => exact ⟨rfl, rfl, rfl, rfl⟩
  | cons m ns ih => exact ih (h.closeSession m)

/-! ## What follows an answer -/

/-- What a save of the configuration leaves alone. -/
theorem State.storeSave_leaves (s : State) :
    s.storeSave.hub.lastReply = s.hub.lastReply ∧ s.storeSave.hub.run.accepted = s.hub.run.accepted
      ∧ s.storeSave.hub.run.inForce = s.hub.run.inForce ∧ s.storeSave.hub.run.sessions = s.hub.run.sessions := by
  unfold State.storeSave
  dsimp only
  split
  · exact ⟨rfl, rfl, rfl, rfl⟩
  · split <;> exact ⟨rfl, rfl, rfl, rfl⟩

/-- A save begins where MRAM is free. -/
theorem State.storeSave_writing {s : State} (hw : s.hub.windowCode = 0) (hf : s.hub.flushesRecords = false) : s.storeSave.hub.run.store.writing = true := by
  unfold State.storeSave
  dsimp only
  rw [if_neg (by simp [hw, hf])]
  split
  · assumption
  · rfl

/-- A value put by what follows an answer is accepted and in force, and the sessions named are closed. -/
theorem State.doAfter_put (s : State) (idx sub v : Nat) (save : Bool) (ns : List Nat) :
    let t := s.doAfter { puts := [(idx, sub, v)], save := save, closes := ns }
    t.hub.lastReply = s.hub.lastReply ∧ Ready.given t idx sub v ∧ t.hub.run.inForce.get? (objKey idx sub) = some v
      ∧ (∀ n, n ∈ ns ∨ (s.hub.session n).mode = .free → (t.hub.session n).mode = .free) := by
  intro t
  have put : ∀ d : State, d.hub.lastReply = s.hub.lastReply → d.hub.run.accepted = s.hub.run.accepted.put (objKey idx sub) v →
      d.hub.run.inForce = s.hub.run.inForce.put (objKey idx sub) v → d.hub.run.sessions = s.hub.run.sessions → t = d.onHub (fun h => h.closeSessions ns) →
      t.hub.lastReply = s.hub.lastReply ∧ Ready.given t idx sub v ∧ t.hub.run.inForce.get? (objKey idx sub) = some v
        ∧ (∀ n, n ∈ ns ∨ (s.hub.session n).mode = .free → (t.hub.session n).mode = .free) := by
    intro d hreply hacc hforce hsess ht
    obtain ⟨reply, accepted, inForce, -⟩ := Hub.closeSessions_leaves ns d.hub
    rw [ht]
    unfold Ready.given
    rw [State.onHub_hub, reply, accepted, inForce, hacc, hforce]
    refine ⟨hreply, by rw [Values.get?_put, if_pos rfl], by rw [Values.get?_put, if_pos rfl], fun n hn => ?_⟩
    rcases hn with hn | hn
    · exact Hub.closeSessions_free ns d.hub n hn
    · refine Hub.closeSessions_stays ns d.hub n ?_
      unfold Hub.session at hn ⊢
      rw [hsess]
      exact hn
  cases save with
  | false => exact put (s.onHub fun h => (h.put idx sub v true).touch s.now) rfl rfl rfl rfl rfl
  | true =>
    obtain ⟨reply, accepted, inForce, sessions⟩ := (s.onHub fun h => (h.put idx sub v true).touch s.now).storeSave_leaves
    exact put _ reply accepted inForce sessions rfl

/-- What follows the answer to a key saves where MRAM is free. -/
theorem State.doAfter_saves {s : State} (idx sub v : Nat) (ns : List Nat) (hw : s.hub.windowCode = 0) (hf : s.hub.flushesRecords = false) :
    (s.doAfter { puts := [(idx, sub, v)], save := true, closes := ns }).hub.run.store.writing = true := by
  have saved := State.storeSave_writing (s := s.onHub fun h => (h.put idx sub v true).touch s.now) hw hf
  have kept := (Hub.closeSessions_leaves ns (s.onHub fun h => (h.put idx sub v true).touch s.now).storeSave.hub).2.2.2
  exact (congrArg StoreWork.writing kept).trans saved

/-! ## Rows of bytes -/

theorem rowOf_found {version idx sub : Nat} {r : ObjRow} (h : rowOf version idx sub = some r) : objRows.find? (fun r => r.has idx sub) = some r := by
  unfold rowOf at h
  split at h
  · exact absurd h (by simp)
  · exact h

/-- A write row that carries bytes. -/
theorem State.writeRow_stores {s : State} {k idx sub : Nat} {data : List Byte} (h : Ready.mayWriteBytes s k idx sub data = true)
    (hf : s.hub.slotTaken idx = false) :
    ∃ r, objRows.find? (fun r => r.has idx sub) = some r ∧ data.length = r.size ∧ s.writeRow k idx sub data
      = ((s.usedBy k).store { session := k, arrival := s.now } r idx sub data).finish { session := k, arrival := s.now } := by
  obtain ⟨r, hr, hw⟩ := State.writeRow_eq s k idx sub data h hf
  unfold Ready.mayWriteBytes at h
  rw [hr] at h
  simp only [Bool.and_eq_true, decide_eq_true_eq] at h
  exact ⟨r, rowOf_found hr, h.2, hw⟩

/-- A write row of bytes to an object of the communication group. -/
theorem State.writeRow_comm {s : State} {k idx sub : Nat} {data : List Byte} (h : Ready.mayWriteBytes s k idx sub data = true) (hi : idx < 0x2000) :
    ∃ r, objRows.find? (fun r => r.has idx sub) = some r ∧ data.length = r.size
      ∧ s.writeRow k idx sub data = ((s.usedBy k).writeComm r idx sub (leNat data)).finish { session := k, arrival := s.now } := by
  obtain ⟨r, hr, hl, hw⟩ := State.writeRow_stores h (s.hub.slotTaken_below idx (by omega))
  exact ⟨r, hr, hl, by rw [hw, State.store_comm _ _ _ _ _ hi]⟩

/-- A write row of a session that writes and of a hub that takes requests, whatever comes of it. -/
theorem State.writeRow_used {s : State} {k : Nat} (idx sub : Nat) (data : List Byte) (ht : s.hub.taking = true) (hw : s.hub.writerCode k = 0) :
    s.writeRow k idx sub data
      = ((s.usedBy k).dictWrite { session := k, arrival := s.now } true idx sub data).finish { session := k, arrival := s.now } := by
  unfold State.writeRow
  rw [if_neg (by simp [ht])]
  dsimp only
  rw [if_neg (by simp [hw])]
  rfl

theorem State.usedBy_accessCode (s : State) (k : Nat) (o : Origin) (r : ObjRow) (idx sub : Nat) :
    (s.usedBy k).accessCode o r idx sub = s.accessCode o r idx sub := by
  obtain ⟨at_, hs⟩ := s.usedBy_session k o.session
  unfold State.accessCode
  rw [hs]

/-- A write that its object refuses for its access (R40, R41). -/
theorem State.dictWrite_access {s : State} {o : Origin} {idx sub : Nat} {r : ObjRow} (whole : Bool) (data : List Byte)
    (hr : rowOf s.rtVersion idx sub = some r) (ha : s.accessCode o r idx sub ≠ 0) : s.dictWrite o whole idx sub data = s.deny (s.accessCode o r idx sub) := by
  unfold State.dictWrite
  rw [hr]
  exact if_pos ha

/-- A write that its object refuses for its value (R40). -/
theorem State.dictWrite_value {s : State} {o : Origin} {idx sub : Nat} {r : ObjRow} (data : List Byte) (hr : rowOf s.rtVersion idx sub = some r)
    (ha : s.accessCode o r idx sub = 0) (hs : r.size ≤ 32) (hf : s.hub.slotTaken idx = false) (hv : valueCode r data ≠ 0) :
    s.dictWrite o true idx sub data = s.deny (valueCode r data) := by
  unfold State.dictWrite
  rw [hr]
  dsimp only
  rw [if_neg (by simp [ha]), if_neg (by simp [Nat.not_lt.2 hs]), if_neg (by simp [hf]), if_pos hv]

/-! ## Sensors -/

/-- The readmission of a sensor of a claimed bank (R205). -/
theorem State.readmitWrite_claimed {s : State} {v : Nat} {c : BankCore} (hb : v / 16 < 4) (hi : v % 16 < 14) (hv : s.hub.view (v / 16) = some c) :
    s.readmitWrite v = if (c.sensor (v % 16)).broken.isNone then s.accept
      else if elapsed (s.hub.agreeSince.getD (14 * (v / 16) + v % 16) none) 1000000000 s.now then
        s.command [{ bank := v / 16, cmd := .readmit (v % 16) }]
      else s.deny 0x0307 := by
  unfold State.readmitWrite
  dsimp only
  rw [if_neg (by omega), hv]

theorem State.readmitWrite_absent {s : State} {v : Nat} (hb : v / 16 < 4) (hi : v % 16 < 14) (hv : s.hub.view (v / 16) = none) :
    s.readmitWrite v = s.deny 0x0309 := by
  unfold State.readmitWrite
  dsimp only
  rw [if_neg (by omega), hv]

theorem State.readmitWrite_unnamed (s : State) {v : Nat} (h : 4 ≤ v / 16 ∨ 14 ≤ v % 16) : s.readmitWrite v = s.deny 0x0306 := by
  unfold State.readmitWrite
  exact if_pos (by omega)

/-- A readmission is a write of the device group. -/
theorem State.writeNum_readmit {s : State} {k v : Nat} (h : Ready.mayWrite s k 0x2023 5 v = true) :
    s.writeNum k 0x2023 5 v = ((s.usedBy k).readmitWrite v).finish { session := k, arrival := s.now } := by
  obtain ⟨r, hw⟩ := State.writeNum_device h (by decide) (by decide)
  exact hw.trans rfl

theorem Ready.mayWrite_taking {s : State} {k idx sub v : Nat} (h : Ready.mayWrite s k idx sub v = true) : s.hub.taking = true := by
  unfold Ready.mayWrite at h
  simp only [Bool.and_eq_true] at h
  exact h.1.1

theorem Hub.stopping_of_taking {h : Hub} (ht : h.taking = true) : h.stopping = false := by
  unfold Hub.taking at ht
  simp only [Bool.and_eq_true, Option.isNone_iff_eq_none] at ht
  unfold Hub.stopping
  rw [ht.2]

/-- One command for a present bank has its number. -/
theorem Hub.order_one {h : Hub} {o : Order} (hp : h.present o.bank = true) (hs : h.stopping = false) : ∃ id, (h.order [o]).2 = [(o.bank, id)] := by
  unfold Hub.order
  rw [if_pos (by rw [hp, hs]; rfl)]
  exact ⟨_, rfl⟩

/-- A command that waits for its bank. -/
theorem Written.finish_command {s : State} {o : Order} (k at_ : Nat) (hp : s.hub.present o.bank = true) (hs : s.hub.stopping = false) :
    ∃ id, (s.command [o]).finish { session := k, arrival := at_ }
      = { s with hub := (s.hub.order [o]).1.onRun fun r => { r with waiting := r.waiting ++ [{ origin := { session := k, arrival := at_ }, open_ := [(o.bank, id)] }] } } := by
  obtain ⟨id, hid⟩ := Hub.order_one hp hs
  refine ⟨id, ?_⟩
  unfold State.command State.await Written.finish
  dsimp only
  have sent : (s.hub.order [o]).2 ≠ [] := by rw [hid]; exact List.cons_ne_nil _ _
  rw [if_pos ⟨rfl, sent⟩, hid]
  rfl

/-- A readmission that is sent to its bank (R205). -/
theorem State.readmit_sent {s : State} {k b i : Nat} (hs : s.hub.shaped = true) (hb : b < 4) (ht : s.hub.taking = true)
    (hp : s.hub.present b = true) :
    Ready.awaited s (((s.usedBy k).command [{ bank := b, cmd := .readmit i }]).finish { session := k, arrival := s.now }) k
      ∧ Ready.onLink (((s.usedBy k).command [{ bank := b, cmd := .readmit i }]).finish { session := k, arrival := s.now }) b (.readmit i) = true := by
  have stopping : (s.usedBy k).hub.stopping = false := Hub.stopping_of_taking (h := (s.usedBy k).hub) ht
  obtain ⟨id, hid⟩ := Written.finish_command (s := s.usedBy k) (o := { bank := b, cmd := .readmit i }) k s.now hp stopping
  have waiting : ((s.usedBy k).hub.order [{ bank := b, cmd := .readmit i }]).1.run.waiting = s.hub.run.waiting := by rw [Hub.order_rest]; rfl
  obtain ⟨r, hr, hc, -⟩ := Hub.order_sends [] [] { bank := b, cmd := .readmit i } (s.usedBy k).hub stopping hp
    (by show b < s.hub.links.length; rw [Hub.shaped_links hs]; exact hb) (by simp)
  rw [hid]
  constructor
  · unfold Ready.awaited
    dsimp only [Hub.onRun]
    rw [waiting]
    simp
  · unfold Ready.onLink
    exact List.any_eq_true.2 ⟨r, hr, by simpa using hc⟩

/-! ## Keys and transport -/

theorem Ready.keyRow {sub : Nat} {r : ObjRow} (hs : sub = 2 ∨ sub = 3) (h : objRows.find? (fun r => r.has 0x1042 sub) = some r) : r.size = 32 := by
  have found : ∀ {o : Option ObjRow}, o = some r → o.map ObjRow.size = some 32 → r.size = 32 := by
    rintro _ rfl hm
    exact Option.some.inj hm
  rcases hs with rfl | rfl
  · exact found h (by decide +kernel)
  · exact found h (by decide +kernel)

/-- A key that is written (R404). -/
theorem State.writeRow_key {s : State} {k sub : Nat} {key : List Byte} (hs : sub = 2 ∨ sub = 3) (h : Ready.mayWriteBytes s k 0x1042 sub key = true) :
    key.length = 32 ∧ s.writeRow k 0x1042 sub key
      = ((s.usedBy k).keyWritten (if sub = 3 then .service else .operator) (leNat key)).finish { session := k, arrival := s.now } := by
  obtain ⟨r, hr, hl, hw⟩ := State.writeRow_comm h (by decide)
  refine ⟨hl.trans (Ready.keyRow hs hr), ?_⟩
  rw [hw]
  unfold State.writeComm
  rw [if_neg (by decide), if_pos rfl]

end Sys2Proof.Machine
end


section
/-! O45: its clauses, one write each. -/

namespace Sys2Proof.Machine

/-- What a key that is written leaves (R404). -/
theorem State.writeRow_key_leaves {s : State} {k sub : Nat} {role : Role} {key : List Byte}
    (hsub : sub = 2 ∧ role = .operator ∨ sub = 3 ∧ role = .service) (h : Ready.mayWriteBytes s k 0x1042 sub key = true) :
    Ready.accepted (s.writeRow k 0x1042 sub key) ∧ (s.writeRow k 0x1042 sub key).hub.key role = some key
      ∧ (Ready.storeFree s = true → (s.writeRow k 0x1042 sub key).hub.run.store.writing = true)
      ∧ ∀ n, n < 16 → (s.hub.session n).role = role → ((s.writeRow k 0x1042 sub key).hub.session n).mode = .free := by
  obtain ⟨hlen, hw⟩ := State.writeRow_key (hsub.imp And.left And.left) h
  have quiet : ∀ n ∈ [Notice.journal 8 2 (leBytes 1 (sub - 2))], Notice.quiet n = true := by simp [Notice.quiet]
  have same : s.writeRow k 0x1042 sub key = (((s.usedBy k).notify [.journal 8 2 (leBytes 1 (sub - 2))]).replied 0).doAfter
      { puts := [(0x1042, sub, leNat key)], save := true, closes := s.hub.sessionsWith fun x => decide (x.role = role) } := by
    rw [hw, ← s.usedBy_sessionsWith k _ fun _ _ => rfl]
    rcases hsub with ⟨rfl, rfl⟩ | ⟨rfl, rfl⟩ <;> rfl
  rw [same]
  generalize hu : (s.usedBy k).notify [.journal 8 2 (leBytes 1 (sub - 2))] = u
  obtain ⟨reply, put, -, free⟩ := (u.replied 0).doAfter_put 0x1042 sub (leNat key) true (s.hub.sessionsWith fun x => decide (x.role = role))
  refine ⟨reply, ?_, fun hs => ?_, fun n hn hr => free n ?_⟩
  · have back : (some (leNat key)).map (leBytes 32) = some key := by rw [← hlen]; exact congrArg some (leBytes_leNat key)
    unfold Ready.given at put
    rcases hsub with ⟨rfl, rfl⟩ | ⟨rfl, rfl⟩
    · exact (congrArg (Option.map (leBytes 32)) put).trans back
    · exact (congrArg (Option.map (leBytes 32)) put).trans back
  · simp only [Ready.storeFree, Ready.mramFree, Bool.and_eq_true, decide_eq_true_eq, Bool.not_eq_true'] at hs
    obtain ⟨⟨window, -⟩, flushes⟩ := hs
    refine State.doAfter_saves _ _ _ _ ?_ ?_
    · show u.hub.windowCode = 0
      rw [← hu, State.notify_hub_windowCode _ _ quiet]
      exact window
    · show u.hub.flushesRecords = false
      have left : u.hub.run.flushLeft = (s.usedBy k).hub.run.flushLeft := hu ▸ congrArg (fun h => h.run.flushLeft) (State.notify_calm _ _ quiet)
      unfold Hub.flushesRecords at flushes ⊢
      rw [left, ← hu, State.notify_hub_flushing _ _ quiet]
      exact flushes
  · by_cases hm : (s.hub.session n).mode = .free
    · right
      show (u.hub.session n).mode = .free
      obtain ⟨at_, hsess⟩ := s.usedBy_session k n
      unfold Hub.session at hm hsess ⊢
      rw [← hu, State.notify_hub_run_sessions _ _ quiet, hsess]
      exact hm
    · left
      unfold Hub.sessionsWith
      rw [List.mem_filter]
      exact ⟨List.mem_range.2 hn, by simp [hm, hr]⟩

/-- The effect of a transport setting (Table 13-2). -/
theorem Ready.transportRow {sub : Nat} {r : ObjRow} (h1 : 1 ≤ sub) (h4 : sub ≤ 4) (h : objRows.find? (fun r => r.has 0x1040 sub) = some r) :
    r.eff = if sub = 3 then .i else .iPlus := by
  have found : ∀ {o : Option ObjRow} {e : Effect}, o = some r → o.map ObjRow.eff = some e → r.eff = e := by
    rintro _ e rfl hm
    exact Option.some.inj hm
  obtain rfl | rfl | rfl | rfl : sub = 1 ∨ sub = 2 ∨ sub = 3 ∨ sub = 4 := by omega
  all_goals exact found h (by decide +kernel)

/-- A value that is kept is accepted. -/
theorem State.keep_given (s : State) (r : ObjRow) (idx sub v : Nat) : Ready.given (s.keep r idx sub v) idx sub v := by
  unfold Ready.given State.keep
  dsimp only [State.onHub]
  split
  · exact (Values.get?_put _ _ _ _).trans (if_pos rfl)
  · exact (Values.get?_put _ _ _ _).trans (if_pos rfl)

/-- A value that is kept by an object whose effect is at once is in force. -/
theorem State.keep_inForce (s : State) {r : ObjRow} (idx sub v : Nat) (ha : r.eff.acts = true) :
    (s.keep r idx sub v).hub.run.inForce.get? (objKey idx sub) = some v := by
  unfold State.keep
  dsimp only [State.onHub]
  rw [ha]
  split
  · exact (Values.get?_put _ _ _ _).trans (if_pos rfl)
  · exact (Values.get?_put _ _ _ _).trans (if_pos rfl)

/-- What a transport setting leaves (R397). -/
theorem State.writeRow_transport {s : State} {k sub : Nat} {value : List Byte} (h1 : 1 ≤ sub) (h4 : sub ≤ 4)
    (h : Ready.mayWriteBytes s k 0x1040 sub value = true) :
    Ready.accepted (s.writeRow k 0x1040 sub value) ∧ Ready.given (s.writeRow k 0x1040 sub value) 0x1040 sub (leNat value)
      ∧ (s.writeRow k 0x1040 sub value).hub.act 0x1040 sub 0 = leNat value
      ∧ ∀ n ∈ s.hub.transportCloses sub (leNat value), ((s.writeRow k 0x1040 sub value).hub.session n).mode = .free := by
  obtain ⟨r, hr, -, hw⟩ := State.writeRow_comm h (by decide)
  have row := Ready.transportRow h1 h4 hr
  have comm : (s.usedBy k).writeComm r 0x1040 sub (leNat value) = (s.usedBy k).transportWrite r sub (leNat value) := by
    unfold State.writeComm
    rw [if_neg (by decide), if_neg (by decide), if_pos rfl]
  rw [hw, comm]
  unfold State.transportWrite
  by_cases h3 : sub = 3
  · rw [if_pos h3] at row
    rw [if_neg (by rw [row]; decide), Written.finish_accept]
    refine ⟨rfl, State.keep_given _ _ _ _ _, ?_, fun n hn => ?_⟩
    · exact congrArg (fun o => o.getD 0) ((s.usedBy k).keep_inForce 0x1040 sub (leNat value) (by rw [row]; decide))
    · subst h3
      exact absurd hn List.not_mem_nil
  · rw [if_neg h3] at row
    rw [if_pos row, Written.finish_then, State.usedBy_transportCloses]
    generalize (s.usedBy k).onHub _ = u
    obtain ⟨reply, put, inForce, free⟩ := (u.replied 0).doAfter_put 0x1040 sub (leNat value) false (s.hub.transportCloses sub (leNat value))
    exact ⟨reply, put, congrArg (fun o => o.getD 0) inForce, fun n hn => free n (.inl hn)⟩

/-- The plain objects, one by one. -/
theorem Ready.plainObject_cases {idx sub : Nat} (hp : Ready.plainObject idx sub = true) :
    (idx = 0x2000 ∧ sub = 1 ∨ idx = 0x2040 ∧ sub = 2 ∨ idx = 0x2041 ∧ sub = 1 ∨ idx = 0x2044 ∧ sub = 1)
      ∨ idx = 0x4002 ∧ sub = 1 ∨ idx = 0x5000 ∧ sub = 1 ∨ idx = 0x7000 ∧ sub = 2 ∨ idx = 0x7001 ∧ sub = 7 := by
  unfold Ready.plainObject at hp
  simp only [List.contains_eq_mem, List.mem_cons, Prod.mk.injEq, List.not_mem_nil, or_false, decide_eq_true_eq] at hp
  simpa only [or_assoc] using hp

theorem State.store_time (s : State) (o : Origin) (r : ObjRow) {idx : Nat} (sub : Nat) (data : List Byte) (h : 0x4000 ≤ idx) (h' : idx < 0x4400) :
    s.store o r idx sub data = s.writeTime r idx sub (leNat data) := by
  unfold State.store
  rw [if_neg (by omega), if_neg (by omega), if_neg (by omega), if_neg (by omega), if_pos h']

theorem State.store_collector (s : State) (o : Origin) (r : ObjRow) {idx : Nat} (sub : Nat) (data : List Byte) (h : 0x5000 ≤ idx) (h' : idx < 0x6000) :
    s.store o r idx sub data = s.writeCollector r o idx sub (leNat data) := by
  unfold State.store
  rw [if_neg (by omega), if_neg (by omega), if_neg (by omega), if_neg (by omega), if_neg (by omega), if_neg (by omega), if_pos h']

theorem State.store_service (s : State) (o : Origin) (r : ObjRow) {idx : Nat} (sub : Nat) (data : List Byte) (h : 0x7000 ≤ idx) (hi : idx ≠ 0x7002) :
    s.store o r idx sub data = s.writeService r o idx sub (leNat data) := by
  unfold State.store
  rw [if_neg (by omega), if_neg (by omega), if_neg (by omega), if_neg (by omega), if_neg (by omega), if_neg (by omega), if_neg (by omega),
    if_neg (by omega), if_neg fun hp => hi hp.1]

/-- A plain object takes its value and does nothing else. -/
theorem State.store_plain (s : State) (o : Origin) (r : ObjRow) {idx sub : Nat} (data : List Byte) (hp : Ready.plainObject idx sub = true) :
    s.store o r idx sub data = State.accept (s.keep r idx sub (leNat data)) := by
  rcases Ready.plainObject_cases hp with device | ⟨rfl, rfl⟩ | ⟨rfl, rfl⟩ | ⟨rfl, rfl⟩ | ⟨rfl, rfl⟩
  · rw [State.store_device _ _ _ _ _ (by omega) (by omega)]
    rcases device with ⟨rfl, rfl⟩ | ⟨rfl, rfl⟩ | ⟨rfl, rfl⟩ | ⟨rfl, rfl⟩ <;> rfl
  · exact s.store_time o r 1 data (by decide) (by decide)
  · exact s.store_collector o r 1 data (by decide) (by decide)
  · exact s.store_service o r 2 data (by decide) (by decide)
  · exact s.store_service o r 7 data (by decide) (by decide)

/-- A plain object keeps what is written. -/
theorem State.writeRow_plain {s : State} {k idx sub : Nat} {value : List Byte} (h : Ready.mayWriteBytes s k idx sub value = true)
    (hp : Ready.plainObject idx sub = true) : ∃ r, s.writeRow k idx sub value = ((s.usedBy k).keep r idx sub (leNat value)).replied 0 := by
  have free : s.hub.slotTaken idx = false := by
    rcases Ready.plainObject_cases hp with low | high
    · exact s.hub.slotTaken_below idx (by omega)
    · exact s.hub.slotTaken_above idx (by omega)
  obtain ⟨r, -, -, hw⟩ := State.writeRow_stores h free
  exact ⟨r, by rw [hw, State.store_plain _ _ _ _ hp, Written.finish_accept]⟩

/-- A session that its object closes. -/
theorem State.writeNum_close {s : State} {k n : Nat} (hn : n < 16) (h : Ready.mayWrite s k (0x1100 + n) 7 1 = true) :
    s.writeNum k (0x1100 + n) 7 1 = ((s.usedBy k).replied 0).doAfter { closes := [n] } := by
  obtain ⟨r, -, hw⟩ := State.writeNum_comm h (by omega)
  rw [hw]
  unfold State.writeComm
  rw [if_pos (Nat.le_add_right _ _), Nat.add_sub_cancel_left]
  rfl

/-- Settles O45: each write as its row, and what the answer leaves. -/
theorem sensorsSessionsKeysAndObjectsAreWritten : Obligations.SensorsSessionsKeysAndObjectsAreWritten := by
  refine ⟨fun s k v c hb hi hs h hv hbroken hsince => ⟨_, rfl, ?_⟩, fun s k v c hb hi h hv hbroken => ⟨_, rfl, ?_⟩,
    fun s k n hn hs h => ⟨_, rfl, ?_⟩, fun s k key hs h => ⟨_, rfl, State.writeRow_key_leaves (.inl ⟨rfl, rfl⟩) h⟩,
    fun s k key hs h => ⟨_, rfl, State.writeRow_key_leaves (.inr ⟨rfl, rfl⟩) h⟩,
    fun s k sub value hs h1 h4 h => ⟨_, rfl, State.writeRow_transport h1 h4 h⟩, fun s k idx sub value h hp => ⟨_, rfl, ?_⟩,
    fun s k idx sub value r ht hw hr ha => ⟨_, rfl, ?_⟩, fun s k idx sub value ht hw => ⟨_, rfl, ?_⟩,
    fun s k v c hb hi h hv hbroken hsince => ⟨_, rfl, ?_⟩, fun s k v hb hi h hv => ⟨_, rfl, ?_⟩, fun s k v hn h => ⟨_, rfl, ?_⟩,
    fun s k idx sub value r ht hw hr ha hsz hf hc => ⟨_, rfl, ?_⟩⟩
  · have since : elapsed ((s.usedBy k).hub.agreeSince.getD (14 * (v / 16) + v % 16) none) 1000000000 (s.usedBy k).now = true := hsince
    have sound : (c.sensor (v % 16)).broken.isNone = false := by rw [Option.isNone_eq_false_iff]; exact hbroken
    rw [State.writeNum_readmit h, State.readmitWrite_claimed (s := s.usedBy k) hb hi hv, sound, if_neg Bool.false_ne_true, if_pos since]
    exact State.readmit_sent hs hb (Ready.mayWrite_taking h) (by unfold Hub.present; rw [show s.hub.views.getD (v / 16) none = some c from hv]; rfl)
  · rw [State.writeNum_readmit h, State.readmitWrite_claimed (s := s.usedBy k) hb hi hv, hbroken, if_pos Option.isNone_none, Written.finish_accept]
    exact ⟨rfl, rfl⟩
  · rw [if_pos hn, State.writeNum_close hn h]
    exact ⟨rfl, Hub.closeSessions_free [n] _ n (List.mem_singleton.2 rfl)⟩
  · obtain ⟨r, hw⟩ := State.writeRow_plain h hp
    rw [hw]
    exact ⟨rfl, State.keep_given _ _ _ _ _⟩
  · have refused := s.usedBy_accessCode k { session := k, arrival := s.now } r idx sub
    rw [State.writeRow_used idx sub value ht hw, State.dictWrite_access (s := s.usedBy k) true value hr (refused ▸ ha), refused,
      Written.finish_deny _ _ _ _ ha]
    exact ⟨rfl, rfl⟩
  · have row : s.writeRow k idx sub value = s.replied (s.hub.writerCode k) := by
      unfold State.writeRow
      rw [if_neg (by simp [ht])]
      exact if_pos hw
    rw [row]
    exact ⟨rfl, rfl⟩
  · have since : elapsed ((s.usedBy k).hub.agreeSince.getD (14 * (v / 16) + v % 16) none) 1000000000 (s.usedBy k).now = false := hsince
    have sound : (c.sensor (v % 16)).broken.isNone = false := by rw [Option.isNone_eq_false_iff]; exact hbroken
    rw [State.writeNum_readmit h, State.readmitWrite_claimed (s := s.usedBy k) hb hi hv, sound, if_neg Bool.false_ne_true,
      if_neg (Bool.eq_false_iff.1 since), Written.finish_deny _ _ _ _ (by decide)]
    exact ⟨rfl, rfl⟩
  · rw [State.writeNum_readmit h, State.readmitWrite_absent (s := s.usedBy k) hb hi hv, Written.finish_deny _ _ _ _ (by decide)]
    exact ⟨rfl, rfl⟩
  · rw [State.writeNum_readmit h, State.readmitWrite_unnamed _ hn, Written.finish_deny _ _ _ _ (by decide)]
    exact ⟨rfl, rfl⟩
  · rw [State.writeRow_used idx sub value ht hw, State.dictWrite_value (s := s.usedBy k) value hr
      ((s.usedBy_accessCode k _ r idx sub).trans ha) hsz hf hc, Written.finish_deny _ _ _ _ hc]
    exact ⟨rfl, rfl⟩

end Sys2Proof.Machine
end


section
/-! O1: the classes of the LIMP lands (R53), the filtered inputs (R111) and the starved mark (R108). -/

namespace Sys2Proof.Machine

/-! ## LIMP lands -/

/-- A land that has stood for 100 microseconds in the band of a class has that class. -/
theorem limpNext_of_class {mv held now : Nat} {c : LimpClass} (cl : LimpClass) (next : Option (LimpClass × Nat)) (hb : limpBand mv = some c)
    (hh : 100000 ≤ held) (hn : held ≤ now) : (limpNext cl next mv held now).1 = c := by
  unfold limpNext
  rw [hb]
  by_cases e : c = cl
  · simp [e]
  · rcases next with - | ⟨d, t⟩
    · simp [e, show now - held + 100000 ≤ now by omega]
    · by_cases hd : d = c
      · simp [e, hd, show min t (now - held) + 100000 ≤ now by omega]
      · simp [e, hd, show now - held + 100000 ≤ now by omega]

/-- A land in a band that keeps the class takes the class that its candidate, or no candidate, leaves it. -/
theorem limpNext_of_keep {s : State} {b mv held : Nat} (land : LimpLand) (hb : limpBand mv = none) :
    (limpNext ((s.bank b).core.limpClass land) ((s.bank b).core.limpCandidate land) mv held s.now).1 = Ready.limpKept s b land := by
  unfold limpNext Ready.limpKept
  rw [hb]
  rcases (s.bank b).core.limpCandidate land with - | ⟨c, t⟩
  · rfl
  · dsimp only
    split <;> rfl

/-- Driving and late trips leave the classes of the LIMP lands. -/
theorem Bank.act_limpClass (b : Bank) (n now : Nat) (f : BankCore → BankCore) : (b.act n now f).core.limpClass = (f (b.core.rebase now)).limpClass := by
  refine Bank.act_keeps BankCore.limpClass (fun x y t => ?_) (fun c p g => ?_) b n now f
  · funext land
    cases land
    · exact BankCore.settle_limpOwn x y t
    · exact BankCore.settle_limpShared x y t
  · funext land
    cases land <;> rfl

/-- The classes after a land's voltage has been sensed. -/
theorem Bank.limpAdopt_limpClass {b : Bank} (n now : Nat) (land other : LimpLand) (mv held : Nat) (hr : b.core.running = true) :
    (b.limpAdopt n now land mv held).core.limpClass other
      = if other = land then (limpNext (b.core.limpClass land) (b.core.limpCandidate land) mv held now).1 else b.core.limpClass other := by
  unfold Bank.limpAdopt
  rw [if_pos hr, Bank.act_limpClass]
  cases land <;> cases other <;> rfl

/-! ## Filtered inputs -/

/-- The filtered levels after an edge: those of the pin whose filter time has passed. -/
theorem BankCore.acceptEdge_inputs (c : BankCore) (pin : Nat) (level : Bool) (held i : Nat) (hi : i < c.inputs.length) :
    (c.acceptEdge pin level held).inputs.getD i none
      = if i / 6 = pin ∧ filterTime (i % 6) ≤ held then some level else c.inputs.getD i none := by
  unfold BankCore.acceptEdge
  rw [mapFrom_getD _ _ _ _ _ hi, Nat.zero_add]
  simp only [Bool.and_eq_true, decide_eq_true_eq]

theorem Bank.inputEdge_inputs {b : Bank} (n now pin : Nat) (level : Bool) (held i : Nat) (hv : b.core.inputValid = true) (hi : i < b.core.inputs.length) :
    (b.inputEdge n now pin level held).core.inputs.getD i none
      = if i / 6 = pin ∧ filterTime (i % 6) ≤ held then some level else b.core.inputs.getD i none := by
  unfold Bank.inputEdge
  rw [if_pos hv, Bank.act_keeps BankCore.inputs (by simp) (fun _ _ _ => rfl)]
  exact BankCore.acceptEdge_inputs (b.core.rebase now) pin level held i hi

theorem State.bank_onBanks (s : State) (f : Nat → Bank → Bank) {b : Nat} (hb : b < s.banks.length) : (s.onBanks f).bank b = f b (s.bank b) :=
  (mapFrom_getD f s.banks 0 b {} hb).trans (by rw [Nat.zero_add]; rfl)

/-! ## Starved sense -/

/-- A trip keeps the starved mark of its channel. -/
theorem BankCore.trip_starved (c : BankCore) (now p : Nat) (k : TripKind) (x : Chan) : (c.trip now p k x).sense.starved = x.sense.starved := by
  have lapse : (x.lapseCounts now).sense = x.sense := by
    unfold Chan.lapseCounts
    rfl
  have off : ∀ (r : Nat) (y : Chan), (c.turnOff now p r y).sense = y.sense := fun _ y => y.suspendWindow_sense c.version now
  unfold BankCore.trip
  dsimp only
  rw [← lapse]
  generalize x.lapseCounts now = y
  split
  · exact congrArg ChanSense.starved (off (if k = .detection then 0 else slewRate (classAt p) 3) y)
  · rfl

/-- The starved mark that an event of a channel leaves, through driving and late trips. -/
theorem Bank.editChan_starved (b : Bank) (n now p : Nat) (v : Bool) (hp : p < b.core.chans.length) :
    ((b.editChan n now p fun ch => { ch with sense := { ch.sense with starved := v } }).core.chan p).sense.starved = v := by
  refine (Bank.act_induct (P := fun c => p < c.chans.length ∧ (c.chan p).sense.starved = v) ?_ ?_ b n _ rfl ⟨by simpa using hp, ?_⟩).2
  · rintro x c hx ⟨hl, hv⟩
    refine ⟨hl.trans_eq (congrArg Prod.fst (BankCore.settle_sizes x c now)).symm, ?_⟩
    rw [BankCore.settle_chan _ _ _ _ hl hx, BankCore.finish_sense_starved]
    exact hv
  · rintro c q ⟨hl, hv⟩
    refine ⟨by simpa using hl, ?_⟩
    by_cases e : p = q
    · subst e
      rw [BankCore.chan_editChan_same _ _ _ hl, BankCore.trip_starved]
      exact hv
    · rw [BankCore.chan_editChan_other _ _ _ _ e]
      exact hv
  · rw [BankCore.chan_editChan_same _ _ _ (by simpa using hp)]

/-- An event that edits the starved mark of a channel leaves the mark as edited. -/
theorem State.chan_onChan_starved {s : State} {ch : Nat} (v : Bool) (hc : ch < 48) (hs : s.shaped = true) (f : Bank → Nat → Nat → Nat → Bank)
    (hf : f (s.bank (ch / 12)) (ch / 12) s.now (ch % 12)
      = (s.bank (ch / 12)).editChan (ch / 12) s.now (ch % 12) fun x => { x with sense := { x.sense with starved := v } }) :
    ((s.onChan ch f).chan ch).sense.starved = v := by
  rw [State.chan_onChan s ch f hs hc, hf]
  exact Bank.editChan_starved _ _ _ _ v (by rw [State.shaped_chans hs (ch / 12) (by omega)]; omega)

/-- Settles O1: each land by its band, the inputs by their filter times, and the starved mark through the driving of its channel. -/
theorem landsInputsAndStarvation : Obligations.LandsInputsAndStarvation := by
  refine ⟨fun s b land mv held h => ⟨_, rfl, ?_⟩, fun s pin level held h => ?_, fun s ch without h => ⟨_, rfl, ?_⟩,
    fun s ch interval h => ⟨_, rfl, ?_⟩⟩
  · simp only [Ready.limpClassificationAdopt, Bool.and_eq_true, decide_eq_true_eq] at h
    obtain ⟨⟨runs, hh⟩, hn⟩ := h
    have cls := fun other => (s.bank b).limpAdopt_limpClass b s.now land other mv held (Ready.bankRuns_iff.1 runs).2.2
    rw [State.bank_onBank_runs runs]
    have here := (cls land).trans (if_pos rfl)
    have banded : ∀ c, limpBand mv = some c → ((s.bank b).limpAdopt b s.now land mv held).core.limpClass land = c := fun c hb =>
      here.trans (limpNext_of_class _ _ hb hh hn)
    have kept : limpBand mv = none → ((s.bank b).limpAdopt b s.now land mv held).core.limpClass land = Ready.limpKept s b land := fun hb =>
      here.trans (limpNext_of_keep land hb)
    refine ⟨fun h1 => banded _ ?_, fun h1 h2 => kept ?_, fun h1 h2 => banded _ ?_, fun h1 h2 => kept ?_, fun h1 => banded _ ?_,
      fun other ho => (cls other).trans (if_neg ho)⟩ <;> unfold limpBand
    · rw [if_pos h1]
    · rw [if_neg (by omega), if_pos h2]
    · rw [if_neg (by omega), if_neg (by omega), if_pos h2]
    · rw [if_neg (by omega), if_neg (by omega), if_neg (by omega), if_pos h2]
    · rw [if_neg (by omega), if_neg (by omega), if_neg (by omega), if_neg (by omega)]
  · simp only [Ready.inEdgeAccept, Bool.and_eq_true, decide_eq_true_eq] at h
    obtain ⟨⟨hs, hv⟩, hp⟩ := h
    refine ⟨_, congrArg Host.Outcome.next (if_pos (by simp [hv, hp])), rfl, fun b code hb hc valid => ?_⟩
    have inputs : (s.bank b).core.inputs.length = 96 := (BankCore.shaped_iff.1 (State.shaped_core hs b hb)).2.2
    rw [State.bank_onBanks _ _ (State.shaped_banks hs ▸ hb)]
    refine (Bank.inputEdge_inputs b s.now pin level held (6 * pin + code) valid (by omega)).trans ?_
    rw [show (6 * pin + code) / 6 = pin by omega, show (6 * pin + code) % 6 = code by omega]
    simp only [true_and]
  · simp only [Ready.senseStarved, Bool.and_eq_true, decide_eq_true_eq] at h
    obtain ⟨⟨⟨hc, hs⟩, on⟩, hw⟩ := h
    exact State.chan_onChan_starved true hc hs _ (if_pos (by rw [decide_eq_true hw, Bool.and_true]; exact on))
  · simp only [Ready.senseStarvedClear, Bool.and_eq_true, decide_eq_true_eq] at h
    obtain ⟨⟨⟨hc, hs⟩, on⟩, hi⟩ := h
    exact State.chan_onChan_starved false hc hs _ (if_pos (by rw [decide_eq_true hi, Bool.and_true]; exact on))

end Sys2Proof.Machine
end


section
/-! O18: the resets of the hub (R63, R81, R82) and the steps of its start that a release or a retry brings (R66, R87, R88). -/

namespace Sys2Proof.Machine

/-! ## Resets -/

/-- A hub that is out of reset with its clock goes into reset, with its cause and an empty runtime; the banks go on (R81, R83). -/
theorem State.hubResetFree_fresh {s : State} (cause : Nat) (h : Ready.fresh s = true) :
    (s.hubResetFree cause).hub.phase = (if s.hub.synth = 0 then .settling else .held) ∧ (s.hubResetFree cause).hub.cause = cause
      ∧ (s.hubResetFree cause).hub.run = {} ∧ (s.hubResetFree cause).banks = s.banks := by
  simp only [Ready.fresh, Bool.and_eq_true, decide_eq_true_eq] at h
  obtain ⟨⟨⟨vcore, held⟩, settling⟩, noClock⟩ := h
  refine ⟨?_, ?_, rfl, rfl⟩
  · simp [State.hubResetFree, State.hubReset, vcore, noClock]
    rfl
  · simp [State.hubResetFree, State.hubReset, held, settling, noClock]

theorem Ready.fresh_vcore {s : State} (h : Ready.fresh s = true) : s.pwr.vcore = true := by
  simp only [Ready.fresh, Bool.and_eq_true] at h
  obtain ⟨⟨⟨vcore, -⟩, -⟩, -⟩ := h
  exact vcore

theorem execRstnReset_long {s : State} {width : Nat} (vio : s.pwr.vio = true) (h : Ready.fresh s = true) (hw : 10000 ≤ width) :
    execRstnReset width s = .next (s.hubResetFree 2) := by
  unfold execRstnReset
  rw [if_neg (by simp [vio, Ready.fresh_vcore h]; omega), if_pos hw]

theorem execRstnReset_short {width : Nat} (s : State) (hw : width < 1000) : execRstnReset width s = .next s := by
  unfold execRstnReset
  rw [if_pos (by simp [hw])]

theorem execRuntimeWatchdogExpiry_due {s : State} {silent : Nat} (on : s.hub.runtimeOn = true) (long : 20000000 ≤ silent)
    (after : s.hub.stepsAt + silent ≤ s.now) : execRuntimeWatchdogExpiry silent s = .next (s.hubResetFree 8) :=
  congrArg Host.Outcome.next (if_pos (by simp [on, long, after]))

/-! ## Straps (R66) -/

theorem straps_without (l : List Nat) : straps false l = (0, 1) := rfl

/-- Three equal samples are taken as they are. -/
theorem straps_equal {v : Nat} (h : v < 8) : straps true [v, v, v] = (v, 0) := by
  have all : ∀ v : Fin 8, straps true [v, v, v] = (v.val, 0) := by decide
  exact all ⟨v, h⟩

/-! ## The steps of a start -/

/-- What a start says of itself: its phase, the failures in a row, its moment, the first temperature and the MRAM window, and the straps. -/
def Hub.start (h : Hub) : HubPhase × Nat × Nat × Int × Nat × Nat × Nat :=
  (h.phase, h.failures, h.startAt, h.temp, h.windowCode, h.strapValue, h.strapStatus)

theorem State.notify_start (s : State) (ns : List Notice) (h : ∀ n ∈ ns, Notice.quiet n = true) : (s.notify ns).hub.start = s.hub.start :=
  congrArg (fun k => k.start) (s.notify_calm ns h)

theorem State.writeTrailer_hub (s : State) (i : Nat) (active : Bool) (seq : Nat) : (s.writeTrailer i active seq).hub = s.hub := by
  unfold State.writeTrailer
  exact State.writeSlot_hub ..

/-- Reports that are made only under a condition. -/
theorem Notice.quiet_if {c : Prop} [Decidable c] {ns : List Notice} (h : ∀ n ∈ ns, Notice.quiet n = true) :
    ∀ n ∈ (if c then ns else []), Notice.quiet n = true := by
  split
  · exact h
  · exact fun n hn => absurd hn List.not_mem_nil

theorem Notice.quiet_unless {c : Prop} [Decidable c] {ns : List Notice} (h : ∀ n ∈ ns, Notice.quiet n = true) :
    ∀ n ∈ (if c then [] else ns), Notice.quiet n = true := by
  split
  · exact fun n hn => absurd hn List.not_mem_nil
  · exact h

theorem Notice.quiet_one {n : Notice} (h : n.quiet = true) : ∀ m ∈ [n], Notice.quiet m = true := List.forall_mem_singleton.2 h

/-- The runtime starts into the claim of the banks, its failures over; the moment, the temperature and the straps stay. -/
theorem State.startRuntime_start (s : State) : s.startRuntime.hub.start
    = (.claiming, 0, s.hub.startAt, s.hub.temp, s.hub.windowCode, s.hub.strapValue, s.hub.strapStatus) := by
  unfold State.startRuntime
  dsimp only
  rw [State.notify_start _ _ ?quiet]
  case quiet =>
    simp only [List.forall_mem_append, List.forall_mem_map]
    refine ⟨⟨⟨⟨fun _ _ => rfl, Notice.quiet_if (Notice.quiet_one rfl)⟩, Notice.quiet_if (Notice.quiet_one rfl)⟩,
      Notice.quiet_if (Notice.quiet_one rfl)⟩, ?_⟩
    generalize List.find? _ _ = broken
    cases broken with
    | some i => exact List.forall_mem_cons.2 ⟨rfl, Notice.quiet_one rfl⟩
    | none => exact fun n hn => absurd hn List.not_mem_nil
  unfold Hub.start
  split
  case' h_1 => rw [State.onHub_hub, State.writeTrailer_hub]
  all_goals split <;> rfl

/-- Steps 5 to 9 with the outcome of the two checks. -/
theorem State.startSteps_start (s : State) (romOk selfOk : Bool) : (s.startSteps romOk selfOk).hub.start
    = (if romOk && selfOk then .claiming else .failed, if romOk && selfOk then 0 else s.hub.failures + 1, s.hub.startAt, s.hub.temp, s.hub.windowCode,
       s.hub.strapValue, s.hub.strapStatus) := by
  unfold State.startSteps
  dsimp only
  split
  · rw [State.startRuntime_start]; rfl
  · rfl

/-- Steps 4 to 9: the straps and the first temperature come before the checks. -/
theorem State.hubStart_start (s : State) (samples : List Nat) (romOk selfOk : Bool) (temp : Int) : (s.hubStart samples romOk selfOk temp).hub.start
    = (if romOk && selfOk then .claiming else .failed, if romOk && selfOk then 0 else s.hub.failures + 1, s.now, temp, windowOf temp,
       straps s.pwr.vio (samples.take 3)) := by
  have tracked : ∀ (c : Prop) [Decidable c] (t : State), (if c then t.onHub fun h => { h with lap := Lap.begin h.lapCfg t.now } else t).hub.start
      = t.hub.start := by
    intro c _ t
    split <;> rfl
  unfold State.hubStart
  dsimp only
  rw [tracked, State.startSteps_start]
  rfl

theorem State.lostSupplies_quiet (s : State) : ∀ n ∈ s.lostSupplies, Notice.quiet n = true := by
  unfold State.lostSupplies
  simp only [List.forall_mem_map, Notice.quiet, decide_eq_true_eq]
  intro b _
  omega

theorem State.standingCauses_quiet (s : State) : ∀ n ∈ s.standingCauses, Notice.quiet n = true := by
  unfold State.standingCauses
  simp only [List.forall_mem_append]
  exact ⟨⟨⟨⟨Notice.quiet_unless (Notice.quiet_one rfl), Notice.quiet_unless (Notice.quiet_one rfl)⟩, Notice.quiet_unless (Notice.quiet_one rfl)⟩,
    s.lostSupplies_quiet⟩, Notice.quiet_unless (Notice.quiet_one rfl)⟩

/-- The release of a held hub starts it, and the reports of what stands change nothing of the start. -/
theorem execHubResetRelease_held {s : State} (samples : List Nat) (romOk selfOk : Bool) (temp : Int) (h : s.hub.phase = .held) :
    ∃ t, execHubResetRelease samples romOk selfOk temp s = .next t ∧ t.hub.start = (s.hubStart samples romOk selfOk temp).hub.start := by
  unfold execHubResetRelease
  rw [h]
  exact ⟨_, rfl, State.notify_start _ _ (State.standingCauses_quiet _)⟩

theorem execHubResetRelease_restarting {s : State} (samples : List Nat) (romOk selfOk : Bool) (temp : Int) (h : s.hub.phase = .restarting) :
    ∃ t, execHubResetRelease samples romOk selfOk temp s = .next t ∧ t.hub.start = (s.startSteps romOk selfOk).hub.start := by
  unfold execHubResetRelease
  rw [h]
  exact ⟨_, rfl, State.notify_start _ _ (State.lostSupplies_quiet _)⟩

theorem execStartRetry_due {s : State} (samples : List Nat) (romOk selfOk : Bool) (temp : Int) (h : s.hub.phase = .failed) (few : s.hub.failures < 3)
    (due : s.hub.stepsAt + 100000000 ≤ s.now) : execStartRetry samples romOk selfOk temp s = .next (s.hubStart samples romOk selfOk temp) :=
  congrArg Host.Outcome.next (if_pos ⟨h, few, due⟩)

/-- Settles O18: the resets as one reset with its cause, the releases and the retry as the steps of one start. -/
theorem resetsAndReleaseOfTheHub : Obligations.ResetsAndReleaseOfTheHub := by
  refine ⟨fun s width vio fresh wide => ⟨_, execRstnReset_long vio fresh wide, State.hubResetFree_fresh 2 fresh⟩,
    fun s width short => execRstnReset_short s short,
    fun s silent fresh on long after => ⟨_, execRuntimeWatchdogExpiry_due on long after, State.hubResetFree_fresh 8 fresh⟩,
    fun s samples temp held => ?_, fun s samples romOk selfOk temp held bad => ?_, fun s samples romOk selfOk temp restarting => ?_,
    fun s samples romOk selfOk temp failed few due => ⟨_, execStartRetry_due samples romOk selfOk temp failed few due, ?_⟩⟩
  · obtain ⟨t, step, start⟩ := execHubResetRelease_held samples true true temp held
    rw [State.hubStart_start] at start
    simp only [Hub.start, Prod.mk.injEq] at start
    obtain ⟨phase, -, at_, measured, window, strap⟩ := start
    refine ⟨t, step, phase, at_, measured, window, fun vio => ?_, fun v vio small same => ?_⟩
    · rw [vio, straps_without] at strap
      exact Prod.mk.inj strap
    · subst same
      rw [vio, List.take_of_length_le (Nat.le_refl 3), straps_equal small] at strap
      exact Prod.mk.inj strap
  · obtain ⟨t, step, start⟩ := execHubResetRelease_held samples romOk selfOk temp held
    rw [State.hubStart_start, bad] at start
    simp only [Hub.start, Prod.mk.injEq] at start
    obtain ⟨phase, failures, -⟩ := start
    exact ⟨t, step, phase, failures⟩
  · obtain ⟨t, step, start⟩ := execHubResetRelease_restarting samples romOk selfOk temp restarting
    rw [State.startSteps_start] at start
    simp only [Hub.start, Prod.mk.injEq] at start
    obtain ⟨phase, failures, -⟩ := start
    exact ⟨t, step, phase, failures⟩
  · have start := s.hubStart_start samples romOk selfOk temp
    simp only [Hub.start, Prod.mk.injEq] at start
    obtain ⟨phase, failures, -, measured, -, strap⟩ := start
    refine ⟨phase, failures, measured, fun v vio small same => ?_⟩
    subst same
    rw [vio, List.take_of_length_le (Nat.le_refl 3), straps_equal small] at strap
    exact Prod.mk.inj strap

end Sys2Proof.Machine
end


section
/-! O46: the SPI transactions (R392 to R394), malformed requests and held responses. -/

namespace Sys2Proof.Machine

theorem Hub.outOfReset_of_serves {h : Hub} (hs : h.serves = true) : h.outOfReset = true := by
  unfold Hub.outOfReset
  rw [hs, Bool.true_or]

/-- The port works only while the hub is out of reset (R89). -/
theorem State.outOfReset_of_spiOn {s : State} (h : s.spiOn = true) : s.hub.outOfReset = true :=
  Hub.outOfReset_of_serves (Bool.and_eq_true_iff.1 h).2

/-! ## What each transaction is -/

theorem execSpiWriteQ0_taken {s : State} {data : List Byte} (sck : Bool) (on : s.spiOn = true) (room : s.hub.q0Full = false) (len : 64 ≤ data.length) :
    execSpiWriteQ0 sck data s = .next ((s.spiTransaction sck [] false).onHub fun h =>
      { h with net := { h.net with q0 := { h.net.q0 with prod := (h.net.q0.prod + 1) % 32, entries := h.net.q0.entries ++ [q0Entry data s.now] } } }) := by
  unfold execSpiWriteQ0
  rw [if_neg (by simp [on]), if_neg (by simp [room]), if_neg (by omega)]

theorem execSpiWriteQ0_full {s : State} (sck : Bool) (data : List Byte) (on : s.spiOn = true) (full : s.hub.q0Full = true) :
    execSpiWriteQ0 sck data s = .next ((s.spiTransaction sck [] true).notify [.fault 0x4B 1 0xFF]) := by
  unfold execSpiWriteQ0
  rw [if_neg (by simp [on]), if_pos full]

theorem execSpiWriteQ0_short {s : State} {data : List Byte} (sck : Bool) (on : s.spiOn = true) (room : s.hub.q0Full = false) (len : data.length < 64) :
    execSpiWriteQ0 sck data s = .next (s.spiTransaction sck [] true) := by
  unfold execSpiWriteQ0
  rw [if_neg (by simp [on]), if_neg (by simp [room]), if_pos len]

/-- Q1 without the entry at its consumer index; an empty Q1 has none to give (R392). -/
def HostRing.taken (q : HostRing) : HostRing := if q.entries.isEmpty then q else { q with cons := (q.cons + 1) % 32, entries := q.entries.drop 1 }

theorem HostRing.taken_entries (q : HostRing) : q.taken.entries = q.entries.drop 1 := by
  unfold HostRing.taken
  split
  case isTrue he => rw [List.isEmpty_iff.1 he]; rfl
  case isFalse => rfl

theorem HostRing.taken_cons {q : HostRing} (h : q.entries ≠ []) : q.taken.cons = (q.cons + 1) % 32 := by
  unfold HostRing.taken
  rw [if_neg (by simpa using h)]

theorem execSpiReadQ1_whole {s : State} {clocked : Nat} (sck : Bool) (on : s.spiOn = true) (len : 64 ≤ clocked) :
    execSpiReadQ1 sck clocked s = .next ((s.spiTransaction sck (padTo clocked ((q1Bytes s.hub.net.q1.entries).take clocked)) false).onHub fun h =>
      { h with net := { h.net with q1 := s.hub.net.q1.taken } }) := by
  unfold execSpiReadQ1 HostRing.taken
  rw [if_neg (by simp [on])]
  dsimp only
  rw [if_neg (by omega)]
  split <;> rfl

theorem execSpiReadQ1_short {s : State} {clocked : Nat} (sck : Bool) (on : s.spiOn = true) (len : clocked < 64) :
    execSpiReadQ1 sck clocked s = .next (s.spiTransaction sck (padTo clocked ((q1Bytes s.hub.net.q1.entries).take clocked)) true) := by
  unfold execSpiReadQ1
  rw [if_neg (by simp [on])]
  exact congrArg Host.Outcome.next (if_pos len)

theorem execSpiStatus_on {s : State} (sck : Bool) (on : s.spiOn = true) :
    execSpiStatus sck s = .next (s.spiTransaction sck (leBytes 1 s.hub.net.q0.entries.length ++ leBytes 1 s.hub.net.q1.entries.length
      ++ leBytes 2 s.hub.pending.toNat ++ leBytes 1 s.hub.net.q0.prod ++ leBytes 1 s.hub.net.q1.cons ++ leBytes 2 s.hub.net.spiBad.toNat) false) := by
  unfold execSpiStatus
  rw [if_neg (by simp [on])]

theorem execSpiTransactionDiscard_on {s : State} (sck : Bool) (on : s.spiOn = true) :
    execSpiTransactionDiscard sck s = .next (s.spiTransaction sck [] true) := congrArg Host.Outcome.next (if_pos on)

/-! ## Reports -/

theorem State.notify_hub_spiMode3 (s : State) (ns : List Notice) (h : ∀ n ∈ ns, Notice.quiet n = true) : (s.notify ns).hub.spiMode3 = s.hub.spiMode3 :=
  congrArg (fun k => k.spiMode3) (s.notify_calm ns h)

/-! ## Malformed requests -/

theorem execRequestDiscard_malformed {s : State} {q : Request} (via : Transport) (hq : s.hub.request via = some q) (hf : q.formed = false) :
    execRequestDiscard via s = .next (s.onHub fun h => (h.pop via).onRun fun r => match via with
      | .spi => { r with badQ0 := r.badQ0 + 1 }
      | .net => { r with badNet := r.badNet + 1 }) := by
  unfold execRequestDiscard
  rw [hq]
  dsimp only
  rw [if_neg (by simp [hf])]
  cases via <;> rfl

/-! ## Held responses -/

/-- Posted responses follow the entries of Q1 in their order, each with its length. -/
theorem Net.foldl_postQ1_lengths (now : Nat) (out : List (List Byte)) (n : Net) :
    (out.foldl (fun n d => n.postQ1 now d) n).q1.entries.map HostEntry.length = n.q1.entries.map HostEntry.length ++ out.map List.length := by
  induction out generalizing n with
  | nil => simp
  | cons d out ih =>
    rw [List.foldl_cons, ih]
    simp [Net.postQ1]

/-- What was sent of the held responses is held no longer. -/
theorem Run.heldSent_held (r : Run) (n now : Nat) : (r.heldSent (r.held.take n) now).held = r.held.drop n := by
  unfold Run.heldSent
  dsimp only
  rw [List.length_take]
  rcases Nat.le_total n r.held.length with h | h
  · rw [Nat.min_eq_left h]
  · rw [Nat.min_eq_right h, List.drop_length, List.drop_eq_nil_of_le h]

/-- Settles O46: each transaction as one step of the port, and what it leaves of the queues and counters. -/
theorem spiTransactionsMoveEntries : Obligations.SpiTransactionsMoveEntries := by
  refine ⟨fun s sck data on room len => ⟨_, execSpiWriteQ0_taken sck on room len, rfl, rfl, rfl, rfl, rfl, rfl⟩,
    fun s sck data on full => ⟨_, execSpiWriteQ0_full sck data on full, ?_⟩,
    fun s sck data on room len => ⟨_, execSpiWriteQ0_short sck on room len, rfl, rfl, rfl, rfl⟩,
    fun s sck clocked on len => ⟨_, execSpiReadQ1_whole sck on len, rfl, rfl, HostRing.taken_entries _, HostRing.taken_cons, rfl⟩,
    fun s sck clocked on len => ⟨_, execSpiReadQ1_short sck on len, rfl, rfl, rfl, rfl⟩,
    fun s sck on => ⟨_, execSpiStatus_on sck on, rfl⟩,
    fun s sck on => ⟨_, execSpiTransactionDiscard_on sck on, rfl, rfl, rfl, rfl, rfl⟩,
    fun s q hq hf => ⟨_, execRequestDiscard_malformed .spi hq hf, ⟨rfl, rfl⟩, rfl, rfl⟩,
    fun s q hq hf => ⟨_, execRequestDiscard_malformed .net hq hf, ⟨rfl, rfl⟩, rfl, rfl⟩,
    fun s serving => ⟨_, congrArg Host.Outcome.next (if_pos serving), Run.heldSent_held _ _ _, Net.foldl_postQ1_lengths _ _ _⟩⟩
  have quiet : ∀ n ∈ [Notice.fault 0x4B 1 0xFF], Notice.quiet n = true := by simp [Notice.quiet]
  exact ⟨State.notify_hub_spiMode3 _ _ quiet, State.notify_hub_net_q0 _ _ quiet, State.notify_hub_spiBad _ _ quiet, State.notify_hub_net_spiBad _ _ quiet,
    State.notify_fault _ _ _ _ _ (by decide) (by decide) (by decide) (by decide) (State.outOfReset_of_spiOn on) (fun n hn => absurd hn List.not_mem_nil)⟩

end Sys2Proof.Machine
end

section
/-! Reports that cannot reset the hub, and what an event that only reports and queues leaves of the hub. -/

namespace Sys2Proof.Machine

/-! ## Reports of the ports and of the time domains -/

theorem Notice.quiet_nil : ∀ n ∈ ([] : List Notice), Notice.quiet n = true := fun _ hn => absurd hn List.not_mem_nil

theorem Notice.quiet_cons {n : Notice} {ns : List Notice} (h : n.quiet = true) (hs : ∀ n ∈ ns, Notice.quiet n = true) :
    ∀ m ∈ n :: ns, Notice.quiet m = true := List.forall_mem_cons.2 ⟨h, hs⟩

theorem Notice.quiet_append {ns ms : List Notice} (h : ∀ n ∈ ns, Notice.quiet n = true) (g : ∀ n ∈ ms, Notice.quiet n = true) :
    ∀ n ∈ ns ++ ms, Notice.quiet n = true := List.forall_mem_append.2 ⟨h, g⟩

/-- The reports of either of two ways to go on. -/
theorem Notice.quiet_branch {α : Type} {p : Prop} [Decidable p] {x y : α × List Notice} (h : ∀ n ∈ x.2, Notice.quiet n = true)
    (g : ∀ n ∈ y.2, Notice.quiet n = true) : ∀ n ∈ (if p then x else y).2, Notice.quiet n = true := by
  split
  · exact h
  · exact g

theorem Hub.degradedNotices_quiet (before after : Hub) : ∀ n ∈ before.degradedNotices after, Notice.quiet n = true :=
  List.forall_mem_map.2 fun _ _ => rfl

theorem prewarnings_quiet (before after : Hub) : ∀ n ∈ prewarnings before after, Notice.quiet n = true := by
  refine Notice.quiet_append (fun n hn => ?_) (Notice.quiet_if (Notice.quiet_one rfl))
  obtain ⟨k, hk, hn⟩ := List.mem_flatMap.1 hn
  obtain ⟨ch, -, rfl⟩ := List.mem_map.1 hn
  rfl

theorem q3Notices_quiet (status index : Nat) : ∀ n ∈ q3Notices status index, Notice.quiet n = true := by
  unfold q3Notices
  split
  · exact Notice.quiet_one rfl
  · exact Notice.quiet_if (Notice.quiet_one rfl)

theorem Net.closeQ3_quiet (n : Net) (i status ns : Nat) : ∀ m ∈ (n.closeQ3 i status ns).2, Notice.quiet m = true := q3Notices_quiet status i

theorem Net.endQ3_quiet (n : Net) (status ns : Nat) : ∀ m ∈ (n.endQ3 status ns).2, Notice.quiet m = true := Net.closeQ3_quiet _ _ _ _

theorem Net.settleQ3_quiet (n : Net) (t : TimeDomains) (lead now : Nat) (lap : Nat → Nat → Int × Bool) (tagged : Nat → Bool) (fuel : Nat) :
    ∀ m ∈ (n.settleQ3 t lead now lap tagged fuel).2, Notice.quiet m = true := by
  induction fuel generalizing n with
  | zero => exact Notice.quiet_nil
  | succ fuel ih =>
    unfold Net.settleQ3
    split
    · exact Notice.quiet_nil
    · split
      · exact Notice.quiet_nil
      · dsimp only
        split
        · exact Notice.quiet_append (Net.endQ3_quiet _ _ _) (ih _)
        · exact Notice.quiet_nil

theorem Net.startPort_quiet (n : Net) (i now : Nat) : ∀ m ∈ (n.startPort i now).2, Notice.quiet m = true := by
  unfold Net.startPort
  split
  · exact Notice.quiet_nil
  · exact Notice.quiet_one rfl

theorem Net.stopPort_quiet (n : Net) (t : TimeDomains) (i : Nat) (inReset : Bool) : ∀ m ∈ (n.stopPort t i inReset).2.2, Notice.quiet m = true := by
  unfold Net.stopPort
  dsimp only
  split
  · split
    · exact Notice.quiet_one rfl
    · exact Notice.quiet_nil
  · refine Notice.quiet_append (Notice.quiet_append (Notice.quiet_append ?frames ?head) (Notice.quiet_one rfl)) (Notice.quiet_if (Notice.quiet_one rfl))
    case frames =>
      refine List.foldlRecOn (motive := fun acc : Net × List Notice => ∀ m ∈ acc.2, Notice.quiet m = true) _ _ Notice.quiet_nil fun acc h f _ => ?_
      split
      · exact Notice.quiet_append h (Net.closeQ3_quiet _ _ _ _)
      · exact h
    case head =>
      exact Notice.quiet_branch (Net.endQ3_quiet _ _ _) Notice.quiet_nil

theorem Net.wakeQ3_quiet (n : Net) (now : Nat) : ∀ m ∈ (n.wakeQ3 now).2, Notice.quiet m = true := by
  unfold Net.wakeQ3
  split
  · split
    · split
      · exact Notice.quiet_nil
      · exact Net.endQ3_quiet _ _ _
    · exact Notice.quiet_nil
  · exact Notice.quiet_nil

theorem TimeDomains.enter_quiet (t : TimeDomains) (p : PState) : ∀ m ∈ (t.enter p).2, Notice.quiet m = true := by
  unfold TimeDomains.enter
  split
  · exact Notice.quiet_nil
  · exact Notice.quiet_cons rfl (Notice.quiet_one rfl)

theorem TimeDomains.wake_quiet (t : TimeDomains) (now : Nat) : ∀ m ∈ (t.wake now).2, Notice.quiet m = true :=
  Notice.quiet_cons rfl (TimeDomains.enter_quiet _ _)

theorem TimeDomains.masterLost_quiet (t : TimeDomains) (c : TimeCfg) (second baton : Bool) (now : Nat) :
    ∀ m ∈ (t.masterLost c second baton now).2, Notice.quiet m = true := by
  unfold TimeDomains.masterLost
  split
  · unfold TimeDomains.loseSecond
    split
    · exact Notice.quiet_cons rfl (TimeDomains.enter_quiet _ _)
    · exact Notice.quiet_nil
  · split
    · exact Notice.quiet_nil
    · unfold TimeDomains.lose
      split
      · exact Notice.quiet_nil
      · split
        · exact Notice.quiet_cons rfl (TimeDomains.enter_quiet _ _)
        · exact Notice.quiet_cons rfl (TimeDomains.enter_quiet _ _)

theorem gptpSource_quiet (second : Bool) (kind : Nat) : Notice.quiet (.fault (gptpSource second) kind 0xFF) = true := by
  cases second <;> rfl

theorem TimeDomains.selectMaster_quiet (t : TimeDomains) (c : TimeCfg) (second : Bool) (identity now : Nat) :
    ∀ m ∈ (t.selectMaster c second identity now).2, Notice.quiet m = true :=
  Notice.quiet_append
    (Notice.quiet_append (Notice.quiet_if (Notice.quiet_one (gptpSource_quiet _ _))) (Notice.quiet_if (Notice.quiet_one (gptpSource_quiet _ _))))
    (Notice.quiet_if (Notice.quiet_one rfl))

theorem TimeDomains.deafen_quiet (t : TimeDomains) (c : TimeCfg) (second : Bool) (port identity : Nat) (baton : Bool) (now : Nat) :
    ∀ m ∈ (t.deafen c second port identity baton now).2, Notice.quiet m = true := by
  unfold TimeDomains.deafen
  dsimp only
  refine Notice.quiet_append (TimeDomains.selectMaster_quiet _ _ _ _ _) ?_
  split
  · exact TimeDomains.masterLost_quiet _ _ _ _ _
  · exact Notice.quiet_nil

theorem Capture.abort_quiet (c : Capture) : ∀ m ∈ c.abort.2, Notice.quiet m = true := by
  unfold Capture.abort
  split
  · exact Notice.quiet_one rfl
  · exact Notice.quiet_one rfl
  · exact Notice.quiet_nil

theorem Hub.scheduleReport_quiet (h : Hub) (bank n : Nat) (ran : Bool) : ∀ m ∈ (h.scheduleReport bank n ran).2, Notice.quiet m = true := by
  unfold Hub.scheduleReport
  dsimp only
  split
  · exact Notice.quiet_nil
  · split
    · exact Notice.quiet_one rfl
    · split
      · exact Notice.quiet_nil
      · exact Notice.quiet_if (Notice.quiet_one rfl)

/-! ## The modes of the collector -/

/-- What the collector keeps while it takes reports: whether the runtime has taken over, and factory test. -/
def Collector.modes (c : Collector) : Bool × Bool × Nat := (c.handed, c.testMode, c.keyStage)

theorem Collector.stamp_modes (c : Collector) (origin : Nat) : (c.stamp origin).1.modes = c.modes := by
  unfold Collector.stamp
  split <;> rfl

theorem Collector.acceptGone_modes (c : Collector) (k : Nat) : (c.acceptGone k).modes = c.modes := by
  unfold Collector.acceptGone
  split <;> rfl

theorem Collector.pulse_modes (c : Collector) (g : CollectorCfg) (k now : Nat) : (c.pulse g k now).modes = c.modes := by
  unfold Collector.pulse
  split <;> rfl

theorem Collector.acceptS_modes (c : Collector) (g : CollectorCfg) (m : FaultMsg) (i : Bool) (now sec ns : Nat) :
    (c.acceptS g m i now sec ns).1.modes = c.modes := by
  unfold Collector.acceptS
  dsimp only
  have graced : ∀ (b : Bool) (y : Collector) (f : SourceRec → SourceRec), (if b = true then y.edit m.source f else y).modes = y.modes := by
    intro b y f
    split <;> rfl
  rw [graced, Collector.pulse_modes]
  rfl

theorem Collector.accept_modes (c : Collector) (g : CollectorCfg) (m : FaultMsg) (i : Bool) (now sec ns : Nat) :
    (c.accept g m i now sec ns).1.modes = c.modes := by
  unfold Collector.accept
  split
  · rfl
  · split
    · exact c.acceptGone_modes _
    · split
      · exact c.acceptS_modes ..
      · rfl

theorem State.handle_modes (d : Nat) (s : State) (n : Notice) (h : n.quiet = true) :
    (State.handle d s n).hub.collector.modes = s.hub.collector.modes := by
  induction d generalizing s n with
  | zero => rfl
  | succ d ih =>
    have folded : ∀ (ns : List Notice) (s : State), (∀ n ∈ ns, Notice.quiet n = true) →
        (ns.foldl (State.handle d) s).hub.collector.modes = s.hub.collector.modes := by
      intro ns
      induction ns with
      | nil => exact fun _ _ => rfl
      | cons a ns ihl => exact fun s ha => (ihl _ fun n hn => ha n (List.mem_cons_of_mem _ hn)).trans (ih s a (ha a (List.mem_cons_self ..)))
    have lost : ∀ (c : Prop) [Decidable c] (x : State) (k a b : Nat), k ≠ 0x30 → x.hub.collector.modes = s.hub.collector.modes →
        (if c then State.handle d x (.fault k a b) else x).hub.collector.modes = s.hub.collector.modes := by
      intro c _ x k a b hk hx
      split
      · exact (ih _ _ (by simpa [Notice.quiet] using hk)).trans hx
      · exact hx
    unfold State.handle
    cases n with
    | fault source kind address =>
      have hq : source ≠ 0x30 := by simpa [Notice.quiet] using h
      dsimp only
      split
      · rw [folded _ _ (Collector.raise_quiet _ _ _ _ _ _ _ _ hq)]
        exact (Collector.accept_modes ..).trans (Collector.stamp_modes ..)
      · rfl
    | gone source =>
      dsimp only
      split
      · exact (Collector.acceptGone_modes ..).trans (Collector.stamp_modes ..)
      · rfl
    | event e idx sub => exact lost _ _ _ _ _ (by decide) (congrArg Collector.modes (State.record_collector ..))
    | faultEvent e m => exact lost _ _ _ _ _ (by decide) (congrArg Collector.modes (State.record_collector ..))
    | journal cls code payload =>
      dsimp only
      split
      · split
        · rfl
        · exact ih _ _ rfl
      · rfl
    | resetHub cause => exact absurd h (by simp [Notice.quiet])

theorem State.notify_modes (s : State) (ns : List Notice) (h : ∀ n ∈ ns, Notice.quiet n = true) :
    (s.notify ns).hub.collector.modes = s.hub.collector.modes := by
  induction ns generalizing s with
  | nil => rfl
  | cons a ns ih => exact (ih _ fun n hn => h n (List.mem_cons_of_mem _ hn)).trans (State.handle_modes 6 s a (h a (List.mem_cons_self ..)))

/-! ## Steady events -/

/-- What an event leaves of a hub that neither starts, stops nor changes its clock: where it stands in its start, its tier, the banks it has claimed and those
that answer, what the runtime has reported of itself, its planned stop, and the modes of the collector. -/
def Hub.footing (h : Hub) : Hub :=
  { ({} : Hub) with
    phase := h.phase, cause := h.cause, startAt := h.startAt, tier := h.tier, tierChanges := h.tierChanges, synth := h.synth
    startCause := h.startCause, duration := h.duration, views := h.views, links := h.links.map fun l => { heard := l.heard }
    run := { ({} : Run) with ready := h.run.ready, readyAt := h.run.readyAt, stop := h.run.stop }
    collector := { ({} : Collector) with handed := h.collector.handed, testMode := h.collector.testMode, keyStage := h.collector.keyStage } }

theorem Hub.footing_of_calm {h k : Hub} (e : k.calm = h.calm) (m : k.collector.modes = h.collector.modes) : k.footing = h.footing := by
  have split : ∀ x : Hub, x.footing = { x.calm.footing with
      collector := { ({} : Collector) with handed := x.collector.modes.1, testMode := x.collector.modes.2.1, keyStage := x.collector.modes.2.2 } } :=
    fun _ => rfl
  rw [split k, split h, e, m]

/-- What the hub has heard of the banks stays, whatever it orders. -/
theorem Hub.order_heard (os : List Order) (h : Hub) :
    (h.order os).1.links.map (fun l => ({ heard := l.heard } : Link)) = h.links.map fun l => { heard := l.heard } := by
  have edited : ∀ (l : List Link) (b : Nat) (x : Link), x.heard = (l.getD b {}).heard →
      (editAt l b fun _ => x).map (fun l => ({ heard := l.heard } : Link)) = l.map fun l => { heard := l.heard } := by
    intro l
    induction l with
    | nil => exact fun _ _ _ => rfl
    | cons a l ih =>
      intro b x hx
      cases b with
      | zero => exact congrArg₂ List.cons (congrArg (fun v => ({ heard := v } : Link)) hx) rfl
      | succ b => exact congrArg (List.cons _) (ih b x hx)
  induction os generalizing h with
  | nil => rfl
  | cons o os ih =>
    unfold Hub.order
    split
    · exact (ih _).trans (edited _ _ _ rfl)
    · exact ih h

theorem Hub.order_footing (os : List Order) (h : Hub) : (h.order os).1.footing = h.footing := by
  rw [Hub.order_rest]
  unfold Hub.footing
  dsimp only
  rw [Hub.order_heard]

/-- The hub is steady from `s` to `t`. -/
def State.Steady (s t : State) : Prop := t.hub.footing = s.hub.footing

namespace State.Steady

variable {s₀ s t : State}

theorem refl (s : State) : s.Steady s := rfl

theorem trans (h : s₀.Steady s) (g : s.Steady t) : s₀.Steady t := Eq.trans g h

theorem keeps {β : Type} (h : s.Steady t) (g : Hub → β) : g t.hub.footing = g s.hub.footing := congrArg g h

theorem phase (h : s.Steady t) : t.hub.phase = s.hub.phase := h.keeps Hub.phase
theorem cause (h : s.Steady t) : t.hub.cause = s.hub.cause := h.keeps Hub.cause
theorem tier (h : s.Steady t) : t.hub.tier = s.hub.tier := h.keeps Hub.tier
theorem tierChanges (h : s.Steady t) : t.hub.tierChanges = s.hub.tierChanges := h.keeps Hub.tierChanges
theorem synth (h : s.Steady t) : t.hub.synth = s.hub.synth := h.keeps Hub.synth
theorem startCause (h : s.Steady t) : t.hub.startCause = s.hub.startCause := h.keeps Hub.startCause
theorem duration (h : s.Steady t) : t.hub.duration = s.hub.duration := h.keeps Hub.duration
theorem ready (h : s.Steady t) : t.hub.run.ready = s.hub.run.ready := h.keeps (fun k : Hub => k.run.ready)
theorem readyAt (h : s.Steady t) : t.hub.run.readyAt = s.hub.run.readyAt := h.keeps (fun k : Hub => k.run.readyAt)
theorem stop (h : s.Steady t) : t.hub.run.stop = s.hub.run.stop := h.keeps (fun k : Hub => k.run.stop)
theorem handed (h : s.Steady t) : t.hub.collector.handed = s.hub.collector.handed := h.keeps (fun k : Hub => k.collector.handed)
theorem view (h : s.Steady t) (b : Nat) : t.hub.view b = s.hub.view b := h.keeps (fun k : Hub => k.views.getD b none)

theorem outOfReset (h : s.Steady t) : t.hub.outOfReset = s.hub.outOfReset := by
  unfold Hub.outOfReset Hub.serves
  rw [h.phase]

theorem heard (h : s.Steady t) (b : Nat) : (t.hub.link b).heard = (s.hub.link b).heard := by
  have kept : ∀ l : List Link, (l.getD b {}).heard = ((l.map fun x => ({ heard := x.heard } : Link)).getD b {}).heard := by
    intro l
    rw [List.getD_eq_getElem?_getD, List.getD_eq_getElem?_getD, List.getElem?_map]
    cases l[b]? <;> rfl
  unfold Hub.link
  rw [kept t.hub.links, kept s.hub.links]
  exact h.keeps fun k => (k.links.getD b {}).heard

theorem notify (ns : List Notice) (h : s₀.Steady s) (hq : ∀ n ∈ ns, Notice.quiet n = true) : s₀.Steady (s.notify ns) :=
  h.trans (Hub.footing_of_calm (State.notify_calm s ns hq) (State.notify_modes s ns hq))

/-- A hub that acts in what is not steady, with its reports. -/
theorem after {f : Hub → Hub} (ns : List Notice) (h : s₀.Steady s) (hq : ∀ n ∈ ns, Notice.quiet n = true)
    (e : (f s.hub).footing = s.hub.footing := by rfl) : s₀.Steady (s.after f ns) :=
  notify (s := s.onHub f) ns (h.trans e) hq

theorem order (os : List Order) (h : s₀.Steady s) : s₀.Steady { s with hub := (s.hub.order os).1 } := h.trans (Hub.order_footing ..)

theorem ite {p : Prop} [Decidable p] (h : s₀.Steady s) (g : s₀.Steady t) : s₀.Steady (if p then s else t) := by
  split
  · exact h
  · exact g

theorem foldl {α : Type} {f : State → α → State} (l : List α) (h : s₀.Steady s) (hf : ∀ s, ∀ a ∈ l, s₀.Steady s → s₀.Steady (f s a)) :
    s₀.Steady (l.foldl f s) := by
  induction l generalizing s with
  | nil => exact h
  | cons a l ih => exact ih (hf s a (List.mem_cons_self ..) h) fun s b hb => hf s b (List.mem_cons_of_mem _ hb)

/-! ## Ports -/

theorem pumpQ3 (h : s₀.Steady s) : s₀.Steady (State.pumpQ3 s) := by
  unfold State.pumpQ3
  dsimp only
  split
  · exact h
  · exact h.after _ (Net.settleQ3_quiet _ _ _ _ _ _ _)

theorem startPort (i : Nat) (h : s₀.Steady s) : s₀.Steady (State.startPort s i) := by
  unfold State.startPort
  split
  · exact h
  · split
    · exact h.after _ (Net.startPort_quiet _ _ _)
    · exact h

theorem startPorts (h : s₀.Steady s) : s₀.Steady (State.startPorts s) := by
  unfold State.startPorts
  exact ite ((h.startPort 0).startPort 1).pumpQ3 h

end State.Steady
end Sys2Proof.Machine
end

section
/-! O15: the supplies of the hub die (R87, R97) and the inputs and ports that hang on them. -/

namespace Sys2Proof.Machine

/-! ## Crossings of a threshold -/

theorem risen_of {threshold filter mv held : Nat} (hm : threshold ≤ mv) (hh : filter ≤ held) : risen threshold filter mv held = true := by
  simp [risen, hm, hh]

theorem risen_short {filter held : Nat} (threshold mv : Nat) (h : held < filter) : risen threshold filter mv held = false := by
  simp [risen, Nat.not_le.2 h]

theorem fallen_of {threshold filter mv held : Nat} (hm : mv ≤ threshold) (hh : filter ≤ held) : fallen threshold filter mv held = true := by
  simp [fallen, hm, hh]

theorem fallen_short {filter held : Nat} (threshold mv : Nat) (h : held < filter) : fallen threshold filter mv held = false := by
  simp [fallen, Nat.not_le.2 h]

/-! ## VCORE -/

theorem execVcorePresent_up {s : State} {mv held : Nat} (off : s.pwr.vcore = false) (hm : 880 ≤ mv) (hh : 1000 ≤ held) :
    execVcorePresent mv held s
      = .next { s with pwr := { s.pwr with vcore := true, vcoreMv := mv }, hub := { ({} : Hub) with phase := .settling, cause := 1 } } :=
  congrArg Host.Outcome.next (if_pos (by simp [off, risen_of hm hh]))

theorem execVcoreAbsent_down {s : State} {mv held : Nat} (step : Nat) (landed : Bool) (on : s.pwr.vcore = true) (hm : mv ≤ 880) (hh : 1000 ≤ held) :
    execVcoreAbsent mv held step landed s = .next (State.hubReset { s with
      mram := s.tornMram step landed, pwr := { s.pwr with vcore := false, vcoreMv := 0 }, hub := { s.hub with synth := 0 } } 1) :=
  congrArg Host.Outcome.next (if_pos (by simp [on, fallen_of hm hh]))

theorem execVcore_short {held : Nat} (s : State) (mv : Nat) (h : held < 1000) :
    execVcorePresent mv held s = .next s ∧ ∀ step landed, execVcoreAbsent mv held step landed s = .next s :=
  ⟨congrArg Host.Outcome.next (if_neg (by simp [risen_short _ _ h])), fun _ _ => congrArg Host.Outcome.next (if_neg (by simp [fallen_short _ _ h]))⟩

/-- A reset with no VCORE leaves the hub unpowered, with the lower cause where a reset was under way (R81). -/
theorem State.hubReset_unpowered {s : State} (off : s.pwr.vcore = false) (cause : 1 ≤ s.hub.cause) :
    (s.hubReset 1).hub.phase = .unpowered ∧ (s.hubReset 1).hub.cause = 1 := by
  unfold State.hubReset
  simp [off]
  omega

/-! ## VIO -/

/-- The line of valid inputs is taken over, and no level has been accepted since (R52, R110). -/
theorem Bank.setInputValid_inputs (b : Bank) (n now : Nat) (v : Bool) :
    (b.setInputValid n now v).core.inputValid = v ∧ ∀ i, (b.setInputValid n now v).core.inputs.getD i none = none := by
  have valid : (b.setInputValid n now v).core.inputValid = v := Bank.act_keeps BankCore.inputValid (by simp) (by simp) ..
  have levels : (b.setInputValid n now v).core.inputs = b.core.inputs.map fun _ => none := Bank.act_keeps BankCore.inputs (by simp) (by simp) ..
  refine ⟨valid, fun i => ?_⟩
  rw [levels, List.getD_eq_getElem?_getD, List.getElem?_map]
  cases b.core.inputs[i]? <;> rfl

/-- Every bank after a change of the line of valid inputs. -/
theorem State.onBanks_inputs {s t : State} (h : s.shaped = true) (v : Bool) (ht : t.banks = (s.onBanks fun b x => x.setInputValid b s.now v).banks) :
    ∀ b, b < 4 → (t.bank b).core.inputValid = v ∧ ∀ i, (t.bank b).core.inputs.getD i none = none := by
  intro b hb
  have hbank : t.bank b = (s.bank b).setInputValid b s.now v := by
    rw [← s.bank_onBanks (fun b x => x.setInputValid b s.now v) (State.shaped_banks h ▸ hb)]
    exact congrArg (fun l => l.getD b {}) ht
  rw [hbank]
  exact Bank.setInputValid_inputs ..

theorem supplyNotices_quiet (c : Prop) [Decidable c] : ∀ n ∈ supplyEvent :: (if c then [Notice.gone 0x34] else []), Notice.quiet n = true :=
  Notice.quiet_cons rfl (Notice.quiet_if (Notice.quiet_one rfl))

theorem State.reportSupply_banks (s : State) : s.reportSupply.banks = s.banks := by
  unfold State.reportSupply
  split
  · exact State.notify_banks _ _ (supplyNotices_quiet _)
  · rfl

theorem State.reportSupply_pwr (s : State) : s.reportSupply.pwr = s.pwr :=
  ((State.Within.refl (κ := {}) s).reportSupply).pwr rfl

/-- The state with VIO at a level; without it the lands are low. -/
def State.withVio (s : State) (on : Bool) (mv : Nat) : State :=
  { s with pwr := { s.pwr with vio := on, vioMv := mv }, lands := if on then s.lands else {} }

theorem execVioPresent_up {s : State} {mv held : Nat} (off : s.pwr.vio = false) (hm : 1680 ≤ mv) (hh : 5000 ≤ held) :
    execVioPresent mv held s = .next ((s.withVio true mv).onBanks fun b x => x.setInputValid b s.now true).reportSupply :=
  congrArg Host.Outcome.next (if_pos (by simp [off, risen_of hm hh]))

theorem execVioAbsent_down {s : State} {mv held : Nat} (on : s.pwr.vio = true) (hm : mv ≤ 1700) (hh : 5000 ≤ held) :
    execVioAbsent mv held s
      = .next (((s.withVio false 0).onBanks fun b x => x.setInputValid b s.now false).after Hub.landsLow [.fault 0x34 1 0xFF]) :=
  congrArg Host.Outcome.next (if_pos (by simp [on, fallen_of hm hh]))

/-! ## VPHY -/

/-- The state with VPHY gone. -/
def State.withoutVphy (s : State) : State := { s with pwr := { s.pwr with vphy := false, vphyMv := 0 } }

theorem execVphyPresent_up {s : State} {mv held : Nat} (off : s.pwr.vphy = false) (hm : 2880 ≤ mv) (hh : 5000 ≤ held) :
    ∃ t, execVphyPresent mv held s = .next t ∧ t.pwr = { s.pwr with vphy := true, vphyMv := mv } := by
  refine ⟨_, congrArg Host.Outcome.next (if_pos (by simp [off, risen_of hm hh])), ?_⟩
  have started := (State.Within.refl (κ := {}) { s with pwr := { s.pwr with vphy := true, vphyMv := mv } }).startPorts
  exact (State.Within.ite (started.reportSupply.notify _) started).pwr rfl

theorem execVphyAbsent_down {s : State} {mv held : Nat} (on : s.pwr.vphy = true) (hm : mv ≤ 2880) (hh : 5000 ≤ held) :
    execVphyAbsent mv held s
      = .next (((s.withoutVphy.notify [.fault 0x34 2 0xFF]).stopPort 0 true).stopPort 1 true) :=
  congrArg Host.Outcome.next (if_pos (by simp [on, fallen_of hm hh]))

/-- A crossing of VIO or VPHY that is shorter than its filter. -/
theorem execVio_short {held : Nat} (s : State) (mv : Nat) (h : held < 5000) :
    execVioPresent mv held s = .next s ∧ execVioAbsent mv held s = .next s ∧ execVphyPresent mv held s = .next s ∧ execVphyAbsent mv held s = .next s :=
  ⟨congrArg Host.Outcome.next (if_neg (by simp [risen_short _ _ h])), congrArg Host.Outcome.next (if_neg (by simp [fallen_short _ _ h])),
   congrArg Host.Outcome.next (if_neg (by simp [risen_short _ _ h])), congrArg Host.Outcome.next (if_neg (by simp [fallen_short _ _ h]))⟩

/-! ## Ports that stop -/

/-- Both ports. -/
def Net.ports (n : Net) : Port × Port := (n.port0, n.port1)

theorem Net.settleQ3_ports (n : Net) (t : TimeDomains) (lead now : Nat) (lap : Nat → Nat → Int × Bool) (tagged : Nat → Bool) (fuel : Nat) :
    (n.settleQ3 t lead now lap tagged fuel).1.ports = n.ports := by
  induction fuel generalizing n with
  | zero => rfl
  | succ fuel ih =>
    unfold Net.settleQ3
    split
    · rfl
    · split
      · rfl
      · dsimp only
        split
        · exact ih _
        · rfl

theorem State.notify_ports (s : State) (ns : List Notice) (h : ∀ n ∈ ns, Notice.quiet n = true) : (s.notify ns).hub.net.ports = s.hub.net.ports :=
  congrArg (fun k => k.net.ports) (s.notify_calm ns h)

theorem State.pumpQ3_ports (s : State) : s.pumpQ3.hub.net.ports = s.hub.net.ports := by
  unfold State.pumpQ3
  dsimp only
  split
  · rfl
  · exact (State.notify_ports _ _ (Net.settleQ3_quiet _ _ _ _ _ _ _)).trans (Net.settleQ3_ports ..)

/-- A port in reset does not run, and the other one is as it was (R381). -/
theorem Net.stopPort_ports (n : Net) (t : TimeDomains) (i : Nat) :
    ∃ p : Port, p.running = false ∧ (n.stopPort t i true).1.ports = if i = 0 then (p, n.port1) else (n.port0, p) := by
  have edited : ∀ (m : Net) (p : Port), m.ports = n.ports → (m.editPort i fun _ => p).ports = if i = 0 then (p, n.port1) else (n.port0, p) := by
    intro m p hm
    unfold Net.ports at hm ⊢
    obtain ⟨h0, h1⟩ := Prod.mk.inj hm
    unfold Net.editPort
    split
    · rw [h1]
    · rw [h0]
  have ended : ∀ (c : Bool) (m : Net), (if c = true then m.endQ3 6 0 else (m, [])).1.ports = m.ports := by
    intro c m
    cases c <;> rfl
  unfold Net.stopPort
  dsimp only
  split
  · exact ⟨{ inReset := true }, rfl, edited n _ rfl⟩
  · refine ⟨_, rfl, edited _ _ ?_⟩
    refine (ended _ _).trans ?_
    refine List.foldlRecOn (motive := fun acc : Net × List Notice => acc.1.ports = n.ports) _ _ ?_ fun acc h f _ => ?_
    · refine List.foldlRecOn (motive := fun m : Net => m.ports = n.ports) _ _ rfl fun m h f _ => ?_
      split
      · exact h
      · exact h
    · split
      · exact h
      · exact h

/-- What a port reports as it stops, with the grandmasters heard on it. -/
theorem stopNotices_quiet (n : Net) (t : TimeDomains) (i identity now : Nat) (inReset baton : Bool) (c : TimeCfg) :
    ∀ m ∈ (n.stopPort t i inReset).2.2 ++ ((n.stopPort t i inReset).2.1.deafen c false i identity baton now).2
      ++ (((n.stopPort t i inReset).2.1.deafen c false i identity baton now).1.deafen c true i identity baton now).2, Notice.quiet m = true :=
  Notice.quiet_append (Notice.quiet_append (Net.stopPort_quiet _ _ _ _) (TimeDomains.deafen_quiet _ _ _ _ _ _ _)) (TimeDomains.deafen_quiet _ _ _ _ _ _ _)

theorem State.stopPort_ports (s : State) (i : Nat) :
    ∃ p : Port, p.running = false ∧ (s.stopPort i true).hub.net.ports = if i = 0 then (p, s.hub.net.port1) else (s.hub.net.port0, p) := by
  obtain ⟨p, hp, he⟩ := s.hub.net.stopPort_ports s.hub.time i
  refine ⟨p, hp, Eq.trans ?_ he⟩
  unfold State.stopPort
  dsimp only
  rw [State.pumpQ3_ports]
  exact State.notify_ports _ _ (stopNotices_quiet _ _ _ _ _ _ _ _)

/-- A fault that stands goes on standing while a port stops. -/
theorem State.stopPort_stands (s : State) (i x : Nat) (h : s.hub.collector.stands x = true) : (s.stopPort i true).hub.collector.stands x = true := by
  have pumped : ∀ u : State, u.hub.collector.stands x = true → u.pumpQ3.hub.collector.stands x = true := by
    intro u hu
    unfold State.pumpQ3
    dsimp only
    split
    · exact hu
    · exact State.notify_stands _ _ _ (Net.settleQ3_quiet _ _ _ _ _ _ _) hu
  unfold State.stopPort
  exact pumped _ (State.notify_stands _ _ _ (stopNotices_quiet _ _ _ _ _ _ _ _) h)

/-- Both ports stop. -/
theorem State.stopPorts_running (s : State) :
    ((s.stopPort 0 true).stopPort 1 true).hub.net.port0.running = false ∧ ((s.stopPort 0 true).stopPort 1 true).hub.net.port1.running = false := by
  obtain ⟨p, hp, h0⟩ := s.stopPort_ports 0
  obtain ⟨q, hq, h1⟩ := (s.stopPort 0 true).stopPort_ports 1
  obtain ⟨e0, -⟩ := Prod.mk.inj h0
  obtain ⟨e1, e2⟩ := Prod.mk.inj h1
  rw [e1, e2, e0]
  exact ⟨hp, hq⟩

/-- Settles O15: each supply as its crossing, the inputs through the banks, the ports through their stop. -/
theorem hubSuppliesComeAndGo : Obligations.HubSuppliesComeAndGo := by
  have lost : ∀ k, ∀ n ∈ [Notice.fault 0x34 k 0xFF], Notice.quiet n = true := fun _ => Notice.quiet_one rfl
  refine ⟨fun s mv held off hm hh => ⟨_, execVcorePresent_up off hm hh, rfl, rfl, rfl, rfl, rfl, rfl⟩,
    fun s mv held step landed on hm hh cause => ⟨_, execVcoreAbsent_down step landed on hm hh, rfl, rfl, ?_⟩,
    fun s mv held shaped off hm hh => ⟨_, execVioPresent_up off hm hh, ?_, ?_, ?_⟩,
    fun s mv held shaped on hm hh => ⟨_, execVioAbsent_down on hm hh, ?_⟩,
    fun s mv held off hm hh => ?_,
    fun s mv held on hm hh => ⟨_, execVphyAbsent_down on hm hh, ?_, ?_⟩,
    fun s mv held short => execVcore_short s mv short, fun s mv held short => execVio_short s mv short⟩
  · obtain ⟨phase, cause⟩ := State.hubReset_unpowered (s := { s with
      mram := s.tornMram step landed, pwr := { s.pwr with vcore := false, vcoreMv := 0 }, hub := { s.hub with synth := 0 } }) rfl cause
    exact ⟨phase, cause, rfl, rfl⟩
  · rw [State.reportSupply_pwr]; rfl
  · rw [State.reportSupply_pwr]; rfl
  · exact State.onBanks_inputs (s := s.withVio true mv) shaped true (State.reportSupply_banks _)
  · unfold State.after
    refine ⟨?_, ?_, ?_, ?_, ?_, fun out => ?_, ?_⟩
    · rw [State.notify_pwr _ _ (lost 1)]; rfl
    · rw [State.notify_lands _ _ (lost 1)]; rfl
    · rw [State.notify_hub_chgperm _ _ (lost 1)]; rfl
    · rw [State.notify_hub_time _ _ (lost 1)]; rfl
    · exact congrArg (fun m => m.2.1) (State.notify_modes _ _ (lost 1))
    · exact State.notify_fault _ _ _ _ _ (by decide) (by decide) (by decide) (by decide) out Notice.quiet_nil
    · exact State.onBanks_inputs (s := s.withVio false 0) shaped false (State.notify_banks _ _ (lost 1))
  · obtain ⟨t, step, pwr⟩ := execVphyPresent_up off hm hh
    exact ⟨t, step, by rw [pwr], by rw [pwr]⟩
  · exact congrArg Supplies.vphy ((((State.Within.refl (κ := {}) _).notify _).stopPort 0 true).stopPort 1 true |>.pwr rfl)
  · obtain ⟨port0, port1⟩ := State.stopPorts_running (s.withoutVphy.notify [.fault 0x34 2 0xFF])
    refine ⟨port0, port1, fun out => ?_⟩
    exact State.stopPort_stands _ _ _ (State.stopPort_stands _ _ _
      (State.notify_fault s.withoutVphy _ _ _ _ (by decide) (by decide) (by decide) (by decide) out Notice.quiet_nil))

end Sys2Proof.Machine
end

section
/-! O16: the start and the loss of a bank (R76, R84, R97). -/

namespace Sys2Proof.Machine

/-! ## The start of a bank -/

/-- The bank at the end of its start, before its channels are driven. -/
def BankCore.started (b : BankCore) (f : StartFacts) (now : Nat) : BankCore := (b.atStart (!b.starting) f now).noteCool now

/-- The start drives the channels; the report of a failed store is all that it adds. -/
theorem Bank.startUp_core (b : Bank) (n now : Nat) (f : StartFacts) :
    (b.startUp n now f).core = BankCore.settle (b.core.started f now) (b.core.started f now) now := by
  unfold Bank.startUp
  dsimp only
  split
  · exact Bank.post_core ..
  · rfl

theorem BankCore.started_chan (b : BankCore) (f : StartFacts) (now p : Nat) (h : p < b.chans.length) :
    (b.started f now).chan p = (b.chan p).atStart (!b.starting) now := by
  show (b.chans.map fun ch => ch.atStart (!b.starting) now).getD p {} = (b.chans.getD p {}).atStart (!b.starting) now
  rw [List.getD_eq_getElem?_getD, List.getD_eq_getElem?_getD, List.getElem?_map, List.getElem?_eq_getElem h]
  rfl

theorem BankCore.started_chans_length (b : BankCore) (f : StartFacts) (now : Nat) : (b.started f now).chans.length = b.chans.length :=
  List.length_map _

theorem Bank.startUp_chan (b : Bank) (n now : Nat) (f : StartFacts) (p : Nat) (h : p < b.core.chans.length) :
    (b.startUp n now f).core.chan p = (b.core.started f now).finish now p ((b.core.chan p).atStart (!b.core.starting) now) := by
  rw [Bank.startUp_core, BankCore.settle_chan _ _ _ _ (by rw [BankCore.started_chans_length]; exact h) (BankCore.leavesToSafe_same _ _ rfl),
    BankCore.started_chan _ _ _ _ h]

/-- The glide condition of a bank that starts (R53, R234). -/
theorem BankCore.started_glideOn (b : BankCore) (f : StartFacts) (now : Nat) : (b.started f now).glideOn = Ready.startsInGlide f.own f.shared := by
  have adopted : ∀ c : Option LimpClass, decide (c.getD .deasserted = .asserted) = decide (c = some .asserted) := by
    intro c
    cases c with
    | none => rfl
    | some c => cases c <;> rfl
  show (decide ((limpBand f.own).getD .deasserted = .asserted) || decide ((limpBand f.shared).getD .deasserted = .asserted) || false)
    = Ready.startsInGlide f.own f.shared
  rw [adopted, adopted, Bool.or_false]
  rfl

/-- The pattern that governs a channel in fail-safe as its bank starts (R85, R86, R234). -/
theorem BankCore.started_entry (b : BankCore) (f : StartFacts) (now : Nat) (ch : Chan) (cold : Bool) :
    (b.started f now).entryOf (ch.atStart cold now)
      = if ch.cfg.retired || b.isolated then .off else if b.storeFailed || !f.storeOk then .off
        else if Ready.startsInGlide f.own f.shared then ch.cfg.pattern.glide else ch.cfg.pattern.failSafe := by
  unfold BankCore.entryOf
  rw [BankCore.started_glideOn]
  show (if (ch.cfg.retired || b.isolated) = true then Drive.off
    else if Ready.startsInGlide f.own f.shared = true then (if (b.storeFailed || !f.storeOk) = true then .off else ch.cfg.pattern.glide)
    else (if (b.storeFailed || !f.storeOk) = true then .off else ch.cfg.pattern.failSafe)) = _
  cases Ready.startsInGlide f.own f.shared <;> rfl

/-- A channel whose governing pattern is off is off. -/
theorem BankCore.finish_entry_off (b : BankCore) (now p : Nat) (ch : Chan) (h : b.entryOf ch = .off) : (b.finish now p ch).io.on = false := by
  refine b.finish_off now p ch ?_
  unfold BankCore.drives BankCore.demanded
  rw [h]
  simp

/-- A channel as its bank starts: in channel fail-safe with its stored settings, and off where the store has failed or its pattern in force is off. -/
theorem Bank.startUp_safe (b : Bank) (n now : Nat) (f : StartFacts) (p : Nat) (h : p < b.core.chans.length) :
    ((b.startUp n now f).core.chan p).io.c = true ∧ ((b.startUp n now f).core.chan p).io.normal = .off
      ∧ ((b.startUp n now f).core.chan p).cfg = (b.core.chan p).cfg
      ∧ ((b.core.storeFailed || !f.storeOk) = true → ((b.startUp n now f).core.chan p).io.on = false)
      ∧ (Ready.startsInGlide f.own f.shared = false → (b.core.chan p).cfg.pattern.failSafe = .off → ((b.startUp n now f).core.chan p).io.on = false)
      ∧ (Ready.startsInGlide f.own f.shared = true → (b.core.chan p).cfg.pattern.glide = .off → ((b.startUp n now f).core.chan p).io.on = false) := by
  rw [Bank.startUp_chan _ _ _ _ _ h]
  refine ⟨by simp [Chan.atStart], by simp [Chan.atStart], by simp [Chan.atStart], fun failed => ?_, fun glide off => ?_, fun glide off => ?_⟩
  all_goals
    refine BankCore.finish_entry_off _ _ _ _ ?_
    rw [BankCore.started_entry]
  · simp [failed]
  · simp [glide, off]
  · simp [glide, off]

/-- The bank itself as it starts. -/
theorem Bank.startUp_bank (b : Bank) (n now : Nat) (f : StartFacts) :
    (b.startUp n now f).core.running = true ∧ (b.startUp n now f).core.supply = f.supply
      ∧ (b.startUp n now f).core.storeFailed = (b.core.storeFailed || !f.storeOk)
      ∧ (b.startUp n now f).core.lastCause = (if b.core.storeFailed || !f.storeOk then .storeCheck else .bankStart)
      ∧ (b.startUp n now f).core.limpOwn = (limpBand f.own).getD .deasserted ∧ (b.startUp n now f).core.limpShared = (limpBand f.shared).getD .deasserted := by
  rw [Bank.startUp_core, BankCore.settle_stay _ _ _ (BankCore.leavesToSafe_same _ _ rfl)]
  exact ⟨rfl, rfl, rfl, rfl, rfl, rfl⟩

theorem execVsupPresent_up {s : State} {b mv held : Nat} (storeOk : Bool) (own shared : Nat) (off : (s.bank b).core.running = false)
    (up : (s.bank b).core.starting = true ∨ (4250 ≤ mv ∧ 20000 ≤ held)) :
    execVsupPresent b mv held storeOk own shared s
      = .next (s.onBank b fun y => y.startUp b s.now { storeOk := storeOk, supply := mv, own := own, shared := shared, version := s.rtVersion }) := by
  refine congrArg Host.Outcome.next (if_neg ?_)
  obtain up | ⟨hm, hh⟩ := up
  · simp [off, up]
  · simp [off, risen_of hm hh]

/-! ## The loss of a bank -/

theorem Bank.powerOff_off (b : Bank) (now p : Nat) (h : p < b.core.chans.length) : ((b.powerOff now).core.chan p).io.on = false := by
  unfold Bank.powerOff Bank.halt BankCore.chan
  dsimp only
  rw [List.getD_eq_getElem?_getD, List.getElem?_map, List.getElem?_eq_getElem h]
  rfl

theorem Hub.forgetBank_view (h : Hub) (b : Nat) : (h.forgetBank b).view b = none := by
  show (editAt h.views b fun _ => none).getD b none = none
  by_cases hb : b < h.views.length
  · exact editAt_getD_same _ _ _ _ hb
  · rw [List.getD_eq_getElem?_getD, List.getElem?_eq_none (by rw [editAt_length]; omega)]
    rfl

theorem Hub.rebook_footing (before h : Hub) : (before.rebook h).footing = h.footing := by
  unfold Hub.rebook
  split <;> rfl

theorem Hub.scheduleReport_footing (h : Hub) (b n : Nat) (ran : Bool) : (h.scheduleReport b n ran).1.footing = h.footing := by
  have edited : ∀ (k : Hub) (f : Schedule → Schedule), (k.onSchedule n f).footing = k.footing := fun _ _ => rfl
  unfold Hub.scheduleReport
  dsimp only
  split
  · rfl
  · split
    · rfl
    · split
      · rfl
      · refine (edited _ _).trans ?_
        split
        · rfl
        · rfl

namespace State.Steady

variable {s₀ s : State}

theorem abortGrow (h : s₀.Steady s) : s₀.Steady (State.abortGrow s) := by
  unfold State.abortGrow
  have ordered := h.order (s.hub.emptyOrders s.hub.run.migration.lane s.hub.run.migration.channel)
  dsimp only
  split
  · exact notify _ ordered (Notice.quiet_one rfl)
  · exact h

theorem dropSchedulesOf (b : Nat) (h : s₀.Steady s) : s₀.Steady (State.dropSchedulesOf s b) := by
  unfold State.dropSchedulesOf
  refine foldl _ h fun s n _ hs => ?_
  exact notify _ (hs.trans ((Hub.rebook_footing ..).trans (Hub.scheduleReport_footing ..))) (Hub.scheduleReport_quiet _ _ _ _)

/-- A bank that is gone takes its view and its claim with it. -/
theorem bankGone (s : State) (b : Nat) : (s.onHub fun h => h.forgetBank b).Steady (s.bankGone b) := by
  unfold State.bankGone
  dsimp only
  have grown : (s.onHub fun h => h.forgetBank b).Steady (if (s.onHub fun h => h.forgetBank b).hub.migrationChans.any (fun ch => decide (ch / 12 = b))
      then (s.onHub fun h => h.forgetBank b).abortGrow else s.onHub fun h => h.forgetBank b) := ite (refl _).abortGrow (refl _)
  exact notify _ (dropSchedulesOf b (after _ grown (Notice.quiet_branch (Capture.abort_quiet _) Notice.quiet_nil)))
    (Notice.quiet_append (prewarnings_quiet _ _) (Hub.degradedNotices_quiet _ _))

end State.Steady

/-- The loss of VSUPx: the bank stops, the hub forgets it, and reports it while it serves (R97). -/
theorem execVsupAbsent_down {s : State} {b mv held : Nat} (on : (s.bank b).core.running = true) (hm : mv ≤ 4150) (hh : 20000 ≤ held) :
    execVsupAbsent b mv held s = .next (if s.hub.serves then ((s.onBank b fun y => y.powerOff s.now).bankGone b).notify [.fault (12 * b + 7) 1 0xFF]
      else (s.onBank b fun y => y.powerOff s.now).onHub fun h => h.forgetBank b) :=
  congrArg Host.Outcome.next (if_pos (by simp [on, fallen_of hm hh]))

theorem bankSupply_source {b : Nat} (hb : b < 4) : reservedSource (12 * b + 7) = false ∧ 12 * b + 7 < 0x30 := by
  have all : ∀ b : Fin 4, reservedSource (12 * b.val + 7) = false ∧ 12 * b.val + 7 < 0x30 := by decide
  exact all ⟨b, hb⟩

/-- What the hub and the banks are like after the loss of a bank. -/
theorem execVsupAbsent_lost {s : State} {b mv held : Nat} (hb : b < 4) (on : (s.bank b).core.running = true) (hm : mv ≤ 4150) (hh : 20000 ≤ held) :
    ∃ t, execVsupAbsent b mv held s = .next t ∧ t.banks = (s.onBank b fun y => y.powerOff s.now).banks ∧ t.hub.view b = none
      ∧ (s.hub.serves = true → t.hub.collector.stands (12 * b + 7) = true) := by
  obtain ⟨reserved, low⟩ := bankSupply_source hb
  refine ⟨_, execVsupAbsent_down on hm hh, ?_⟩
  split
  case isTrue serves =>
    have reported : ∀ n ∈ [Notice.fault (12 * b + 7) 1 0xFF], Notice.quiet n = true :=
      Notice.quiet_one (decide_eq_true (Nat.ne_of_lt low))
    have gone := State.Steady.bankGone (s.onBank b fun y => y.powerOff s.now) b
    refine ⟨?_, ?_, fun _ => ?_⟩
    · exact (((State.Within.refl (κ := {}) _).bankGone b).notify _).banks rfl
    · exact ((gone.notify _ reported).view b).trans (Hub.forgetBank_view ..)
    · exact State.notify_fault _ _ _ _ _ reserved (by omega) (by omega) (by decide)
        (gone.outOfReset.trans (Hub.outOfReset_of_serves serves)) Notice.quiet_nil
  case isFalse silent => exact ⟨rfl, Hub.forgetBank_view .., fun serves => absurd serves silent⟩

/-! ## The overvoltage warning -/

theorem Bank.overvoltageOn_due {b : Bank} {mv held : Nat} (n now : Nat) (on : b.core.running = true) (hm : 59000 ≤ mv) (hh : 20000 ≤ held) :
    (b.overvoltageOn n now mv held).core.overvoltage = true ∧ (b.overvoltageOn n now mv held).core.supply = mv := by
  unfold Bank.overvoltageOn
  rw [if_pos (by simp [on, hm, hh])]
  exact ⟨Bank.act_keeps BankCore.overvoltage (by simp) (by simp) .., Bank.act_keeps BankCore.supply (by simp) (by simp) ..⟩

theorem Bank.overvoltageOff_due {b : Bank} {mv : Nat} (n now : Nat) (on : b.core.running = true) (warned : b.core.overvoltage = true) (hm : mv < 59000) :
    (b.overvoltageOff n now mv).core.overvoltage = false ∧ (b.overvoltageOff n now mv).core.supply = mv := by
  unfold Bank.overvoltageOff
  rw [if_pos (by simp [on, warned, hm])]
  exact ⟨Bank.act_keeps BankCore.overvoltage (by simp) (by simp) .., Bank.act_keeps BankCore.supply (by simp) (by simp) ..⟩

/-- Settles O16: the start and the loss as what they leave of the bank, of its channels and of the hub. -/
theorem bankSuppliesStartAndStopBanks : Obligations.BankSuppliesStartAndStopBanks := by
  refine ⟨fun s b mv held storeOk own shared hb shaped off up => ⟨_, execVsupPresent_up storeOk own shared off up, ?_⟩,
    fun s b mv held hb shaped _ on hm hh => ?_,
    fun s b mv held runs hm hh => ⟨_, rfl, ?_⟩, fun s b mv runs warned hm => ⟨_, rfl, ?_⟩⟩
  · have there : b < s.banks.length := State.shaped_banks shaped ▸ hb
    obtain ⟨running, supply, failed, cause, limpOwn, limpShared⟩ := Bank.startUp_bank (s.bank b) b s.now
      { storeOk := storeOk, supply := mv, own := own, shared := shared, version := s.rtVersion }
    rw [State.bank_onBank_same _ _ _ there]
    refine ⟨running, supply, failed, cause, limpOwn, limpShared, fun p hp => ?_⟩
    rw [State.chan_of_bank _ _ _ hp, State.chan_of_bank _ _ _ hp, State.bank_onBank_same _ _ _ there]
    exact Bank.startUp_safe _ _ _ _ _ ((State.shaped_chans shaped b hb).symm ▸ hp)
  · have there : b < s.banks.length := State.shaped_banks shaped ▸ hb
    obtain ⟨t, step, banks, view, stands⟩ := execVsupAbsent_lost hb on hm hh
    have hbank : t.bank b = (s.bank b).powerOff s.now := by
      rw [← State.bank_onBank_same s b (fun y => y.powerOff s.now) there]
      exact congrArg (fun l => l.getD b {}) banks
    refine ⟨t, step, ?_, view, fun p hp => ?_, stands⟩
    · rw [hbank]; rfl
    · rw [State.chan_of_bank _ _ _ hp, hbank]
      exact Bank.powerOff_off _ _ _ ((State.shaped_chans shaped b hb).symm ▸ hp)
  · obtain ⟨-, -, on⟩ := Ready.bankRuns_iff.1 runs
    rw [State.bank_onBank_runs runs]
    exact Bank.overvoltageOn_due _ _ on hm hh
  · obtain ⟨-, -, on⟩ := Ready.bankRuns_iff.1 runs
    rw [State.bank_onBank_runs runs]
    exact Bank.overvoltageOff_due _ _ on warned hm

end Sys2Proof.Machine
end

section
/-! O17: the clock tier, the synthesiser and the reference clock (R78 to R80). -/

namespace Sys2Proof.Machine

/-! ## The tier -/

/-- What a change of the tier reports: the object, or the fault of a lowered tier. -/
theorem tierNotices_quiet (c d : Prop) [Decidable c] [Decidable d] (t : Nat) :
    ∀ n ∈ (if c then [] else [Notice.event 5 0x2010 1]) ++ (if d then [Notice.fault 0x58 1 t] else []), Notice.quiet n = true :=
  Notice.quiet_append (Notice.quiet_unless (Notice.quiet_one rfl)) (Notice.quiet_if (Notice.quiet_one rfl))

/-- A change of the tier takes that of the voltage and is counted; the phase stays. -/
theorem State.setTier_tier (s : State) (mv : Nat) :
    (s.setTier mv).hub.tier = tierOf mv ∧ (s.setTier mv).pwr.vcoreMv = mv ∧ (s.setTier mv).hub.tierChanges = s.hub.tierChanges + 1
      ∧ (s.setTier mv).hub.synth = s.hub.synth := by
  unfold State.setTier State.after
  dsimp only
  rw [State.notify_hub_tier _ _ (tierNotices_quiet _ _ _), State.notify_pwr _ _ (tierNotices_quiet _ _ _),
    State.notify_hub_tierChanges _ _ (tierNotices_quiet _ _ _), State.notify_hub_synth _ _ (tierNotices_quiet _ _ _)]
  exact ⟨rfl, rfl, rfl, rfl⟩

theorem execTierLower_due {s : State} {mv held : Nat} (serves : s.hub.serves = true) (on : s.pwr.vcore = true) (low : tierOf mv < s.hub.tier)
    (hh : 1000 ≤ held) : execTierLower mv held s = .next (s.setTier mv) :=
  congrArg Host.Outcome.next (if_pos (by simp [serves, on, low, hh]))

theorem execTierRaise_due {s : State} {mv held : Nat} (serves : s.hub.serves = true) (on : s.pwr.vcore = true) (high : s.hub.tier < tierOf mv)
    (hh : 1000000 ≤ held) : execTierRaise mv held s = .next (s.setTier mv) :=
  congrArg Host.Outcome.next (if_pos (by simp [serves, on, high, hh]))

/-! ## The exit from standby -/

namespace State.Steady

variable {s₀ s : State}

theorem lapBegin (h : s₀.Steady s) : s₀.Steady (State.lapBegin s) := by
  unfold State.lapBegin
  exact h.after _ (Notice.quiet_unless (Notice.quiet_cons rfl (Notice.quiet_one rfl)))

/-- The exit from standby comes to the runtime restart, and is steady else. -/
theorem wakeUp (s : State) : (s.onHub fun h => { h with phase := .restarting, cause := 7, startAt := s.now }).Steady s.wakeUp := by
  unfold State.wakeUp
  dsimp only
  exact startPorts (after _ (lapBegin (notify _ rfl (TimeDomains.wake_quiet _ _))) (Net.wakeQ3_quiet _ _))

end State.Steady

/-- A synthesiser that has locked. -/
def State.locked (s : State) : State := s.onHub fun h => { h with synth := 1 }

theorem execSynthLock_settling {s : State} (mv : Nat) (h : s.hub.phase = .settling) :
    execSynthLock mv s = .next (State.onHub { s with pwr := { s.pwr with vcoreMv := mv } } fun h => { h with tier := tierOf mv, synth := 1, phase := .held }) := by
  unfold execSynthLock
  rw [h]

theorem execSynthLock_waking {s : State} (mv : Nat) (h : s.hub.phase = .waking) :
    execSynthLock mv s = .next (if tierOf mv = s.hub.tier then s.locked else s.locked.setTier mv).wakeUp := by
  unfold execSynthLock
  rw [h]
  rfl

/-- The tier after the lock that ends standby: a tier other than before is a counted change (R78). -/
theorem State.locked_tier (s : State) (mv : Nat) (u : State) (hu : u = if tierOf mv = s.hub.tier then s.locked else s.locked.setTier mv) :
    u.hub.synth = 1 ∧ u.hub.tier = tierOf mv
      ∧ u.hub.tierChanges = (if tierOf mv = s.hub.tier then s.hub.tierChanges else s.hub.tierChanges + 1) := by
  subst hu
  split
  case isTrue same => exact ⟨rfl, same.symm, rfl⟩
  case isFalse =>
    obtain ⟨tier, -, changes, synth⟩ := s.locked.setTier_tier mv
    exact ⟨synth, tier, changes⟩

/-! ## The calibration and the reference -/

theorem execCalibrationStart_due {s : State} {temp : Int} (serves : s.hub.serves = true) (locked : s.hub.synth = 1)
    (far : 300 < (temp - s.hub.calTemp).natAbs) :
    execCalibrationStart temp s = .next (s.after (fun h => { h with synth := 2, temp := temp, calTemp := temp, calibrations := h.calibrations + 1 })
      [.fault 0x58 2 s.hub.tier]) :=
  congrArg Host.Outcome.next (if_pos (by simp [serves, locked, far]))

theorem execReferenceClockLoss_due {s : State} {silent : Nat} (h : Ready.fresh s = true) (long : 4000 ≤ silent) :
    execReferenceClockLoss silent s = .next ((s.hubResetFree 9).onHub fun h => { h with phase := .noClock, synth := 0 }) := by
  refine congrArg Host.Outcome.next (if_pos ?_)
  simp only [Ready.fresh, Bool.and_eq_true] at h
  obtain ⟨⟨⟨vcore, -⟩, -⟩, noClock⟩ := h
  simp only [vcore, noClock, long, decide_true, Bool.and_self]

/-- Settles O17: the tier as one change, the locks by the phase they find, calibration and reference as their events. -/
theorem clockTierAndSynthesiser : Obligations.ClockTierAndSynthesiser := by
  refine ⟨fun s mv held serves on low hh => ⟨_, execTierLower_due serves on low hh, ?_⟩,
    fun s mv held serves on high hh => ⟨_, execTierRaise_due serves on high hh, ?_⟩,
    fun s mv settling => ⟨_, execSynthLock_settling mv settling, rfl, rfl, rfl, rfl⟩,
    fun s mv waking => ⟨_, execSynthLock_waking mv waking, ?_⟩,
    fun s temp serves locked far => ⟨_, execCalibrationStart_due serves locked far, ?_⟩,
    fun s calibrating => ⟨_, congrArg Host.Outcome.next (if_pos calibrating), rfl⟩,
    fun s silent fresh long => ⟨_, execReferenceClockLoss_due fresh long, rfl, rfl, ?_⟩,
    fun s running noClock long => ⟨_, congrArg Host.Outcome.next (if_pos ⟨noClock, long⟩), rfl⟩⟩
  · obtain ⟨tier, mv, changes, -⟩ := s.setTier_tier mv
    exact ⟨tier, mv, changes⟩
  · obtain ⟨tier, mv, changes, -⟩ := s.setTier_tier mv
    exact ⟨tier, mv, changes⟩
  · obtain ⟨synth, tier, changes⟩ := s.locked_tier mv _ rfl
    have woken := State.Steady.wakeUp (if tierOf mv = s.hub.tier then s.locked else s.locked.setTier mv)
    exact ⟨woken.phase, woken.synth.trans synth, woken.cause, woken.tier.trans tier, woken.tierChanges.trans changes⟩
  · have warned : ∀ n ∈ [Notice.fault 0x58 2 s.hub.tier], Notice.quiet n = true := Notice.quiet_one rfl
    unfold State.after
    rw [State.notify_hub_synth _ _ warned, State.notify_hub_calTemp _ _ warned, State.notify_hub_calibrations _ _ warned]
    exact ⟨rfl, rfl, rfl⟩
  · obtain ⟨-, cause, run, banks⟩ := State.hubResetFree_fresh 9 fresh
    exact ⟨cause, run, banks⟩

end Sys2Proof.Machine
end

section
/-! O19: the claim of a bank (R93) and dictionary ready (R89). -/

namespace Sys2Proof.Machine

/-! ## The collector at a claim -/

/-- A collector with the modes it had leaves the hub steady. -/
theorem Hub.footing_collector {h : Hub} {c : Collector} (m : c.modes = h.collector.modes) : ({ h with collector := c } : Hub).footing = h.footing :=
  Hub.footing_of_calm rfl m

/-- A message that the hub accepts in the name of its own origin is one that it raises itself. -/
theorem State.acceptError_own (s : State) {source origin : Nat} (kind address : Nat) (h : sourceOrigin source = origin) :
    s.acceptError source kind origin address
      = if s.hub.outOfReset then
          s.after (fun h => { h with collector := (s.hub.collector.raise s.hub.collCfg source kind address s.now s.hub.time.seconds s.hub.time.nanos).1 })
            (s.hub.collector.raise s.hub.collCfg source kind address s.now s.hub.time.seconds s.hub.time.nanos).2
        else s := by
  subst h
  rfl

/-- Level causes of a bank have one of its twelve sources. -/
theorem BankCore.causes_source (c : BankCore) (b : Nat) : ∀ e ∈ c.causes b, e.1 < 12 := by
  have mapped : ∀ {α β : Type} (f : Nat → α → List β) (l : List α) (i : Nat) (P : β → Prop), (∀ j x, ∀ e ∈ f j x, P e) →
      ∀ e ∈ (mapFrom f i l).flatten, P e := by
    intro α β f l i P hP e he
    obtain ⟨es, hes, he⟩ := List.mem_flatten.1 he
    obtain ⟨j, hj⟩ := List.mem_iff_getElem?.1 hes
    rw [mapFrom_getElem?, Option.map_eq_some_iff] at hj
    obtain ⟨x, -, rfl⟩ := hj
    exact hP _ _ e he
  have guarded : ∀ (p : Prop) [Decidable p] (e : Nat × Nat × Nat), e.1 < 12 → ∀ x ∈ (if p then [e] else []), x.1 < 12 := by
    intro p _ e he x hx
    split at hx
    · exact List.mem_singleton.1 hx ▸ he
    · exact absurd hx List.not_mem_nil
  have chan : ∀ x : Chan, ∀ e ∈ x.causes, e.1 < 12 := by
    intro x
    simp [Chan.causes]
  unfold BankCore.causes
  simp only [List.forall_mem_append]
  refine ⟨⟨⟨⟨⟨mapped _ _ _ _ fun j x e he => ?_, mapped _ _ _ _ fun j x e he => ?_⟩, guarded _ _ (by decide)⟩, guarded _ _ (by decide)⟩,
    guarded _ _ (by decide)⟩, guarded _ _ (by decide)⟩
  · obtain ⟨k, hk, rfl⟩ := List.mem_map.1 he
    exact chan x k (List.mem_filter.1 hk).1
  · split at he
    · rw [List.mem_singleton.1 he]
      exact (by decide : 4 < 12)
    · exact absurd he List.not_mem_nil

namespace State.Steady

variable {s₀ s : State}

theorem acceptError {source origin : Nat} (kind address : Nat) (h : s₀.Steady s) (own : sourceOrigin source = origin) (hq : source ≠ 0x30) :
    s₀.Steady (State.acceptError s source kind origin address) := by
  rw [State.acceptError_own _ _ _ own]
  exact ite (h.after _ (Collector.raise_quiet _ _ _ _ _ _ _ _ hq)
    (Hub.footing_collector ((Collector.accept_modes ..).trans (Collector.stamp_modes ..)))) h

/-! ## Escalation -/

theorem takeStep (source step : Nat) (h : s₀.Steady s) : s₀.Steady (State.takeStep s source step) := by
  unfold State.takeStep
  exact after _ (h.order _) (Notice.quiet_cons rfl (Notice.quiet_one rfl)) (Hub.footing_collector (congrArg Collector.modes (Hub.order_collector ..)).symm)

theorem takeDue (h : s₀.Steady s) : s₀.Steady (State.takeDue s) := by
  unfold State.takeDue
  refine foldl _ h fun s i _ hs => ?_
  split
  · exact hs.takeStep _ _
  · exact hs

/-! ## The claim -/

theorem adoptValue (idx sub v : Nat) (h : s₀.Steady s) : s₀.Steady (State.adoptValue s idx sub v) := by
  unfold State.adoptValue
  split
  · exact ite h h
  · exact h

theorem adoptStore (b : Nat) (c : BankCore) (h : s₀.Steady s) : s₀.Steady (State.adoptStore s b c) := by
  unfold State.adoptStore
  refine ((foldl _ h fun s p _ hs => ?_).adoptValue ..).adoptValue ..
  exact (foldl _ hs fun s e _ hs => hs.adoptValue ..).adoptValue ..

theorem claimStore (b : Nat) (c : BankCore) (h : s₀.Steady s) : s₀.Steady (State.claimStore s b c) := by
  have marked : ∀ (os : List Order) (k : Nat), s₀.Steady { s with hub := { (s.hub.order os).1 with startReport := k } } := fun os _ => h.order os
  unfold State.claimStore
  dsimp only
  split
  · exact marked _ _
  · exact ite (h.adoptStore b c) (marked _ _)

theorem claimLane (n : Nat) (h : s₀.Steady s) : s₀.Steady (State.claimLane s n) := by
  unfold State.claimLane
  split
  · exact h
  · split
    · exact h
    · exact ite h (h.order _)

theorem claimLanes (b : Nat) (h : s₀.Steady s) : s₀.Steady (State.claimLanes s b) := by
  unfold State.claimLanes
  dsimp only
  split
  · exact h.order _
  · exact trans (foldl _ h fun s n _ hs => hs.claimLane n) (Hub.rebook_footing ..)

theorem claimGlide (b : Nat) (c : BankCore) (h : s₀.Steady s) : s₀.Steady (State.claimGlide s b c) := by
  unfold State.claimGlide
  have kept := ite (p := c.escGlide = true) (h.notify [.fault 0x33 0xC 0xFF] (Notice.quiet_one rfl)) h
  exact ite (kept.takeStep ..) (ite (kept.order _) kept)

theorem claimCause {b : Nat} {e : Nat × Nat × Nat} (h : s₀.Steady s) (hb : b < 4) (he : e.1 < 12) : s₀.Steady (State.claimCause b s e) := by
  have own : sourceOrigin (12 * b + e.1) = b := by
    unfold sourceOrigin
    rw [if_pos (by omega)]
    omega
  unfold State.claimCause
  exact ite (h.trans (Hub.footing_collector rfl)) (h.acceptError _ _ own (by omega))

theorem claimCauses {b : Nat} (c : BankCore) (h : s₀.Steady s) (hb : b < 4) : s₀.Steady (State.claimCauses s b c) := by
  have gone : ∀ (l : List Nat) (k : Collector), (l.foldl (fun c i => c.acceptGone (12 * b + i)) k).modes = k.modes := by
    intro l
    induction l with
    | nil => exact fun _ => rfl
    | cons i l ih => exact fun k => (ih _).trans (k.acceptGone_modes _)
  unfold State.claimCauses
  exact trans (foldl _ h fun s e he hs => hs.claimCause hb (c.causes_source b e he)) (Hub.footing_collector (gone _ _))

theorem serviceEnd (b code : Nat) (m : ServiceMode) {faults : List Notice} (h : s₀.Steady s) (hq : ∀ n ∈ faults, Notice.quiet n = true) :
    s₀.Steady (State.serviceEnd s b code m faults) :=
  notify (s := s.onHub fun h => (h.setService b m).onRun fun r => { r with serviceReq := none }) _ h (Notice.quiet_append hq (Notice.quiet_one rfl))

theorem claimService (b : Nat) (c : BankCore) (h : s₀.Steady s) : s₀.Steady (State.claimService s b c) := by
  have dropped : ∀ (x : Bool) (k : Hub), (k.onRun fun r => if x then { r with serviceReq := none } else r).footing = k.footing := by
    intro x k
    cases x <;> rfl
  unfold State.claimService
  dsimp only
  split
  · exact h.serviceEnd _ _ _ Notice.quiet_nil
  · exact h.trans (dropped _ _)

end State.Steady

theorem Hub.claimShed_footing (h : Hub) (b : Nat) (c : BankCore) (now : Nat) : (h.claimShed b c now).footing = h.footing := by
  have kept : ∀ (k : Hub) (groups : List (Nat × List Nat)) (due : Nat),
      ((k.onRun fun r => { r with shed := editAt r.shed b fun _ => groups }).setShedDue b due).footing = k.footing := fun _ _ _ => rfl
  unfold Hub.claimShed
  exact (kept _ _ _).trans (Hub.order_footing ..)

/-- The hub as a claim begins: the telemetry that was heard is the view. -/
def State.claimed (s : State) (b : Nat) (c : BankCore) : State := s.onHub fun h =>
  { (h.onLink b fun l => { l with heard := none }) with views := editAt h.views b fun _ => some c }.noteAgreement b c s.now

/-- What follows in a claim changes no view and no telemetry that was heard. -/
theorem State.claim_steady (s : State) {b : Nat} (c : BankCore) (hb : b < 4) : (s.claimed b c).Steady (s.claim b c) := by
  unfold State.claim
  dsimp only
  have ordered : (s.claimed b c).Steady { ((s.claimed b c).claimStore b c).claimLanes b with
      hub := ((((s.claimed b c).claimStore b c).claimLanes b).hub.order ((((s.claimed b c).claimStore b c).claimLanes b).hub.causeOrders b c)).1.claimShed b c
        (((s.claimed b c).claimStore b c).claimLanes b).now } :=
    (((State.Steady.refl _).claimStore b c).claimLanes b).trans ((Hub.claimShed_footing ..).trans (Hub.order_footing ..))
  exact (((ordered.claimGlide b c).claimCauses c hb).claimService b c).notify _
    (Notice.quiet_append (Notice.quiet_append (prewarnings_quiet _ _) (Notice.quiet_if (Notice.quiet_one rfl))) (Hub.degradedNotices_quiet _ _))

theorem Ready.bankClaim_iff {s : State} {b : Nat} {c : BankCore} : Ready.bankClaim s b c = true ↔
    b < 4 ∧ s.hub.shaped = true ∧ s.hub.runtimeOn = true ∧ s.hub.free = true ∧ s.hub.present b = false ∧ (s.hub.link b).heard = some c
      ∧ c.running = true := by
  simp [Ready.bankClaim, and_assoc]

theorem execBankClaim_claims {s : State} {b : Nat} {c : BankCore} (h : Ready.bankClaim s b c = true) : execBankClaim b s = .next (s.claim b c) := by
  obtain ⟨hb, -, on, free, absent, heard, running⟩ := Ready.bankClaim_iff.1 h
  unfold execBankClaim
  rw [heard]
  exact congrArg Host.Outcome.next (if_pos (by simp [hb, on, free, absent, running]))

/-! ## Dictionary ready -/

namespace State.Steady

variable {s₀ s : State}

theorem requestAgain (q : StepRequest) (h : s₀.Steady s) : s₀.Steady (State.requestAgain s q) := by
  unfold State.requestAgain
  exact trans (h.order _) (Hub.footing_collector rfl)

theorem resumeSteps (h : s₀.Steady s) : s₀.Steady (State.resumeSteps s) := by
  unfold State.resumeSteps
  exact takeDue (foldl _ (h.trans (Hub.footing_collector rfl)) fun s q _ hs => hs.requestAgain q)

theorem storeSave (h : s₀.Steady s) : s₀.Steady (State.storeSave s) := by
  unfold State.storeSave
  exact ite h (ite h h)

theorem storeNext (h : s₀.Steady s) : s₀.Steady (State.storeNext s) := by
  unfold State.storeNext
  dsimp only
  split
  · exact h
  · split
    · exact h.storeSave
    · split
      · exact h
      · exact h

theorem record (n type w2 w3 : Nat) (h : s₀.Steady s) : s₀.Steady (s.record n type w2 w3).1 :=
  h.trans (Hub.footing_of_calm (congrArg (fun k => k.2.2.2.2.2.2.2.2.1) (State.record_still ..)) (congrArg Collector.modes (State.record_collector ..)))

theorem readyRecords (h : s₀.Steady s) : s₀.Steady (State.readyRecords s) := by
  unfold State.readyRecords
  exact notify _ (record 13 3 _ 0 (s := s.onHub fun h => { h with gap := 0 }) h) (Notice.quiet_one rfl)

end State.Steady

theorem State.readyNotices_quiet (s : State) : ∀ n ∈ s.readyNotices, Notice.quiet n = true := by
  unfold State.readyNotices
  exact Notice.quiet_append (Notice.quiet_append (Notice.quiet_append (Notice.quiet_if (Notice.quiet_one rfl)) (Notice.quiet_one rfl))
    (Notice.quiet_if (Notice.quiet_one rfl))) (Notice.quiet_unless (Notice.quiet_one rfl))

/-- The hub as the dictionary comes to be served: it runs, and the faults are handed to the runtime. -/
def State.readied (s : State) : State := s.onHub fun h =>
  let absent := (List.range 4).foldl (fun v b => if h.present b then v else v ||| 2 ^ (4 + b)) 0
  { (h.onRun fun r => { r with ready := true, readyAt := s.now }) with
    phase := .running, startReport := h.startReport ||| absent, startCause := h.cause, duration := (s.now - h.startAt) / 1000
    collector := { h.collector with handed := true }, lap := { h.lap with boundaryDue := false } }

theorem State.Steady.dogBegin {s₀ s : State} (h : s₀.Steady s) : s₀.Steady s.dogBegin := h

/-- What follows is records, reports, ports, commands and the store. -/
theorem State.dictionaryReady_steady (s : State) : s.readied.Steady s.dictionaryReady := by
  have kept : ∀ k : Hub, ({ k with patchDue := 0 } : Hub).footing = k.footing := fun _ => rfl
  have told : s.readied.Steady (s.readied.readyRecords.notify s.readied.readyRecords.readyNotices) :=
    (State.Steady.refl s.readied).readyRecords.notify s.readied.readyRecords.readyNotices (State.readyNotices_quiet _)
  have patched : s.readied.Steady ((s.readied.readyRecords.notify s.readied.readyRecords.readyNotices).onHub fun h => { h with patchDue := 0 }) :=
    told.trans (kept _)
  exact patched.dogBegin.startPorts.resumeSteps.storeNext

theorem execDictionaryReady_due {s : State} (h : Ready.dictionaryReady s = true) : execDictionaryReady s = .next s.dictionaryReady :=
  congrArg Host.Outcome.next (if_pos h)

/-- Settles O19: the view of the bank and the marks of the start are set first, and the rest of each event is steady. -/
theorem banksAreClaimedAndTheDictionaryServed : Obligations.BanksAreClaimedAndTheDictionaryServed := by
  refine ⟨fun s b c ready => ⟨_, execBankClaim_claims ready, ?_⟩, fun s ready => ⟨_, execDictionaryReady_due ready, ?_⟩⟩
  · obtain ⟨hb, shaped, -⟩ := Ready.bankClaim_iff.1 ready
    obtain ⟨links, views, -⟩ := (Hub.shaped_iff _).1 shaped
    have steady := s.claim_steady c hb
    refine ⟨(steady.view b).trans ?_, (steady.heard b).trans ?_, fun d hd => (steady.view d).trans ?_⟩
    · exact editAt_getD_same _ _ _ _ (views ▸ hb)
    · exact congrArg Link.heard (editAt_getD_same _ _ _ _ (links ▸ hb))
    · exact editAt_getD_other _ _ _ _ _ (Ne.symm hd)
  · have steady := s.dictionaryReady_steady
    exact ⟨steady.phase, steady.ready, steady.readyAt, steady.handed, steady.startCause, steady.duration⟩

end Sys2Proof.Machine
end

section
/-! O20: the exit from standby by WAKE (R96), the writes of the store and of the journal (R472 to R475, R485), the end of a restart hold, a re-trim (R491)
and the lap boundary (R263). -/

namespace Sys2Proof.Machine

/-! ## WAKE -/

theorem Lands.wakes_of {l : Lands} {now held : Nat} (long : 50000 ≤ held) (rose : l.wake = false ∨ ∃ t, l.wakeAt = some t ∧ now ≤ t + held) :
    l.wakes now held = true := by
  unfold Lands.wakes
  obtain low | ⟨t, at_, within⟩ := rose
  · simp [long, low]
  · simp [long, at_, within]

theorem Lands.wakes_without_rise {l : Lands} (now held : Nat) (high : l.wake = true) (none : l.wakeAt = none) : l.wakes now held = false := by
  simp [Lands.wakes, high, none]

theorem execWakeExitStandby_wakes {s : State} {held : Nat} (vio : s.pwr.vio = true) (wakes : s.lands.wakes s.now held = true) (standby : s.hub.phase = .standby) :
    execWakeExitStandby held s
      = .next (State.onHub { s with lands := { s.lands with wake := true, wakeAt := none } } fun h => { h with phase := .waking }) := by
  unfold execWakeExitStandby
  rw [if_neg (by simp [vio, wakes])]
  dsimp only
  rw [standby]

theorem execWakeExitStandby_without_rise {s : State} (held : Nat) (high : s.lands.wake = true) (none : s.lands.wakeAt = none) :
    execWakeExitStandby held s = .next s :=
  congrArg Host.Outcome.next (if_pos (by simp [Lands.wakes_without_rise _ _ high none]))

/-! ## The store and the journal -/

theorem Ready.storeCalm_iff {s : State} : Ready.storeCalm s = true ↔ s.hub.windowCode = 0 ∧ s.hub.flushing = false ∧ s.hub.run.store.again = false
    ∧ s.hub.run.store.deferred = false ∧ s.hub.run.store.rewrite = [] ∧ s.hub.run.stop = none := by
  simp [Ready.storeCalm, and_assoc]

theorem Ready.storeCalm_notify (s : State) (ns : List Notice) (hq : ∀ n ∈ ns, Notice.quiet n = true) :
    Ready.storeCalm (s.notify ns) = Ready.storeCalm s := by
  unfold Ready.storeCalm
  rw [State.notify_hub_windowCode _ _ hq, State.notify_hub_flushing _ _ hq, State.notify_hub_run_store _ _ hq, State.notify_hub_run_stop _ _ hq]

/-- With no further item waiting, no flush under way and no stop planned, a write that ends brings nothing after it. -/
theorem State.storeNext_calm {s : State} (h : Ready.storeCalm s = true) : s.storeNext = s := by
  obtain ⟨window, flushing, again, deferred, rewrite, stop⟩ := Ready.storeCalm_iff.1 h
  unfold State.storeNext
  dsimp only
  split
  · rfl
  · rw [if_neg (by simp [again, deferred]), rewrite]

theorem State.flushDone_calm {s : State} (h : Ready.storeCalm s = true) : s.flushDone = s := by
  obtain ⟨-, flushing, -⟩ := Ready.storeCalm_iff.1 h
  exact if_neg (by simp [flushing])

theorem State.advanceStop_calm {s : State} (h : Ready.storeCalm s = true) : s.advanceStop = s := by
  obtain ⟨-, -, -, -, -, stop⟩ := Ready.storeCalm_iff.1 h
  exact State.advanceStop_none stop

theorem State.storeSave_begins {s : State} (idle : s.hub.run.store.writing = false) (window : s.hub.windowCode = 0) (flushed : s.hub.flushesRecords = false) :
    s.storeSave = s.onHub fun h => h.onStore fun w => { w with
      writing := true, again := false, deferred := false, mirror := false, changed := false, target := if w.source = 0 then 1 else 0
      image := s.storeImage, imageSeq := if w.source = 2 then 1 else (w.newest + 1) % 2 ^ 32, imageVersion := s.rtVersion, imageHash := s.configHash } := by
  unfold State.storeSave
  dsimp only
  rw [if_neg (by simp [window, flushed]), if_neg (by simp [idle])]

theorem execSaveDelayExpiry_due {s : State} (serving : s.hub.serving = true) (dirty : s.hub.run.store.dirty = true) (idle : s.hub.run.store.writing = false)
    (due : s.hub.run.store.lastWrite + s.hub.act 0x7000 2 1000 * 1000000 ≤ s.now) : execSaveDelayExpiry s = .next s.storeSave :=
  congrArg Host.Outcome.next (if_pos (by simp [serving, dirty, idle, due]))

theorem Mram.copy_setCopy (m : Mram) (i : Nat) (c : ConfigCopy) : (m.setCopy i c).copy i = c := by
  unfold Mram.copy Mram.setCopy
  split <;> rfl

/-- The state with the image of the write in its copy (R472). -/
def State.copyWritten (s : State) (verified : Bool) : State :=
  let w := s.hub.run.store
  { s with mram := s.mram.setCopy w.target { freshCopy w.imageVersion w.imageSeq w.imageHash w.image with crcBad := !verified } }

theorem State.copyWritten_copy (s : State) (verified : Bool) : (s.copyWritten verified).mram.copy s.hub.run.store.target
    = { freshCopy s.hub.run.store.imageVersion s.hub.run.store.imageSeq s.hub.run.store.imageHash s.hub.run.store.image with crcBad := !verified } :=
  Mram.copy_setCopy ..

/-- A verified write is committed: the copy is the source and its number the newest (R473). -/
def State.storeCommitted (s : State) : State := (s.copyWritten true).onHub fun h => h.onStore fun w =>
  { w with writing := false, dirty := w.changed, badVerify := false, writes := w.writes + 1, newest := w.imageSeq, source := w.target
           rewrite := w.rewrite.filter (· != w.target) }

/-- A write that fails its verification is written again with the next number (R475). -/
def State.storeRefused (s : State) : State := (s.copyWritten false).onHub fun h => h.onStore fun w =>
  { w with badVerify := true, imageSeq := (w.imageSeq + 1) % 2 ^ 32 }

/-- The record of a committed write. -/
def State.storeNote (s : State) : Notice := .journal 4 s.hub.run.store.target (leBytes 4 s.hub.run.store.imageSeq ++ leBytes 4 s.hub.run.store.imageHash)

theorem State.storeNote_quiet (s : State) : ∀ n ∈ [s.storeNote], Notice.quiet n = true := Notice.quiet_one rfl

theorem State.storeDone_committed {s : State} (writing : s.hub.run.store.writing = true) (mirror : s.hub.run.store.mirror = false) :
    s.storeDone true = (s.storeCommitted.notify [s.storeNote]).storeNext := by
  unfold State.storeDone
  dsimp only
  rw [if_neg (by simp [writing]), if_neg (by simp), if_neg (by simp [mirror])]
  rfl

theorem State.storeDone_refused {s : State} (writing : s.hub.run.store.writing = true) :
    s.storeDone false = s.storeRefused.notify [.fault 0x4D 3 s.hub.run.store.target] := by
  unfold State.storeDone
  dsimp only
  rw [if_neg (by simp [writing]), if_pos (by simp)]
  rfl

theorem Ready.storeCalm_committed {s : State} (h : Ready.storeCalm s = true) : Ready.storeCalm s.storeCommitted = true := by
  obtain ⟨window, flushing, again, deferred, rewrite, stop⟩ := Ready.storeCalm_iff.1 h
  exact Ready.storeCalm_iff.2 ⟨window, flushing, again, deferred, by
    show s.hub.run.store.rewrite.filter _ = []
    rw [rewrite]; rfl, stop⟩

/-- A completed write of the store with nothing waiting after it. -/
theorem execStoreWriteComplete_committed {s : State} (on : s.hub.runtimeOn = true) (calm : Ready.storeCalm s = true) (writing : s.hub.run.store.writing = true)
    (mirror : s.hub.run.store.mirror = false) : execStoreWriteComplete true s = .next (s.storeCommitted.notify [s.storeNote]) := by
  have still : Ready.storeCalm (s.storeCommitted.notify [s.storeNote]) = true :=
    (Ready.storeCalm_notify _ _ s.storeNote_quiet).trans (Ready.storeCalm_committed calm)
  refine (congrArg Host.Outcome.next (if_pos on)).trans ?_
  rw [State.storeDone_committed writing mirror, State.storeNext_calm still, State.flushDone_calm still, State.advanceStop_calm still]

/-- A failed verification with nothing waiting after it. -/
theorem execStoreWriteComplete_refused {s : State} (on : s.hub.runtimeOn = true) (calm : Ready.storeCalm s = true) (writing : s.hub.run.store.writing = true) :
    execStoreWriteComplete false s = .next (s.storeRefused.notify [.fault 0x4D 3 s.hub.run.store.target]) := by
  have still : Ready.storeCalm (s.storeRefused.notify [.fault 0x4D 3 s.hub.run.store.target]) = true :=
    (Ready.storeCalm_notify _ _ (Notice.quiet_one rfl)).trans calm
  refine (congrArg Host.Outcome.next (if_pos on)).trans ?_
  rw [State.storeDone_refused writing, State.flushDone_calm still, State.advanceStop_calm still]

/-- The oldest of 2560 records gives way to the next one (R485). -/
theorem Mram.append_records (m : Mram) (e : JournalEntry) :
    (m.append e).records = (if m.records.length < 2560 then m.records else m.records.drop 1) ++ [{ number := m.next, entry := e }]
      ∧ (m.append e).next = (m.next + 1) % 2 ^ 32 := by
  unfold Mram.append Mram.writeIndex
  dsimp only
  split <;> exact ⟨rfl, rfl⟩

/-- The oldest waiting entry is written, with nothing waiting after it. -/
theorem execJournalRecordWrite_writes {s : State} {e : JournalEntry} {rest : List JournalEntry} (on : s.hub.runtimeOn = true) (calm : Ready.storeCalm s = true)
    (idle : s.hub.run.store.writing = false) (clear : s.hub.run.clearDue = false) (waits : s.hub.run.shadow = e :: rest) :
    ∃ t, execJournalRecordWrite s = .next t ∧ t.mram = s.mram.append e ∧ t.hub.run.shadow = rest := by
  obtain ⟨window, -⟩ := Ready.storeCalm_iff.1 calm
  obtain ⟨u, written, still, mram, shadow⟩ :
      ∃ u : State, s.journalWrite = u.storeNext.flushDone ∧ Ready.storeCalm u = true ∧ u.mram = s.mram.append e ∧ u.hub.run.shadow = rest := by
    unfold State.journalWrite
    rw [waits]
    dsimp only
    rw [if_neg (by simp [window, idle, on]), clear]
    exact ⟨_, rfl, calm, rfl, rfl⟩
  refine ⟨u, (congrArg Host.Outcome.next (if_pos on)).trans ?_, mram, shadow⟩
  rw [written, State.storeNext_calm still, State.flushDone_calm still, State.advanceStop_calm still]

/-! ## A restart hold that is not acknowledged -/

theorem Ready.restartHoldAckTimeout_iff {s : State} {x : Stop} : Ready.restartHoldAckTimeout s x = true ↔ s.hub.serving = true ∧ s.hub.run.stop = some x
    ∧ x.announced = true ∧ x.kind.holds = true ∧ elapsed x.since 1000000 s.now = true ∧ s.hub.holdTaken x = false := by
  simp [Ready.restartHoldAckTimeout, and_assoc]

theorem execRestartHoldAckTimeout_due {s : State} {x : Stop} (h : Ready.restartHoldAckTimeout s x = true) :
    execRestartHoldAckTimeout s = .next (s.abandonStop x.kind) := by
  obtain ⟨serving, stop, announced, holds, late, taken⟩ := Ready.restartHoldAckTimeout_iff.1 h
  unfold execRestartHoldAckTimeout
  rw [stop]
  exact congrArg Host.Outcome.next (if_pos (by simp [serving, announced, holds, late, taken]))

/-- The stop is taken back, and what was due while it was planned is ordered. -/
def State.stopDropped (s : State) : State :=
  let u := (s.onHub fun h => h.onRun fun r => { r with stop := none }).takeDue
  { u with hub := (u.hub.order u.hub.dogOrders).1 }

theorem State.stopDropped_steady (s : State) : (s.onHub fun h => h.onRun fun r => { r with stop := none }).Steady s.stopDropped :=
  (State.Steady.refl _).takeDue.order _

/-- What an abandoned stop reports: the fault and the record of a patch that was to be turned, and nothing else. -/
theorem State.abandonStop_eq (s : State) (k : Planned) :
    ∃ ns : List Notice, (∀ n ∈ ns, Notice.quiet n = true) ∧ s.abandonStop k = s.stopDropped.notify ns := by
  cases k
  case activate => exact ⟨_, Notice.quiet_cons rfl (Notice.quiet_one rfl), rfl⟩
  case revert => exact ⟨_, Notice.quiet_cons rfl (Notice.quiet_one rfl), rfl⟩
  all_goals exact ⟨[], Notice.quiet_nil, rfl⟩

theorem State.abandonStop_stop (s : State) (k : Planned) : (s.abandonStop k).hub.run.stop = none := by
  obtain ⟨ns, quiet, dropped⟩ := s.abandonStop_eq k
  rw [dropped]
  exact (s.stopDropped_steady.notify ns quiet).stop

/-- An abandoned activation is reported (R253). -/
theorem State.abandonStop_activate {s : State} (out : s.hub.outOfReset = true) : (s.abandonStop .activate).hub.collector.stands 0x50 = true :=
  State.notify_fault s.stopDropped _ _ _ _ (by decide) (by decide) (by decide) (by decide) (s.stopDropped_steady.outOfReset.trans out) (Notice.quiet_one rfl)

/-! ## A completed re-trim -/

/-- The offsets of a channel were measured at a time, and are not stale. -/
def Chan.CalibratedAt (ch : Chan) (now : Nat) : Prop := ch.sense.offsetAtStd = now ∧ ch.sense.stale = false

/-- A trip keeps the offsets of its channel. -/
theorem BankCore.trip_offsets (b : BankCore) (now p : Nat) (k : TripKind) (x : Chan) :
    (b.trip now p k x).sense.offsetAtStd = x.sense.offsetAtStd ∧ (b.trip now p k x).sense.stale = x.sense.stale := by
  have lapse : (x.lapseCounts now).sense = x.sense := by
    unfold Chan.lapseCounts
    split <;> rfl
  have off : ∀ (r : Nat) (y : Chan), (b.turnOff now p r y).sense.offsetAtStd = y.sense.offsetAtStd ∧ (b.turnOff now p r y).sense.stale = y.sense.stale := by
    intro r y
    have kept := b.turnOff_kept now p r y
    simp only [Chan.kept, Prod.mk.injEq] at kept
    exact ⟨by simp only [kept], by simp only [kept]⟩
  unfold BankCore.trip
  dsimp only
  rw [← lapse]
  split
  · exact off (if k = .detection then 0 else slewRate (classAt p) 3) _
  · exact ⟨rfl, rfl⟩

/-- An event that measures the offsets of a channel leaves them measured, through driving and late trips. -/
theorem Bank.act_calibrated (b : Bank) (n now p at_ : Nat) (f : BankCore → BankCore) (hg : (f (b.core.rebase now)).glideOn = b.core.glideOn)
    (hl : p < (f (b.core.rebase now)).chans.length) (h : ((f (b.core.rebase now)).chan p).CalibratedAt at_) : ((b.act n now f).core.chan p).CalibratedAt at_ := by
  refine (Bank.act_induct (P := fun c => p < c.chans.length ∧ (c.chan p).CalibratedAt at_) ?_ ?_ b n f hg ⟨hl, h⟩).2
  · rintro x c hx ⟨hp, std, stale⟩
    refine ⟨hp.trans_eq (congrArg Prod.fst (BankCore.settle_sizes x c now)).symm, ?_⟩
    rw [BankCore.settle_chan _ _ _ _ hp hx]
    exact ⟨(BankCore.finish_sense_offsetAtStd ..).trans std, (BankCore.finish_sense_stale ..).trans stale⟩
  · rintro c q ⟨hp, measured⟩
    refine ⟨by simpa using hp, ?_⟩
    by_cases e : p = q
    · subst e
      rw [BankCore.chan_editChan_same _ _ _ hp]
      obtain ⟨std, stale⟩ := c.trip_offsets now p .overload (c.chan p)
      exact ⟨std.trans measured.1, stale.trans measured.2⟩
    · rw [BankCore.chan_editChan_other _ _ _ _ e]
      exact measured

/-- A bank with the trims found, its offsets measured (R491). -/
def BankCore.retrimmed (c : BankCore) (trims : List Int) (now : Nat) : BankCore :=
  { c with trims := trims, chans := c.chans.map fun ch => { ch with sense := { ch.sense with offsetAtStd := now, offsetAtLed := now, stale := false } } }

theorem BankCore.retrimmed_chan (c : BankCore) (trims : List Int) (now p : Nat) (h : p < c.chans.length) : ((c.retrimmed trims now).chan p).CalibratedAt now := by
  unfold BankCore.retrimmed BankCore.chan
  dsimp only
  rw [List.getD_eq_getElem?_getD, List.getElem?_map, List.getElem?_eq_getElem h]
  exact ⟨rfl, rfl⟩

theorem Bank.retrimDone_due {b : Bank} (n now : Nat) (trims : List Int) (within : Bool) (on : b.core.running = true) (due : b.retrimming = true) :
    b.retrimDone n now trims within
      = if within then Bank.act { b with retrimming := false } n now fun c => c.retrimmed trims now else { b with retrimming := false } :=
  if_pos (by simp [on, due])

/-- The bank after a re-trim: trims and offsets are renewed only within limits. -/
theorem Bank.retrimDone_leaves {b : Bank} (n now : Nat) (trims : List Int) (within : Bool) (on : b.core.running = true) (due : b.retrimming = true) :
    (b.retrimDone n now trims within).retrimming = false
      ∧ (b.retrimDone n now trims within).core.trims = (if within then trims else b.core.trims)
      ∧ (within = true → ∀ p, p < b.core.chans.length → ((b.retrimDone n now trims within).core.chan p).CalibratedAt now) := by
  rw [Bank.retrimDone_due n now trims within on due]
  cases within with
  | false => exact ⟨rfl, rfl, fun h => absurd h (by decide)⟩
  | true =>
    rw [if_pos rfl, if_pos rfl]
    have taken := Bank.act_keeps BankCore.trims (by simp) (by simp) { b with retrimming := false } n now fun c => c.retrimmed trims now
    refine ⟨Bank.act_retrimming .., taken, fun _ p hp => ?_⟩
    exact Bank.act_calibrated _ _ _ _ _ _ rfl (by simpa [BankCore.retrimmed] using hp) (BankCore.retrimmed_chan _ _ _ _ (by simpa using hp))

/-- The bank after its re-trim has ended. -/
def State.retrimmed (s : State) (b : Nat) (within : Bool) : State :=
  State.onBank { s with free := s.free + 1 } b fun x => x.retrimDone b s.now (Config.trims b s.free) within

/-- The end of a service request before it is reported. -/
def State.serviceSet (s : State) (b : Nat) (m : ServiceMode) : State := s.onHub fun h => (h.setService b m).onRun fun r => { r with serviceReq := none }

theorem State.serviceEnd_plain (s : State) (b code : Nat) (m : ServiceMode) :
    s.serviceEnd b code m [] = (s.serviceSet b m).notify [(s.serviceSet b m).hub.serviceNote code b] := rfl

theorem Hub.serviceNote_quiet (h : Hub) (code b : Nat) : ∀ n ∈ [h.serviceNote code b], Notice.quiet n = true := Notice.quiet_one rfl

theorem State.serviceEnd_banks (s : State) (b code : Nat) (m : ServiceMode) : (s.serviceEnd b code m []).banks = s.banks := by
  rw [State.serviceEnd_plain, State.notify_banks _ _ (Hub.serviceNote_quiet _ _ _)]
  rfl

theorem State.serviceEnd_serviceOf {s : State} {b : Nat} (code : Nat) (m : ServiceMode) (h : b < s.hub.run.service.length) :
    (s.serviceEnd b code m []).hub.serviceOf b = m := by
  unfold Hub.serviceOf
  rw [State.serviceEnd_plain, State.notify_hub_run_service _ _ (Hub.serviceNote_quiet _ _ _)]
  exact editAt_getD_same _ _ _ _ h

theorem execRetrimComplete_due {s : State} {b : Nat} (within : Bool) (on : (s.bank b).core.running = true) (due : (s.bank b).retrimming = true) :
    execRetrimComplete b within s = .next (if s.hub.serving && decide (s.hub.serviceOf b = .retrimming)
      then (s.retrimmed b within).serviceEnd b (if within then 3 else 6) .isolated [] else s.retrimmed b within) :=
  congrArg Host.Outcome.next (if_pos (by simp [on, due]))

/-- The bank isolates again where the hub served its re-trim, and the rest is the bank's own. -/
theorem execRetrimComplete_leaves {s : State} {b : Nat} (within : Bool) (hb : b < 4) (shaped : s.hub.shaped = true) (on : (s.bank b).core.running = true)
    (due : (s.bank b).retrimming = true) : ∃ t, execRetrimComplete b within s = .next t ∧ t.banks = (s.retrimmed b within).banks
      ∧ (s.hub.serving = true → s.hub.serviceOf b = .retrimming → t.hub.serviceOf b = .isolated) := by
  obtain ⟨-, -, -, -, -, -, service, -⟩ := (Hub.shaped_iff _).1 shaped
  refine ⟨_, execRetrimComplete_due within on due, ?_⟩
  split
  case isTrue => exact ⟨State.serviceEnd_banks .., fun _ _ => State.serviceEnd_serviceOf _ _ (service ▸ hb)⟩
  case isFalse idle => exact ⟨rfl, fun serving trims => absurd (by simp [serving, trims]) idle⟩

/-! ## The lap boundary -/

theorem Ready.boundary_iff {s : State} : Ready.boundary s = true ↔ s.hub.serving = true ∧ s.hub.lap.boundaryDue = true ∧ s.hub.run.boundary.commit = false
    ∧ s.hub.run.boundary.service = false ∧ s.hub.run.boundary.migration = false ∧ s.hub.run.stop = none ∧ s.hub.run.team.mode = .none
    ∧ (Ready.boundaryHub s).act 0x6000 1 0 ≠ 1 ∧ (Ready.boundaryHub s).lapCfg.vote = s.hub.lapCfg.vote := by
  simp [Ready.boundary, and_assoc]

/-- The hub with the values noted at the origin in force (R41), outside a team. -/
def State.boundaryTaken (s : State) : State := s.onHub fun h => { h with
  lap := { h.lap with boundaryDue := false }
  run := { h.run with inForce := Ready.boundaryValues s, team := { h.run.team with reserved := [0, 0, 0, 0] } } }

theorem Hub.rebook_alone (before h : Hub) (alone : h.run.team.mode = .none) :
    before.rebook h = h.onTeam fun t => { t with reserved := [0, 0, 0, 0] } :=
  if_neg (by simp [Hub.inTeam, alone])

theorem State.boundaryValues_taken {s : State} (alone : s.hub.run.team.mode = .none) :
    (s.onHub fun h => { h with lap := { h.lap with boundaryDue := false } }).boundaryValues = s.boundaryTaken :=
  congrArg (fun k : Hub => ({ s with hub := k } : State)) (Hub.rebook_alone _ _ alone)

/-- Outside a team, with nothing else that waits for the boundary, it brings values alone. -/
theorem State.boundaryWork_idle {s : State} (before : Hub) (alone : s.hub.run.team.mode = .none) (off : s.hub.act 0x6000 1 0 ≠ 1)
    (commit : s.hub.run.boundary.commit = false) (service : s.hub.run.boundary.service = false) (migration : s.hub.run.boundary.migration = false) :
    State.boundaryWork before s = s := by
  have team : State.teamApply before s = s := by
    simp [State.teamApply, Hub.inTeam, alone, off]
  simp [State.boundaryWork, team, commit, service, migration]

/-- The lap boundary as its values and the plans it carries out. -/
theorem execLapBoundaryApply_values {s : State} (h : Ready.boundary s = true) :
    execLapBoundaryApply s
      = .next (((s.boundaryTaken.notify (s.hub.degradedNotices s.boundaryTaken.hub)).executePlanned).advanceStop) := by
  obtain ⟨serving, due, commit, service, migration, stop, alone, off, vote⟩ := Ready.boundary_iff.1 h
  have same : s.boundaryTaken.hub.lapCfg.vote = s.hub.lapCfg.vote := vote
  have idle : State.boundaryWork s.hub s.boundaryTaken = s.boundaryTaken := State.boundaryWork_idle _ alone off commit service migration
  unfold execLapBoundaryApply
  rw [if_pos (by simp [serving, due])]
  dsimp only
  rw [State.boundaryValues_taken alone, if_pos same, idle]

/-- What the reports of the boundary leave of it. -/
theorem State.boundaryTaken_notified (s : State) (ns : List Notice) (quiet : ∀ n ∈ ns, Notice.quiet n = true) :
    (s.boundaryTaken.notify ns).hub.lap.boundaryDue = false ∧ (s.boundaryTaken.notify ns).hub.run.inForce = Ready.boundaryValues s
      ∧ (s.boundaryTaken.notify ns).hub.phase = s.hub.phase ∧ (s.boundaryTaken.notify ns).hub.run.boundary = s.hub.run.boundary
      ∧ (s.boundaryTaken.notify ns).hub.run.stop = s.hub.run.stop ∧ (s.boundaryTaken.notify ns).hub.run.ready = s.hub.run.ready
      ∧ (s.boundaryTaken.notify ns).hub.synth = s.hub.synth ∧ (s.boundaryTaken.notify ns).pwr = s.pwr := by
  rw [State.notify_hub_lap _ _ quiet, State.notify_hub_run_inForce _ _ quiet, State.notify_hub_phase _ _ quiet, State.notify_hub_run_stop _ _ quiet,
    State.notify_hub_run_ready _ _ quiet, State.notify_hub_synth _ _ quiet, State.notify_pwr _ _ quiet]
  exact ⟨rfl, rfl, rfl, congrArg (fun k => k.run.boundary) (State.notify_calm _ _ quiet), rfl, rfl, rfl, rfl⟩

/-- The plans of the boundary are taken. -/
def State.plansTaken (s : State) : State := s.onHub fun h => h.onRun fun r => { r with boundary := { r.boundary with planned := [] } }

theorem State.executePlanned_none {s : State} (h : s.hub.run.boundary.planned = []) : s.executePlanned = s.plansTaken := by
  unfold State.executePlanned
  rw [h]
  rfl

theorem State.executePlanned_reset {s : State} (h : s.hub.run.boundary.planned = [.hubReset]) (serving : s.hub.serving = true) (stop : s.hub.run.stop = none) :
    s.executePlanned = s.plansTaken.hubResetFree 3 := by
  have free : s.hub.free = true := by simp [Hub.free, stop]
  unfold State.executePlanned
  rw [h]
  exact if_pos ((Bool.and_eq_true _ _).mpr ⟨serving, free⟩)

theorem Hub.serving_iff {h : Hub} : h.serving = true ↔ h.phase = .running ∧ h.run.ready = true := by
  simp [Hub.serving]

/-- A running hub with VCORE is out of reset with its clock. -/
theorem Ready.fresh_of_running {s : State} (vcore : s.pwr.vcore = true) (running : s.hub.phase = .running) : Ready.fresh s = true := by
  simp [Ready.fresh, vcore, running]

/-- Settles O20: each clause as its event with nothing else due, by the rules above. -/
theorem standbyStoreRetrimsAndLapBoundaries : Obligations.StandbyStoreRetrimsAndLapBoundaries := by
  refine ⟨fun s held vio long rose standby => ⟨_, execWakeExitStandby_wakes vio (Lands.wakes_of long rose) standby, rfl, rfl⟩,
    fun s held high none => execWakeExitStandby_without_rise held high none,
    fun s serving dirty idle window flushed due => ⟨_, execSaveDelayExpiry_due serving dirty idle due, ?_⟩,
    fun s on calm writing mirror => ⟨_, execStoreWriteComplete_committed on calm writing mirror, ?_⟩,
    fun s on calm writing => ⟨_, execStoreWriteComplete_refused on calm writing, ?_⟩,
    fun s e rest on calm idle clear waits => ?_,
    fun s x ready => ⟨_, execRestartHoldAckTimeout_due ready, State.abandonStop_stop .., fun kind => ?_⟩,
    fun s b within runs shaped due => ?_,
    fun s ready planned => ⟨_, execLapBoundaryApply_values ready, ?_⟩,
    fun s ready planned vcore => ⟨_, execLapBoundaryApply_values ready, ?_⟩⟩
  · rw [State.storeSave_begins idle window flushed]
    exact ⟨rfl, rfl, rfl, rfl⟩
  · rw [State.notify_mram _ _ s.storeNote_quiet, State.notify_hub_run_store _ _ s.storeNote_quiet]
    exact ⟨s.copyWritten_copy true, rfl, rfl, rfl, rfl⟩
  · have quiet : ∀ n ∈ [Notice.fault 0x4D 3 s.hub.run.store.target], Notice.quiet n = true := Notice.quiet_one rfl
    have out : s.storeRefused.hub.outOfReset = true := Hub.outOfReset_of_serves (Hub.serves_of_runtimeOn on)
    rw [State.notify_mram _ _ quiet, State.notify_hub_run_store _ _ quiet]
    exact ⟨congrArg ConfigCopy.crcBad (s.copyWritten_copy false), writing, rfl,
      State.notify_fault _ _ _ _ _ (by decide) (by decide) (by decide) (by decide) out Notice.quiet_nil⟩
  · obtain ⟨t, step, mram, shadow⟩ := execJournalRecordWrite_writes on calm idle clear waits
    obtain ⟨records, next⟩ := s.mram.append_records e
    exact ⟨t, step, mram ▸ records, mram ▸ next, shadow⟩
  · obtain ⟨serving, -⟩ := Ready.restartHoldAckTimeout_iff.1 ready
    obtain ⟨running, -⟩ := Hub.serving_iff.1 serving
    rw [kind]
    exact State.abandonStop_activate (Hub.outOfReset_of_serves (by simp [Hub.serves, running]))
  · obtain ⟨hb, banks, on⟩ := Ready.bankRuns_iff.1 runs
    obtain ⟨t, step, same, service⟩ := execRetrimComplete_leaves within hb shaped on due
    have hbank : t.bank b = (s.bank b).retrimDone b s.now (Config.trims b s.free) within :=
      (congrArg (fun l => l.getD b {}) same).trans (State.bank_onBank_same _ _ _ (State.shaped_banks banks ▸ hb))
    obtain ⟨done, trims, offsets⟩ := Bank.retrimDone_leaves b s.now (Config.trims b s.free) within on due
    refine ⟨t, step, hbank ▸ done, hbank ▸ trims, fun renewed p hp => ?_, service⟩
    rw [State.chan_of_bank _ _ _ hp, hbank]
    exact offsets renewed p ((State.shaped_chans banks b hb).symm ▸ hp)
  · obtain ⟨serving, -, -, -, -, stop, -⟩ := Ready.boundary_iff.1 ready
    obtain ⟨running, -⟩ := Hub.serving_iff.1 serving
    have quiet := Hub.degradedNotices_quiet s.hub s.boundaryTaken.hub
    obtain ⟨due, values, phase, noted, kept, -⟩ := s.boundaryTaken_notified _ quiet
    have stays : (s.boundaryTaken.notify (s.hub.degradedNotices s.boundaryTaken.hub)).plansTaken.hub.run.stop = none := kept.trans stop
    rw [State.executePlanned_none (noted ▸ planned), State.advanceStop_none stays]
    exact ⟨due, values, phase.trans running⟩
  · obtain ⟨serving, -, -, -, -, stop, -⟩ := Ready.boundary_iff.1 ready
    obtain ⟨running, isReady⟩ := Hub.serving_iff.1 serving
    have quiet := Hub.degradedNotices_quiet s.hub s.boundaryTaken.hub
    obtain ⟨-, -, phase, noted, kept, served, synth, pwr⟩ := s.boundaryTaken_notified _ quiet
    have fresh : Ready.fresh (s.boundaryTaken.notify (s.hub.degradedNotices s.boundaryTaken.hub)).plansTaken = true :=
      Ready.fresh_of_running ((congrArg Supplies.vcore pwr).trans vcore) (phase.trans running)
    obtain ⟨reset, cause, run, -⟩ := State.hubResetFree_fresh 3 fresh
    rw [State.executePlanned_reset (noted ▸ planned) (Hub.serving_iff.2 ⟨phase.trans running, served.trans isReady⟩) (kept.trans stop),
      State.advanceStop_none (congrArg Run.stop run)]
    exact ⟨synth ▸ reset, cause, run⟩

end Sys2Proof.Machine
end

section
/-! O2: the tagged commands, snapshots and resolved schedules of a bank that come to their moment (R128, R196, R266, R267). -/

namespace Sys2Proof.Machine

/-! ## Commands leave the list of tagged ones as it is, or shorter -/

theorem Bank.command_tagged (b : Bank) (n now : Nat) (k : BankCmd) : ∀ c ∈ (b.command n now k).tagged, c ∈ b.tagged := by
  have acts : ∀ k, ∀ c ∈ (b.act n now fun core => core.command now k).tagged, c ∈ b.tagged := fun k c hc => by rwa [Bank.act_tagged] at hc
  cases k with
  | resetBank => exact fun c hc => absurd hc List.not_mem_nil
  | retrim => exact fun c hc => hc
  | cancelSchedule lane => exact fun c hc => (List.mem_filter.1 hc).1
  | setIsolated v =>
    cases v with
    | true => exact fun c hc => acts _ c (List.mem_filter.1 hc).1
    | false => exact acts _
  | _ => exact acts _

theorem Bank.commands_tagged (n now : Nat) (l : List LinkCmd) (b : Bank) :
    ∀ c ∈ (l.foldl (fun b t => b.command n now t.cmd) b).tagged, c ∈ b.tagged := by
  induction l generalizing b with
  | nil => exact fun c hc => hc
  | cons t l ih => exact fun c hc => b.command_tagged n now t.cmd c (ih _ c hc)

/-- The due commands of a running bank act in their order, and have left the list (R128, R196). -/
theorem Bank.applyTagged_runs {s : State} {b : Nat} (snaps : Bool) (on : (s.bank b).core.running = true) :
    (s.bank b).applyTagged b s.now snaps = ((s.bank b).tagged.filter (Ready.dueTagged s snaps)).foldl (fun x t => x.command b s.now t.cmd)
      { s.bank b with tagged := (s.bank b).tagged.filter fun t => !Ready.dueTagged s snaps t } := if_pos on

theorem Bank.applyTagged_tagged {s : State} {b : Nat} (snaps : Bool) (on : (s.bank b).core.running = true) :
    ∀ c ∈ ((s.bank b).applyTagged b s.now snaps).tagged, c ∈ (s.bank b).tagged ∧ Ready.dueTagged s snaps c = false := by
  intro c hc
  rw [Bank.applyTagged_runs snaps on] at hc
  obtain ⟨waited, early⟩ := List.mem_filter.1 (Bank.commands_tagged _ _ _ _ c hc)
  exact ⟨waited, by simpa using early⟩

/-- A due command that is alone. -/
theorem Bank.applyTagged_lone {s : State} {b : Nat} {snaps : Bool} {c : LinkCmd} (on : (s.bank b).core.running = true)
    (lone : (s.bank b).tagged.filter (Ready.dueTagged s snaps) = [c]) :
    (s.bank b).applyTagged b s.now snaps
      = Bank.command { s.bank b with tagged := (s.bank b).tagged.filter fun t => !Ready.dueTagged s snaps t } b s.now c.cmd := by
  rw [Bank.applyTagged_runs snaps on, lone]
  rfl

/-! ## What the commands set -/

theorem Bank.command_setNormal (b : Bank) (n now p : Nat) (d : Drive) :
    b.command n now (.setNormal p d) = b.act n now fun core => core.command now (.setNormal p d) := rfl

theorem Bank.command_snapshot (b : Bank) (n now cycle : Nat) :
    b.command n now (.snapshot cycle) = b.act n now fun core => core.command now (.snapshot cycle) := rfl

/-- A normal state reaches its channel (R25). -/
theorem Bank.setNormal_normal (b : Bank) (n now : Nat) {p : Nat} (d : Drive) (hp : p < b.core.chans.length) :
    ((b.command n now (.setNormal p d)).core.chan p).io.normal = d := by
  rw [Bank.command_setNormal]
  refine b.act_normal n now p d _ rfl (by simpa [BankCore.command] using hp) ?_
  unfold BankCore.command
  rw [BankCore.chan_editChan_same _ _ _ (by simpa using hp)]

/-- What driving and late trips keep of a channel is as the event itself leaves it. -/
theorem Bank.act_chan {β : Type} (g : Chan → β) (driven : ∀ (c : BankCore) now p x, g (c.finish now p x) = g x)
    (tripped : ∀ (c : BankCore) now p x, g (c.trip now p .overload x) = g x) (b : Bank) (n now p : Nat) (f : BankCore → BankCore)
    (hg : (f (b.core.rebase now)).glideOn = b.core.glideOn) (hl : p < (f (b.core.rebase now)).chans.length) :
    g ((b.act n now f).core.chan p) = g ((f (b.core.rebase now)).chan p) := by
  refine (Bank.act_induct (P := fun c => p < c.chans.length ∧ g (c.chan p) = g ((f (b.core.rebase now)).chan p)) ?_ ?_ b n f hg ⟨hl, rfl⟩).2
  · rintro x c hx ⟨hp, hv⟩
    refine ⟨hp.trans_eq (congrArg Prod.fst (BankCore.settle_sizes x c now)).symm, ?_⟩
    rw [BankCore.settle_chan _ _ _ _ hp hx, driven]
    exact hv
  · rintro c q ⟨hp, hv⟩
    refine ⟨by simpa using hp, ?_⟩
    by_cases e : p = q
    · subst e
      rw [BankCore.chan_editChan_same _ _ _ hp, tripped]
      exact hv
    · rw [BankCore.chan_editChan_other _ _ _ _ e]
      exact hv

/-- A trip leaves the captured counters of its channel. -/
theorem BankCore.trip_snap (b : BankCore) (now p : Nat) (k : TripKind) (x : Chan) : (b.trip now p k x).snap = x.snap := by
  have dropped : ∀ y : Chan, (y.dropWindow now).snap = y.snap := fun _ => rfl
  have lapsed : (x.lapseCounts now).snap = x.snap := by unfold Chan.lapseCounts; rfl
  have off : ∀ (r : Nat) (y : Chan), (b.turnOff now p r y).snap = y.snap := fun r y => congrArg (fun t => t.2.2.1) (b.turnOff_kept now p r y)
  unfold BankCore.trip
  dsimp only
  rw [dropped, ← lapsed]
  split
  · exact off _ _
  · rfl

/-- A snapshot captures the counters of a channel (R196). -/
theorem Bank.snapshot_snap (b : Bank) (n now cycle : Nat) {p : Nat} (hp : p < b.core.chans.length) :
    ((b.command n now (.snapshot cycle)).core.chan p).snap = (b.core.chan p).snapshot.snap := by
  rw [Bank.command_snapshot, Bank.act_chan Chan.snap BankCore.finish_snap (fun c now p x => c.trip_snap now p .overload x) b n now p _ rfl
    (by simpa [BankCore.command] using hp)]
  have captured : ((b.core.rebase now).command now (.snapshot cycle)).chan p = ((b.core.rebase now).chan p).snapshot := by
    unfold BankCore.command BankCore.chan
    rw [List.getD_eq_getElem?_getD, List.getD_eq_getElem?_getD, List.getElem?_map, List.getElem?_eq_getElem (by simpa using hp)]
    rfl
  rw [captured, BankCore.rebase_chan _ _ _ hp]
  rfl

/-- A snapshot leaves the number of its cycle (R196). -/
theorem Bank.snapshot_snapCycle (b : Bank) (n now cycle : Nat) : (b.command n now (.snapshot cycle)).core.snapCycle = max cycle (now / 50000) := by
  rw [Bank.command_snapshot]
  exact Bank.act_keeps BankCore.snapCycle (by simp) (by simp) b n now fun core => core.command now (.snapshot cycle)

/-! ## Resolved schedules -/

/-- The last valid frame of the bank came at most 200 microseconds before the moment of a schedule (R266). -/
def BankCore.heardBefore (b : BankCore) (tag : Option Nat) : Bool :=
  match b.lastValidRx, tag with
  | some r, some at_ => decide (at_ ≤ r + 200000)
  | _, _ => false

/-- A due schedule that is alone acts where a frame was heard in time, and is reported (R266). -/
theorem Bank.applySchedule_lone {s : State} {b lane : Nat} {c : LinkCmd} (on : (s.bank b).core.running = true)
    (lone : (s.bank b).tagged.filter (Ready.dueSchedule s lane) = [c]) :
    let x : Bank := { s.bank b with tagged := (s.bank b).tagged.filter fun t => !Ready.dueSchedule s lane t }
    let heard := x.core.heardBefore c.tag
    let y := if heard then x.command b s.now c.cmd else x
    (s.bank b).applySchedule b s.now lane = { y with schedRan := y.schedRan ++ [(lane, heard)] } := by
  have due : (s.bank b).dueSchedules s.now lane = [c] := lone
  unfold Bank.applySchedule
  rw [due, on]
  rfl

/-- A due schedule that the runtime would not refuse changes the banks alone as its bank applies it. -/
theorem execScheduleApply_applies {s : State} {b lane : Nat} (admitted : (s.hub.serving && s.hub.scheduleRefused lane) = false) :
    ∃ t, execScheduleApply b lane s = .next t ∧ t.banks = (s.onBank b fun x => x.applySchedule b s.now lane).banks := by
  have const := s.onBank_const b fun x => x.applySchedule b s.now lane
  unfold execScheduleApply
  dsimp only
  refine ⟨_, rfl, ?_⟩
  rw [if_neg (by simp [admitted]), const]
  split
  · split <;> rfl
  · rfl

/-- A due schedule that the runtime would refuse is dropped, and its drop is reported (R267). -/
theorem execScheduleApply_drops {s : State} {b lane : Nat} (refused : (s.hub.serving && s.hub.scheduleRefused lane) = true) :
    execScheduleApply b lane s = .next (s.onBank b fun x => x.dropSchedule s.now lane) := congrArg Host.Outcome.next (if_pos refused)

theorem Bank.dropSchedule_lone {s : State} {b lane : Nat} {c : LinkCmd} (on : (s.bank b).core.running = true)
    (lone : (s.bank b).tagged.filter (Ready.dueSchedule s lane) = [c]) :
    (s.bank b).dropSchedule s.now lane = { s.bank b with
      tagged := (s.bank b).tagged.filter fun t => !Ready.dueSchedule s lane t, schedRan := (s.bank b).schedRan ++ [(lane, false)] } := by
  have due : (s.bank b).dueSchedules s.now lane = [c] := lone
  unfold Bank.dropSchedule
  rw [due, on]
  rfl

/-- What a due schedule that sets a normal state leaves of its bank. -/
theorem Bank.applySchedule_normal {s : State} {b lane p r at_ : Nat} {c : LinkCmd} {d : Drive} (on : (s.bank b).core.running = true)
    (hp : p < (s.bank b).core.chans.length) (lone : (s.bank b).tagged.filter (Ready.dueSchedule s lane) = [c]) (set : c.cmd = .setNormal p d)
    (rx : (s.bank b).core.lastValidRx = some r) (tag : c.tag = some at_) :
    ((s.bank b).applySchedule b s.now lane).schedRan = (s.bank b).schedRan ++ [(lane, decide (at_ ≤ r + 200000))]
      ∧ ((s.bank b).applySchedule b s.now lane).tagged = (s.bank b).tagged.filter (fun x => !Ready.dueSchedule s lane x)
      ∧ (((s.bank b).applySchedule b s.now lane).core.chan p).io.normal
        = if at_ ≤ r + 200000 then d else ((s.bank b).core.chan p).io.normal := by
  have heard : (s.bank b).core.heardBefore c.tag = decide (at_ ≤ r + 200000) := by rw [tag]; unfold BankCore.heardBefore; rw [rx]
  rw [Bank.applySchedule_lone on lone]
  dsimp only
  rw [heard, set]
  by_cases inTime : at_ ≤ r + 200000
  · rw [decide_eq_true inTime, if_pos rfl, if_pos inTime]
    refine ⟨?_, ?_, Bank.setNormal_normal _ _ _ _ hp⟩
    · rw [Bank.command_setNormal, Bank.act_schedRan]
    · rw [Bank.command_setNormal, Bank.act_tagged]
  · rw [decide_eq_false inTime, if_neg Bool.false_ne_true, if_neg inTime]
    exact ⟨rfl, rfl, rfl⟩

/-- Settles O2: the tagged commands as they leave the list, and each kind as its lone command. -/
theorem commandsActAtTheirMoment : Obligations.CommandsActAtTheirMoment := by
  refine ⟨fun s b runs => ⟨_, rfl, ?_⟩, fun s b runs => ⟨_, rfl, ?_⟩, fun s b lane c p d r at_ runs hp lone set rx tag admitted => ?_,
    fun s b lane c runs lone serving refused => ⟨_, execScheduleApply_drops (by rw [serving, refused]; rfl), ?_⟩⟩
  · obtain ⟨hb, shaped, on⟩ := Ready.bankRuns_iff.1 runs
    rw [State.bank_onBank_runs runs]
    refine ⟨Bank.applyTagged_tagged false on, fun c p d hp lone set => ?_⟩
    rw [State.chan_of_bank _ _ _ hp, State.bank_onBank_runs runs, Bank.applyTagged_lone on lone, set]
    exact Bank.setNormal_normal _ _ _ _ ((State.shaped_chans shaped b hb).symm ▸ hp)
  · obtain ⟨hb, shaped, on⟩ := Ready.bankRuns_iff.1 runs
    rw [State.bank_onBank_runs runs]
    refine ⟨Bank.applyTagged_tagged true on, fun c cycle lone set => ?_⟩
    rw [Bank.applyTagged_lone on lone, set]
    refine ⟨Bank.snapshot_snapCycle .., fun p hp => ?_⟩
    rw [State.chan_of_bank _ _ _ hp, State.bank_onBank_runs runs, Bank.applyTagged_lone on lone, set, State.chan_of_bank _ _ _ hp]
    exact Bank.snapshot_snap _ _ _ _ ((State.shaped_chans shaped b hb).symm ▸ hp)
  · obtain ⟨hb, shaped, on⟩ := Ready.bankRuns_iff.1 runs
    obtain ⟨t, step, banks⟩ := execScheduleApply_applies (b := b) admitted
    have bank : t.bank b = (s.bank b).applySchedule b s.now lane :=
      (congrArg (fun l => l.getD b {}) banks).trans (State.bank_onBank_runs runs _)
    refine ⟨t, step, ?_⟩
    rw [State.chan_of_bank _ _ _ hp, State.chan_of_bank _ _ _ hp, bank]
    exact Bank.applySchedule_normal on ((State.shaped_chans shaped b hb).symm ▸ hp) lone set rx tag
  · obtain ⟨-, -, on⟩ := Ready.bankRuns_iff.1 runs
    rw [State.bank_onBank_runs runs, Bank.dropSchedule_lone on lone]
    exact ⟨rfl, rfl, rfl⟩

end Sys2Proof.Machine
end

section
/-! O34: the commands of a lane as they are written, kept and queued for its banks (R27, R41, R42, R128, R129, R178, R196). -/

namespace Sys2Proof.Machine

/-! ## Rows of lanes -/

theorem State.store_lane (s : State) (o : Origin) (r : ObjRow) {lane g : Nat} (sub : Nat) (data : List Byte) (hl : lane < 48) (hg : g < 16) :
    s.store o r (laneIdx lane g) sub data = s.writeLane r lane g sub (leNat data) := by
  have place : 0x3000 ≤ laneIdx lane g ∧ laneIdx lane g < 0x3400 ∧ (laneIdx lane g - 0x3000) / 16 = lane ∧ laneIdx lane g % 16 = g := by
    unfold laneIdx
    omega
  obtain ⟨low, high, block, group⟩ := place
  unfold State.store
  rw [if_neg (by omega), if_neg (by omega), if_pos high, block, group]

/-- A write of an object of a lane. -/
theorem State.writeLaneNum_lane {s : State} {k lane g sub v : Nat} (hl : lane < 48) (hg : g < 16)
    (h : Ready.mayWrite s k (laneIdx lane g) sub v = true) :
    ∃ r, s.writeLaneNum k lane g sub v = ((s.usedBy k).writeLane r lane g sub v).finish { session := k, arrival := s.now } := by
  obtain ⟨r, data, -, rfl, hw⟩ := State.writeNum_stores h (s.hub.slotTaken_below _ (by unfold laneIdx; omega))
  exact ⟨r, by rw [State.writeLaneNum, if_pos hl, hw, State.store_lane _ _ _ _ _ hl hg]⟩

/-- While a session may write, no planned stop holds commands back (R22). -/
theorem Ready.mayWrite_going {s : State} {k idx sub v : Nat} (h : Ready.mayWrite s k idx sub v = true) : (s.usedBy k).hub.stopping = false := by
  have taking := Ready.mayWrite_taking h
  exact Hub.stopping_of_taking (h := (s.usedBy k).hub) taking

/-! ## Orders that reach their banks -/

theorem Hub.present_lt {h : Hub} {b : Nat} (hs : h.views.length = 4) (hp : h.present b = true) : b < 4 := by
  by_contra far
  unfold Hub.present at hp
  rw [List.getD_eq_getElem?_getD, List.getElem?_eq_none (by omega)] at hp
  exact Bool.false_ne_true hp

theorem Hub.order_ids {os : List Order} {h : Hub} {o : Order} (hs : h.stopping = false) (ho : o ∈ os) (hp : h.present o.bank = true) :
    (h.order os).2 ≠ [] := by
  induction os generalizing h with
  | nil => exact absurd ho List.not_mem_nil
  | cons x os ih =>
    unfold Hub.order
    split
    · exact List.cons_ne_nil _ _
    case isFalse held =>
      rcases List.mem_cons.1 ho with rfl | ho
      · exact absurd (by rw [hp, hs]; rfl) held
      · exact ih hs ho hp

/-- A command for a present bank reaches its link where the commands of its target among the same orders, if it has one, are all alike (R42). -/
theorem Hub.order_reaches {os : List Order} {h : Hub} {o : Order} (hs : h.stopping = false) (hl : h.links.length = 4) (hv : h.views.length = 4)
    (hp : h.present o.bank = true) (ho : o ∈ os)
    (alike : o.cmd.target = none ∨ ∀ x ∈ os, x.bank = o.bank → x.cmd.target = o.cmd.target → x = o) :
    ∃ r ∈ ((h.order os).1.link o.bank).queue, r.cmd.cmd = o.cmd ∧ r.cmd.tag = o.tag := by
  obtain ⟨post, pre, split, last⟩ := List.eq_append_cons_of_mem (List.mem_reverse.2 ho)
  have orders : os = pre.reverse ++ o :: post.reverse := by
    rw [← List.reverse_reverse os, split]
    simp
  rw [orders] at alike ⊢
  have kept : ∀ x ∈ post.reverse, x.bank = o.bank → o.resolved = true ∨ x.resolved = true ∨ o.cmd.target = none ∨ o.cmd.target ≠ x.cmd.target := by
    intro x hx bank
    rcases alike with untargeted | alike
    · exact .inr (.inr (.inl untargeted))
    · refine .inr (.inr (.inr fun target => last ?_))
      rw [← alike x (by simp [List.mem_reverse.1 hx]) bank target.symm]
      exact List.mem_reverse.1 hx
  obtain ⟨r, hr, cmd, tag, -⟩ := Hub.order_sends pre.reverse post.reverse o h hs hp (hl ▸ Hub.present_lt hv hp) kept
  exact ⟨r, hr, cmd, tag⟩

/-- Orders of one kind, one for each channel of a list, reach the present banks behind others without a target (R42). -/
theorem Hub.order_chans {pre : List Order} {chans : List Nat} {h : Hub} {order : Nat → Order} {i ch : Nat} (hs : h.stopping = false)
    (hl : h.links.length = 4) (hv : h.views.length = 4) (hp : h.present (ch / 12) = true) (hc : ch ∈ chans) (bank : ∀ c, (order c).bank = c / 12)
    (target : ∀ c, (order c).cmd.target = some (i, c % 12)) (free : ∀ o ∈ pre, o.cmd.target = none) :
    ∃ r ∈ ((h.order (pre ++ chans.map order)).1.link (ch / 12)).queue, r.cmd.cmd = (order ch).cmd ∧ r.cmd.tag = (order ch).tag := by
  rw [← bank ch] at hp ⊢
  refine Hub.order_reaches hs hl hv hp (List.mem_append_right _ (List.mem_map_of_mem hc)) (.inr fun x hx sameBank sameTarget => ?_)
  rw [target] at sameTarget
  rcases List.mem_append.1 hx with hx | hx
  · rw [free x hx] at sameTarget
    exact absurd sameTarget (by simp)
  · obtain ⟨c, -, rfl⟩ := List.mem_map.1 hx
    rw [target, Option.some.injEq, Prod.mk.injEq] at sameTarget
    rw [bank, bank] at sameBank
    rw [show c = ch by omega]

theorem Ready.onLink_of {t : State} {b : Nat} {c : BankCmd} (h : ∃ r ∈ (t.hub.link b).queue, r.cmd.cmd = c) : Ready.onLink t b c = true := by
  obtain ⟨r, hr, cmd⟩ := h
  exact List.any_eq_true.2 ⟨r, hr, decide_eq_true cmd⟩

/-! ## Answers that wait -/

/-- A write whose commands wait for their banks. -/
theorem Written.finish_waits {w : Written} (o : Origin) (done : w.status = 0) (sent : w.ids ≠ []) :
    w.finish o = w.state.onHub fun h => h.onRun fun r => { r with waiting := r.waiting ++ [{ origin := o, open_ := w.ids }] } := if_pos ⟨done, sent⟩

theorem Ready.awaited_of {s t : State} {k at_ : Nat} {ids : List (Nat × Nat)}
    (h : t.hub.run.waiting = s.hub.run.waiting ++ [{ origin := { session := k, arrival := at_ }, open_ := ids }]) : Ready.awaited s t k := by
  unfold Ready.awaited
  rw [h]
  simp

/-- A write that commands banks leaves the links with its orders, and the values. -/
theorem State.command_finish (s : State) (os : List Order) (k at_ : Nat) :
    ((s.command os).finish { session := k, arrival := at_ }).hub.links = (s.hub.order os).1.links
      ∧ ((s.command os).finish { session := k, arrival := at_ }).hub.run.accepted = s.hub.run.accepted
      ∧ ((s.command os).finish { session := k, arrival := at_ }).hub.run.inForce = s.hub.run.inForce := by
  have rest := Hub.order_rest os s.hub
  have accepted : (s.hub.order os).1.run.accepted = s.hub.run.accepted := by rw [rest]
  have inForce : (s.hub.order os).1.run.inForce = s.hub.run.inForce := by rw [rest]
  unfold Written.finish
  split
  · exact ⟨rfl, accepted, inForce⟩
  · exact ⟨rfl, accepted, inForce⟩

/-- A write with a command for a present bank waits for it. -/
theorem State.command_waits {s : State} {os : List Order} {o : Order} (k at_ : Nat) (hs : s.hub.stopping = false) (ho : o ∈ os)
    (hp : s.hub.present o.bank = true) : Ready.awaited s ((s.command os).finish { session := k, arrival := at_ }) k := by
  have waiting : (s.hub.order os).1.run.waiting = s.hub.run.waiting := by rw [Hub.order_rest]
  rw [Written.finish_waits _ rfl (Hub.order_ids hs ho hp)]
  exact Ready.awaited_of (congrArg (· ++ _) waiting)

/-! ## Present banks of a lane -/

/-- A lane that needs no bank has a channel whose bank is present. -/
theorem Hub.needsBank_none {h : Hub} {n : Nat} (free : h.needsBank n = 0) :
    h.laneBanks n ≠ [] ∧ ∃ ch ∈ h.chansOf n, h.present (ch / 12) = true := by
  have banks : h.laneBanks n ≠ [] := by
    intro none
    unfold Hub.needsBank at free
    rw [none] at free
    split at free
    · exact absurd free (by decide)
    · exact absurd free (by simp)
  refine ⟨banks, ?_⟩
  obtain ⟨b, hb⟩ := List.exists_mem_of_ne_nil _ banks
  obtain ⟨carries, present⟩ := List.mem_filter.1 hb
  obtain ⟨ch, hc, place⟩ := List.any_eq_true.1 (List.mem_filter.1 carries).2
  exact ⟨ch, hc, by rw [beq_iff_eq.1 place]; exact present⟩

/-! ## What a lane command rests on -/

/-- What queuing commands rests on, and what the answer takes: the clock, the links, the banks as they were heard, the values, the answers that wait and
the planned stop. -/
def State.dealt (s : State) : Nat × List Link × List (Option BankCore) × Values × Values × List Waiting × Option Stop :=
  (s.now, s.hub.links, s.hub.views, s.hub.run.accepted, s.hub.run.inForce, s.hub.run.waiting, s.hub.run.stop)

theorem State.notify_dealt (s : State) (ns : List Notice) (quiet : ∀ n ∈ ns, Notice.quiet n = true) : (s.notify ns).dealt = s.dealt := by
  unfold State.dealt
  rw [State.notify_now _ _ quiet, State.notify_hub_links _ _ quiet, State.notify_hub_views _ _ quiet, State.notify_hub_run_accepted _ _ quiet,
    State.notify_hub_run_inForce _ _ quiet, State.notify_hub_run_waiting _ _ quiet, State.notify_hub_run_stop _ _ quiet]

theorem State.sendTeam_dealt (s : State) (type : Nat) (body : List Byte) : (s.onHub fun h => h.sendTeam type body).dealt = s.dealt := by
  unfold State.onHub Hub.sendTeam
  dsimp only
  split <;> rfl

theorem Hub.undo_quiet (h : Hub) (f : Intent → Nat → IntentEntry → Bool) : ∀ n ∈ (h.undo f).2, Notice.quiet n = true := by
  intro n hn
  obtain ⟨i, -, rfl⟩ := List.mem_map.1 hn
  rfl

theorem State.cancel_dealt (s : State) (reason : Nat) (f : IntentEntry → Bool) : (s.cancel reason f).dealt = s.dealt := by
  have sent : ∀ (l : List Intent) (s : State), (l.foldl (fun s i => s.onHub fun h =>
      h.sendTeam 9 (leBytes 4 i.seq ++ leBytes 2 (entryMask i f) ++ [BitVec.ofNat 8 reason, 0#8])) s).dealt = s.dealt := by
    intro l
    induction l with
    | nil => exact fun _ => rfl
    | cons i l ih => exact fun s => (ih _).trans (s.sendTeam_dealt ..)
  unfold State.cancel
  dsimp only
  split
  · rfl
  · exact (State.notify_dealt _ _ (Hub.undo_quiet _ _)).trans (sent _ _)

theorem State.withdraw_dealt (s : State) (lane : Nat) : (s.withdraw lane).dealt = s.dealt := by
  unfold State.withdraw
  dsimp only
  split
  · rfl
  · split
    · exact State.cancel_dealt ..
    · exact State.sendTeam_dealt ..

/-- The cancelled schedule of a lane (R268), and the commands that carry it to the banks. -/
theorem State.cancelSchedule_dealt (s : State) (n : Nat) :
    (s.cancelSchedule n).1.dealt = s.dealt ∧ ∀ o ∈ (s.cancelSchedule n).2, o.cmd.target = none := by
  unfold State.cancelSchedule
  dsimp only
  split
  · exact ⟨s.withdraw_dealt n, fun o ho => absurd ho List.not_mem_nil⟩
  · split
    · refine ⟨rfl, fun o ho => ?_⟩
      obtain ⟨b, -, rfl⟩ := List.mem_map.1 ho
      rfl
    · exact ⟨rfl, fun o ho => absurd ho List.not_mem_nil⟩

/-! ## Lane commands -/

/-- The state with the command of a lane accepted (R129): its schedule cancelled, the bookings and degraded lanes reported. -/
def State.laneSet (s : State) (n : Nat) (d : Drive) : State :=
  let t := (s.cancelSchedule n).1.onHub fun h => h.put (laneIdx n 0) 1 (driveCode d) true
  State.notify { t with hub := s.hub.rebook t.hub } (s.hub.degradedNotices t.hub)

theorem State.laneSet_dealt (s : State) (n : Nat) (d : Drive) :
    (s.laneSet n d).dealt = (s.onHub fun h => h.put (laneIdx n 0) 1 (driveCode d) true).dealt := by
  have put : ∀ t : State, t.dealt = s.dealt →
      (t.onHub fun h => h.put (laneIdx n 0) 1 (driveCode d) true).dealt = (s.onHub fun h => h.put (laneIdx n 0) 1 (driveCode d) true).dealt :=
    fun t e => congrArg (fun x => (x.1, x.2.1, x.2.2.1, x.2.2.2.1.put (objKey (laneIdx n 0) 1) (driveCode d),
      x.2.2.2.2.1.put (objKey (laneIdx n 0) 1) (driveCode d), x.2.2.2.2.2)) e
  have rebooked : ∀ t : State, ({ t with hub := s.hub.rebook t.hub } : State).dealt = t.dealt := by
    intro t
    unfold Hub.rebook
    split <;> rfl
  exact (State.notify_dealt _ _ (Hub.degradedNotices_quiet _ _)).trans ((rebooked _).trans (put _ (s.cancelSchedule_dealt n).1))

/-- The orders of a lane command: the cancelled schedule, then the command for each channel, with one tag where several banks act together (R128). -/
def State.laneCommandOrders (s : State) (n : Nat) (d : Drive) : List Order :=
  (s.cancelSchedule n).2
    ++ (s.laneSet n d).hub.laneOrders n ((s.laneSet n d).tagOf ((s.laneSet n d).hub.laneBanks n)) false fun p => .setNormal p d

/-- A lane command that is allowed (R27, R129, R459, R493). -/
theorem State.laneCommand_allowed {s : State} {n : Nat} {d : Drive} (allowed : s.hub.commandRefusal n d = 0) (still : s.hub.migrating n = false)
    (bank : s.hub.needsBank n = 0) (ungoverned : ¬(s.hub.command n = .off ∧ d ≠ .off ∧ (s.hub.governed n).isSome = true)) :
    s.laneCommand n d = (s.laneSet n d).command (s.laneCommandOrders n d) := by
  unfold State.laneCommand
  dsimp only
  rw [if_neg (by simp [allowed]), if_neg (by simp [still]), if_neg ungoverned, if_neg (by simp [bank])]
  rfl

/-- Objects of different lanes have keys of their own. -/
theorem objKey_lane {n m : Nat} (g sub : Nat) (h : n ≠ m) : objKey (laneIdx n g) sub ≠ objKey (laneIdx m g) sub := by
  unfold objKey laneIdx
  omega

/-- No object of a lane has the key of a map entry. -/
theorem objKey_map {n g sub m : Nat} (hn : n < 48) (hg : g < 16) (hs : sub < 256) : objKey 0x3402 (m + 1) ≠ objKey (laneIdx n g) sub := by
  unfold objKey laneIdx
  omega

/-- The channels of a lane after a value of some lane has been accepted. -/
theorem Hub.chansOf_of_put {h k : Hub} {lane g sub v : Nat} (n : Nat) (hl : lane < 48) (hg : g < 16) (hs : sub < 256)
    (e : k.run.accepted = h.run.accepted.put (objKey (laneIdx lane g) sub) v) : k.chansOf n = h.chansOf n := by
  unfold Hub.chansOf Hub.entry Hub.val
  rw [e, Values.get?_put, if_neg (objKey_map hl hg hs)]

/-- The order that gives a channel of a lane its command, tagged where several banks act together (R128). -/
def State.driveOrder (s : State) (n : Nat) (d : Drive) (ch : Nat) : Order :=
  { bank := ch / 12, lane := n, tag := s.tagOf (s.hub.laneBanks n), cmd := .setNormal (ch % 12) d }

/-- What a lane command that is allowed leaves (R128, R129). -/
theorem State.laneCommand_leaves {s : State} {k at_ n : Nat} {d : Drive} (hn : n < 48) (shaped : s.hub.links.length = 4 ∧ s.hub.views.length = 4)
    (going : s.hub.stopping = false) (bank : s.hub.needsBank n = 0) :
    let t := ((s.laneSet n d).command (s.laneCommandOrders n d)).finish { session := k, arrival := at_ }
    Ready.awaited s t k ∧ Ready.given t (laneIdx n 0) 1 (driveCode d) ∧ t.hub.act (laneIdx n 0) 1 0 = driveCode d
      ∧ (∀ m, m ≠ n → t.hub.command m = s.hub.command m)
      ∧ ∀ ch ∈ s.hub.chansOf n, s.hub.present (ch / 12) = true → ∃ r ∈ (t.hub.link (ch / 12)).queue,
          r.cmd.cmd = .setNormal (ch % 12) d ∧ r.cmd.tag = s.tagOf (s.hub.laneBanks n) := by
  have dealt := s.laneSet_dealt n d
  unfold State.laneCommandOrders
  generalize s.laneSet n d = u at dealt ⊢
  simp only [State.dealt, State.onHub, Hub.put, Hub.onRun, Prod.mk.injEq, if_true] at dealt
  obtain ⟨now, links, views, accepted, inForce, waiting, stop⟩ := dealt
  have present : ∀ b, u.hub.present b = s.hub.present b := fun b => by unfold Hub.present; rw [views]
  have chans : u.hub.chansOf n = s.hub.chansOf n := Hub.chansOf_of_put n hn (by decide) (by decide) accepted
  have stopping : u.hub.stopping = false := by unfold Hub.stopping at going ⊢; rw [stop]; exact going
  have banks : u.hub.laneBanks n = s.hub.laneBanks n := by
    unfold Hub.laneBanks
    rw [chans, show u.hub.present = s.hub.present from funext present]
  have tag : u.tagOf (s.hub.laneBanks n) = s.tagOf (s.hub.laneBanks n) := by
    unfold State.tagOf State.tagFor State.cycle Hub.link
    rw [now, links]
  have orders : u.hub.laneOrders n (u.tagOf (u.hub.laneBanks n)) false (fun p => .setNormal p d) = (s.hub.chansOf n).map (s.driveOrder n d) := by
    unfold Hub.laneOrders
    rw [banks, tag, chans]
    rfl
  rw [orders]
  obtain ⟨links', accepted', inForce'⟩ := u.command_finish ((s.cancelSchedule n).2 ++ (s.hub.chansOf n).map (s.driveOrder n d)) k at_
  refine ⟨?_, ?_, ?_, fun m other => ?_, fun ch hc hp => ?_⟩
  · obtain ⟨-, ch, hc, hp⟩ := Hub.needsBank_none bank
    have waits := State.command_waits k at_ stopping
      (List.mem_append_right (s.cancelSchedule n).2 (List.mem_map_of_mem (f := s.driveOrder n d) hc)) ((present _).trans hp)
    unfold Ready.awaited at waits ⊢
    rwa [waiting] at waits
  · unfold Ready.given
    rw [accepted', accepted, Values.get?_put, if_pos rfl]
  · unfold Hub.act
    rw [inForce', inForce, Values.get?_put, if_pos rfl]
    rfl
  · unfold Hub.command Hub.lane Hub.val
    rw [accepted', accepted, Values.get?_put, if_neg (objKey_lane 0 1 other)]
  · unfold Hub.link
    rw [links']
    exact Hub.order_chans (order := s.driveOrder n d) stopping (by rw [links]; exact shaped.1) (by rw [views]; exact shaped.2)
      ((present _).trans hp) hc (fun _ => rfl) (fun _ => rfl) (s.cancelSchedule_dealt n).2

theorem Ready.laneFree_iff {s : State} {lane : Nat} {d : Drive} : Ready.laneFree s lane d = true ↔ lane < 48 ∧ s.hub.shaped = true
    ∧ s.hub.commandRefusal lane d = 0 ∧ s.hub.migrating lane = false ∧ s.hub.needsBank lane = 0
    ∧ ¬(s.hub.command lane = .off ∧ d ≠ .off ∧ (s.hub.governed lane).isSome = true) := by
  have negated : ∀ x : Bool, (!x) = true ↔ ¬x = true := by decide
  simp only [Ready.laneFree, Bool.and_eq_true, decide_eq_true_eq, negated, Bool.not_eq_true, and_assoc]

/-- A lane command that a session may write and the lane allows. -/
theorem State.writeLaneNum_commands {s : State} {k lane : Nat} {d : Drive} (h : Ready.mayWrite s k (laneIdx lane 0) 1 (driveCode d) = true)
    (free : Ready.laneFree s lane d = true) : Ready.laneCommanded s k lane d (.next (s.writeLaneNum k lane 0 1 (driveCode d))) := by
  obtain ⟨hl, shaped, allowed, still, bank, ungoverned⟩ := Ready.laneFree_iff.1 free
  obtain ⟨links, views, -⟩ := (Hub.shaped_iff _).1 shaped
  obtain ⟨r, hw⟩ := State.writeLaneNum_lane hl (by decide) h
  have drive : driveOf (driveCode d) = d := by cases d <;> rfl
  have row : (s.usedBy k).writeLane r lane 0 1 (driveCode d) = (s.usedBy k).laneCommand lane (driveOf (driveCode d)) := rfl
  rw [hw, row, drive, State.laneCommand_allowed (s := s.usedBy k) allowed still bank ungoverned]
  obtain ⟨awaited, given, inForce, others, queued⟩ := State.laneCommand_leaves (s := s.usedBy k) (k := k) (at_ := s.now) (d := d) hl ⟨links, views⟩
    (Ready.mayWrite_going h) bank
  refine ⟨_, rfl, awaited, given, inForce, others, fun ch hc hp => ?_⟩
  obtain ⟨r, hr, cmd, tag⟩ := queued ch hc hp
  exact List.any_eq_true.2 ⟨r, hr, Bool.and_eq_true_iff.2 ⟨decide_eq_true cmd, decide_eq_true tag⟩⟩

/-- A lane command that is refused (R27, R123, R129) sends nothing. -/
theorem State.writeLaneNum_refused {s : State} {k lane : Nat} {d : Drive} (hl : lane < 48)
    (h : Ready.mayWrite s k (laneIdx lane 0) 1 (driveCode d) = true) (refused : s.hub.commandRefusal lane d ≠ 0) :
    s.writeLaneNum k lane 0 1 (driveCode d) = (s.usedBy k).replied (s.hub.commandRefusal lane d) := by
  obtain ⟨r, hw⟩ := State.writeLaneNum_lane hl (by decide) h
  have drive : driveOf (driveCode d) = d := by cases d <;> rfl
  have row : (s.usedBy k).writeLane r lane 0 1 (driveCode d) = (s.usedBy k).laneCommand lane (driveOf (driveCode d)) := rfl
  have denied : (s.usedBy k).laneCommand lane d = (s.usedBy k).deny (s.hub.commandRefusal lane d) := if_pos refused
  rw [hw, row, drive, denied, Written.finish_deny _ _ _ _ refused]

/-! ## Unlocks and snapshots -/

theorem Ready.unlockable_iff {s : State} {lane : Nat} : Ready.unlockable s lane = true ↔ lane < 48 ∧ s.hub.shaped = true ∧ s.hub.needsBank lane = 0
    ∧ s.hub.command lane = .off ∧ (s.hub.chansOf lane).any s.hub.chanOn = false
    ∧ s.hub.anySeen lane (fun _ _ x => decide (500 * x.cfg.prot.budget ≤ x.clamp.energy)) = false := by
  simp only [Ready.unlockable, Bool.and_eq_true, decide_eq_true_eq, Bool.not_eq_true', and_assoc]

/-- An unlock that is allowed (R178). -/
theorem State.laneUnlock_allowed {s : State} {n : Nat} (bank : s.hub.needsBank n = 0) (off : s.hub.command n = .off)
    (dark : (s.hub.chansOf n).any s.hub.chanOn = false)
    (cool : s.hub.anySeen n (fun _ _ x => decide (500 * x.cfg.prot.budget ≤ x.clamp.energy)) = false) :
    s.laneUnlock n = s.command (s.hub.laneOrders n none false .unlock) := by
  unfold State.laneUnlock
  dsimp only
  rw [if_neg (by simp [bank]), if_neg (by simp [off, dark, cool])]

/-- An unlock is queued for the present channels of its lane (R178). -/
theorem State.laneUnlock_leaves {s : State} {k at_ n : Nat} (shaped : s.hub.links.length = 4 ∧ s.hub.views.length = 4)
    (going : s.hub.stopping = false) (bank : s.hub.needsBank n = 0) :
    let t := (s.command (s.hub.laneOrders n none false .unlock)).finish { session := k, arrival := at_ }
    Ready.awaited s t k ∧ Ready.onLinks s t (s.hub.chansOf n) .unlock ∧ t.hub.run.accepted = s.hub.run.accepted := by
  obtain ⟨links, accepted, -⟩ := s.command_finish (s.hub.laneOrders n none false .unlock) k at_
  have ordered : ∀ ch ∈ s.hub.chansOf n, ({ bank := ch / 12, lane := n, cmd := .unlock (ch % 12) } : Order) ∈ s.hub.laneOrders n none false .unlock :=
    fun ch hc => List.mem_map_of_mem hc
  refine ⟨?_, fun ch hc hp => Ready.onLink_of ?_, accepted⟩
  · obtain ⟨-, ch, hc, hp⟩ := Hub.needsBank_none bank
    exact State.command_waits k at_ going (ordered ch hc) hp
  · obtain ⟨r, hr, cmd, -⟩ := Hub.order_reaches going shaped.1 shaped.2 hp (ordered ch hc) (.inl rfl)
    unfold Hub.link
    rw [links]
    exact ⟨r, hr, cmd⟩

/-- The order of a snapshot for a bank of the lane: one tag for every present bank (R196). -/
def State.snapshotOrder (s : State) (n b : Nat) : Order :=
  { bank := b, lane := n, tag := some (s.tagFor (s.hub.laneBanks n)), cmd := .snapshot (s.tagFor (s.hub.laneBanks n) / cycleTime) }

def State.snapshotOrders (s : State) (n : Nat) : List Order := (s.hub.laneBanks n).map (s.snapshotOrder n)

/-- A snapshot that is allowed (R196). -/
theorem State.laneSnapshot_allowed {s : State} {n : Nat} (bank : s.hub.needsBank n = 0) :
    s.laneSnapshot n =
      { state := ({ s with hub := (s.hub.order (s.snapshotOrders n)).1 } : State).onHub fun h => h.onRun fun r =>
          { r with snapWait := r.snapWait ++ [(n, s.tagFor (s.hub.laneBanks n) / cycleTime, (s.hub.order (s.snapshotOrders n)).2)] }
        ids := (s.hub.order (s.snapshotOrders n)).2 } := by
  unfold State.laneSnapshot
  rw [if_neg (by simp [bank])]
  rfl

/-- A snapshot is queued with one tag for every present bank of its lane (R196). -/
theorem State.laneSnapshot_leaves {s : State} {k at_ n : Nat} (shaped : s.hub.links.length = 4 ∧ s.hub.views.length = 4)
    (going : s.hub.stopping = false) (bank : s.hub.needsBank n = 0) :
    let t := (s.laneSnapshot n).finish { session := k, arrival := at_ }
    Ready.awaited s t k ∧ t.hub.run.snapWait.length = s.hub.run.snapWait.length + 1
      ∧ ∀ b ∈ s.hub.laneBanks n, ∃ r ∈ (t.hub.link b).queue, r.cmd.tag = some (s.tagFor (s.hub.laneBanks n))
          ∧ r.cmd.cmd = .snapshot (s.tagFor (s.hub.laneBanks n) / cycleTime) := by
  have rest := Hub.order_rest (s.snapshotOrders n) s.hub
  have waiting : (s.hub.order (s.snapshotOrders n)).1.run.waiting = s.hub.run.waiting := by rw [rest]
  have snapWait : (s.hub.order (s.snapshotOrders n)).1.run.snapWait = s.hub.run.snapWait := by rw [rest]
  have ordered : ∀ b ∈ s.hub.laneBanks n, s.snapshotOrder n b ∈ s.snapshotOrders n := fun b hb => List.mem_map_of_mem hb
  have present : ∀ b ∈ s.hub.laneBanks n, s.hub.present b = true := fun b hb => (List.mem_filter.1 hb).2
  have queued : ∀ b ∈ s.hub.laneBanks n, ∃ r ∈ ((s.hub.order (s.snapshotOrders n)).1.link b).queue,
      r.cmd.tag = some (s.tagFor (s.hub.laneBanks n)) ∧ r.cmd.cmd = .snapshot (s.tagFor (s.hub.laneBanks n) / cycleTime) := fun b hb => by
    obtain ⟨r, hr, cmd, tag⟩ := Hub.order_reaches (o := s.snapshotOrder n b) going shaped.1 shaped.2 (present b hb) (ordered b hb) (.inl rfl)
    exact ⟨r, hr, tag, cmd⟩
  obtain ⟨b, hb⟩ := List.exists_mem_of_ne_nil _ (Hub.needsBank_none bank).1
  have sent : (s.hub.order (s.snapshotOrders n)).2 ≠ [] := Hub.order_ids going (ordered b hb) (present b hb)
  rw [State.laneSnapshot_allowed bank, Written.finish_waits _ rfl sent]
  generalize s.hub.order (s.snapshotOrders n) = sentTo at waiting snapWait queued ⊢
  refine ⟨Ready.awaited_of (congrArg (· ++ _) waiting), ?_, queued⟩
  simp only [State.onHub, Hub.onRun, List.length_append, snapWait, List.length_singleton]

/-- Settles O34: each command as the orders of its lane, which are kept, queued and awaited. -/
theorem laneCommandsReachTheBanks : Obligations.LaneCommandsReachTheBanks := by
  refine ⟨fun s k lane h free => State.writeLaneNum_commands h free, fun s k lane h free => State.writeLaneNum_commands h free,
    fun s k lane h free => State.writeLaneNum_commands h free, fun s k lane hl h refused => ⟨_, rfl, ?_⟩, fun s k lane h ready => ⟨_, rfl, ?_⟩,
    fun s k lane hl shaped h bank => ⟨_, rfl, ?_⟩⟩
  · have row : s.writeLaneNum k lane 0 1 1 = _ := State.writeLaneNum_refused (d := .on) hl h refused
    rw [row]
    exact ⟨rfl, rfl, rfl⟩
  · obtain ⟨hl, shaped, bank, off, dark, cool⟩ := Ready.unlockable_iff.1 ready
    obtain ⟨links, views, -⟩ := (Hub.shaped_iff _).1 shaped
    obtain ⟨r, hw⟩ := State.writeLaneNum_lane hl (by decide) h
    have row : (s.usedBy k).writeLane r lane 4 0x19 1 = (s.usedBy k).laneUnlock lane := rfl
    rw [hw, row, State.laneUnlock_allowed (s := s.usedBy k) bank off dark cool]
    exact State.laneUnlock_leaves (s := s.usedBy k) ⟨links, views⟩ (Ready.mayWrite_going h) bank
  · obtain ⟨links, views, -⟩ := (Hub.shaped_iff _).1 shaped
    obtain ⟨r, hw⟩ := State.writeLaneNum_lane hl (by decide) h
    have row : (s.usedBy k).writeLane r lane 4 0x1A 1 = (s.usedBy k).laneSnapshot lane := rfl
    rw [hw, row]
    obtain ⟨awaited, waits, queued⟩ := State.laneSnapshot_leaves (s := s.usedBy k) (k := k) (at_ := s.now) ⟨links, views⟩
      (Ready.mayWrite_going h) bank
    refine ⟨awaited, waits, fun b hb => ?_⟩
    obtain ⟨r, hr, tag, cmd⟩ := queued b hb
    exact List.any_eq_true.2 ⟨r, hr, Bool.and_eq_true_iff.2 ⟨decide_eq_true tag, decide_eq_true cmd⟩⟩

end Sys2Proof.Machine
end

section
/-! O35: map commits, profile slots, ramp values, shedding priorities, permits and patterns as they are written (R122, R142, R151, R212, R219, R225). -/

namespace Sys2Proof.Machine

/-! ## The map and the profile slots -/

theorem State.store_map (s : State) (o : Origin) (r : ObjRow) {idx : Nat} (sub : Nat) (data : List Byte) (low : 0x3400 ≤ idx) (high : idx < 0x4000) :
    s.store o r idx sub data = s.writeMap r idx sub (leNat data) := by
  unfold State.store
  rw [if_neg (by omega), if_neg (by omega), if_neg (by omega), if_pos high]

/-- A commit is a write of the map (R122). -/
theorem State.writeNum_commit {s : State} {k : Nat} (h : Ready.mayWrite s k 0x3401 1 1 = true) :
    s.writeNum k 0x3401 1 1 = (s.usedBy k).commitWrite.finish { session := k, arrival := s.now } := by
  obtain ⟨r, data, -, -, hw⟩ := State.writeNum_stores h (s.hub.slotTaken_below _ (by decide))
  rw [hw, State.store_map _ _ _ _ _ (by decide) (by decide)]
  rfl

theorem State.commitWrite_faultless {s : State} (free : s.hub.patchWaits = false) (sound : s.hub.mapFault s.hub.stagedMap = none) :
    s.commitWrite = State.accept (s.onHub fun h => h.onRun fun r => { r with commitWait := true, commitResult := 1, commitLane := 0xFF }) := by
  unfold State.commitWrite
  rw [free, sound]
  rfl

theorem State.commitWrite_faulty {s : State} {code lane : Nat} (free : s.hub.patchWaits = false)
    (fault : s.hub.mapFault s.hub.stagedMap = some (code, lane)) :
    s.commitWrite = (s.onHub fun h => h.onRun fun r => { r with commitResult := code, commitLane := lane }).deny 0x0307 := by
  unfold State.commitWrite
  rw [free, fault]
  rfl

/-- A slot that no lane selects is not taken (R142). -/
theorem Ready.slotFree_taken {s : State} {slot : Nat} (free : Ready.slotFree s slot = true) : slot < 16 ∧ s.hub.slotTaken (0x3800 + slot) = false := by
  simp only [Ready.slotFree, Bool.and_eq_true, decide_eq_true_eq, Bool.not_eq_true'] at free
  obtain ⟨low, unused⟩ := free
  refine ⟨low, ?_⟩
  unfold Hub.slotTaken
  rw [Nat.add_sub_cancel_left, unused, Bool.and_false]

/-- A slot takes a value that it admits (R142). -/
theorem State.slotWrite_admits {s : State} (r : ObjRow) {slot sub v : Nat} (admitted : Ready.slotValue s slot sub v = true) :
    s.slotWrite r slot sub v = State.accept (s.keep r (0x3800 + slot) sub v) := by
  simp only [Ready.slotValue, Bool.and_eq_true, Bool.not_eq_true', Bool.and_eq_false_iff, decide_eq_false_iff_not, Bool.not_eq_false',
    Bool.or_eq_false_iff] at admitted
  obtain ⟨⟨steps, limit⟩, unit⟩ := admitted
  unfold State.slotWrite
  dsimp only
  rw [if_neg, if_neg, if_neg, if_neg]
  · rintro ⟨rfl, out⟩
    rcases unit with other | ⟨-, fits⟩
    · exact other rfl
    · simp [fits] at out
  · rintro ⟨rfl, out⟩
    rcases unit with other | ⟨known, -⟩
    · exact other rfl
    · exact known out
  · rintro ⟨low, high, out⟩
    rcases limit with (other | other) | fits
    · exact other low
    · exact other high
    · simp [fits] at out
  · rintro ⟨rfl, many⟩
    rcases steps with other | few
    · exact other rfl
    · exact few many

/-! ## Values of a lane and the commands that carry them -/

/-- A value that is kept leaves links, heard banks and the planned stop. -/
theorem State.keep_leaves (s : State) (r : ObjRow) (idx sub v : Nat) :
    (s.keep r idx sub v).hub.links = s.hub.links ∧ (s.keep r idx sub v).hub.views = s.hub.views
      ∧ (s.keep r idx sub v).hub.run.stop = s.hub.run.stop ∧ (s.keep r idx sub v).hub.run.shed = s.hub.run.shed
      ∧ (s.keep r idx sub v).hub.run.accepted = s.hub.run.accepted.put (objKey idx sub) v := by
  unfold State.keep
  dsimp only [State.onHub]
  split <;> exact ⟨rfl, rfl, rfl, rfl, rfl⟩

/-- The values of a hub, and nothing else of it. -/
def Hub.values (h : Hub) : Hub := { run := { accepted := h.run.accepted, inForce := h.run.inForce } }

/-- The load and pattern groups of a lane are made of values alone (R109). -/
theorem Hub.groups_values (h : Hub) (n ch : Nat) : h.values.loadCfg n ch = h.loadCfg n ch ∧ h.values.patternCfg n = h.patternCfg n := ⟨rfl, rfl⟩

/-- A value of a lane is kept, and its group is sent to each present channel (R29). -/
theorem State.laneConfig_leaves {s : State} (r : ObjRow) {k at_ n g sub v i : Nat} (hn : n < 48) (hg : g < 16) (hs : sub < 256)
    (shaped : s.hub.links.length = 4 ∧ s.hub.views.length = 4) (going : s.hub.stopping = false) (group : Hub → Nat → BankCmd)
    (orders : ∀ h : Hub, h.laneConfig n g sub = (h.chansOf n).map fun ch => { bank := ch / 12, lane := n, cmd := group h ch })
    (target : ∀ h ch, (group h ch).target = some (i, ch % 12)) (values : ∀ h ch, group h.values ch = group h ch) :
    let u := s.keep r (laneIdx n g) sub v
    let t := (u.command (u.hub.laneConfig n g sub)).finish { session := k, arrival := at_ }
    Ready.given t (laneIdx n g) sub v
      ∧ ∀ ch ∈ s.hub.chansOf n, s.hub.present (ch / 12) = true → Ready.onLink t (ch / 12) (group t.hub ch) = true := by
  intro u t
  obtain ⟨links, views, stop, -, accepted⟩ : u.hub.links = s.hub.links ∧ u.hub.views = s.hub.views ∧ u.hub.run.stop = s.hub.run.stop
    ∧ u.hub.run.shed = s.hub.run.shed ∧ u.hub.run.accepted = s.hub.run.accepted.put (objKey (laneIdx n g) sub) v := s.keep_leaves ..
  obtain ⟨links', accepted', inForce'⟩ : t.hub.links = (u.hub.order (u.hub.laneConfig n g sub)).1.links ∧ t.hub.run.accepted = u.hub.run.accepted
    ∧ t.hub.run.inForce = u.hub.run.inForce := u.command_finish ..
  refine ⟨?_, fun ch hc hp => Ready.onLink_of ?_⟩
  · unfold Ready.given
    rw [accepted', accepted, Values.get?_put, if_pos rfl]
  · have same : t.hub.values = u.hub.values := by unfold Hub.values; rw [accepted', inForce']
    have chans : u.hub.chansOf n = s.hub.chansOf n := Hub.chansOf_of_put n hn hg hs accepted
    have sent : group t.hub ch = group u.hub ch := by rw [← values, same, values]
    rw [orders, chans] at links'
    obtain ⟨r, hr, cmd, -⟩ := Hub.order_chans (pre := []) (h := u.hub) (order := fun ch => { bank := ch / 12, lane := n, cmd := group u.hub ch })
      (by unfold Hub.stopping at going ⊢; rw [stop]; exact going) (by rw [links]; exact shaped.1) (by rw [views]; exact shaped.2)
      (by unfold Hub.present at hp ⊢; rw [views]; exact hp) hc (fun _ => rfl) (fun c => target u.hub c) (by simp)
    unfold Hub.link
    rw [links', sent]
    exact ⟨r, hr, cmd⟩

/-- The ramp values of a lane are sent with its load group (R151). -/
theorem State.writeLane_ramp {s : State} (r : ObjRow) {k at_ n v : Nat} (rate : Bool) (hn : n < 48)
    (shaped : s.hub.links.length = 4 ∧ s.hub.views.length = 4) (going : s.hub.stopping = false) :
    let t := (s.writeLane r n 3 (if rate then 4 else 5) v).finish { session := k, arrival := at_ }
    Ready.given t (laneIdx n 3) (if rate then 4 else 5) v
      ∧ ∀ ch ∈ s.hub.chansOf n, s.hub.present (ch / 12) = true → Ready.onLink t (ch / 12) (.setLoad (ch % 12) (t.hub.loadCfg n ch)) = true := by
  have sub : (if rate then 4 else 5) < 256 := by cases rate <;> decide
  have row : s.writeLane r n 3 (if rate then 4 else 5) v = (s.keep r (laneIdx n 3) (if rate then 4 else 5) v).command
      ((s.keep r (laneIdx n 3) (if rate then 4 else 5) v).hub.laneConfig n 3 (if rate then 4 else 5)) := by cases rate <;> rfl
  rw [row]
  exact State.laneConfig_leaves (i := 3) r hn (by decide) sub shaped going (fun h ch => .setLoad (ch % 12) (h.loadCfg n ch))
    (fun h => List.map_eq_flatMap.symm) (fun _ _ => rfl) fun h ch => congrArg _ (h.groups_values n ch).1

/-- A pattern entry that the lane allows is sent with the patterns of the lane (R225). -/
theorem State.writeLane_pattern {s : State} (r : ObjRow) {k at_ n v : Nat} (glide : Bool) (hn : n < 48)
    (shaped : s.hub.links.length = 4 ∧ s.hub.views.length = 4) (going : s.hub.stopping = false) (routed : v = 2 → s.hub.noInput n = false) :
    let t := (s.writeLane r n 6 (if glide then 2 else 1) v).finish { session := k, arrival := at_ }
    Ready.given t (laneIdx n 6) (if glide then 2 else 1) v
      ∧ ∀ ch ∈ s.hub.chansOf n, s.hub.present (ch / 12) = true → Ready.onLink t (ch / 12) (.setPattern (ch % 12) (t.hub.patternCfg n)) = true := by
  have sub : (if glide then 2 else 1) < 256 := by cases glide <;> decide
  have allowed : s.hub.laneRefusal n 6 (if glide then 2 else 1) v = 0 := by
    have input : ¬(v = 2 ∧ s.hub.noInput n = true) := fun ⟨follow, unrouted⟩ => Bool.false_ne_true ((routed follow).symm.trans unrouted)
    cases glide <;> exact if_neg input
  have row : s.writeLane r n 6 (if glide then 2 else 1) v = (s.keep r (laneIdx n 6) (if glide then 2 else 1) v).command
      ((s.keep r (laneIdx n 6) (if glide then 2 else 1) v).hub.laneConfig n 6 (if glide then 2 else 1)) := by
    cases glide <;> exact if_neg (not_not.2 allowed)
  rw [row]
  exact State.laneConfig_leaves (i := 1) r hn (by decide) sub shaped going (fun h ch => .setPattern (ch % 12) (h.patternCfg n))
    (fun h => List.map_eq_flatMap.symm) (fun _ _ => rfl) fun h ch => congrArg _ (h.groups_values n ch).2

/-! ## Shedding priorities -/

/-- The orders that end each shed hold that stands on a channel of the lane or is on its way (R212). -/
def Hub.unshedOrders (h : Hub) (n : Nat) : List Order :=
  (List.range 4).flatMap fun by_ => ((h.chansOf n).filter fun ch => h.mayBeShed ch by_).map fun ch =>
    { bank := ch / 12, lane := n, cmd := .shed (ch % 12) by_ false }

/-- A lane taken out of the groups of a bank. -/
def ungrouped (n : Nat) (l : List (Nat × List Nat)) : List (Nat × List Nat) :=
  (l.map fun g => (g.1, g.2.filter (· != n))).filter fun g => !g.2.isEmpty

theorem ungrouped_without (n : Nat) (l : List (Nat × List Nat)) : ∀ g ∈ ungrouped n l, n ∉ g.2 := by
  intro g hg member
  obtain ⟨kept, -, rfl⟩ := List.mem_map.1 (List.mem_filter.1 hg).1
  simpa using (List.mem_filter.1 member).2

/-- A priority other than 0 is kept (R212). -/
theorem State.shedPriority_keeps (s : State) (r : ObjRow) (n : Nat) {v : Nat} (h : v ≠ 0) : s.shedPriority r n v = s.keep r (laneIdx n 5) 2 v := if_pos h

/-- A priority of 0 takes the lane out of the shed groups and ends its shed holds (R212). -/
theorem State.shedPriority_zero {s : State} (r : ObjRow) {n : Nat} (hn : n < 48) :
    s.shedPriority r n 0 = { s.keep r (laneIdx n 5) 2 0 with
      hub := ((s.keep r (laneIdx n 5) 2 0).hub.order (s.hub.unshedOrders n)).1.onRun fun r => { r with shed := r.shed.map (ungrouped n) } } := by
  obtain ⟨links, views, -, -, accepted⟩ := s.keep_leaves r (laneIdx n 5) 2 0
  have chans := Hub.chansOf_of_put n hn (by decide) (by decide) accepted
  have holds : (s.keep r (laneIdx n 5) 2 0).hub.mayBeShed = s.hub.mayBeShed := by
    funext ch by_
    unfold Hub.mayBeShed Hub.viewChan Hub.view Hub.link
    rw [links, views]
  unfold Hub.unshedOrders
  rw [← chans, ← holds]
  rfl

/-- What a priority of 0 leaves (R212). -/
theorem State.shedPriority_leaves {s : State} (r : ObjRow) {n : Nat} (hn : n < 48) (going : s.hub.stopping = false) :
    let t := s.shedPriority r n 0
    Ready.given t (laneIdx n 5) 2 0 ∧ (∀ l ∈ t.hub.run.shed, ∀ g ∈ l, n ∉ g.2)
      ∧ ∀ ch ∈ s.hub.chansOf n, ∀ b, b < 4 → s.hub.mayBeShed ch b = true → s.hub.present (ch / 12) = true →
          s.hub.links.length = 4 ∧ s.hub.views.length = 4 → Ready.onLink t (ch / 12) (.shed (ch % 12) b false) = true := by
  obtain ⟨links, views, stop, -, -⟩ := s.keep_leaves r (laneIdx n 5) 2 0
  have kept := s.keep_given r (laneIdx n 5) 2 0
  rw [State.shedPriority_zero r hn]
  unfold Ready.given at kept ⊢
  generalize s.keep r (laneIdx n 5) 2 0 = u at links views stop kept ⊢
  have accepted : (u.hub.order (s.hub.unshedOrders n)).1.run.accepted = u.hub.run.accepted := by rw [Hub.order_rest]
  have ended : ∀ ch ∈ s.hub.chansOf n, ∀ b, b < 4 → s.hub.mayBeShed ch b = true → s.hub.present (ch / 12) = true →
      s.hub.links.length = 4 ∧ s.hub.views.length = 4 →
      ∃ q ∈ ((u.hub.order (s.hub.unshedOrders n)).1.link (ch / 12)).queue, q.cmd.cmd = .shed (ch % 12) b false := by
    intro ch hc b hb shed hp shaped
    have ordered : ({ bank := ch / 12, lane := n, cmd := .shed (ch % 12) b false } : Order) ∈ s.hub.unshedOrders n :=
      List.mem_flatMap.2 ⟨b, List.mem_range.2 hb, List.mem_map.2 ⟨ch, List.mem_filter.2 ⟨hc, shed⟩, rfl⟩⟩
    obtain ⟨q, hq, cmd, -⟩ := Hub.order_reaches (h := u.hub) (by unfold Hub.stopping at going ⊢; rw [stop]; exact going)
      (by rw [links]; exact shaped.1) (by rw [views]; exact shaped.2) (by unfold Hub.present at hp ⊢; rw [views]; exact hp) ordered (.inl rfl)
    exact ⟨q, hq, cmd⟩
  generalize u.hub.order (s.hub.unshedOrders n) = sent at accepted ended ⊢
  refine ⟨(congrArg (fun v : Values => v.get? (objKey (laneIdx n 5) 2)) accepted).trans kept, fun l hl g hg => ?_,
    fun ch hc b hb shed hp shaped => Ready.onLink_of (ended ch hc b hb shed hp shaped)⟩
  obtain ⟨old, -, rfl⟩ := List.mem_map.1 hl
  exact ungrouped_without n old g hg

/-- Settles O35: each write as its row, what it keeps, and the orders that carry it. -/
theorem mapSlotsAndLaneParametersAreWritten : Obligations.MapSlotsAndLaneParametersAreWritten := by
  refine ⟨fun s k h free sound => ⟨_, rfl, ?_⟩, fun s k code lane h free fault => ⟨_, rfl, ?_⟩,
    fun s k slot sub value h free admitted => ⟨_, rfl, ?_⟩, fun s k lane rate value hl shaped h => ⟨_, rfl, ?_⟩,
    fun s k lane priority hl h => ⟨_, rfl, ?_⟩, fun s k value h => ⟨_, rfl, ?_⟩,
    fun s k lane glide value hl shaped h routed => ⟨_, rfl, ?_⟩⟩
  · rw [State.writeNum_commit h, State.commitWrite_faultless (s := s.usedBy k) free sound, Written.finish_accept]
    exact ⟨rfl, rfl, rfl⟩
  · rw [State.writeNum_commit h, State.commitWrite_faulty (s := s.usedBy k) free fault, Written.finish_deny _ _ _ _ (by decide)]
    exact ⟨rfl, rfl, rfl, rfl⟩
  · obtain ⟨low, unused⟩ := Ready.slotFree_taken free
    obtain ⟨r, -, -, hw⟩ := State.writeRow_stores h unused
    have map : (s.usedBy k).writeMap r (0x3800 + slot) sub (leNat value) = (s.usedBy k).slotWrite r slot sub (leNat value) := by
      unfold State.writeMap
      rw [if_neg (by omega), if_neg (by omega), Nat.add_sub_cancel_left]
    rw [if_pos low, hw, State.store_map _ _ _ _ _ (by omega) (by omega), map, State.slotWrite_admits (s := s.usedBy k) r admitted,
      Written.finish_accept]
    exact ⟨rfl, State.keep_given _ _ _ _ _⟩
  · obtain ⟨links, views, -⟩ := (Hub.shaped_iff _).1 shaped
    obtain ⟨r, hw⟩ := State.writeLaneNum_lane hl (by decide) h
    rw [hw]
    exact State.writeLane_ramp (s := s.usedBy k) r rate hl ⟨links, views⟩ (Ready.mayWrite_going h)
  · obtain ⟨r, hw⟩ := State.writeLaneNum_lane hl (by decide) h
    have row : (s.usedBy k).writeLane r lane 5 2 priority = State.accept ((s.usedBy k).shedPriority r lane priority) := rfl
    rw [hw, row, Written.finish_accept]
    by_cases zero : priority = 0
    · subst zero
      obtain ⟨given, ungrouped, ended⟩ := State.shedPriority_leaves (s := s.usedBy k) r hl (Ready.mayWrite_going h)
      generalize (s.usedBy k).shedPriority r lane 0 = t at given ungrouped ended ⊢
      refine ⟨rfl, given, fun _ => ⟨ungrouped, fun ch hc b hb shed hp shaped => ?_⟩, fun other => absurd rfl other⟩
      obtain ⟨links, views, -⟩ := (Hub.shaped_iff _).1 shaped
      exact ended ch hc b hb shed hp ⟨links, views⟩
    · obtain ⟨links, -, -, shed, -⟩ := (s.usedBy k).keep_leaves r (laneIdx lane 5) 2 priority
      rw [State.shedPriority_keeps _ _ _ zero]
      exact ⟨rfl, State.keep_given _ _ _ _ _, fun isZero => absurd isZero zero, fun _ => ⟨shed, links⟩⟩
  · obtain ⟨r, hw⟩ := State.writeNum_device h (by decide) (by decide)
    have row : (s.usedBy k).writeDevice r { session := k, arrival := s.now } 0x2025 5 value = State.accept ((s.usedBy k).keep r 0x2025 5 value) := rfl
    rw [hw, row, Written.finish_accept]
    exact ⟨rfl, State.keep_given _ _ _ _ _⟩
  · obtain ⟨links, views, -⟩ := (Hub.shaped_iff _).1 shaped
    obtain ⟨r, hw⟩ := State.writeLaneNum_lane hl (by decide) h
    rw [hw]
    exact State.writeLane_pattern (s := s.usedBy k) r glide hl ⟨links, views⟩
      (Ready.mayWrite_going h) routed

end Sys2Proof.Machine
end


section
/-! What the driving of a channel leaves: of one that goes on, of one that has tripped, and of one whatever its sources are. -/

namespace Sys2Proof.Machine

/-! ## Channels of a bank that runs -/

theorem Ready.runs_iff {s : State} {ch : Nat} : Ready.runs s ch = true ↔
    ch < 48 ∧ s.shaped = true ∧ (s.bank (ch / 12)).core.running = true ∧ (s.bank (ch / 12)).core.onCourse = true := by
  simp only [Ready.runs, Bool.and_eq_true, decide_eq_true_eq, and_assoc]

theorem Ready.steady_iff {s : State} {ch : Nat} : Ready.steady s ch = true ↔
    Ready.runs s ch = true ∧ (s.chan ch).io.on = true ∧ (s.bank (ch / 12)).core.drives (s.chan ch) = true := by
  simp only [Ready.steady, BankCore.drives, Bool.and_eq_true, Ready.runs_iff]
  tauto

theorem Ready.atTarget_iff {s : State} {ch : Nat} : Ready.atTarget s ch = true ↔
    Ready.steady s ch = true ∧ (s.chan ch).ramp.regulating = true ∧ (s.chan ch).ramp.followsLane = true
      ∧ (s.chan ch).ramp.target = (s.chan ch).cfg.load.rampTarget := by
  simp only [Ready.atTarget, Bool.and_eq_true, decide_eq_true_eq, and_assoc]

/-- The bank of a channel after an event of it. -/
theorem State.bank_onChan {s : State} {ch : Nat} (hc : ch < 48) (hs : s.shaped = true) (f : Bank → Nat → Nat → Nat → Bank) :
    (s.onChan ch f).bank (ch / 12) = f (s.bank (ch / 12)) (ch / 12) s.now (ch % 12) :=
  State.bank_onBank_same _ _ _ (by rw [State.shaped_banks hs]; omega)

theorem State.position_lt {s : State} {ch : Nat} (hc : ch < 48) (hs : s.shaped = true) : ch % 12 < (s.bank (ch / 12)).core.chans.length := by
  rw [State.shaped_chans hs (ch / 12) (by omega)]
  exact Nat.mod_lt _ (by decide)

/-! ## A channel that goes on -/

/-- A channel that is driven on: on, with its trip and sense state, its window but for a freeze, and its ramp but for its pace and its source. -/
structure Chan.GoesOn (x y : Chan) : Prop where
  on : y.io.on = true
  trip : y.trip = x.trip
  sense : y.sense = x.sense
  step : y.window.step = x.window.step
  running : y.window.running = x.window.running
  spent : y.window.freezeSpent = x.window.freezeSpent
  thaws : x.window.freezeSpent = true → y.window.frozen = false
  ramp : ∃ m l, y.ramp = { x.ramp with movingFrom := m, followsLane := l }

theorem BankCore.freezeChan_running (b : BankCore) (now : Nat) (x : Chan) : (b.freezeChan now x).window.running = x.window.running := by
  unfold BankCore.freezeChan
  dsimp only
  repeat' split
  all_goals rfl

/-- A channel that its sources drive has no expired ramp hold (R149). -/
theorem BankCore.drives_expired {b : BankCore} {x : Chan} (d : b.drives x = true) : x.ramp.expired = false := by
  cases e : x.ramp.expired with
  | false => rfl
  | true => simp [BankCore.drives, BankCore.heldOff, e] at d

theorem BankCore.noted_ramp {b : BankCore} {x : Chan} (now : Nat) (d : b.drives x = true) : (b.noted now x).ramp = x.ramp := by
  unfold BankCore.drives at d
  simp only [Bool.and_eq_true] at d
  simp [BankCore.noted, d.1.1, d.1.2]

/-- A channel on course that is on and driven goes on. -/
theorem BankCore.finish_goesOn {b : BankCore} {x : Chan} (now p : Nat) (on : x.io.on = true) (d : b.drives x = true)
    (course : b.onCourseAt x = true) : x.GoesOn (b.finish now p x) := by
  obtain ⟨l, rule⟩ := b.rampRule_onCourse now (b.noted now x) course
  have lasts : (b.rampRule now (b.noted now x)).ramp.expired = false := by rw [rule]; exact BankCore.drives_expired d
  have settled : b.settleChan now p x = b.rampRule now (b.noted now x) := by
    unfold BankCore.settleChan
    rw [BankCore.drive_eq, if_pos d, if_pos on, BankCore.endHold_of _ _ _ _ (.inr lasts)]
  have running : (b.settleChan now p x).window.running = x.window.running := by rw [settled, rule]; rfl
  obtain ⟨on', trip, sense, -, step, -, -, spent, thaws, m, ramp⟩ := b.finish_stay now p x on d lasts
  refine ⟨on', trip, sense, step, (b.freezeChan_running now _).trans running, spent, thaws, m, l, ?_⟩
  rw [ramp, rule]
  dsimp only
  rw [BankCore.noted_ramp now d]

theorem Chan.GoesOn.overdue {x y : Chan} (h : x.GoesOn y) (on : x.io.on = true) (p now : Nat) : y.overdue p now = x.overdue p now := by
  obtain ⟨m, l, ramp⟩ := h.ramp
  unfold Chan.overdue
  rw [h.on, on, h.running, h.trip, ramp]

theorem Chan.overdue_regulating {x : Chan} (p now : Nat) (h : x.ramp.regulating = true) : x.overdue p now = false := by
  simp [Chan.overdue, h]

/-- A channel on course that is off has no ramp. -/
theorem BankCore.rests_of_onCourseAt {b : BankCore} {x : Chan} (h : b.onCourseAt x = true) : x.rests = true := ((b.onCourseAt_iff x).1 h).1

/-! ## Events of one channel that end no ramp too late -/

/-- The channel at a position as an event finds it, its reference brought up to date. -/
def BankCore.chanAt (b : BankCore) (now p : Nat) : Chan := (b.chan p).rebaseRamp b.supply now

theorem BankCore.edits_chans_length {c d : BankCore} {p : Nat} (h : c.Edits p d) : d.chans.length = c.chans.length := congrArg Prod.fst h.tame.1

section
variable {b : Bank} {n now p : Nat} {f : BankCore → BankCore}

/-- An event of a channel ends no ramp too late, if it does not that of the channel itself. -/
theorem Bank.late_of_edits (edits : (b.core.rebase now).Edits p (f (b.core.rebase now))) (course : b.core.onCourse = true)
    (shape : b.core.chans.length = 12) (hp : p < 12)
    (own : (b.core.chan p).ramp.regulating = true →
      ((f (b.core.rebase now)).finish now p ((f (b.core.rebase now)).chan p)).overdue p now = false) : b.core.late now f = [] := by
  rw [List.eq_nil_iff_forall_not_mem]
  intro q late
  have hq : q < 12 := by
    unfold BankCore.late BankCore.overruns at late
    simpa using List.mem_of_mem_filter late
  by_cases e : q = p
  · subst e
    have length := BankCore.edits_chans_length edits
    unfold BankCore.late BankCore.overruns at late
    simp only [List.mem_filter, Bool.and_eq_true] at late
    obtain ⟨-, ⟨⟨-, regulating⟩, -⟩, overdue⟩ := late
    rw [BankCore.rebase_chan _ _ _ (shape ▸ hq)] at regulating
    rw [BankCore.settle_chan _ _ _ _ (by rw [length]; simpa [shape] using hq) (BankCore.leavesToSafe_same _ _ edits.glide), own regulating] at overdue
    exact Bool.false_ne_true overdue
  · exact edits.not_late course (shape ▸ hq) e late

/-- The channel after such an event: as the event's own change leaves it, driven. -/
theorem Bank.act_chan_driven (edits : (b.core.rebase now).Edits p (f (b.core.rebase now))) (course : b.core.onCourse = true)
    (shape : b.core.chans.length = 12) (hp : p < 12)
    (own : (b.core.chan p).ramp.regulating = true →
      ((f (b.core.rebase now)).finish now p ((f (b.core.rebase now)).chan p)).overdue p now = false) :
    (b.act n now f).core.chan p = (f (b.core.rebase now)).finish now p ((f (b.core.rebase now)).chan p)
    ∧ ∀ es, (b.actWith n now es f).core.chan p = (f (b.core.rebase now)).finish now p ((f (b.core.rebase now)).chan p) := by
  have late := Bank.late_of_edits edits course shape hp own
  have length := BankCore.edits_chans_length edits
  have driven := BankCore.settle_chan (b.core.rebase now) (f (b.core.rebase now)) now p (by rw [length]; simpa [shape] using hp)
    (BankCore.leavesToSafe_same _ _ edits.glide)
  refine ⟨?_, fun es => ?_⟩
  · rw [Bank.act_core _ _ _ _ late, driven]
  · rw [Bank.actWith_core _ _ _ _ _ late, driven]

/-- A channel that an event leaves on, driven and on course goes on, unless that event ends its ramp too late. -/
theorem Bank.act_goesOn (edits : (b.core.rebase now).Edits p (f (b.core.rebase now))) (course : b.core.onCourse = true)
    (shape : b.core.chans.length = 12) (hp : p < 12) {x : Chan} (chan : (f (b.core.rebase now)).chan p = x) (on : x.io.on = true)
    (drives : (f (b.core.rebase now)).drives x = true) (at_ : (f (b.core.rebase now)).onCourseAt x = true)
    (own : (b.core.chan p).ramp.regulating = true → x.overdue p now = false) : x.GoesOn ((b.act n now f).core.chan p) := by
  subst chan
  have goes := BankCore.finish_goesOn now p on drives at_
  rw [(Bank.act_chan_driven edits course shape hp fun r => (goes.overdue on p now).trans (own r)).1]
  exact goes

end


/-! ## A channel that trips -/

/-- A channel that has tripped (R168, R169, R172, R174), as `State.tripsOff` says it of a state. -/
structure Chan.TripsTo (x : Chan) (now : Nat) (y : Chan) : Prop where
  off : y.io.on = false
  window : y.window.step = 0
  counted : y.trip.trips = x.trip.trips + 1
  spent : x.cfg.prot.retries ≤ (x.lapseCounts now).trip.retryCount →
    y.trip.latchedAt = some now ∧ y.trip.latchCount = (x.lapseCounts now).trip.latchCount + 1
  backoff : (x.lapseCounts now).trip.retryCount < x.cfg.prot.retries →
    y.trip.backoff = some (now + backoffTime x.cfg.prot ((x.lapseCounts now).trip.retryCount + 1))

/-- A trip looks at the trip state and at the store entry of its channel alone. -/
theorem Chan.TripsTo.congr {x z y : Chan} {now : Nat} (h : x.TripsTo now y) (trip : z.trip = x.trip) (cfg : z.cfg = x.cfg) : z.TripsTo now y := by
  obtain ⟨h1, h2, h3, h4, h5⟩ := h
  unfold Chan.lapseCounts at h4 h5
  refine ⟨h1, h2, by rw [trip, h3], ?_, ?_⟩ <;> unfold Chan.lapseCounts <;> rw [trip, cfg]
  · exact h4
  · exact h5

theorem State.tripsOff_of {s t : State} {ch : Nat} (h : (s.chan ch).TripsTo s.now (t.chan ch)) : s.tripsOff t ch :=
  ⟨h.off, h.window, h.counted, h.spent, h.backoff⟩

/-- The lapse of the counts concerns these two alone (R176). -/
theorem Chan.lapseCounts_eq (x : Chan) (now : Nat) :
    ∃ r l, x.lapseCounts now = { x with trip := { x.trip with retryCount := r, latchCount := l } } := ⟨_, _, rfl⟩

theorem BankCore.turnOff_counts (b : BankCore) (now p rate : Nat) (x : Chan) :
    (b.turnOff now p rate x).cfg = x.cfg ∧ (b.turnOff now p rate x).trip.trips = x.trip.trips
      ∧ (b.turnOff now p rate x).trip.retryCount = x.trip.retryCount ∧ (b.turnOff now p rate x).trip.latchCount = x.trip.latchCount := by
  have kept := b.turnOff_kept now p rate x
  simp only [Chan.kept, Prod.mk.injEq] at kept
  obtain ⟨cfg, -, -, -, -, -, -, trips, latchCount, -⟩ := kept
  have retryCount : (b.turnOff now p rate x).trip.retryCount = (x.suspendWindow b.version now).trip.retryCount := rfl
  exact ⟨cfg, trips, by rw [retryCount, Chan.suspendWindow_trip], latchCount⟩

/-- The edge of a trip leaves a channel off and without a window, with its counts as they were. -/
theorem BankCore.tripEdge_leaves {b : BankCore} {now p rate : Nat} {y z : Chan}
    (edge : (if y.io.on then b.turnOff now p rate y else y).dropWindow now = z) :
    z.io.on = false ∧ z.window.step = 0 ∧ z.cfg = y.cfg ∧ z.trip.trips = y.trip.trips ∧ z.trip.retryCount = y.trip.retryCount
      ∧ z.trip.latchCount = y.trip.latchCount := by
  subst edge
  by_cases on : y.io.on = true
  · rw [if_pos on]
    exact ⟨rfl, rfl, b.turnOff_counts now p rate y⟩
  · rw [if_neg on]
    exact ⟨Bool.eq_false_iff.2 on, rfl, rfl, rfl, rfl, rfl⟩

/-- A trip counts, and begins a latch-off or a back-off as the counts stand at the trip. -/
theorem BankCore.trip_tripsTo (b : BankCore) (now p : Nat) (k : TripKind) (x : Chan) : x.TripsTo now (b.trip now p k x) := by
  have keeps : (x.lapseCounts now).cfg = x.cfg ∧ (x.lapseCounts now).trip.trips = x.trip.trips := by
    obtain ⟨r, l, h⟩ := x.lapseCounts_eq now
    rw [h]
    exact ⟨rfl, rfl⟩
  unfold BankCore.trip
  dsimp only
  generalize hy : x.lapseCounts now = y at keeps
  generalize hz : (if y.io.on then b.turnOff now p (if k = .detection then 0 else slewRate (classAt p) 3) y else y).dropWindow now = z
  obtain ⟨off, window, cfg, trips, retries, latches⟩ := BankCore.tripEdge_leaves hz
  refine ⟨off, window, congrArg (· + 1) (trips.trans keeps.2), fun spent => ?_, fun left => ?_⟩
  · rw [hy, ← keeps.1, ← cfg, ← retries] at spent
    rw [hy, ← latches]
    simp [spent]
  · rw [hy, ← keeps.1, ← cfg, ← retries] at left ⊢
    simp [Nat.not_le.2 left]

/-- Protection holds a channel off that has tripped. -/
theorem Chan.TripsTo.drives {x y : Chan} {now : Nat} (h : x.TripsTo now y) (b : BankCore) : b.drives y = false := by
  have held : b.heldOff y = true := by
    unfold BankCore.heldOff
    rcases Nat.lt_or_ge (x.lapseCounts now).trip.retryCount x.cfg.prot.retries with left | spent
    · simp [h.backoff left]
    · simp [(h.spent spent).1]
  simp [BankCore.drives, held]

/-- A tripped channel stays tripped as it is driven. -/
theorem Chan.TripsTo.finish {x y : Chan} {now : Nat} (h : x.TripsTo now y) (b : BankCore) (p : Nat) : x.TripsTo now (b.finish now p y) := by
  obtain ⟨off, trip, -, -, step, -⟩ := b.finish_rest now p y h.off (h.drives b)
  exact ⟨off, step.trans h.window, trip ▸ h.counted, trip ▸ h.spent, trip ▸ h.backoff⟩

/-- An event that trips one channel has tripped it. -/
theorem Bank.actWith_tripsTo {b : Bank} {n now p : Nat} {f : BankCore → BankCore} {x : Chan} (es : List (Nat × Nat × Nat))
    (edits : (b.core.rebase now).Edits p (f (b.core.rebase now))) (course : b.core.onCourse = true) (shape : b.core.chans.length = 12) (hp : p < 12)
    (trips : x.TripsTo now ((f (b.core.rebase now)).chan p)) : x.TripsTo now ((b.actWith n now es f).core.chan p) := by
  have driven := trips.finish (f (b.core.rebase now)) p
  rw [(Bank.act_chan_driven (n := n) edits course shape hp fun _ => by simp [Chan.overdue, driven.off]).2 es]
  exact driven

/-! ## A ramp that ends too late -/

/-- An event that leaves the ramp of its channel complete with the overload timer at its limit trips that channel alone, and says so (R166). -/
theorem Bank.act_tripsTo {b : Bank} {n now p : Nat} {f : BankCore → BankCore} {x : Chan}
    (edits : (b.core.rebase now).Edits p (f (b.core.rebase now))) (course : b.core.onCourse = true)
    (shape : b.core.chans.length = 12) (hp : p < 12) (on : (b.core.chan p).io.on = true)
    (regulating : (b.core.chan p).ramp.regulating = true) (chan : (f (b.core.rebase now)).finish now p ((f (b.core.rebase now)).chan p) = x)
    (complete : x.ramp.complete = true) (overdue : x.overdue p now = true) :
    x.TripsTo now ((b.act n now f).core.chan p)
      ∧ (b.msgs.length < 16 → (b.act n now f).reports (12 * n) (tripCode .overload) (12 * n + p) = true) := by
  have length := BankCore.edits_chans_length edits
  have hq : p < (f (b.core.rebase now)).chans.length := by rw [length]; simpa [shape] using hp
  have settled : (BankCore.settle (b.core.rebase now) (f (b.core.rebase now)) now).chan p = x :=
    (BankCore.settle_chan _ _ _ _ hq (BankCore.leavesToSafe_same _ _ edits.glide)).trans chan
  have hl : p < (BankCore.settle (b.core.rebase now) (f (b.core.rebase now)) now).chans.length :=
    hq.trans_eq (congrArg Prod.fst (BankCore.settle_sizes _ _ now)).symm
  have late : b.core.late now f = [p] := by
    have mem : p ∈ b.core.late now f := by
      unfold BankCore.late BankCore.overruns
      rw [List.mem_filter, settled, BankCore.rebase_chan _ _ _ (shape ▸ hp)]
      exact ⟨List.mem_range.2 hp, by simp [Chan.rebaseRamp, on, regulating, complete, overdue]⟩
    have only : ∀ q ∈ b.core.late now f, q = p := by
      intro q hl
      have hq : q < 12 := by
        unfold BankCore.late BankCore.overruns at hl
        simpa using List.mem_of_mem_filter hl
      by_contra other
      exact edits.not_late course (shape ▸ hq) other hl
    have nodup : (b.core.late now f).Nodup := List.nodup_range.filter _
    by_contra other
    rcases (nodup.ne_singleton_iff p).1 other with none | ⟨q, hl, hq⟩
    · rw [none] at mem
      exact List.not_mem_nil mem
    · exact hq (only q hl)
  refine ⟨?_, fun room => ?_⟩
  · rw [Bank.act_core_all, late]
    generalize BankCore.settle (b.core.rebase now) (f (b.core.rebase now)) now = after at settled hl
    show x.TripsTo now ((after.settle (after.editChan p fun y => after.trip now p .overload y) now).chan p)
    rw [BankCore.settle_chan _ _ _ _ (by simpa using hl) (by simp), BankCore.chan_editChan_same _ _ _ hl, settled]
    exact (after.trip_tripsTo now p .overload x).finish _ p
  · have lates : (b.core.rebase now).overruns (BankCore.settle (b.core.rebase now) (f (b.core.rebase now)) now) now = [p] := late
    unfold Bank.act Bank.report
    dsimp only
    rw [lates]
    refine Bank.foldl_reports _ _ _ _ (fun _ _ h => Bank.post_reports _ _ _ _ _ _ _ _ _ h) _ _
      (Bank.foldl_reports _ _ _ _ (fun _ _ h => Bank.post_reports _ _ _ _ _ _ _ _ _ h) _ _ ?_)
    exact b.post_new n (12 * n) 2 (12 * n + p) true room

/-! ## Events that edit one channel -/

/-- A bank of twelve channels on course, and a position in it. -/
structure Bank.Whole (b : Bank) (p : Nat) : Prop where
  course : b.core.onCourse = true
  shape : b.core.chans.length = 12
  position : p < 12

/-- A bank on course whose channel at a position is on, as its sources demand. -/
structure Bank.Steady (b : Bank) (p : Nat) : Prop extends Bank.Whole b p where
  on : (b.core.chan p).io.on = true
  drives : b.core.drives (b.core.chan p) = true

theorem Ready.runs_bank {s : State} {ch : Nat} (h : Ready.runs s ch = true) : ch < 48 ∧ s.shaped = true ∧ (s.bank (ch / 12)).Whole (ch % 12) := by
  obtain ⟨hc, hs, -, course⟩ := Ready.runs_iff.1 h
  exact ⟨hc, hs, course, State.shaped_chans hs _ (by omega), Nat.mod_lt _ (by decide)⟩

theorem Ready.steady_bank {s : State} {ch : Nat} (h : Ready.steady s ch = true) :
    ch < 48 ∧ s.shaped = true ∧ (s.bank (ch / 12)).Steady (ch % 12) := by
  obtain ⟨runs, on, drives⟩ := Ready.steady_iff.1 h
  obtain ⟨hc, hs, whole⟩ := Ready.runs_bank runs
  exact ⟨hc, hs, whole, on, drives⟩

theorem Bank.Whole.lt {b : Bank} {p : Nat} (h : b.Whole p) : p < b.core.chans.length := h.shape ▸ h.position

theorem Bank.Whole.onCourseAt {b : Bank} {p : Nat} (h : b.Whole p) : b.core.onCourseAt (b.core.chan p) = true := b.core.onCourse_chan p h.course h.lt

theorem Bank.Steady.running {b : Bank} {p : Nat} (h : b.Steady p) : b.core.running = true := by
  have drives := h.drives
  simp only [BankCore.drives, Bool.and_eq_true] at drives
  exact drives.1.1

theorem BankCore.rebase_editChan_chan {c : BankCore} {now p : Nat} (hp : p < c.chans.length) (g : Chan → Chan) :
    ((c.rebase now).editChan p g).chan p = g (c.chanAt now p) := by
  rw [BankCore.chan_editChan_same _ _ _ (by simpa using hp), BankCore.rebase_chan _ _ _ hp]
  rfl

section
variable {b : Bank} {p : Nat} {now : Nat} {f : BankCore → BankCore} {g : Chan → Chan} {x : Chan}

theorem Bank.Whole.edits (h : b.Whole p) (edit : f (b.core.rebase now) = (b.core.rebase now).editChan p g) (edited : g (b.core.chanAt now p) = x)
    (rests : x.rests = true) : (b.core.rebase now).Edits p (f (b.core.rebase now)) := by
  rw [edit]
  refine BankCore.editChan_edits _ _ _ fun _ => ?_
  rw [BankCore.rebase_chan _ _ _ h.lt]
  exact (congrArg Chan.rests edited).trans rests

/-- A channel that an event edits is driven as edited, unless that event ends its ramp too late. -/
theorem Bank.Whole.edit_driven (h : b.Whole p) (n : Nat) (edit : f (b.core.rebase now) = (b.core.rebase now).editChan p g)
    (edited : g (b.core.chanAt now p) = x) (rests : x.rests = true)
    (own : (b.core.chan p).ramp.regulating = true → (b.core.finish now p x).overdue p now = false) :
    (b.act n now f).core.chan p = b.core.finish now p x := by
  have driven : (f (b.core.rebase now)).finish now p ((f (b.core.rebase now)).chan p) = b.core.finish now p x := by
    rw [edit, BankCore.rebase_editChan_chan h.lt, edited, BankCore.finish_editChan]
  rw [← driven] at own ⊢
  exact (Bank.act_chan_driven (h.edits edit edited rests) h.course h.shape h.position own).1

/-- A channel that an event edits, and leaves on, driven and on course, goes on as edited, unless that event ends its ramp too late. -/
theorem Bank.Whole.edit_goesOn (h : b.Whole p) (n : Nat) (edit : f (b.core.rebase now) = (b.core.rebase now).editChan p g)
    (edited : g (b.core.chanAt now p) = x) (on : x.io.on = true) (drives : b.core.drives x = true) (course : b.core.onCourseAt x = true)
    (own : (b.core.chan p).ramp.regulating = true → x.overdue p now = false) : x.GoesOn ((b.act n now f).core.chan p) := by
  have goes := BankCore.finish_goesOn now p on drives course
  rw [h.edit_driven n edit edited (BankCore.rests_of_onCourseAt course) fun r => (goes.overdue on p now).trans (own r)]
  exact goes

end

end Sys2Proof.Machine
end


section
/-! What stays of a channel whatever drives it: the end of limiting (R165), the end of a stall (R150) and the blanking after a disturbance (R155). -/

namespace Sys2Proof.Machine

/-- The marks of limiting and of a stall, and the blanking. -/
def Chan.marks (x : Chan) : Bool × Bool × Bool × Option Nat × Nat :=
  (x.trip.overload, x.trip.shortCct, x.ramp.stalled, x.ramp.stallFrom, x.io.blankUntil)

/-- What is so of a channel by its marks, and stays through new ramp targets and both edges. -/
structure Chan.Endures (now p : Nat) (P : Chan → Prop) : Prop where
  marks : ∀ {x y : Chan}, y.marks = x.marks → P x → P y
  rule : ∀ (b : BankCore) (x : Chan), P x → P (b.rampRule now x)
  on : ∀ (b : BankCore) (x : Chan), P x → P (b.turnOn now p x)
  off : ∀ (b : BankCore) (rate : Nat) (x : Chan), P x → P (b.turnOff now p rate x)

namespace Chan.Endures

variable {now p : Nat} {P : Chan → Prop} (e : Chan.Endures now p P)
include e

theorem drive (b : BankCore) {x : Chan} (h : P x) : P (b.drive now p x) := by
  have noted : P (b.noted now x) := e.marks (x := x) rfl h
  rw [BankCore.drive_eq]
  split
  · split
    · exact e.rule b _ noted
    · split
      · exact e.marks (x := b.noted now x) rfl noted
      · exact e.on b _ noted
  · split
    · exact e.off b _ _ noted
    · exact noted

theorem finish (b : BankCore) {x : Chan} (h : P x) : P (b.finish now p x) := by
  have settled : P (b.settleChan now p x) := by
    unfold BankCore.settleChan BankCore.endHold
    split
    · exact e.off b _ _ (e.drive b h)
    · exact e.drive b h
  obtain ⟨io, trip, -, -, -, -, -, m, ramp⟩ := b.finish_of now p x
  refine e.marks ?_ settled
  unfold Chan.marks
  rw [io, trip, ramp]

theorem trip (b : BankCore) (k : TripKind) {x : Chan} (h : P x) : P (b.trip now p k x) := by
  have lapsed : P (x.lapseCounts now) := by
    obtain ⟨r, l, lapse⟩ := x.lapseCounts_eq now
    rw [lapse]
    exact e.marks (x := x) rfl h
  unfold BankCore.trip
  dsimp only
  generalize x.lapseCounts now = y at lapsed
  refine e.marks (x := if y.io.on then b.turnOff now p (if k = .detection then 0 else slewRate (classAt p) 3) y else y) rfl ?_
  split
  · exact e.off b _ y lapsed
  · exact lapsed

/-- What an event establishes of a channel so, is so after the event, through driving and late trips. -/
theorem act {b : Bank} {f : BankCore → BankCore} (n : Nat) (glide : (f (b.core.rebase now)).glideOn = b.core.glideOn)
    (length : p < (f (b.core.rebase now)).chans.length) (h : P ((f (b.core.rebase now)).chan p)) : P ((b.act n now f).core.chan p) := by
  refine (Bank.act_induct (P := fun c => p < c.chans.length ∧ P (c.chan p)) ?_ ?_ b n f glide ⟨length, h⟩).2
  · rintro x c stays ⟨hp, hc⟩
    refine ⟨hp.trans_eq (congrArg Prod.fst (BankCore.settle_sizes x c now)).symm, ?_⟩
    rw [BankCore.settle_chan _ _ _ _ hp stays]
    exact e.finish c hc
  · rintro c q ⟨hp, hc⟩
    refine ⟨by simpa using hp, ?_⟩
    by_cases same : p = q
    · subst same
      rw [BankCore.chan_editChan_same _ _ _ hp]
      exact e.trip c .overload hc
    · rw [BankCore.chan_editChan_other _ _ _ _ same]
      exact hc

end Chan.Endures

/-! ## Limiting and stalls that have ended -/

/-- A channel that is not limited (R165). -/
def Chan.Unlimited (x : Chan) : Prop := x.trip.overload = false ∧ x.trip.shortCct = false

/-- A channel that is not limited and whose ramp has not stalled (R150). -/
def Chan.Unstalled (x : Chan) : Prop := x.Unlimited ∧ x.ramp.stalled = false ∧ x.ramp.stallFrom = none

theorem Chan.Unlimited.of_trip {x y : Chan} (h : x.Unlimited) (trip : y.trip = x.trip) : y.Unlimited := by
  unfold Chan.Unlimited
  rw [trip]
  exact h

theorem BankCore.rampRule_io_trip (b : BankCore) (now : Nat) (x : Chan) : (b.rampRule now x).io = x.io ∧ (b.rampRule now x).trip = x.trip := by
  have apart := b.rampRule_apart now x
  simp only [Chan.apart, Prod.mk.injEq] at apart
  obtain ⟨-, io, -, trip, -⟩ := apart
  exact ⟨io, trip⟩

theorem BankCore.turnOn_unlimited (b : BankCore) (now p : Nat) {x : Chan} (h : x.Unlimited) : (b.turnOn now p x).Unlimited := by
  obtain ⟨-, -, -, trip, -⟩ := b.turnOn_of now p x
  unfold Chan.Unlimited
  rw [trip]
  exact h

theorem Chan.unlimited_endures (now p : Nat) : Chan.Endures now p Chan.Unlimited where
  marks same h := by
    simp only [Chan.marks, Prod.mk.injEq] at same
    obtain ⟨overload, short, -⟩ := same
    exact ⟨overload.trans h.1, short.trans h.2⟩
  rule b x h := h.of_trip (b.rampRule_io_trip now x).2
  on b x h := b.turnOn_unlimited now p h
  off _ _ _ _ := ⟨rfl, rfl⟩

theorem Chan.expireHold_marks (x : Chan) (now : Nat) : (x.expireHold now).marks = x.marks := by
  unfold Chan.expireHold
  split <;> rfl

theorem Chan.beginHold_marks (x : Chan) (supply now : Nat) : (x.beginHold supply now).marks = x.marks := by
  unfold Chan.beginHold
  split
  · exact Chan.expireHold_marks _ now
  · rfl

theorem Chan.Unstalled.of_marks {x y : Chan} (same : y.marks = x.marks) (h : x.Unstalled) : y.Unstalled := by
  simp only [Chan.marks, Prod.mk.injEq] at same
  obtain ⟨overload, short, stalled, from_, -⟩ := same
  obtain ⟨⟨h1, h2⟩, h3, h4⟩ := h
  exact ⟨⟨overload.trans h1, short.trans h2⟩, stalled.trans h3, from_.trans h4⟩

/-- A new target stalls the ramp of a limited channel alone (R150, R152). -/
theorem Chan.Unstalled.retarget {x : Chan} (h : x.Unstalled) (target supply now : Nat) : (x.retarget target supply now).Unstalled := by
  obtain ⟨limits, stalled, from_⟩ := h
  have free : x.limited = false := by simp [Chan.limited, limits.1, limits.2]
  unfold Chan.retarget
  split
  · exact ⟨limits, stalled, from_⟩
  · refine .of_marks (Chan.beginHold_marks _ supply now) ⟨limits, ?_⟩
    dsimp only
    rw [free]
    by_cases complete : x.ramp.complete = true
    · rw [if_pos complete, if_neg Bool.false_ne_true]
      split
      · exact ⟨rfl, rfl⟩
      · exact ⟨stalled, rfl⟩
    · rw [if_neg complete]
      split
      · exact ⟨rfl, rfl⟩
      · exact ⟨stalled, from_⟩

theorem Chan.Unstalled.turnOn {x : Chan} (h : x.Unstalled) (b : BankCore) (now p : Nat) : (b.turnOn now p x).Unstalled := by
  obtain ⟨limits, stalled, from_⟩ := h
  have ramp := (x.windowAtTurnOn_apart b.version now).2.2.2.1
  refine ⟨b.turnOn_unlimited now p limits, ?_⟩
  suffices marks : (b.turnOn now p x).ramp.stalled = x.ramp.stalled ∧ (b.turnOn now p x).ramp.stallFrom = x.ramp.stallFrom from
    ⟨marks.1.trans stalled, marks.2.trans from_⟩
  unfold BankCore.turnOn
  dsimp only
  generalize hy : (Chan.mk _ _ _ _ _ _ _ _ _ : Chan) = y
  have same := Chan.beginHold_marks y b.supply now
  simp only [Chan.marks, Prod.mk.injEq] at same
  obtain ⟨-, -, stalled', from', -⟩ := same
  rw [stalled', from', ← hy, ← ramp]
  dsimp only
  repeat' split
  all_goals exact ⟨rfl, rfl⟩

theorem BankCore.rampRule_unstalled (b : BankCore) (now : Nat) {x : Chan} (h : x.Unstalled) : (b.rampRule now x).Unstalled := by
  unfold BankCore.rampRule
  split
  · refine Chan.Unstalled.retarget (.of_marks ?_ h) _ _ _
    split <;> rfl
  · exact h

theorem Chan.unstalled_endures (now p : Nat) : Chan.Endures now p Chan.Unstalled where
  marks := .of_marks
  rule b _ h := b.rampRule_unstalled now h
  on b _ h := h.turnOn b now p
  off _ _ _ _ := ⟨⟨rfl, rfl⟩, rfl, rfl⟩

/-! ## Blanking -/

/-- A channel that is blanked for its settling time from a moment on (R114, R155). -/
def Chan.Settling (now p : Nat) (x : Chan) : Prop := now + settleTime (classAt p) ≤ x.io.blankUntil

theorem blankTime_ge (cl : ChClass) (code supply : Nat) : settleTime cl ≤ blankTime cl code supply := Nat.le_add_left _ _

theorem Chan.settling_endures (now p : Nat) : Chan.Endures now p (Chan.Settling now p) where
  marks same h := h.trans_eq (congrArg (fun m => m.2.2.2.2) same).symm
  rule b x h := h.trans_eq (congrArg ChanIo.blankUntil (b.rampRule_io_trip now x).1).symm
  on b x _ := (Nat.add_le_add_left (blankTime_ge _ _ _) now).trans_eq (b.turnOn_of now p x).2.1.symm
  off _ _ _ _ := Nat.add_le_add_left (blankTime_ge _ _ _) now

/-- The end of a disturbance blanks every channel but those that were shorted in it (R155). -/
theorem BankCore.endDisturbance_settling {b : BankCore} {p : Nat} (now : Nat) (hp : p < b.chans.length)
    (unshorted : (b.chan p).trip.shorted = false) : ((b.endDisturbance now).chan p).Settling now p := by
  have blank : ((b.endDisturbance now).chan p).io.blankUntil
      = if (b.chan p).trip.shorted then (b.chan p).io.blankUntil else max (b.chan p).io.blankUntil (now + settleTime (classAt p)) := by
    unfold BankCore.endDisturbance BankCore.chan
    dsimp only
    rw [mapFrom_getD _ _ _ _ _ hp, Nat.zero_add]
  rw [Chan.Settling, blank, unshorted]
  exact Nat.le_max_right _ _

end Sys2Proof.Machine
end


section
/-! O3: the steps of a sprint window and its end (R137, R166), and the limit of a freeze (R155). -/

namespace Sys2Proof.Machine

/-! ## Steps -/

theorem Chan.overdue_iff {x : Chan} {p now : Nat} : x.overdue p now = true
    ↔ x.io.on = true ∧ x.window.running = false ∧ x.ramp.regulating = false ∧ tripOver (classAt p) ≤ x.trip.olTimer.value now := by
  simp only [Chan.overdue, Bool.and_eq_true, Bool.not_eq_true', decide_eq_true_eq, and_assoc]

/-- A channel whose window takes step k, or ends where k is 0 (R137). -/
def Chan.stepped (x : Chan) (now k : Nat) : Chan := if k = 0 then x.dropWindow now else { x with window := { x.window with step := k } }

theorem Chan.stepped_next (x : Chan) (now : Nat) {k : Nat} (h : k ≠ 0) : x.stepped now k = { x with window := { x.window with step := k } } :=
  if_neg h

/-- A step changes the window alone. -/
theorem Chan.stepped_eq (x : Chan) (now k : Nat) : ∃ w, x.stepped now k = { x with window := w } ∧ w.step = k := by
  by_cases h : k = 0
  · exact ⟨_, if_pos h, h.symm⟩
  · exact ⟨_, if_neg h, rfl⟩

/-- A channel is overdue after a step where its window has ended, no ramp regulates and the overload timer has reached its limit (R166). -/
theorem Chan.stepped_overdue {x : Chan} (now k p : Nat) (on : x.io.on = true) (window : x.window.running = true) :
    (x.stepped now k).overdue p now = true
      ↔ k = 0 ∧ x.ramp.regulating = false ∧ tripOver (classAt p) ≤ x.trip.olTimer.value now := by
  rw [Chan.overdue_iff]
  by_cases h : k = 0
  · subst h
    exact ⟨fun ⟨_, _, late⟩ => ⟨rfl, late⟩, fun ⟨_, late⟩ => ⟨on, rfl, late⟩⟩
  · have runs : (x.stepped now k).window.running = true := by
      simp only [ChanWindow.running, Bool.and_eq_true] at window
      simp [Chan.stepped_next _ _ h, ChanWindow.running, h, window.2]
    rw [runs]
    exact ⟨fun ⟨_, ended, _⟩ => (nomatch ended), fun ⟨ended, _⟩ => absurd ended h⟩

/-- A step boundary that has come (R137): the step, and the trip where the channel is overdue after it. -/
theorem Bank.stepBoundary_due {b : Bank} {n now p k : Nat} (steady : b.Steady p) (window : (b.core.chan p).window.running = true)
    (moves : (b.core.chan p).window.frozen = false)
    (due : (b.core.chan p).window.due * 99 ≤ ((b.core.chan p).window.timer.value now + 20000) * 100)
    (follows : nextStep (b.core.chan p).window.table (b.core.chan p).window.step = k) :
    b.stepBoundary n now p
      = if ((b.core.chan p).stepped now k).overdue p now then
          b.actWith n now [(0, 2, 12 * n + p)] fun c => c.editChan p fun x => c.trip now p .overload (x.stepped now k)
        else b.editChan n now p fun x => x.stepped now k := by
  subst follows
  exact if_pos (by simp [steady.running, steady.on, window, moves, due])

/-- A channel that a step does not leave overdue goes on in its step. -/
theorem Bank.Steady.step_goesOn {b : Bank} {p : Nat} (h : b.Steady p) (n now k : Nat)
    (own : ((b.core.chan p).stepped now k).overdue p now = false) :
    ((b.core.chanAt now p).stepped now k).GoesOn ((b.editChan n now p fun x => x.stepped now k).core.chan p) := by
  obtain ⟨w, edited, -⟩ := (b.core.chanAt now p).stepped_eq now k
  have overdue : ((b.core.chanAt now p).stepped now k).overdue p now = ((b.core.chan p).stepped now k).overdue p now := by
    by_cases e : k = 0
    · subst e; rfl
    · rw [Chan.stepped_next _ _ e, Chan.stepped_next _ _ e]; rfl
  refine h.edit_goesOn n rfl rfl ?_ ?_ ?_ fun _ => overdue.trans own
  · rw [edited]; exact h.on
  · rw [edited]; exact h.drives
  · rw [edited]; exact h.onCourseAt

/-- A channel that a step leaves overdue trips. -/
theorem Bank.Steady.step_tripsTo {b : Bank} {p : Nat} (h : b.Steady p) (n now k : Nat) (es : List (Nat × Nat × Nat)) :
    (b.core.chan p).TripsTo now
      ((b.actWith n now es fun c => c.editChan p fun x => c.trip now p .overload (x.stepped now k)).core.chan p) := by
  obtain ⟨w, edited, -⟩ := (b.core.chanAt now p).stepped_eq now k
  refine Bank.actWith_tripsTo es (BankCore.editChan_edits _ _ _ fun _ => BankCore.trip_rests _ _ _ _ _ ?_) h.course h.shape h.position ?_
  · rw [BankCore.rebase_chan _ _ _ h.lt]
    change ((b.core.chanAt now p).stepped now k).rests = true
    rw [edited]
    exact BankCore.rests_of_onCourseAt (b := b.core) h.onCourseAt
  · rw [BankCore.rebase_editChan_chan h.lt]
    refine ((b.core.rebase now).trip_tripsTo now p .overload _).congr ?_ ?_ <;> rw [edited] <;> rfl

/-- A freeze that has reached its limit ends, and the channel goes on in its step (R155). -/
theorem Bank.Steady.freezeLimit_goesOn {b : Bank} {p : Nat} (h : b.Steady p) (n now : Nat) (frozen : (b.core.chan p).window.frozen = true)
    (limit : 2000000 ≤ (b.core.chan p).window.freezeRun.value now ∨ 10000000 ≤ (b.core.chan p).window.freezeTotal.value now) :
    ∃ x : Chan, x.window.freezeSpent = true ∧ x.window.step = (b.core.chan p).window.step ∧ x.GoesOn ((b.freezeLimit n now p).core.chan p) := by
  have spends : b.freezeLimit n now p = b.editChan n now p fun x => { x with window := { x.window with freezeSpent := true } } :=
    if_pos (by simpa [frozen] using limit)
  rw [spends]
  exact ⟨{ b.core.chanAt now p with window := { (b.core.chan p).window with freezeSpent := true } }, rfl, rfl,
    h.edit_goesOn n rfl rfl h.on h.drives h.onCourseAt fun regulating => Chan.overdue_regulating p now regulating⟩

/-- Settles O3: a step, or the end of a window, leaves the channel on unless it is overdue, and a spent freeze thaws the window. -/
theorem sprintWindowsStepAndEnd : Obligations.SprintWindowsStepAndEnd := by
  refine ⟨fun s ch h => ⟨_, rfl, ?_⟩, fun s ch h => ⟨_, rfl, ?_⟩⟩
  · simp only [Ready.sprintStepBoundary, Bool.and_eq_true, Bool.not_eq_true', decide_eq_true_eq] at h
    obtain ⟨⟨⟨steady, window⟩, moves⟩, due⟩ := h
    obtain ⟨hc, hs, bank⟩ := Ready.steady_bank steady
    have overdue : ((s.chan ch).stepped s.now (Ready.followingStep s ch)).overdue (ch % 12) s.now = true
        ↔ Ready.followingStep s ch = 0 ∧ (s.chan ch).ramp.regulating = false ∧ tripOver (classOf ch) ≤ (s.chan ch).trip.olTimer.value s.now :=
      Chan.stepped_overdue s.now _ _ bank.on window
    have event := Bank.stepBoundary_due (n := ch / 12) bank window moves due (rfl : _ = Ready.followingStep s ch)
    have chan := State.chan_onChan s ch (fun x b now p => x.stepBoundary b now p) hs hc
    by_cases late : ((s.chan ch).stepped s.now (Ready.followingStep s ch)).overdue (ch % 12) s.now = true
    · replace event := event.trans (if_pos late)
      obtain ⟨ended, ramp, limit⟩ := overdue.1 late
      have trips := bank.step_tripsTo (ch / 12) s.now (Ready.followingStep s ch) [(0, 2, 12 * (ch / 12) + ch % 12)]
      rw [← event, ← chan] at trips
      refine ⟨trips.window.trans ended.symm, fun more => absurd ended more, fun _ _ _ => ⟨State.tripsOff_of trips, fun room => ?_⟩,
        fun _ spared => ?_⟩
      · have report := (s.bank (ch / 12)).actWith_reports (ch / 12) s.now 0 2 (12 * (ch / 12) + ch % 12)
          (fun c => c.editChan (ch % 12) fun x => c.trip s.now (ch % 12) .overload (x.stepped s.now (Ready.followingStep s ch))) room
        rw [← event, ← State.bank_onChan hc hs fun x b now p => x.stepBoundary b now p, Nat.div_add_mod] at report
        exact report
      · rcases spared with regulating | short
        · exact absurd (ramp.symm.trans regulating) Bool.false_ne_true
        · exact absurd limit (Nat.not_le.2 short)
    · replace event := event.trans (if_neg late)
      have goes := bank.step_goesOn (ch / 12) s.now (Ready.followingStep s ch) (Bool.eq_false_iff.2 late)
      obtain ⟨w, edited, step⟩ := ((s.bank (ch / 12)).core.chanAt s.now (ch % 12)).stepped_eq s.now (Ready.followingStep s ch)
      rw [edited, ← event, ← chan] at goes
      have trips := congrArg ChanTrip.trips goes.trip
      exact ⟨goes.step.trans step, fun _ => ⟨goes.on, trips⟩, fun ended ramp limit => absurd (overdue.2 ⟨ended, ramp, limit⟩) late,
        fun _ _ => ⟨goes.on, trips⟩⟩
  · simp only [Ready.sprintFreezeLimit, Bool.and_eq_true, Bool.or_eq_true, decide_eq_true_eq] at h
    obtain ⟨⟨steady, frozen⟩, limit⟩ := h
    obtain ⟨hc, hs, bank⟩ := Ready.steady_bank steady
    obtain ⟨x, spent, step, goes⟩ := bank.freezeLimit_goesOn (ch / 12) s.now frozen limit
    rw [State.chan_onChan s ch _ hs hc]
    exact ⟨goes.thaws spent, goes.spent.trans spent, goes.step.trans step, goes.on⟩

end Sys2Proof.Machine
end


section
/-! O4: ramps at their target (R149), complete (R148, R166), at zero (R151) and stalled (R150). -/

namespace Sys2Proof.Machine

/-! ## Holds -/

/-- A reference at an intermediate target begins the hold (R149). -/
theorem Chan.beginHold_begins {x : Chan} {supply now : Nat} (regulating : x.ramp.regulating = true) (fresh : x.ramp.holdTimer = none)
    (above : 0 < x.ramp.target) (below : x.ramp.target < 1000) (reached : x.ramp.reference = rampVolts x.ramp.target supply)
    (hold : 0 < x.cfg.load.rampHold) : x.beginHold supply now = { x with ramp := { x.ramp with holdTimer := some now } } := by
  have lasts : elapsed (some now) (x.cfg.load.rampHold * 1000) now = false := by
    simp only [elapsed, decide_eq_false_iff_not]
    omega
  unfold Chan.beginHold
  rw [if_pos (by simp [regulating, fresh, above, below, reached])]
  unfold Chan.expireHold
  dsimp only
  rw [lasts]
  rfl

theorem Bank.Steady.rampReached_goesOn {b : Bank} {p : Nat} (h : b.Steady p) (n now : Nat) (regulating : (b.core.chan p).ramp.regulating = true)
    (fresh : (b.core.chan p).ramp.holdTimer = none) (above : 0 < (b.core.chan p).ramp.target) (below : (b.core.chan p).ramp.target < 1000)
    (reached : (b.core.chanAt now p).ramp.reference = rampVolts (b.core.chan p).ramp.target b.core.supply)
    (hold : 0 < (b.core.chan p).cfg.load.rampHold) :
    ({ b.core.chanAt now p with ramp := { (b.core.chanAt now p).ramp with holdTimer := some now } } : Chan).GoesOn
      ((b.rampReached n now p).core.chan p) :=
  h.edit_goesOn n rfl ((if_pos h.on).trans (Chan.beginHold_begins regulating fresh above below reached hold)) h.on h.drives h.onCourseAt
    fun _ => Chan.overdue_regulating p now regulating

/-- An expired hold turns its channel off, and stays expired (R149). -/
theorem BankCore.finish_expired (b : BankCore) (now p : Nat) {x : Chan} (expired : x.ramp.expired = true) (ended : x.ramp.holdTimer = none) :
    (b.finish now p x).io.on = false ∧ (b.finish now p x).ramp.expired = true ∧ (b.finish now p x).ramp.holdTimer = none := by
  have held : b.drives x = false := Bool.eq_false_iff.2 fun d => Bool.false_ne_true ((BankCore.drives_expired d).symm.trans expired)
  refine ⟨b.finish_off now p x held, ?_⟩
  cases on : x.io.on with
  | false =>
    obtain ⟨-, -, -, -, -, -, -, m, z, ramp⟩ := b.finish_rest now p x on held
    rw [ramp]
    exact ⟨expired, ended⟩
  | true =>
    obtain ⟨-, -, -, -, m, ramp⟩ := b.finish_turnOff now p x on held
    have kept : (b.turnOff now p 0 (b.noted now x)).ramp.expired = ((b.noted now x).suspendWindow b.version now).ramp.expired := rfl
    rw [ramp]
    exact ⟨kept.trans ((congrArg ChanRamp.expired (Chan.suspendWindow_ramp _ _ _)).trans expired), rfl⟩

theorem Chan.expireHold_due {x : Chan} {now : Nat} (due : elapsed x.ramp.holdTimer (x.cfg.load.rampHold * 1000) now = true) :
    x.expireHold now = { x with ramp := { x.ramp with expired := true, holdTimer := none } } := if_pos due

/-- A hold that has lasted for its limit. -/
theorem Bank.Whole.rampHoldExpiry_expired {b : Bank} {p : Nat} (h : b.Whole p) (n now : Nat)
    (due : elapsed (b.core.chan p).ramp.holdTimer ((b.core.chan p).cfg.load.rampHold * 1000) now = true) :
    ((b.rampHoldExpiry n now p).core.chan p).io.on = false ∧ ((b.rampHoldExpiry n now p).core.chan p).ramp.expired = true
      ∧ ((b.rampHoldExpiry n now p).core.chan p).ramp.holdTimer = none := by
  have ends := b.core.finish_expired now p rfl rfl
    (x := { b.core.chanAt now p with ramp := { (b.core.chanAt now p).ramp with expired := true, holdTimer := none } })
  have driven := h.edit_driven (f := fun c => c.editChan p fun x => x.expireHold now) n rfl (Chan.expireHold_due (x := b.core.chanAt now p) due)
    (BankCore.rests_of_onCourseAt (b := b.core) h.onCourseAt) fun _ => by simp [Chan.overdue, ends.1]
  rw [← driven] at ends
  exact ends

/-! ## Completion -/

/-- A channel whose ramp is complete at an output voltage (R148). -/
def Chan.completed (x : Chan) (mv : Nat) : Chan :=
  { x with
    ramp := { x.ramp with regulating := false, complete := true, stallFrom := none, freeFrom := none, stalled := false, aboveRef := false }
    sense := { x.sense with output := mv } }

theorem Chan.completed_overdue (x : Chan) (mv p now : Nat) : (x.completed mv).overdue p now = true
    ↔ x.io.on = true ∧ x.window.running = false ∧ tripOver (classAt p) ≤ x.trip.olTimer.value now := by
  rw [Chan.overdue_iff]
  exact ⟨fun ⟨on, window, _, late⟩ => ⟨on, window, late⟩, fun ⟨on, window, late⟩ => ⟨on, window, rfl, late⟩⟩

/-- A complete ramp at full enhancement is on course where that is its lane's target. -/
theorem BankCore.completed_onCourseAt (b : BankCore) {x : Chan} (mv : Nat) (on : x.io.on = true) (full : x.ramp.target = 1000)
    (lane : x.cfg.load.rampTarget = 1000) : b.onCourseAt (x.completed mv) = true := by
  refine (b.onCourseAt_iff _).2 ⟨by simp [Chan.rests, Chan.completed, on], fun _ _ => ?_⟩
  show x.ramp.target = if _ then x.cfg.load.rampTarget else 1000
  rw [full, lane, ite_self]

theorem Bank.rampComplete_due {b : Bank} {n now p mv : Nat} (h : b.Steady p) (regulating : (b.core.chan p).ramp.regulating = true)
    (full : (b.core.chan p).ramp.target = 1000) (output : 98 * b.core.supply ≤ 100 * mv) :
    b.rampComplete n now p mv = b.act n now fun c => c.editChan p fun x => x.completed mv :=
  if_pos (by simp [h.on, regulating, full, output])

section
variable {b : Bank} {p mv : Nat} (h : b.Steady p) (n now : Nat) (regulating : (b.core.chan p).ramp.regulating = true)
  (full : (b.core.chan p).ramp.target = 1000) (lane : (b.core.chan p).cfg.load.rampTarget = 1000) (output : 98 * b.core.supply ≤ 100 * mv)
include h regulating full lane output

theorem Bank.Steady.rampComplete_goesOn
    (spared : (b.core.chan p).window.running = true ∨ (b.core.chan p).trip.olTimer.value now < tripOver (classAt p)) :
    ((b.core.chanAt now p).completed mv).GoesOn ((b.rampComplete n now p mv).core.chan p) := by
  rw [Bank.rampComplete_due h regulating full output]
  refine h.edit_goesOn n rfl rfl h.on h.drives (b.core.completed_onCourseAt mv h.on full lane) fun _ => Bool.eq_false_iff.2 fun overdue => ?_
  obtain ⟨-, window, late⟩ := (Chan.completed_overdue _ mv p now).1 overdue
  rcases spared with runs | early
  · exact Bool.false_ne_true (window.symm.trans runs)
  · exact absurd late (Nat.not_le.2 early)

/-- A ramp that completes without a window on an overload timer at its limit trips its channel (R166). -/
theorem Bank.Steady.rampComplete_tripsTo (window : (b.core.chan p).window.running = false)
    (late : tripOver (classAt p) ≤ (b.core.chan p).trip.olTimer.value now) :
    (b.core.chan p).TripsTo now ((b.rampComplete n now p mv).core.chan p)
      ∧ (b.msgs.length < 16 → (b.rampComplete n now p mv).reports (12 * n) (tripCode .overload) (12 * n + p) = true) := by
  rw [Bank.rampComplete_due h regulating full output]
  have course := b.core.completed_onCourseAt (x := b.core.chanAt now p) mv h.on full lane
  have goes := BankCore.finish_goesOn (x := (b.core.chanAt now p).completed mv) now p h.on h.drives course
  obtain ⟨m, l, ramp⟩ := goes.ramp
  have driven : (((b.core.rebase now).editChan p fun x => x.completed mv).finish now p
      (((b.core.rebase now).editChan p fun x => x.completed mv).chan p)) = b.core.finish now p ((b.core.chanAt now p).completed mv) := by
    rw [BankCore.rebase_editChan_chan h.lt, BankCore.finish_editChan]
  have edits := h.edits (f := fun c => c.editChan p fun x => x.completed mv) (g := fun x => x.completed mv) rfl rfl
    (BankCore.rests_of_onCourseAt course)
  obtain ⟨trips, reports⟩ := Bank.act_tripsTo (n := n) (f := fun c => c.editChan p fun x => x.completed mv) edits h.course h.shape
    h.position h.on regulating driven (by rw [ramp]; rfl)
    ((goes.overdue h.on p now).trans ((Chan.completed_overdue _ mv p now).2 ⟨h.on, window, late⟩))
  exact ⟨trips.congr goes.trip.symm (by rw [BankCore.finish_cfg]; rfl), reports⟩

end

/-! ## Turning off at zero -/

/-- What no edge of a channel changes decides whether its sources drive it, beside an expired ramp hold. -/
theorem BankCore.drives_congr (b : BankCore) {x y : Chan} (kept : y.kept = x.kept) (expired : y.ramp.expired = x.ramp.expired) :
    b.drives y = b.drives x := by
  simp only [Chan.kept, Prod.mk.injEq] at kept
  obtain ⟨cfg, -, -, normal, c, w, x', -, -, latched, backoff, wire, -, shutdown, thermal, -, -, shed, -⟩ := kept
  unfold BankCore.drives BankCore.heldOff Chan.locked
  rw [b.demanded_congr y x cfg normal c w x', cfg, backoff, wire, latched, shutdown, thermal, shed, expired]

/-- A channel that its sources demand stays off at a lane's target of 0 after a turn-off there (R151). -/
theorem BankCore.finish_zero {b : BankCore} {x : Chan} (now p : Nat) (off : x.io.on = false) (drives : b.drives x = true)
    (stays : b.staysAtZero (b.noted now x) = true) : (b.finish now p x).io.on = false ∧ (b.finish now p x).ramp.zeroOff = true := by
  obtain ⟨io, -, -, -, -, -, -, m, ramp⟩ := b.finish_of now p x
  have settled : b.settleChan now p x = { b.noted now x with ramp := { (b.noted now x).ramp with zeroOff := true } } := by
    unfold BankCore.settleChan
    rw [BankCore.drive_eq, if_pos drives, if_neg (by rw [off]; exact Bool.false_ne_true), if_pos stays]
    exact BankCore.endHold_of _ _ _ _ (.inl off)
  rw [io, ramp, settled]
  exact ⟨off, rfl⟩

/-- A channel turned off with its ramp at zero. -/
def BankCore.zeroed (b : BankCore) (now p : Nat) (x : Chan) : Chan :=
  { b.turnOff now p (slewRate (classAt p) x.cfg.io.slew) x with
    ramp := { (b.turnOff now p (slewRate (classAt p) x.cfg.io.slew) x).ramp with zeroOff := true } }

theorem BankCore.zeroed_kept (b : BankCore) (now p : Nat) (x : Chan) :
    (b.zeroed now p x).kept = x.kept ∧ (b.zeroed now p x).ramp.expired = x.ramp.expired := by
  have expired : (b.zeroed now p x).ramp.expired = (x.suspendWindow b.version now).ramp.expired := rfl
  exact ⟨b.turnOff_kept now p (slewRate (classAt p) x.cfg.io.slew) x, by rw [expired, Chan.suspendWindow_ramp]⟩

theorem Bank.Steady.rampZero_off {b : Bank} {p : Nat} (h : b.Steady p) (n now : Nat) (regulating : (b.core.chan p).ramp.regulating = true)
    (zero : (b.core.chan p).ramp.target = 0) (lane : (b.core.chan p).cfg.load.rampTarget = 0) (capacitive : (b.core.chan p).cfg.load.loadType = 5)
    (rules : b.core.normalRules (b.core.chan p) = true) (reached : (b.core.chanAt now p).ramp.reference = 0) :
    ((b.rampZero n now p).core.chan p).io.on = false ∧ ((b.rampZero n now p).core.chan p).io.normal = (b.core.chan p).io.normal
      ∧ ((b.rampZero n now p).core.chan p).ramp.zeroOff = true := by
  obtain ⟨kept, expired⟩ := (b.core.rebase now).zeroed_kept now p (b.core.chanAt now p)
  have due : ((b.core.chanAt now p).io.on && (b.core.chanAt now p).ramp.regulating && decide ((b.core.chanAt now p).ramp.target = 0)
      && decide ((b.core.chanAt now p).ramp.reference = 0)) = true := by
    simp only [Bool.and_eq_true, decide_eq_true_eq]
    exact ⟨⟨⟨h.on, regulating⟩, zero⟩, reached⟩
  generalize hx : (b.core.rebase now).zeroed now p (b.core.chanAt now p) = x at kept expired
  have off : x.io.on = false := by rw [← hx]; rfl
  have rests : x.rests = true := by rw [← hx]; rfl
  have marked : x.ramp.zeroOff = true := by rw [← hx]; rfl
  have drives : b.core.drives x = true := (b.core.drives_congr kept expired).trans h.drives
  simp only [Chan.kept, Prod.mk.injEq] at kept
  obtain ⟨cfg, -, -, normal, c, w, x', -⟩ := kept
  have stays : b.core.staysAtZero (b.core.noted now x) = true := by
    have noted : (b.core.noted now x).ramp.zeroOff = true := by rw [BankCore.noted_ramp now drives, marked]
    have source : b.core.normalRules (b.core.noted now x) = true := (b.core.normalRules_congr cfg c w x').trans rules
    unfold BankCore.staysAtZero
    rw [noted, source, show (b.core.noted now x).cfg = (b.core.chan p).cfg from cfg, capacitive, lane]
    rfl
  obtain ⟨stop, zeroOff⟩ := BankCore.finish_zero now p off drives stays
  have driven : (b.rampZero n now p).core.chan p = b.core.finish now p x :=
    h.edit_driven n rfl ((if_pos due).trans hx) rests fun _ => by simp [Chan.overdue, stop]
  rw [driven, BankCore.finish_io_normal]
  exact ⟨stop, normal, zeroOff⟩

/-! ## Stalls -/

/-- A channel whose stall is marked once it has lasted (R150). -/
def Chan.stall (x : Chan) (now : Nat) : Chan :=
  if x.ramp.regulating && elapsed x.ramp.stallFrom 100001 now then { x with ramp := { x.ramp with stalled := true } } else x

theorem Bank.rampStall_eq (b : Bank) (n now p : Nat) : b.rampStall n now p = b.act n now fun c => c.editChan p fun x => x.stall now := rfl

theorem Chan.stall_due {x : Chan} {now : Nat} (regulating : x.ramp.regulating = true) (lasts : elapsed x.ramp.stallFrom 100001 now = true) :
    x.stall now = { x with ramp := { x.ramp with stalled := true } } := if_pos (by rw [regulating, lasts]; rfl)

theorem Bank.Steady.rampStall_goesOn {b : Bank} {p : Nat} (h : b.Steady p) (n now : Nat) (regulating : (b.core.chan p).ramp.regulating = true)
    (lasts : elapsed (b.core.chan p).ramp.stallFrom 100001 now = true) :
    ({ b.core.chanAt now p with ramp := { (b.core.chanAt now p).ramp with stalled := true } } : Chan).GoesOn ((b.rampStall n now p).core.chan p) := by
  have edited := Chan.stall_due (x := b.core.chanAt now p) regulating lasts
  rw [Bank.rampStall_eq]
  exact h.edit_goesOn (g := fun x => x.stall now) n rfl edited h.on h.drives h.onCourseAt fun _ => Chan.overdue_regulating p now regulating

/-- A channel whose stall ends once it has not been limited for long enough (R150). -/
def Chan.unstall (x : Chan) (now : Nat) : Chan :=
  if x.ramp.stallFrom.isSome && !x.limited && elapsed x.ramp.freeFrom 100000 now then
    { x with ramp := { x.ramp with stallFrom := none, freeFrom := none, stalled := false } }
  else x

theorem Bank.rampStallEnd_eq (b : Bank) (n now p : Nat) : b.rampStallEnd n now p = b.act n now fun c => c.editChan p fun x => x.unstall now := rfl

theorem Chan.unstall_due {x : Chan} {now : Nat} (stall : x.ramp.stallFrom.isSome = true) (free : x.limited = false)
    (lasts : elapsed x.ramp.freeFrom 100000 now = true) : (x.unstall now).Unstalled := by
  unfold Chan.unstall
  rw [if_pos (by rw [stall, free, lasts]; rfl)]
  exact ⟨Bool.or_eq_false_iff.1 free, rfl, rfl⟩

theorem Bank.rampStallEnd_unstalled {b : Bank} {p : Nat} (n now : Nat) (hp : p < b.core.chans.length)
    (stall : (b.core.chan p).ramp.stallFrom.isSome = true) (free : (b.core.chan p).limited = false)
    (lasts : elapsed (b.core.chan p).ramp.freeFrom 100000 now = true) : ((b.rampStallEnd n now p).core.chan p).Unstalled := by
  rw [Bank.rampStallEnd_eq]
  refine (Chan.unstalled_endures now p).act n rfl (by simpa using hp) ?_
  rw [BankCore.rebase_editChan_chan hp]
  exact Chan.unstall_due (x := b.core.chanAt now p) stall free lasts

/-! ## The obligation -/

/-- Settles O4: each event of a ramp on the channel as its bank drives it, and the trip where a ramp completes on an overload timer at its limit. -/
theorem rampsHoldStallAndComplete : Obligations.RampsHoldStallAndComplete := by
  refine ⟨fun s ch h => ⟨_, rfl, ?_⟩, fun s ch h => ⟨_, rfl, ?_⟩, fun s ch mv h spared => ⟨_, rfl, ?_⟩,
    fun s ch mv h window late => ⟨_, rfl, ?_⟩, fun s ch h => ⟨_, rfl, ?_⟩, fun s ch h => ⟨_, rfl, ?_⟩, fun s ch h => ⟨_, rfl, ?_⟩⟩
  · simp only [Ready.rampTargetReached, Bool.and_eq_true, decide_eq_true_eq] at h
    obtain ⟨⟨⟨⟨⟨at_, fresh⟩, above⟩, below⟩, reached⟩, hold⟩ := h
    obtain ⟨steady, regulating, -, -⟩ := Ready.atTarget_iff.1 at_
    obtain ⟨hc, hs, bank⟩ := Ready.steady_bank steady
    have goes := bank.rampReached_goesOn (ch / 12) s.now regulating (Option.isNone_iff_eq_none.1 fresh) above below reached hold
    obtain ⟨m, l, ramp⟩ := goes.ramp
    rw [State.chan_onChan s ch _ hs hc]
    exact ⟨congrArg ChanRamp.holdTimer ramp, (congrArg ChanRamp.regulating ramp).trans regulating, goes.on⟩
  · simp only [Ready.rampHoldExpiry, Bool.and_eq_true] at h
    obtain ⟨runs, due⟩ := h
    obtain ⟨hc, hs, bank⟩ := Ready.runs_bank runs
    rw [State.chan_onChan s ch _ hs hc]
    exact bank.rampHoldExpiry_expired (ch / 12) s.now due
  · simp only [Ready.rampComplete, Bool.and_eq_true, decide_eq_true_eq] at h
    obtain ⟨⟨⟨⟨steady, regulating⟩, full⟩, lane⟩, output⟩ := h
    obtain ⟨hc, hs, bank⟩ := Ready.steady_bank steady
    have goes := bank.rampComplete_goesOn (ch / 12) s.now regulating full lane output spared
    obtain ⟨m, l, ramp⟩ := goes.ramp
    rw [State.chan_onChan s ch _ hs hc]
    exact ⟨goes.on, congrArg ChanRamp.complete ramp, congrArg ChanRamp.regulating ramp, congrArg ChanSense.output goes.sense⟩
  · simp only [Ready.rampComplete, Bool.and_eq_true, decide_eq_true_eq] at h
    obtain ⟨⟨⟨⟨steady, regulating⟩, full⟩, lane⟩, output⟩ := h
    obtain ⟨hc, hs, bank⟩ := Ready.steady_bank steady
    obtain ⟨trips, reports⟩ := bank.rampComplete_tripsTo (ch / 12) s.now regulating full lane output window late
    rw [← State.chan_onChan s ch (fun x b now p => x.rampComplete b now p mv) hs hc] at trips
    rw [← State.bank_onChan hc hs fun x b now p => x.rampComplete b now p mv, Nat.div_add_mod] at reports
    exact ⟨State.tripsOff_of trips, fun room => reports (by omega)⟩
  · simp only [Ready.rampZeroTurnOff, Bool.and_eq_true, decide_eq_true_eq] at h
    obtain ⟨⟨⟨⟨at_, zero⟩, capacitive⟩, rules⟩, reached⟩ := h
    obtain ⟨steady, regulating, -, lane⟩ := Ready.atTarget_iff.1 at_
    obtain ⟨hc, hs, bank⟩ := Ready.steady_bank steady
    rw [State.chan_onChan s ch _ hs hc]
    exact bank.rampZero_off (ch / 12) s.now regulating zero (lane.symm.trans zero) capacitive rules reached
  · simp only [Ready.rampStallFlag, Bool.and_eq_true] at h
    obtain ⟨at_, lasts⟩ := h
    obtain ⟨steady, regulating, -, -⟩ := Ready.atTarget_iff.1 at_
    obtain ⟨hc, hs, bank⟩ := Ready.steady_bank steady
    have goes := bank.rampStall_goesOn (ch / 12) s.now regulating lasts
    obtain ⟨m, l, ramp⟩ := goes.ramp
    rw [State.chan_onChan s ch _ hs hc]
    exact ⟨congrArg ChanRamp.stalled ramp, goes.on⟩
  · simp only [Ready.rampStallEnd, Bool.and_eq_true, Bool.not_eq_true'] at h
    obtain ⟨⟨⟨runs, stall⟩, free⟩, lasts⟩ := h
    obtain ⟨hc, hs, bank⟩ := Ready.runs_bank runs
    rw [State.chan_onChan s ch _ hs hc]
    exact (Bank.rampStallEnd_unstalled (ch / 12) s.now bank.lt stall free lasts).2

end Sys2Proof.Machine
end


section
/-! O5: current limiting as it is entered and left (R165), and the disturbances of a bank that it begins (R154, R155). -/

namespace Sys2Proof.Machine

/-! ## Limited samples -/

/-- The lapse of the trip timers concerns these alone (R166). -/
theorem Chan.lapseTimers_eq (x : Chan) (now : Nat) : ∃ ol sc olGone scGone,
    x.lapseTimers now = { x with trip := { x.trip with olTimer := ol, scTimer := sc, olGone := olGone, scGone := scGone } } := by
  unfold Chan.lapseTimers
  dsimp only
  repeat' split
  all_goals exact ⟨_, _, _, _, rfl⟩

/-- A limited sample marks the kind of limiting and concerns, beside it, the trip timers and since when a ramp stalls. -/
theorem Chan.limit_eq (x : Chan) (short : Bool) (now : Nat) : ∃ ol sc olGone scGone stall free,
    x.limit short now = { x with
      trip := { x.trip with overload := !short, shortCct := short, olTimer := ol, scTimer := sc, olGone := olGone, scGone := scGone }
      ramp := { x.ramp with stallFrom := stall, freeFrom := free } } := by
  obtain ⟨ol, sc, olGone, scGone, lapsed⟩ := x.lapseTimers_eq now
  unfold Chan.limit
  rw [lapsed]
  dsimp only
  split
  all_goals exact ⟨_, _, _, _, _, _, rfl⟩

/-- The change of a bank by a limited sample of the channel at a position. -/
def BankCore.limits (c : BankCore) (now p mv : Nat) (short : Bool) : BankCore :=
  let c := c.editChan p fun x => Chan.limit { x with sense := { x.sense with output := mv } } short now
  if short then c.beginDisturbance now p else c

theorem Bank.limitEnter_due {b : Bank} {n now p mv risen ma : Nat} {short : Bool} (h : b.Steady p)
    (regime : isShortRegime b.core.supply mv risen = short)
    (current : (b.core.chan p).activeLimit (b.core.derated p)
      ≤ ma + limitTolerance (classAt p) ((b.core.chan p).activeLimit (b.core.derated p))) :
    b.limitEnter n now p mv risen ma short = b.act n now fun c => c.limits now p mv short :=
  if_pos (by simp [h.running, h.on, regime, current])

theorem BankCore.limits_disturbed (c : BankCore) (now p mv : Nat) (short : Bool) : (c.limits now p mv short).disturbed = (short || c.disturbed) := by
  cases short <;> rfl

theorem BankCore.beginDisturbance_chan {c : BankCore} {p : Nat} (now : Nat) (hp : p < c.chans.length) :
    (c.beginDisturbance now p).chan p = { c.chan p with trip := { (c.chan p).trip with shorted := true } } :=
  c.chan_editChan_same p (fun x => { x with trip := { x.trip with shorted := true } }) hp

/-- The channel after a limited sample of it: its kind of limiting marked, and what drives it as it was. -/
theorem BankCore.limits_chan {c : BankCore} {now p : Nat} (mv : Nat) (short : Bool) (hp : p < c.chans.length) :
    ∃ shorted ol sc olGone scGone stall free, ((c.rebase now).limits now p mv short).chan p
      = { c.chanAt now p with
          trip := { (c.chanAt now p).trip with
            overload := !short, shortCct := short, shorted := shorted, olTimer := ol, scTimer := sc, olGone := olGone, scGone := scGone }
          ramp := { (c.chanAt now p).ramp with stallFrom := stall, freeFrom := free }
          sense := { (c.chanAt now p).sense with output := mv } } := by
  have sampled := BankCore.rebase_editChan_chan (now := now) hp fun x => Chan.limit { x with sense := { x.sense with output := mv } } short now
  obtain ⟨ol, sc, olGone, scGone, stall, free, limited⟩ :=
    Chan.limit_eq { c.chanAt now p with sense := { (c.chanAt now p).sense with output := mv } } short now
  rw [limited] at sampled
  cases short with
  | false => exact ⟨(c.chanAt now p).trip.shorted, ol, sc, olGone, scGone, stall, free, sampled⟩
  | true =>
    refine ⟨true, ol, sc, olGone, scGone, stall, free, (BankCore.beginDisturbance_chan now (by simpa using hp)).trans ?_⟩
    rw [sampled]

/-- A limited sample edits one channel, beside the disturbance of its bank. -/
theorem BankCore.limits_edits (c : BankCore) (now p mv : Nat) (short : Bool) : c.Edits p (c.limits now p mv short) := by
  have sample := c.editChan_edits p (fun x => Chan.limit { x with sense := { x.sense with output := mv } } short now) fun hr =>
    (Chan.rests_of_motion (Chan.limit_motion _ short now)).trans ((Chan.rests_of_motion rfl).trans hr)
  cases short with
  | false => exact sample
  | true => exact sample.trans (BankCore.beginDisturbance_edits _ now p)

theorem BankCore.limits_rules (c : BankCore) (now p mv : Nat) (short : Bool) :
    (c.limits now p mv short).drives = c.drives ∧ (c.limits now p mv short).onCourseAt = c.onCourseAt := by
  cases short <;> exact ⟨rfl, rfl⟩

/-- A channel that is limited goes on, so marked; a short alone disturbs its bank (R165, R154). -/
theorem Bank.Steady.limitEnter_marks {b : Bank} {p mv risen ma : Nat} {short : Bool} (h : b.Steady p) (n now : Nat)
    (regime : isShortRegime b.core.supply mv risen = short)
    (current : (b.core.chan p).activeLimit (b.core.derated p)
      ≤ ma + limitTolerance (classAt p) ((b.core.chan p).activeLimit (b.core.derated p))) :
    ((b.limitEnter n now p mv risen ma short).core.chan p).trip.overload = !short
    ∧ ((b.limitEnter n now p mv risen ma short).core.chan p).trip.shortCct = short
    ∧ ((b.limitEnter n now p mv risen ma short).core.chan p).io.on = true
    ∧ (b.limitEnter n now p mv risen ma short).core.disturbed = (short || b.core.disturbed) := by
  obtain ⟨shorted, ol, sc, olGone, scGone, stall, free, chan⟩ := BankCore.limits_chan (now := now) mv short h.lt
  obtain ⟨drives, course⟩ := (b.core.rebase now).limits_rules now p mv short
  have goes := Bank.act_goesOn (n := n) (f := fun c => c.limits now p mv short) ((b.core.rebase now).limits_edits now p mv short) h.course h.shape
    h.position chan h.on (by rw [drives]; exact h.drives) (by rw [course]; exact h.onCourseAt) fun regulating =>
      Chan.overdue_regulating p now regulating
  rw [Bank.limitEnter_due h regime current]
  exact ⟨congrArg ChanTrip.overload goes.trip, congrArg ChanTrip.shortCct goes.trip, goes.on,
    (Bank.act_keeps BankCore.disturbed (by simp) (by simp) b n now _).trans (BankCore.limits_disturbed _ now p mv short)⟩

/-! ## Leaving limiting, and the end of a disturbance -/

theorem Bank.limitLeave_unlimited {b : Bank} {p : Nat} (n now : Nat) (hp : p < b.core.chans.length) (limited : (b.core.chan p).limited = true) :
    ((b.limitLeave n now p).core.chan p).Unlimited := by
  unfold Bank.limitLeave
  rw [if_pos limited]
  refine (Chan.unlimited_endures now p).act n rfl (by simpa using hp) ?_
  rw [BankCore.rebase_editChan_chan hp]
  exact ⟨rfl, rfl⟩

theorem Bank.disturbanceEnd_due {b : Bank} {n now : Nat} (disturbed : b.core.disturbed = true)
    (calm : b.core.chans.all (fun x => !x.trip.shortCct) = true) (due : b.core.shortLeft + 50000 ≤ now) :
    b.disturbanceEnd n now = b.act n now fun c => c.endDisturbance now := by
  have none : b.core.anyShort = false := by
    rw [← Bool.not_eq_true', BankCore.anyShort, List.not_any_eq_all_not]
    exact calm
  exact if_pos (by simp [disturbed, none, due])

theorem Bank.act_endDisturbance_settling {b : Bank} {p : Nat} (n now : Nat) (hp : p < b.core.chans.length)
    (unshorted : (b.core.chan p).trip.shorted = false) : ((b.act n now fun c => c.endDisturbance now).core.chan p).Settling now p := by
  refine (Chan.settling_endures now p).act n rfl (by simpa [BankCore.endDisturbance] using hp)
    (BankCore.endDisturbance_settling now (by simpa using hp) ?_)
  rw [BankCore.rebase_chan _ _ _ hp]
  exact unshorted

/-! ## The obligation -/

theorem Ready.atLimit_iff {s : State} {ch ma : Nat} : Ready.atLimit s ch ma = true
    ↔ (s.chan ch).activeLimit ((s.bank (ch / 12)).core.derated (ch % 12))
      ≤ ma + limitTolerance (classOf ch) ((s.chan ch).activeLimit ((s.bank (ch / 12)).core.derated (ch % 12))) := by
  unfold Ready.atLimit
  exact decide_eq_true_iff

/-- Settles O5: a limited sample on the channel as its bank drives it, and the marks and the blanking that last whatever drives the channel. -/
theorem currentLimitingAndDisturbances : Obligations.CurrentLimitingAndDisturbances := by
  refine ⟨fun s ch mv risen ma h => ⟨_, rfl, ?_⟩, fun s ch mv risen ma h => ⟨_, rfl, ?_⟩, fun s ch h => ⟨_, rfl, ?_⟩,
    fun s b h => ⟨_, rfl, ?_⟩⟩
  · simp only [Ready.shortCircuitLimitEnter, Bool.and_eq_true] at h
    obtain ⟨⟨steady, regime⟩, current⟩ := h
    obtain ⟨hc, hs, bank⟩ := Ready.steady_bank steady
    obtain ⟨overload, short, on, disturbed⟩ := bank.limitEnter_marks (short := true) (ch / 12) s.now regime (Ready.atLimit_iff.1 current)
    rw [State.chan_onChan s ch _ hs hc, State.bank_onChan hc hs]
    exact ⟨short, overload, on, disturbed⟩
  · simp only [Ready.overloadLimitingEnter, Bool.and_eq_true, Bool.not_eq_true'] at h
    obtain ⟨⟨steady, regime⟩, current⟩ := h
    obtain ⟨hc, hs, bank⟩ := Ready.steady_bank steady
    obtain ⟨overload, short, on, disturbed⟩ := bank.limitEnter_marks (short := false) (ch / 12) s.now regime (Ready.atLimit_iff.1 current)
    rw [State.chan_onChan s ch _ hs hc, State.bank_onChan hc hs]
    exact ⟨overload, short, on, disturbed⟩
  · simp only [Ready.currentLimitingLeave, Bool.and_eq_true, decide_eq_true_eq] at h
    obtain ⟨⟨hc, hs⟩, limited⟩ := h
    rw [State.chan_onChan s ch _ hs hc]
    exact (Bank.limitLeave_unlimited (ch / 12) s.now (State.position_lt hc hs) limited).symm
  · simp only [Ready.bankDisturbanceEnd, Bool.and_eq_true, decide_eq_true_eq] at h
    obtain ⟨⟨⟨⟨hb, hs⟩, disturbed⟩, calm⟩, due⟩ := h
    have bank := s.bank_onBank_same b (fun x => x.disturbanceEnd b s.now) (by rw [State.shaped_banks hs]; exact hb)
    rw [Bank.disturbanceEnd_due disturbed calm due] at bank
    rw [bank]
    refine ⟨Bank.act_keeps BankCore.disturbed (by simp) (by simp) _ _ _ _, fun p hp unshorted => ?_⟩
    rw [State.chan_of_bank _ _ _ hp] at unshorted ⊢
    rw [bank]
    exact Bank.act_endDisturbance_settling b s.now (by rw [State.shaped_chans hs b hb]; exact hp) unshorted

end Sys2Proof.Machine
end


section
/-! What an event leaves of the channel that it edits: of one that it neither switches nor takes off its course, and of one that it trips. -/

namespace Sys2Proof.Machine

/-! ## Edits of a channel that goes on as it was -/

/-- An event that edits a channel, and neither switches it nor takes it off its course, leaves it as edited, driven. -/
theorem Bank.Whole.edit_still {b : Bank} {p : Nat} (h : b.Whole p) (n now : Nat) {g : Chan → Chan} {x : Chan} (edited : g (b.core.chanAt now p) = x)
    (motion : x.motion = (b.core.chan p).motion) (course : b.core.onCourseAt x = true) :
    (b.editChan n now p g).core.chan p = b.core.finish now p x := by
  have rests := BankCore.rests_of_onCourseAt course
  refine h.edit_driven n rfl edited rests fun regulating => ?_
  replace regulating : x.ramp.regulating = true := (congrArg (fun m => m.2.1) motion).trans regulating
  refine b.core.finish_onCourse now p x course ?_ regulating
  simpa [Chan.rests, regulating] using rests

/-- An event that edits the trip state of a channel. -/
theorem Bank.Whole.editTrip_chan {b d : Bank} {n now p : Nat} {g : Chan → Chan} {t : ChanTrip} (h : b.Whole p) (event : d = b.editChan n now p g)
    (edited : g (b.core.chanAt now p) = { b.core.chanAt now p with trip := t }) :
    d.core.chan p = b.core.finish now p { b.core.chanAt now p with trip := t } := by
  rw [event]
  exact h.edit_still n now edited rfl h.onCourseAt

/-- An event that edits the sense state of a channel. -/
theorem Bank.Whole.editSense_chan {b d : Bank} {n now p : Nat} {g : Chan → Chan} {v : ChanSense} (h : b.Whole p) (event : d = b.editChan n now p g)
    (edited : g (b.core.chanAt now p) = { b.core.chanAt now p with sense := v }) :
    d.core.chan p = b.core.finish now p { b.core.chanAt now p with sense := v } := by
  rw [event]
  exact h.edit_still n now edited rfl h.onCourseAt

/-! ## What driving leaves of trips and sense -/

theorem BankCore.turnOff_sense (b : BankCore) (now p rate : Nat) (x : Chan) : (b.turnOff now p rate x).sense = x.sense :=
  x.suspendWindow_sense b.version now

/-- A turn-off edge ends limiting, stops the timers of a channel and leaves its counts (R151, R176). -/
theorem BankCore.turnOff_trip (b : BankCore) (now p rate : Nat) (x : Chan) : (b.turnOff now p rate x).trip = { x.trip with
    overload := false, shortCct := false, olTimer := x.trip.olTimer.stop now, scTimer := x.trip.scTimer.stop now
    olGone := if x.limited then some now else x.trip.olGone, scGone := if x.trip.shortCct then some now else x.trip.scGone
    healthyT := x.trip.healthyT.stop now, latchT := x.trip.latchT.stop now } := by
  unfold BankCore.turnOff Chan.limited
  dsimp only
  rw [Chan.suspendWindow_trip]

/-- What both edges of a channel leave so of its trip and sense state, is so of the channel as it is driven. -/
theorem BankCore.finish_edges {b : BankCore} {now p : Nat} {P : ChanTrip → ChanSense → Prop}
    (on : ∀ x : Chan, P x.trip x.sense → P (b.turnOn now p x).trip (b.turnOn now p x).sense)
    (off : ∀ (rate : Nat) (x : Chan), P x.trip x.sense → P (b.turnOff now p rate x).trip (b.turnOff now p rate x).sense)
    {x : Chan} (h : P x.trip x.sense) : P (b.finish now p x).trip (b.finish now p x).sense := by
  have driven : P (b.drive now p x).trip (b.drive now p x).sense := by
    have ruled := b.rampRule_apart now (b.noted now x)
    simp only [Chan.apart, Prod.mk.injEq] at ruled
    obtain ⟨-, -, -, trip, -, sense, -⟩ := ruled
    rw [BankCore.drive_eq]
    split
    · split
      · rw [trip, sense]
        exact h
      · split
        · exact h
        · exact on (b.noted now x) h
    · split
      · exact off _ (b.noted now x) h
      · exact h
  obtain ⟨-, trip, sense, -⟩ := b.finish_of now p x
  rw [trip, sense]
  unfold BankCore.settleChan BankCore.endHold
  split
  · exact off _ _ driven
  · exact driven

/-- A channel on course that is on keeps its sense state and its retries as it is driven. -/
theorem BankCore.finish_on_keeps {b : BankCore} {x : Chan} (now p : Nat) (on : x.io.on = true) (course : b.onCourseAt x = true) :
    (b.finish now p x).sense = x.sense ∧ (b.finish now p x).trip.retryCount = x.trip.retryCount := by
  cases d : b.drives x with
  | true =>
    have goes := BankCore.finish_goesOn now p on d course
    exact ⟨goes.sense, congrArg ChanTrip.retryCount goes.trip⟩
  | false =>
    obtain ⟨-, trip, sense, -⟩ := b.finish_turnOff now p x on d
    exact ⟨sense, by rw [trip, BankCore.turnOff_trip]; rfl⟩

/-- A channel whose hold has expired turns off (R149). -/
theorem BankCore.endHold_due {b : BankCore} {x : Chan} (now p : Nat) (on : x.io.on = true) (expired : x.ramp.expired = true) :
    b.endHold now p x = b.turnOff now p (slewRate (classAt p) 3) x :=
  if_pos (by simp [on, expired])

/-- A channel that is off stays off as it is driven, or turns on, or turns off again at that moment where a hold of 0 expires (R149). -/
theorem BankCore.finish_idle {b : BankCore} {x : Chan} (now p : Nat) (off : x.io.on = false) :
    ((b.finish now p x).io.on = false ∧ (b.finish now p x).trip = x.trip)
    ∨ ((b.finish now p x).io.on = true ∧ (b.finish now p x).trip = { x.trip with
        retryCount := if x.trip.retryDue then x.trip.retryCount + 1 else x.trip.retryCount, retryDue := false
        healthyT := x.trip.healthyT.start now, latchT := x.trip.latchT.start now })
    ∨ ((b.finish now p x).io.on = false ∧ x.ramp.expired = false ∧ (b.finish now p x).ramp.expired = true) := by
  cases d : b.drives x with
  | false =>
    obtain ⟨stays, trip, -⟩ := b.finish_rest now p x off d
    exact .inl ⟨stays, trip⟩
  | true =>
    cases expires : (b.turnOn now p (b.noted now x)).ramp.expired with
    | false =>
      rcases b.finish_turnOn now p x off d expires with ⟨on, -, -, trip, -⟩ | ⟨stays, -, -, trip, -⟩
      · exact .inr (.inl ⟨on, trip⟩)
      · exact .inl ⟨stays, trip⟩
    | true =>
      obtain ⟨io, trip, -, -, -, -, -, m, ramp⟩ := b.finish_of now p x
      rw [io, trip, ramp]
      unfold BankCore.settleChan
      rw [BankCore.drive_eq, if_pos d, if_neg (by rw [off]; exact Bool.false_ne_true)]
      by_cases zero : b.staysAtZero (b.noted now x) = true
      · rw [if_pos zero, BankCore.endHold_of b now p { b.noted now x with ramp := { (b.noted now x).ramp with zeroOff := true } } (.inl off)]
        exact .inl ⟨off, rfl⟩
      · rw [if_neg zero]
        rw [BankCore.endHold_due now p (b.turnOn_of now p (b.noted now x)).1 expires]
        exact .inr (.inr ⟨rfl, BankCore.drives_expired d, (congrArg ChanRamp.expired (Chan.suspendWindow_ramp _ _ _)).trans expires⟩)

/-! ## What trips leave -/

/-- A trip leaves the sense state of its channel, and holds it for its wire where that is its cause (R188). -/
theorem BankCore.trip_leaves (b : BankCore) (now p : Nat) (k : TripKind) (x : Chan) :
    (b.trip now p k x).sense = x.sense ∧ (b.trip now p k x).trip.wireHold = (x.trip.wireHold || decide (k = .wire)) := by
  obtain ⟨r, l, lapsed⟩ := x.lapseCounts_eq now
  unfold BankCore.trip
  dsimp only
  generalize hy : x.lapseCounts now = y at lapsed
  generalize hz : (if y.io.on then b.turnOff now p (if k = .detection then 0 else slewRate (classAt p) 3) y else y).dropWindow now = z
  suffices left : z.sense = x.sense ∧ z.trip.wireHold = x.trip.wireHold from ⟨left.1, congrArg (· || decide (k = .wire)) left.2⟩
  rw [← hz, lapsed]
  split
  · unfold Chan.dropWindow
    dsimp only
    rw [BankCore.turnOff_sense, BankCore.turnOff_trip]
    exact ⟨rfl, rfl⟩
  · exact ⟨rfl, rfl⟩

/-- A mark of its disturbance does not concern what a trip leaves of a channel. -/
theorem Chan.TripsTo.marked {x y : Chan} {now : Nat} (h : x.TripsTo now y) (v : Bool) :
    x.TripsTo now { y with trip := { y.trip with shorted := v } } :=
  ⟨h.off, h.window, h.counted, h.spent, h.backoff⟩

/-- What an event with messages leaves of a core is what the event without them does. -/
theorem Bank.actWith_act (b : Bank) (n now : Nat) (es : List (Nat × Nat × Nat)) (f : BankCore → BankCore) :
    (b.actWith n now es f).core = (b.act n now f).core := by
  have posted : (es.foldl (fun b e => b.post n (12 * n + e.1) e.2.1 e.2.2 true) b).core = b.core := Bank.foldl_post_core _ (fun _ _ => by simp) _ _
  unfold Bank.actWith
  rw [Bank.act_core_all, posted, ← Bank.act_core_all]

/-- A channel that an event trips has tripped, whatever ramps of the bank the event ends too late. -/
theorem Bank.act_trips {b : Bank} {n now p : Nat} {f : BankCore → BankCore} {x : Chan} (glide : (f (b.core.rebase now)).glideOn = b.core.glideOn)
    (hp : p < (f (b.core.rebase now)).chans.length) (trips : x.TripsTo now ((f (b.core.rebase now)).chan p)) :
    x.TripsTo now ((b.act n now f).core.chan p) := by
  have once : x.TripsTo now ((BankCore.settle (b.core.rebase now) (f (b.core.rebase now)) now).chan p) := by
    rw [BankCore.settle_chan _ _ _ _ hp (BankCore.leavesToSafe_same (b.core.rebase now) _ glide)]
    exact trips.finish _ p
  have length := hp.trans_eq (congrArg Prod.fst (BankCore.settle_sizes (b.core.rebase now) (f (b.core.rebase now)) now)).symm
  have early : p ∉ b.core.late now f := by
    simp [BankCore.late, BankCore.overruns, Chan.overdue, once.off]
  obtain ⟨chans, stays, others⟩ := BankCore.trips_keep (BankCore.settle (b.core.rebase now) (f (b.core.rebase now)) now) now (b.core.late now f)
  rw [Bank.act_core_all]
  split
  · exact once
  · rw [BankCore.settle_chan _ _ _ _ (by rw [chans]; exact length) (BankCore.leavesToSafe_same _ _ stays), others p early]
    exact once.finish _ p

end Sys2Proof.Machine
end


section
/-! O6: the trips of a channel (R166 to R168), and what the ends of the back-off, the latch-off and the counts bring (R173, R175, R176). -/

namespace Sys2Proof.Machine

/-! ## Trips -/

/-- The change of a bank by a trip of the channel at a position. -/
def BankCore.tripped (c : BankCore) (now p : Nat) (k : TripKind) : BankCore :=
  let d := c.editChan p fun x => c.trip now p k x
  if k = .detection then d.beginDisturbance now p else d

theorem Bank.tripChan_eq (b : Bank) (n now p : Nat) (k : TripKind) :
    b.tripChan n now p k = b.actWith n now [(0, tripCode k, 12 * n + p)] fun c => c.tripped now p k := rfl

theorem BankCore.tripped_edits (c : BankCore) (now p : Nat) (k : TripKind) : c.Edits p (c.tripped now p k) := by
  have trip := c.editChan_edits p (fun x => c.trip now p k x) (c.trip_rests now p k _)
  unfold BankCore.tripped
  dsimp only
  split
  · exact trip.trans (BankCore.beginDisturbance_edits _ now p)
  · exact trip

theorem BankCore.tripped_tripsTo {c : BankCore} {now p : Nat} (k : TripKind) (hp : p < c.chans.length) :
    (c.chan p).TripsTo now ((c.tripped now p k).chan p) := by
  have trips := c.trip_tripsTo now p k (c.chan p)
  have edited := c.chan_editChan_same p (fun x => c.trip now p k x) hp
  unfold BankCore.tripped
  dsimp only
  split
  · rw [BankCore.beginDisturbance_chan now (by simpa using hp), edited]
    exact trips.marked true
  · rw [edited]
    exact trips

theorem Bank.Whole.tripChan_tripsTo {b : Bank} {p : Nat} (h : b.Whole p) (n now : Nat) (k : TripKind) :
    (b.core.chan p).TripsTo now ((b.tripChan n now p k).core.chan p) := by
  have trips := BankCore.tripped_tripsTo (c := b.core.rebase now) (now := now) k (by simpa using h.lt)
  rw [BankCore.rebase_chan _ _ _ h.lt] at trips
  rw [Bank.tripChan_eq]
  exact Bank.actWith_tripsTo _ (BankCore.tripped_edits _ _ _ _) h.course h.shape h.position (trips.congr rfl rfl)

/-- A detection trip disturbs its bank (R154, R167). -/
theorem Bank.tripChan_disturbed (b : Bank) (n now p : Nat) : (b.tripChan n now p .detection).core.disturbed = true := by
  rw [Bank.tripChan_eq, Bank.actWith_act]
  exact Bank.act_keeps BankCore.disturbed (by simp) (by simp) b n now fun c => c.tripped now p .detection

/-- An event that trips a channel has tripped it, and its bank reports that (R168). -/
theorem State.onChan_tripped {s : State} {ch : Nat} {k : TripKind} {f : Bank → Nat → Nat → Nat → Bank} (runs : Ready.runs s ch = true)
    (event : f (s.bank (ch / 12)) (ch / 12) s.now (ch % 12) = (s.bank (ch / 12)).tripChan (ch / 12) s.now (ch % 12) k) :
    s.tripped (s.onChan ch f) ch k := by
  obtain ⟨hc, hs, bank⟩ := Ready.runs_bank runs
  have trips := bank.tripChan_tripsTo (ch / 12) s.now k
  rw [← event, ← State.chan_onChan s ch f hs hc] at trips
  refine ⟨State.tripsOff_of trips, fun room => ?_⟩
  have report := (s.bank (ch / 12)).actWith_reports (ch / 12) s.now 0 (tripCode k) (12 * (ch / 12) + ch % 12) (fun c => c.tripped s.now (ch % 12) k) room
  rw [← Bank.tripChan_eq, ← event, ← State.bank_onChan hc hs f, Nat.div_add_mod] at report
  exact report

theorem Bank.shortTrip_due {b : Bank} {n now p : Nat} (on : (b.core.chan p).io.on = true) (short : (b.core.chan p).trip.shortCct = true)
    (due : tripShort (classAt p) * 95 / 100 ≤ (b.core.chan p).trip.scTimer.value now) : b.shortTrip n now p = b.tripChan n now p .shortCircuit :=
  if_pos (by simp [on, short, earliest, due])

theorem Bank.overloadTrip_due {b : Bank} {n now p : Nat} (on : (b.core.chan p).io.on = true) (limited : (b.core.chan p).limited = true)
    (due : (b.core.chan p).overloadTime p * 95 / 100 ≤ (b.core.chan p).trip.olTimer.value now) :
    b.overloadTrip n now p = b.tripChan n now p .overload :=
  if_pos (by simp [on, limited, earliest, due])

theorem Bank.detectionTrip_due {b : Bank} {n now p ma held : Nat} (running : b.core.running = true) (on : (b.core.chan p).io.on = true)
    (above : detectAt (classAt p) < ma) (lasts : 1000 ≤ held) : b.detectionTrip n now p ma held = b.tripChan n now p .detection :=
  if_pos (by simp [running, on, above, lasts])

/-! ## Timers and counts -/

/-- A trip timer at 0 stays at 0 while it does not run (R166). -/
theorem BankCore.finish_timers {b : BankCore} {now p : Nat} {x : Chan} (ol : x.trip.olTimer = {}) (sc : x.trip.scTimer = {}) :
    (b.finish now p x).trip.olTimer = {} ∧ (b.finish now p x).trip.scTimer = {} := by
  refine BankCore.finish_edges (P := fun t _ => t.olTimer = {} ∧ t.scTimer = {}) (fun y h => ?_) (fun rate y h => ?_) ⟨ol, sc⟩
  · rw [(b.turnOn_of now p y).2.2.2.1]
    exact h
  · rw [BankCore.turnOff_trip, h.1, h.2]
    exact ⟨rfl, rfl⟩

/-- No retry is counted where none is due (R173). -/
theorem BankCore.finish_noRetry {b : BankCore} {now p : Nat} {x : Chan} (count : x.trip.retryCount = 0) (due : x.trip.retryDue = false) :
    (b.finish now p x).trip.retryCount = 0 := by
  refine (BankCore.finish_edges (P := fun t _ => t.retryCount = 0 ∧ t.retryDue = false) (fun y h => ?_) (fun rate y h => ?_) ⟨count, due⟩).1
  · rw [(b.turnOn_of now p y).2.2.2.1, h.2]
    exact ⟨h.1, rfl⟩
  · rw [BankCore.turnOff_trip]
    exact h

theorem Chan.lapseTimers_due {x : Chan} {now : Nat} (ol : elapsed x.trip.olGone 1000000 now = true) (sc : elapsed x.trip.scGone 1000000 now = true) :
    x.lapseTimers now = { x with trip := { x.trip with olTimer := {}, olGone := none, scTimer := {}, scGone := none } } := by
  unfold Chan.lapseTimers
  rw [if_pos ol]
  exact if_pos sc

theorem Bank.Whole.timerReset_timers {b : Bank} {p : Nat} (h : b.Whole p) (n now : Nat) (ol : elapsed (b.core.chan p).trip.olGone 1000000 now = true)
    (sc : elapsed (b.core.chan p).trip.scGone 1000000 now = true) :
    ((b.timerReset n now p).core.chan p).trip.olTimer = {} ∧ ((b.timerReset n now p).core.chan p).trip.scTimer = {} := by
  rw [h.editTrip_chan (d := b.timerReset n now p) rfl (Chan.lapseTimers_due ol sc)]
  exact BankCore.finish_timers rfl rfl

/-- A channel whose back-off ends, or whose wire model releases it after that (R172, R173). -/
def Chan.endBackoff (x : Chan) (now : Nat) : Chan :=
  let y := if elapsed x.trip.backoff 0 now then { x with trip := { x.trip with backoff := none, retryDue := true } } else x
  if y.trip.wireHold && y.trip.backoff.isNone && y.wireCool then { y with trip := { y.trip with wireHold := false } } else y

theorem Bank.backoffEnd_eq (b : Bank) (n now p : Nat) : b.backoffEnd n now p = b.editChan n now p fun x => x.endBackoff now := rfl

theorem Chan.endBackoff_due {x : Chan} {now : Nat} (due : elapsed x.trip.backoff 0 now = true) (free : x.trip.wireHold = false) :
    x.endBackoff now = { x with trip := { x.trip with backoff := none, retryDue := true } } := by
  unfold Chan.endBackoff
  rw [if_pos due]
  exact if_neg (by simp [free])

/-- An idle channel with a retry due as it is driven (R173): the turn-on counts the retry, which stays due while the channel is off. -/
theorem BankCore.finish_retry {b : BankCore} {x : Chan} (now p : Nat) (off : x.io.on = false) (due : x.trip.retryDue = true) :
    ((b.finish now p x).io.on = true → (b.finish now p x).trip.retryCount = x.trip.retryCount + 1 ∧ (b.finish now p x).trip.retryDue = false)
    ∧ ((b.finish now p x).io.on = false → (b.finish now p x).ramp.expired = x.ramp.expired →
        (b.finish now p x).trip.retryCount = x.trip.retryCount ∧ (b.finish now p x).trip.retryDue = true) := by
  rcases BankCore.finish_idle now p off with ⟨stays, trip⟩ | ⟨on, trip⟩ | ⟨stays, before, expired⟩
  · rw [stays, trip]
    exact ⟨fun on => absurd on Bool.false_ne_true, fun _ _ => ⟨rfl, due⟩⟩
  · rw [on, trip, due]
    exact ⟨fun _ => ⟨rfl, rfl⟩, fun stays => absurd stays.symm Bool.false_ne_true⟩
  · rw [stays, before, expired]
    exact ⟨fun on => absurd on Bool.false_ne_true, fun _ lasts => absurd lasts.symm Bool.false_ne_true⟩

theorem Bank.Whole.backoffEnd_chan {b : Bank} {p : Nat} (h : b.Whole p) (n now : Nat) (due : elapsed (b.core.chan p).trip.backoff 0 now = true)
    (free : (b.core.chan p).trip.wireHold = false) : (b.backoffEnd n now p).core.chan p
      = b.core.finish now p { b.core.chanAt now p with trip := { (b.core.chan p).trip with backoff := none, retryDue := true } } :=
  h.editTrip_chan (b.backoffEnd_eq n now p) (Chan.endBackoff_due (x := b.core.chanAt now p) due free)

/-- A latch-off clears once the demand of its channel has been off for long enough (R175). -/
theorem Bank.Whole.latchClear_chan {b : Bank} {p : Nat} (h : b.Whole p) (n now : Nat)
    (latched : elapsed (b.core.chan p).trip.latchedAt 10000000 now = true) (idle : elapsed (b.core.chan p).io.demandOffSince 10000000 now = true) :
    (b.latchClear n now p).core.chan p
      = b.core.finish now p { b.core.chanAt now p with trip := { (b.core.chan p).trip with latchedAt := none, retryCount := 0, retryDue := false } } :=
  h.editTrip_chan (d := b.latchClear n now p) rfl (if_pos (Bool.and_eq_true_iff.2 ⟨latched, idle⟩))

theorem Bank.Whole.retryReset_chan {b : Bank} {p : Nat} (h : b.Whole p) (n now : Nat)
    (due : (b.core.chan p).cfg.prot.healthy * 1000000 ≤ (b.core.chan p).trip.healthyT.value now) :
    (b.retryReset n now p).core.chan p = b.core.finish now p { b.core.chanAt now p with trip := { (b.core.chan p).trip with retryCount := 0 } } :=
  h.editTrip_chan (d := b.retryReset n now p) rfl (if_pos (decide_eq_true due))

theorem Bank.Whole.latchCountReset_chan {b : Bank} {p : Nat} (h : b.Whole p) (n now : Nat)
    (due : 600000000000 ≤ (b.core.chan p).trip.latchT.value now) :
    (b.latchCountReset n now p).core.chan p = b.core.finish now p { b.core.chanAt now p with trip := { (b.core.chan p).trip with latchCount := 0 } } :=
  h.editTrip_chan (d := b.latchCountReset n now p) rfl (if_pos (decide_eq_true due))

/-! ## The obligation -/

/-- Settles O6: each trip as the trip of its channel, and what lasts of the ends of timers and counts as the channel is driven. -/
theorem tripsTurnChannelsOffUntilTheirTimersEnd : Obligations.TripsTurnChannelsOffUntilTheirTimersEnd := by
  refine ⟨fun s ch h => ⟨_, rfl, ?_⟩, fun s ch h => ⟨_, rfl, ?_⟩, fun s ch ma held h => ⟨_, rfl, ?_⟩, fun s ch h => ⟨_, rfl, ?_⟩,
    fun s ch h => ⟨_, rfl, ?_⟩, fun s ch h => ⟨_, rfl, ?_⟩, fun s ch h => ⟨_, rfl, ?_⟩, fun s ch h => ⟨_, rfl, ?_⟩⟩
  · simp only [Ready.shortCircuitTrip, Bool.and_eq_true, decide_eq_true_eq] at h
    obtain ⟨⟨⟨runs, on⟩, short⟩, due⟩ := h
    exact State.onChan_tripped runs (Bank.shortTrip_due on short due)
  · simp only [Ready.overloadTrip, Bool.and_eq_true, decide_eq_true_eq] at h
    obtain ⟨⟨⟨runs, on⟩, limited⟩, due⟩ := h
    exact State.onChan_tripped runs (Bank.overloadTrip_due on limited due)
  · simp only [Ready.scDetectionTrip, Bool.and_eq_true, decide_eq_true_eq] at h
    obtain ⟨⟨⟨runs, on⟩, above⟩, lasts⟩ := h
    obtain ⟨hc, hs, running, -⟩ := Ready.runs_iff.1 runs
    have event := Bank.detectionTrip_due (n := ch / 12) (now := s.now) running on above lasts
    refine ⟨State.onChan_tripped runs event, ?_⟩
    rw [State.bank_onChan hc hs, event]
    exact Bank.tripChan_disturbed _ _ _ _
  · simp only [Ready.tripTimerReset, Bool.and_eq_true] at h
    obtain ⟨⟨⟨runs, -⟩, ol⟩, sc⟩ := h
    obtain ⟨hc, hs, bank⟩ := Ready.runs_bank runs
    rw [State.chan_onChan s ch _ hs hc]
    exact bank.timerReset_timers (ch / 12) s.now ol sc
  · simp only [Ready.backoffEnd, Bool.and_eq_true, Bool.not_eq_true'] at h
    obtain ⟨⟨⟨runs, off⟩, due⟩, free⟩ := h
    obtain ⟨hc, hs, bank⟩ := Ready.runs_bank runs
    rw [State.chan_onChan s ch _ hs hc, bank.backoffEnd_chan (ch / 12) s.now due free]
    exact ⟨BankCore.finish_trip_backoff _ _ _ _, BankCore.finish_retry s.now (ch % 12) off rfl⟩
  · simp only [Ready.latchOffClear, Bool.and_eq_true] at h
    obtain ⟨⟨runs, latched⟩, idle⟩ := h
    obtain ⟨hc, hs, bank⟩ := Ready.runs_bank runs
    rw [State.chan_onChan s ch _ hs hc, bank.latchClear_chan (ch / 12) s.now latched idle]
    exact ⟨BankCore.finish_trip_latchedAt _ _ _ _, BankCore.finish_noRetry rfl rfl⟩
  · simp only [Ready.retryCounterReset, Bool.and_eq_true, decide_eq_true_eq] at h
    obtain ⟨⟨runs, on⟩, due⟩ := h
    obtain ⟨hc, hs, bank⟩ := Ready.runs_bank runs
    rw [State.chan_onChan s ch _ hs hc, bank.retryReset_chan (ch / 12) s.now due]
    refine (BankCore.finish_on_keeps s.now (ch % 12) ?_ ?_).2
    · exact on
    · exact bank.onCourseAt
  · simp only [Ready.latchCountReset, Bool.and_eq_true, decide_eq_true_eq] at h
    obtain ⟨runs, due⟩ := h
    obtain ⟨hc, hs, bank⟩ := Ready.runs_bank runs
    rw [State.chan_onChan s ch _ hs hc, bank.latchCountReset_chan (ch / 12) s.now due]
    exact BankCore.finish_trip_latchCount _ _ _ _

end Sys2Proof.Machine
end


section
/-! The refutation of O7: a channel whose sources demand it at the end of a clamp turns on, and where its ramp reference stands at an intermediate target
already and its hold limit is 0, it turns off again at that moment (R149), so that a turn-off is under way after the clamp end. -/

namespace Sys2Proof.Machine

/-- A bank whose channel 0 is off with its turn-off under way, is demanded on, and has its output at its ramp target of 500 per mille, with a hold limit
of 0. -/
def clampedAtRampTarget : State :=
  { State.reset with
    banks := editAt State.reset.banks 0 fun b => { b with core := { b.core with
      running := true, supply := 24000
      chans := editAt b.core.chans 0 fun x => { x with
        cfg := { x.cfg with load := { loadType := 5, rampTarget := 500, rampHold := 0 } }
        io := { x.io with normal := .on, turningOff := true }
        sense := { x.sense with output := 12000 } } } } }

theorem clampedAtRampTarget_clampEnd : Ready.clampEnd clampedAtRampTarget 0 = true := by decide +kernel

theorem clampEnd_turnsOffAgain :
    ((clampedAtRampTarget.onChan 0 fun x b now p => x.clampEnd b now p []).chan 0).io.turningOff = true := by decide +kernel

/-- Refutes O7: the clamp end of a channel that is demanded on at its ramp target, with a hold limit of 0, begins another turn-off. -/
theorem not_clampEnergyIsIntegrated : ¬ Obligations.ClampEnergyIsIntegrated := by
  rintro ⟨clampEnd, -⟩
  obtain ⟨t, ran, -, -, ended, -⟩ := clampEnd clampedAtRampTarget 0 [] clampedAtRampTarget_clampEnd
  injection ran with ran
  subst ran
  exact Bool.false_ne_true (ended.symm.trans clampEnd_turnsOffAgain)

end Sys2Proof.Machine
end


section
/-! O8: the update of the wire model (R186, R187) and the trip at its limit (R188). -/

namespace Sys2Proof.Machine

/-- An update from a mean current in microamperes trips a channel that its wire does not hold already (R188). -/
def Chan.wireTrips (x : Chan) (p ua : Nat) : Bool := (x.wireStep p ua).wireSpent && !x.trip.wireHold

/-- The channels of a bank after an update of their wire models, those at their limit tripped. -/
def BankCore.wired (c : BankCore) (now : Nat) (currents : List Nat) : BankCore :=
  { c with chans := mapFrom (fun p x => if x.wireTrips p (currents.getD p 0) then c.trip now p .wire (x.wireStep p (currents.getD p 0))
                                        else x.wireStep p (currents.getD p 0)) 0 c.chans }

theorem Bank.wireUpdate_core {b : Bank} (n now : Nat) (currents : List Nat) (running : b.core.running = true) :
    (b.wireUpdate n now currents).core = (b.act n now fun c => c.wired now currents).core := by
  unfold Bank.wireUpdate
  rw [if_pos running]
  exact Bank.actWith_act b n now _ fun c => c.wired now currents

theorem BankCore.wired_chan {c : BankCore} {p : Nat} (now : Nat) (currents : List Nat) (hp : p < c.chans.length) :
    (c.wired now currents).chan p = if (c.chan p).wireTrips p (currents.getD p 0) then c.trip now p .wire ((c.chan p).wireStep p (currents.getD p 0))
      else (c.chan p).wireStep p (currents.getD p 0) :=
  (mapFrom_getD _ _ _ _ _ hp).trans (by rw [Nat.zero_add]; rfl)

/-- The rise of a channel one update later (R186, R187). -/
def Chan.heated (x : Chan) (p ua : Nat) : Rat := (x.wireStep p ua).sense.wireRise

/-- An update concerns the rise alone. -/
theorem Chan.wireStep_eq (x : Chan) (p ua : Nat) : x.wireStep p ua = { x with sense := { x.sense with wireRise := x.heated p ua } } := by
  unfold Chan.heated Chan.wireStep
  dsimp only
  split <;> rfl

theorem Chan.heated_none {x : Chan} (p ua : Nat) (none : x.cfg.prot.wireI = 0) : x.heated p ua = 0 := by
  unfold Chan.heated Chan.wireStep
  dsimp only
  rw [if_pos none]

/-- The rule of R186 and R187 is what an update computes. -/
theorem Ready.wireRiseAfter_eq {s : State} {b p : Nat} (ua : Nat) (hp : p < 12) (wire : (s.chan (12 * b + p)).cfg.prot.wireI ≠ 0) :
    Ready.wireRiseAfter s (12 * b + p) ua = (s.chan (12 * b + p)).heated p ua := by
  have cls : classOf (12 * b + p) = classAt p := by
    unfold classOf
    rw [show (12 * b + p) % 12 = p by omega]
  unfold Ready.wireRiseAfter Ready.staleMargin Chan.heated Chan.wireStep
  dsimp only
  rw [if_neg wire, cls]

theorem Chan.wireTrips_iff {x : Chan} {p ua : Nat} : x.wireTrips p ua = true
    ↔ x.cfg.prot.wireI ≠ 0 ∧ (x.cfg.prot.wireRise : Rat) ≤ x.heated p ua ∧ x.trip.wireHold = false := by
  unfold Chan.wireTrips Chan.wireSpent
  rw [Chan.wireStep_eq]
  simp [and_assoc]

/-- An update does not look at the ramp of its channel. -/
theorem Chan.rebaseRamp_heated (x : Chan) (supply now p ua : Nat) : (x.rebaseRamp supply now).heated p ua = x.heated p ua := by
  unfold Chan.heated Chan.wireStep
  dsimp only [Chan.rebaseRamp]
  split <;> rfl

theorem Chan.rebaseRamp_wireTrips (x : Chan) (supply now p ua : Nat) : (x.rebaseRamp supply now).wireTrips p ua = x.wireTrips p ua := by
  rw [Bool.eq_iff_iff, Chan.wireTrips_iff, Chan.wireTrips_iff, Chan.rebaseRamp_heated]
  rfl

section
variable {b : Bank} {p : Nat} (n now : Nat) (currents : List Nat) (hp : p < b.core.chans.length)
include hp

theorem Bank.act_wired_wireRise : ((b.act n now fun c => c.wired now currents).core.chan p).sense.wireRise
    = (b.core.chan p).heated p (currents.getD p 0) := by
  have tripped : ∀ (c : BankCore) (now p : Nat) (x : Chan), (c.trip now p .overload x).sense.wireRise = x.sense.wireRise := fun c now p x =>
    congrArg ChanSense.wireRise (c.trip_leaves now p .overload x).1
  rw [Bank.act_chan (fun x => x.sense.wireRise) BankCore.finish_sense_wireRise tripped b n now p _ rfl
    (by simpa [BankCore.wired] using hp), BankCore.wired_chan _ _ (by simpa using hp), BankCore.rebase_chan _ _ _ hp, ← Chan.rebaseRamp_heated]
  split
  · rw [(BankCore.trip_leaves _ _ _ _ _).1]
    rfl
  · rfl

/-- A channel that an update trips is off and held for its wire, and its trip is counted (R168, R188). -/
theorem Bank.act_wired_trips (trips : (b.core.chan p).wireTrips p (currents.getD p 0) = true) :
    (b.core.chan p).TripsTo now ((b.act n now fun c => c.wired now currents).core.chan p)
    ∧ ((b.act n now fun c => c.wired now currents).core.chan p).trip.wireHold = true := by
  have chan : ((b.core.rebase now).wired now currents).chan p
      = (b.core.rebase now).trip now p .wire ((b.core.chanAt now p).wireStep p (currents.getD p 0)) := by
    rw [BankCore.wired_chan _ _ (by simpa using hp), BankCore.rebase_chan _ _ _ hp]
    exact if_pos ((Chan.rebaseRamp_wireTrips ..).trans trips)
  have length : p < ((b.core.rebase now).wired now currents).chans.length := by simpa [BankCore.wired] using hp
  refine ⟨Bank.act_trips rfl length ?_, ?_⟩
  · rw [chan, Chan.wireStep_eq]
    exact (BankCore.trip_tripsTo _ now p .wire _).congr rfl rfl
  · rw [Bank.act_chan (fun x => x.trip.wireHold) BankCore.finish_trip_wireHold
      (fun c now p x => (c.trip_leaves now p .overload x).2.trans (Bool.or_false _)) b n now p (fun c => c.wired now currents) rfl length, chan,
      (BankCore.trip_leaves _ _ _ _ _).2]
    exact Bool.or_true _

end

/-- Settles O8: the rise as an update leaves it through driving and trips, and the trip at its limit. -/
theorem wireModelFollowsItsRule : Obligations.WireModelFollowsItsRule := by
  refine fun s b currents runs => ⟨_, rfl, fun p hp => ?_⟩
  obtain ⟨hb, hs, running⟩ := Ready.bankRuns_iff.1 runs
  have lt : p < (s.bank b).core.chans.length := State.shaped_chans hs b hb ▸ hp
  have rise := Bank.act_wired_wireRise b s.now currents lt
  have after : State.chan (s.onBank b fun x => x.wireUpdate b s.now currents) (12 * b + p)
      = ((s.bank b).act b s.now fun c => c.wired s.now currents).core.chan p := by
    rw [State.chan_of_bank _ _ _ hp, State.bank_onBank_runs runs, Bank.wireUpdate_core _ _ _ running]
  rw [← after, ← State.chan_of_bank s b p hp] at rise
  refine ⟨fun none => rise.trans (Chan.heated_none p _ none), fun wire => rise.trans (Ready.wireRiseAfter_eq _ hp wire).symm,
    fun wire free limit => ?_⟩
  rw [Ready.wireRiseAfter_eq _ hp wire] at limit
  have trips := Chan.wireTrips_iff.2 ⟨wire, limit, free⟩
  rw [State.chan_of_bank s b p hp] at trips
  obtain ⟨tripped, held⟩ := Bank.act_wired_trips b s.now currents lt trips
  rw [← after, ← State.chan_of_bank s b p hp] at tripped
  rw [← after] at held
  exact ⟨tripped.off, held, tripped.counted⟩

end Sys2Proof.Machine
end


section
/-! O9: open loads in both states (R183, R185), the offsets of the sense ranges (R190) and their age (R191). -/

namespace Sys2Proof.Machine

/-! ## Judged time -/

theorem Ready.judged_bank {s : State} {ch : Nat} (h : Ready.judged s ch = true) :
    Ready.runs s ch = true ∧ (s.bank (ch / 12)).core.judges ((s.bank (ch / 12)).core.chan (ch % 12)) s.now = true := by
  simp only [Ready.judged, Bool.and_eq_true] at h
  obtain ⟨⟨runs, unblanked⟩, calm⟩ := h
  obtain ⟨-, -, running, -⟩ := Ready.runs_iff.1 runs
  exact ⟨runs, by rw [BankCore.judges, running]; exact Bool.and_eq_true_iff.2 ⟨unblanked, calm⟩⟩

/-- A channel that rests is off, and its sources do not drive it on. -/
theorem Ready.resting_bank {s : State} {ch : Nat} (h : Ready.resting s ch = true) :
    (s.chan ch).io.on = false ∧ (s.bank (ch / 12)).core.drives (s.chan ch) = false := by
  simp only [Ready.resting, Bool.and_eq_true, Bool.not_eq_true'] at h
  obtain ⟨⟨-, off⟩, idle⟩ := h
  refine ⟨off, ?_⟩
  rw [BankCore.drives, Bool.and_assoc, idle, Bool.and_false]

/-! ## Open load -/

section
variable {b : Bank} {p ua mv held : Nat} (n now : Nat) (judges : b.core.judges (b.core.chan p) now = true)
  (filtered : (b.core.chan p).cfg.prot.openFilter * 1000000 ≤ held)
include judges filtered

theorem Bank.openOn_due (on : (b.core.chan p).io.on = true)
    (low : ua + (if (b.core.chan p).sense.stale then staleBand (classAt p) (b.core.chan p).cfg.io.led else 0) < (b.core.chan p).openThreshold) :
    b.openOn n now p ua held = b.editChan n now p fun x => { x with sense := { x.sense with openOn := true } } :=
  if_pos (by simp only [on, judges, low, filtered]; rfl)

theorem Bank.openOnClear_due (on : (b.core.chan p).io.on = true) (high : (b.core.chan p).openClearAt ≤ ua) :
    b.openOnClear n now p ua held = b.editChan n now p fun x => { x with sense := { x.sense with openOn := false } } :=
  if_pos (by simp [on, judges, high, filtered])

theorem Bank.openOff_due (source : (b.core.chan p).sense.sourceOn = true) (high : 2000 < mv) :
    b.openOff n now p mv held = b.editChan n now p fun x => { x with sense := { x.sense with openOff := true, output := mv } } :=
  if_pos (by simp [source, judges, high, filtered])

theorem Bank.openOffClear_due (source : (b.core.chan p).sense.sourceOn = true) (low : mv ≤ 2000) :
    b.openOffClear n now p mv held = b.editChan n now p fun x => { x with sense := { x.sense with openOff := false, output := mv } } :=
  if_pos (by simp [source, judges, low, filtered])

end

theorem Bank.sourceOn_due {b : Bank} {p : Nat} (n now : Nat) (judges : b.core.judges (b.core.chan p) now = true) (off : (b.core.chan p).io.on = false)
    (check : (b.core.chan p).cfg.prot.offCheck = true) (lasts : (b.core.chan p).io.blankUntil + 1000000 ≤ now) :
    b.sourceOn n now p = b.editChan n now p fun x => { x with sense := { x.sense with sourceOn := true } } :=
  if_pos (by simp [judges, off, check, lasts])

/-- A cleared off-state report stays cleared, since a turn-on clears it too (R185). -/
theorem BankCore.finish_openOff {b : BankCore} {now p : Nat} {x : Chan} (clear : x.sense.openOff = false) :
    (b.finish now p x).sense.openOff = false := by
  refine BankCore.finish_edges (P := fun _ v => v.openOff = false) (fun y _ => ?_) (fun rate y h => ?_) clear
  · rw [(b.turnOn_of now p y).2.2.2.2.1]
  · rw [BankCore.turnOff_sense]
    exact h

/-- A channel that rests takes an edit of its sense state, and rests on. -/
theorem Bank.Whole.editSense_rests {b d : Bank} {n now p : Nat} {g : Chan → Chan} {v : ChanSense} (h : b.Whole p) (event : d = b.editChan n now p g)
    (edited : g (b.core.chanAt now p) = { b.core.chanAt now p with sense := v }) (off : (b.core.chan p).io.on = false)
    (idle : b.core.drives (b.core.chan p) = false) : (d.core.chan p).sense = v ∧ (d.core.chan p).io.on = false := by
  obtain ⟨stays, -, sense, -⟩ := b.core.finish_rest now p { b.core.chanAt now p with sense := v } off idle
  rw [h.editSense_chan event edited]
  exact ⟨sense, stays⟩

/-! ## Offsets -/

theorem BankCore.finish_offset (b : BankCore) (now p : Nat) (x : Chan) : (b.finish now p x).offset = x.offset := by
  unfold Chan.offset
  rw [BankCore.finish_cfg, BankCore.finish_sense_offsetLed, BankCore.finish_sense_offsetStd]

/-- An accepted offset is that of the range in effect, and not stale. -/
theorem Chan.acceptOffset_leaves (x : Chan) (v : Int) (now : Nat) :
    (x.acceptOffset v now).offset = v ∧ (x.acceptOffset v now).sense.stale = false := by
  unfold Chan.acceptOffset Chan.offset
  cases x.cfg.io.led <;> exact ⟨rfl, rfl⟩

/-- A channel whose off-state zero gives its offset (R190). -/
def Chan.zeroed (x : Chan) (mean : Int) (now : Nat) : Chan :=
  { x.acceptOffset mean now with sense := { (x.acceptOffset mean now).sense with zeroAt := now } }

theorem Bank.zeroUpdate_due {b : Bank} {p : Nat} (n now : Nat) (mean : Int) (judges : b.core.judges (b.core.chan p) now = true)
    (off : (b.core.chan p).io.on = false) (lasts : (b.core.chan p).io.blankUntil + 250000 ≤ now)
    (due : (b.core.chan p).sense.zeroAt ≤ (b.core.chan p).io.blankUntil ∨ (b.core.chan p).sense.zeroAt + 10000000 ≤ now) :
    b.zeroUpdate n now p mean = b.editChan n now p fun x => x.zeroed mean now :=
  if_pos (by simp [judges, off, lasts, due])

theorem Bank.Whole.zeroed_chan {b : Bank} {p : Nat} (h : b.Whole p) (n now : Nat) (mean : Int) {x : Chan}
    (after : (b.editChan n now p fun x => x.zeroed mean now).core.chan p = x) : x.offset = mean ∧ x.sense.zeroAt = now ∧ x.sense.stale = false := by
  obtain ⟨offset, stale⟩ := (b.core.chanAt now p).acceptOffset_leaves mean now
  rw [h.editSense_chan rfl rfl] at after
  subst after
  exact ⟨(BankCore.finish_offset ..).trans offset, BankCore.finish_sense_zeroAt .., (BankCore.finish_sense_stale ..).trans stale⟩

/-- A channel after a cross-measurement (R190). -/
def Chan.crossed (x : Chan) (accepted : Bool) (v : Int) (now : Nat) : Chan :=
  if accepted then { x.acceptOffset v now with sense := { (x.acceptOffset v now).sense with crossAt := now, crossWait := 100000000 } }
  else { x with sense := { x.sense with crossAt := now, crossWait := 10000000 } }

theorem Chan.crossed_sense (x : Chan) (accepted : Bool) (v : Int) (now : Nat) :
    x.crossed accepted v now = { x with sense := (x.crossed accepted v now).sense } := by
  cases accepted <;> rfl

theorem Chan.crossed_leaves (x : Chan) (accepted : Bool) (v : Int) (now : Nat) : (x.crossed accepted v now).sense.crossAt = now
    ∧ (x.crossed accepted v now).offset = (if accepted then v else x.offset)
    ∧ (x.crossed accepted v now).sense.crossWait = (if accepted then 100000000 else 10000000) := by
  cases accepted with
  | false => exact ⟨rfl, rfl, rfl⟩
  | true => exact ⟨rfl, (x.acceptOffset_leaves v now).1, rfl⟩

theorem Bank.crossMeasure_due {b : Bank} {p : Nat} (n now : Nat) (clean : Bool) (direct inverted : Int) (running : b.core.running = true)
    (on : (b.core.chan p).io.on = true) (due : (b.core.chan p).sense.crossAt + (b.core.chan p).sense.crossWait ≤ now) :
    b.crossMeasure n now p clean direct inverted = b.editChan n now p fun x =>
      x.crossed (x.crossAccepted p now (clean && !b.core.disturbs x) direct inverted) ((direct - inverted) / 2) now :=
  if_pos (by simp [running, on, due])

theorem Bank.Whole.crossed_chan {b : Bank} {p : Nat} (h : b.Whole p) (n now : Nat) (on : (b.core.chan p).io.on = true) (accepts : Chan → Bool) (v : Int)
    {accepted : Bool} (judged : accepts (b.core.chanAt now p) = accepted) {x : Chan}
    (after : (b.editChan n now p fun x => x.crossed (accepts x) v now).core.chan p = x) :
    x.sense.crossAt = now ∧ x.offset = (if accepted then v else (b.core.chan p).offset)
      ∧ x.sense.crossWait = (if accepted then 100000000 else 10000000) := by
  subst judged
  have edited := (b.core.chanAt now p).crossed_sense (accepts (b.core.chanAt now p)) v now
  have driven := h.editSense_chan (d := b.editChan n now p fun x => x.crossed (accepts x) v now) rfl edited
  have sense := (BankCore.finish_on_keeps now p (b := b.core) (x := { b.core.chanAt now p with
    sense := ((b.core.chanAt now p).crossed (accepts (b.core.chanAt now p)) v now).sense }) on h.onCourseAt).1
  rw [← driven, after] at sense
  rw [after] at driven
  obtain ⟨crossAt, offset, wait⟩ := (b.core.chanAt now p).crossed_leaves (accepts (b.core.chanAt now p)) v now
  refine ⟨(congrArg ChanSense.crossAt sense).trans crossAt, ?_, (congrArg ChanSense.crossWait sense).trans wait⟩
  rw [driven, BankCore.finish_offset, ← edited]
  exact offset

/-! ## Age -/

/-- A channel whose offset is stale once it is too old (R191). -/
def Chan.stales (x : Chan) (now : Nat) : Chan :=
  if decide (10000000000 < x.offsetAge now) then { x with sense := { x.sense with stale := true } } else x

theorem Bank.goStale_eq (b : Bank) (n now p : Nat) : b.goStale n now p = b.editChan n now p fun x => x.stales now := rfl

theorem Chan.stales_due {x : Chan} {now : Nat}
    (old : (if x.cfg.io.led then x.sense.offsetAtLed else x.sense.offsetAtStd) + 10000000000 < now) :
    x.stales now = { x with sense := { x.sense with stale := true } } := by
  refine if_pos (decide_eq_true ?_)
  unfold Chan.offsetAge
  omega

/-! ## The obligation -/

/-- Settles O9: each mark and each offset as its event leaves them, through the driving of the channel. -/
theorem openLoadsAndSenseOffsetsAreTracked : Obligations.OpenLoadsAndSenseOffsetsAreTracked := by
  refine ⟨fun s ch ua held h => ⟨_, rfl, ?_⟩, fun s ch ua held h => ⟨_, rfl, ?_⟩, fun s ch h => ⟨_, rfl, ?_⟩,
    fun s ch mv held h => ⟨_, rfl, ?_⟩, fun s ch mv held h => ⟨_, rfl, ?_⟩, fun s ch mean h => ⟨_, rfl, ?_⟩,
    fun s ch clean direct inverted h => ⟨_, rfl, ?_⟩, fun s ch h => ⟨_, rfl, ?_⟩⟩
  · simp only [Ready.onStateOpenLoad, Ready.filtered, Bool.and_eq_true, decide_eq_true_eq] at h
    obtain ⟨⟨⟨judged, on⟩, low⟩, filtered⟩ := h
    obtain ⟨runs, judges⟩ := Ready.judged_bank judged
    obtain ⟨hc, hs, bank⟩ := Ready.runs_bank runs
    rw [State.chan_onChan s ch _ hs hc, Bank.openOn_due (ch / 12) s.now judges filtered on low, bank.editSense_chan rfl rfl]
    exact BankCore.finish_sense_openOn _ _ _ _
  · simp only [Ready.onStateOpenLoadClear, Ready.filtered, Bool.and_eq_true, decide_eq_true_eq] at h
    obtain ⟨⟨⟨judged, on⟩, filtered⟩, high⟩ := h
    obtain ⟨runs, judges⟩ := Ready.judged_bank judged
    obtain ⟨hc, hs, bank⟩ := Ready.runs_bank runs
    rw [State.chan_onChan s ch _ hs hc, Bank.openOnClear_due (ch / 12) s.now judges filtered on high, bank.editSense_chan rfl rfl]
    exact BankCore.finish_sense_openOn _ _ _ _
  · simp only [Ready.offStateSourceOn, Bool.and_eq_true, decide_eq_true_eq] at h
    obtain ⟨⟨⟨judged, resting⟩, check⟩, lasts⟩ := h
    obtain ⟨runs, judges⟩ := Ready.judged_bank judged
    obtain ⟨off, idle⟩ := Ready.resting_bank resting
    obtain ⟨hc, hs, bank⟩ := Ready.runs_bank runs
    obtain ⟨sense, stays⟩ := bank.editSense_rests (Bank.sourceOn_due (ch / 12) s.now judges off check lasts) rfl off idle
    rw [State.chan_onChan s ch _ hs hc]
    exact ⟨congrArg ChanSense.sourceOn sense, stays⟩
  · simp only [Ready.offStateOpenLoad, Ready.filtered, Bool.and_eq_true, decide_eq_true_eq] at h
    obtain ⟨⟨⟨⟨judged, resting⟩, source⟩, high⟩, filtered⟩ := h
    obtain ⟨runs, judges⟩ := Ready.judged_bank judged
    obtain ⟨off, idle⟩ := Ready.resting_bank resting
    obtain ⟨hc, hs, bank⟩ := Ready.runs_bank runs
    obtain ⟨sense, stays⟩ := bank.editSense_rests (Bank.openOff_due (ch / 12) s.now judges filtered source high) rfl off idle
    rw [State.chan_onChan s ch _ hs hc]
    exact ⟨congrArg ChanSense.openOff sense, stays⟩
  · simp only [Ready.offStateOpenLoadClear, Ready.filtered, Bool.and_eq_true, decide_eq_true_eq] at h
    obtain ⟨⟨⟨judged, source⟩, low⟩, filtered⟩ := h
    obtain ⟨runs, judges⟩ := Ready.judged_bank judged
    obtain ⟨hc, hs, bank⟩ := Ready.runs_bank runs
    rw [State.chan_onChan s ch _ hs hc, Bank.openOffClear_due (ch / 12) s.now judges filtered source low, bank.editSense_chan rfl rfl]
    exact BankCore.finish_openOff rfl
  · simp only [Ready.offStateZeroUpdate, Bool.and_eq_true, Bool.not_eq_true', Bool.or_eq_true, decide_eq_true_eq] at h
    obtain ⟨⟨⟨judged, off⟩, lasts⟩, due⟩ := h
    obtain ⟨runs, judges⟩ := Ready.judged_bank judged
    obtain ⟨hc, hs, bank⟩ := Ready.runs_bank runs
    rw [State.chan_onChan s ch _ hs hc, Bank.zeroUpdate_due (ch / 12) s.now mean judges off lasts due]
    exact bank.zeroed_chan (ch / 12) s.now mean rfl
  · simp only [Ready.crossMeasurement, Bool.and_eq_true, decide_eq_true_eq] at h
    obtain ⟨⟨runs, on⟩, due⟩ := h
    obtain ⟨-, -, running, -⟩ := Ready.runs_iff.1 runs
    obtain ⟨hc, hs, bank⟩ := Ready.runs_bank runs
    rw [State.chan_onChan s ch _ hs hc, Bank.crossMeasure_due (ch / 12) s.now clean direct inverted running on due]
    exact bank.crossed_chan (ch / 12) s.now on
      (fun x => x.crossAccepted (ch % 12) s.now (clean && !(s.bank (ch / 12)).core.disturbs x) direct inverted) _ rfl rfl
  · simp only [Ready.staleOffsetEnter, Bool.and_eq_true, decide_eq_true_eq] at h
    obtain ⟨runs, old⟩ := h
    obtain ⟨hc, hs, bank⟩ := Ready.runs_bank runs
    rw [State.chan_onChan s ch _ hs hc, bank.editSense_chan (Bank.goStale_eq _ (ch / 12) s.now _) (Chan.stales_due old)]
    exact BankCore.finish_sense_stale _ _ _ _

end Sys2Proof.Machine
end


section
/-! What temperature readings leave of a bank (R200, R201, R204), and what its events leave of the thermal state of a channel (R206 to R209) and of a
channel that heat holds off (R25). -/

namespace Sys2Proof.Machine

/-! ## Readings -/

/-- A reading of a sensor that is neither broken nor under condition 3 of R202. -/
structure Sensor.Serves (x : Sensor) (r : Int) : Prop where
  sound : x.broken = none
  closed : x.circuit = false
  low : -550 ≤ r
  high : r ≤ 2000

theorem Sensor.Serves.usable {x : Sensor} {r : Int} (h : x.Serves r) : ({ x with reading := r } : Sensor).unusable = false := by
  obtain ⟨sound, closed, low, high⟩ := h
  simp [Sensor.unusable, Sensor.condition3, sound, closed, low, high]

section
variable (c : BankCore) {i j : Nat} (r : Int) (now : Nat)

theorem BankCore.read_sensor (hi : i < c.sensors.length) : (c.read i r now).sensor i = { c.sensor i with reading := r } :=
  editAt_getD_same c.sensors i _ {} hi

theorem BankCore.read_sensor_other (h : i ≠ j) : (c.read i r now).sensor j = c.sensor j :=
  editAt_getD_other c.sensors i j _ {} h

theorem BankCore.read_sensors_length : (c.read i r now).sensors.length = c.sensors.length := editAt_length _ _ _

theorem BankCore.not_allBroken {c : BankCore} (hj : j < c.sensors.length) (sound : (c.sensor j).broken = none) : c.allBroken = false := by
  unfold BankCore.allBroken
  rw [List.all_eq_false]
  refine ⟨c.sensor j, ?_, by simp [sound]⟩
  unfold BankCore.sensor
  rw [List.getD_eq_getElem?_getD, List.getElem?_eq_getElem hj]
  exact List.getElem_mem _

/-- A reading leaves the thermal state of a bank that has a sensor which is not broken (R201). -/
theorem BankCore.read_thermal (hi : i < c.sensors.length) (sound : (c.sensor i).broken = none) : (c.read i r now).thermal = c.thermal := by
  have some_sound : BankCore.allBroken { c with sensors := editAt c.sensors i fun x => { x with reading := r } } = false :=
    BankCore.not_allBroken (j := i) (by simpa using hi) ((congrArg Sensor.broken (c.read_sensor r now hi)).trans sound)
  unfold BankCore.read BankCore.noteCool
  simp [some_sound]

end

/-- What a usable sensor reads is what stands at its position (R204). -/
theorem BankCore.tempIs_usable {c : BankCore} {p : Nat} (f : Int → Bool) (h : (c.sensor p).unusable = false) :
    c.tempIs p f = f (c.sensor p).reading := by
  simp [BankCore.tempIs, BankCore.channelTemp, BankCore.nearTemp, h]

theorem BankCore.read_tempIs {c : BankCore} {p : Nat} {r : Int} (now : Nat) (f : Int → Bool) (hp : p < c.sensors.length)
    (serves : (c.sensor p).Serves r) : (c.read p r now).tempIs p f = f r := by
  have read := c.read_sensor r now hp
  rw [BankCore.tempIs_usable f (by rw [read]; exact serves.usable), read]

/-! ## The thermal state of a channel -/

/-- The thermal state of a channel but for the timer of its on-time, which both edges touch (R209). -/
def Chan.heat (x : Chan) : ChanThermal := { x.thermal with streakT := {} }

theorem Chan.heat_fields {x : Chan} {v : ChanThermal} (h : x.heat = v) : x.thermal.warned = v.warned ∧ x.thermal.shutdown = v.shutdown
    ∧ x.thermal.shutdowns = v.shutdowns ∧ x.thermal.streak = v.streak ∧ x.thermal.latchedAt = v.latchedAt
    ∧ x.thermal.shedBy = v.shedBy := by
  subst h
  exact ⟨rfl, rfl, rfl, rfl, rfl, rfl⟩

theorem BankCore.finish_heat (b : BankCore) (now p : Nat) (x : Chan) : (b.finish now p x).heat = x.heat := by
  simp [Chan.heat]

theorem BankCore.turnOff_heat (b : BankCore) (now p rate : Nat) (x : Chan) : (b.turnOff now p rate x).heat = x.heat := by
  unfold BankCore.turnOff Chan.heat
  dsimp only
  rw [Chan.suspendWindow_thermal]

/-- What a trip keeps of a channel: its thermal state and its warning level. -/
theorem BankCore.trip_heat (b : BankCore) (now p : Nat) (k : TripKind) (x : Chan) :
    (b.trip now p k x).heat = x.heat ∧ (b.trip now p k x).cfg.warnLevel = x.cfg.warnLevel := by
  have off : ∀ (rate : Nat) (y : Chan), (b.turnOff now p rate y).heat = y.heat ∧ (b.turnOff now p rate y).cfg.warnLevel = y.cfg.warnLevel :=
    fun rate y => ⟨b.turnOff_heat now p rate y, congrArg ChanCfg.warnLevel (b.turnOff_counts now p rate y).1⟩
  obtain ⟨r, l, lapsed⟩ := x.lapseCounts_eq now
  unfold BankCore.trip
  dsimp only
  generalize hy : x.lapseCounts now = y at lapsed
  generalize hz : (if y.io.on then b.turnOff now p (if k = .detection then 0 else slewRate (classAt p) 3) y else y) = z
  suffices left : z.heat = y.heat ∧ z.cfg.warnLevel = y.cfg.warnLevel by
    rw [lapsed] at left
    exact left
  rw [← hz]
  split
  · exact off _ _
  · exact ⟨rfl, rfl⟩

/-- An event leaves the thermal state of a channel as its own change does, through driving and late trips. -/
theorem Bank.act_heat (b : Bank) (n now p : Nat) (f : BankCore → BankCore) (glide : (f (b.core.rebase now)).glideOn = b.core.glideOn)
    (length : p < (f (b.core.rebase now)).chans.length) : ((b.act n now f).core.chan p).heat = ((f (b.core.rebase now)).chan p).heat :=
  Bank.act_chan Chan.heat BankCore.finish_heat (fun c now p x => (c.trip_heat now p .overload x).1) b n now p f glide length

/-! ## Channels that heat holds off -/

/-- A thermal shutdown, or the tripped state of the bank, holds a channel off (R207, R210). -/
def BankCore.hot (c : BankCore) (p : Nat) : Prop := p < c.chans.length ∧ ((c.chan p).heat.shutdown = true ∨ c.thermal = .tripped)

theorem BankCore.hot_drives {c : BankCore} {p : Nat} (h : c.hot p) : c.drives (c.chan p) = false := by
  have held : c.heldOff (c.chan p) = true := by
    obtain ⟨-, shut | tripped⟩ := h
    · have shut : (c.chan p).thermal.shutdown = true := shut
      simp [BankCore.heldOff, shut]
    · simp [BankCore.heldOff, tripped]
  rw [BankCore.drives, held, Bool.not_true, Bool.and_false]

theorem BankCore.hot_settle {x c : BankCore} {p : Nat} (now : Nat) (stays : x.leavesToSafe c = false) (h : c.hot p) : (x.settle c now).hot p := by
  refine ⟨h.1.trans_eq (congrArg Prod.fst (BankCore.settle_sizes x c now)).symm, ?_⟩
  rw [BankCore.settle_chan _ _ _ _ h.1 stays, BankCore.finish_heat, BankCore.settle_thermal]
  exact h.2

theorem BankCore.hot_trip {c : BankCore} {p : Nat} (now q : Nat) (h : c.hot p) : (c.editChan q fun x => c.trip now q .overload x).hot p := by
  refine ⟨by simpa using h.1, ?_⟩
  by_cases same : p = q
  · subst same
    rw [BankCore.chan_editChan_same _ _ _ h.1, (c.trip_heat now p .overload _).1]
    exact h.2
  · rw [BankCore.chan_editChan_other _ _ _ _ same]
    exact h.2

/-- A channel that an event leaves held off by heat is off. -/
theorem Bank.act_hot_off {b : Bank} {n now p : Nat} {f : BankCore → BankCore} (glide : (f (b.core.rebase now)).glideOn = b.core.glideOn)
    (hot : (f (b.core.rebase now)).hot p) : ((b.act n now f).core.chan p).io.on = false := by
  have settled : ∀ x c : BankCore, x.leavesToSafe c = false → c.hot p → ((x.settle c now).chan p).io.on = false := fun x c stays h => by
    rw [BankCore.settle_chan _ _ _ _ h.1 stays]
    exact c.finish_off now p _ (BankCore.hot_drives h)
  have once := BankCore.leavesToSafe_same (b.core.rebase now) _ glide
  rw [Bank.act_core_all]
  split
  · exact settled _ _ once hot
  · refine settled _ _ (BankCore.leavesToSafe_same _ _ (BankCore.trips_keep _ now _).2.1) ?_
    exact List.foldlRecOn (motive := fun c : BankCore => c.hot p) _ _ (BankCore.hot_settle now once hot) fun c h q _ => BankCore.hot_trip now q h

end Sys2Proof.Machine
end


section
/-! O10: warnings (R206), thermal shutdowns (R207, R208) and their latch (R209). -/

namespace Sys2Proof.Machine

/-- A channel of a bank that runs, whose sensor serves with a reading (R202). -/
theorem Ready.sensed_bank {s : State} {ch : Nat} {temp : Int} (h : Ready.sensed s ch temp = true) :
    ch < 48 ∧ s.shaped = true ∧ (s.bank (ch / 12)).core.running = true ∧ ((s.bank (ch / 12)).core.sensor (ch % 12)).Serves temp := by
  simp only [Ready.sensed, Bool.and_eq_true, Bool.not_eq_true', Option.isNone_iff_eq_none, decide_eq_true_eq] at h
  obtain ⟨⟨⟨⟨runs, sound⟩, closed⟩, low⟩, high⟩ := h
  obtain ⟨hc, hs, running, -⟩ := Ready.runs_iff.1 runs
  exact ⟨hc, hs, running, sound, closed, low, high⟩

theorem State.shaped_sensors {s : State} (h : s.shaped = true) {b : Nat} (hb : b < 4) : (s.bank b).core.sensors.length = 14 :=
  (BankCore.shaped_iff.1 (s.shaped_core h b hb)).2.1

theorem State.sensor_lt {s : State} {ch : Nat} (hc : ch < 48) (hs : s.shaped = true) : ch % 12 < (s.bank (ch / 12)).core.sensors.length := by
  rw [State.shaped_sensors hs (by omega)]
  omega

/-! ## Events that read the sensor of their channel -/

theorem BankCore.rebase_read_chan {c : BankCore} {i now p : Nat} {r : Int} (hp : p < c.chans.length) :
    ((c.rebase now).read i r now).chan p = c.chanAt now p := c.rebase_chan now p hp

/-- The sensor of a channel is read, and the channel changes where the bank after it calls for that. -/
def BankCore.readEdit (c : BankCore) (now p : Nat) (r : Int) (due : BankCore → Bool) (g : Chan → Chan) : BankCore :=
  if due (c.read p r now) then (c.read p r now).editChan p g else c.read p r now

theorem BankCore.readEdit_chan {c : BankCore} {now p : Nat} {r : Int} {due : BankCore → Bool} (hp : p < c.chans.length)
    (called : due ((c.rebase now).read p r now) = true) (g : Chan → Chan) : ((c.rebase now).readEdit now p r due g).chan p = g (c.chanAt now p) := by
  rw [BankCore.readEdit, if_pos called]
  exact BankCore.rebase_editChan_chan hp g

theorem BankCore.readEdit_leaves (c : BankCore) (now p : Nat) (r : Int) (due : BankCore → Bool) (g : Chan → Chan) :
    (c.readEdit now p r due g).chans.length = c.chans.length ∧ (c.readEdit now p r due g).glideOn = c.glideOn := by
  unfold BankCore.readEdit
  split
  · exact ⟨editAt_length _ _ _, rfl⟩
  · exact ⟨rfl, rfl⟩

section
variable {b : Bank} {now p : Nat} {r : Int} {due : BankCore → Bool} (n : Nat) (hp : p < b.core.chans.length)
  (called : due ((b.core.rebase now).read p r now) = true) (g : Chan → Chan)
include hp called

theorem Bank.readEdit_heat : ((b.act n now fun c => c.readEdit now p r due g).core.chan p).heat = (g (b.core.chanAt now p)).heat := by
  obtain ⟨length, glide⟩ := (b.core.rebase now).readEdit_leaves now p r due g
  rw [b.act_heat n now p (fun c => c.readEdit now p r due g) glide (by rw [length]; simpa using hp), BankCore.readEdit_chan hp called]

theorem Bank.readEdit_off (shut : (g (b.core.chanAt now p)).heat.shutdown = true) :
    ((b.act n now fun c => c.readEdit now p r due g).core.chan p).io.on = false := by
  obtain ⟨length, glide⟩ := (b.core.rebase now).readEdit_leaves now p r due g
  refine Bank.act_hot_off glide ⟨by rw [length]; simpa using hp, .inl ?_⟩
  rw [BankCore.readEdit_chan hp called]
  exact shut

end

/-- The channel at a position is not shut down and stands at 175.0 degrees or above (R207). -/
def BankCore.shutDue (p : Nat) (c : BankCore) : Bool := c.running && !(c.chan p).thermal.shutdown && c.tempIs p fun t => decide (1750 ≤ t)

theorem Bank.thermalShutdown_eq (b : Bank) (n now p : Nat) (r : Int) :
    b.thermalShutdown n now p r = b.act n now fun c => c.readEdit now p r (BankCore.shutDue p) fun x => x.shut now := rfl

/-- A shutdown looks at the thermal state of its channel alone (R207, R209). -/
theorem Chan.shut_heat {x y : Chan} (now : Nat) (same : x.thermal = y.thermal) : (x.shut now).heat = (y.shut now).heat := by
  unfold Chan.heat Chan.shut
  dsimp only
  rw [same]

/-- The sixteenth shutdown of a streak latches, and none before it (R209). -/
theorem Chan.shut_latchedAt (x : Chan) (now : Nat) : (16 ≤ (x.shut now).thermal.streak → (x.shut now).thermal.latchedAt = some now)
    ∧ ((x.shut now).thermal.streak < 16 → (x.shut now).thermal.latchedAt = x.thermal.latchedAt) :=
  ⟨fun many => if_pos many, fun few => if_neg (Nat.not_le_of_lt few)⟩

section
variable {b : Bank} {p : Nat} {r : Int} (n now : Nat) (hp : p < b.core.chans.length) (hs : p < b.core.sensors.length)
  (running : b.core.running = true) (serves : (b.core.sensor p).Serves r)
include hp hs running serves

theorem Bank.thermalWarn_heat (warm : (b.core.chan p).cfg.warnLevel ≤ r) :
    ((b.thermalWarn n now p r).core.chan p).heat = { (b.core.chan p).heat with warned := true } := by
  refine Bank.readEdit_heat n hp (due := fun c => c.running && c.tempIs p fun t => decide ((c.chan p).cfg.warnLevel ≤ t)) ?_
    fun x => { x with thermal := { x.thermal with warned := true } }
  rw [BankCore.read_tempIs (c := b.core.rebase now) now _ hs serves, BankCore.rebase_read_chan hp]
  exact Bool.and_eq_true_iff.2 ⟨running, decide_eq_true warm⟩

theorem Bank.thermalShutdown_leaves (idle : (b.core.chan p).thermal.shutdown = false) (hot : 1750 ≤ r) :
    ((b.thermalShutdown n now p r).core.chan p).heat = ((b.core.chan p).shut now).heat ∧ ((b.thermalShutdown n now p r).core.chan p).io.on = false := by
  have due : BankCore.shutDue p ((b.core.rebase now).read p r now) = true := by
    unfold BankCore.shutDue
    rw [BankCore.read_tempIs (c := b.core.rebase now) now _ hs serves, BankCore.rebase_read_chan hp]
    exact Bool.and_eq_true_iff.2 ⟨Bool.and_eq_true_iff.2 ⟨running, congrArg (!·) idle⟩, decide_eq_true hot⟩
  rw [Bank.thermalShutdown_eq]
  exact ⟨(Bank.readEdit_heat n hp due fun x => x.shut now).trans (Chan.shut_heat now rfl), Bank.readEdit_off n hp due (fun x => x.shut now) rfl⟩

theorem Bank.thermalExit_heat (shut : (b.core.chan p).thermal.shutdown = true) (cool : r < 1600) :
    ((b.thermalExit n now p r).core.chan p).heat = { (b.core.chan p).heat with shutdown := false } := by
  refine Bank.readEdit_heat n hp (due := fun c => c.running && (c.chan p).thermal.shutdown && c.tempIs p fun t => decide (t < 1600)) ?_
    fun x => { x with thermal := { x.thermal with shutdown := false } }
  rw [BankCore.read_tempIs (c := b.core.rebase now) now _ hs serves, BankCore.rebase_read_chan hp]
  exact Bool.and_eq_true_iff.2 ⟨Bool.and_eq_true_iff.2 ⟨running, shut⟩, decide_eq_true cool⟩

end

/-! ## Events that edit their channel -/

/-- An event that edits one channel leaves its thermal state as edited. -/
theorem Bank.editChan_heat {b : Bank} {p : Nat} (n now : Nat) (hp : p < b.core.chans.length) (g : Chan → Chan) :
    ((b.editChan n now p g).core.chan p).heat = (g (b.core.chanAt now p)).heat :=
  (b.act_heat n now p _ rfl (by simpa using hp)).trans (congrArg Chan.heat (BankCore.rebase_editChan_chan hp g))

theorem Bank.thermalWarnClear_unwarned {b : Bank} {p : Nat} (n now : Nat) (hp : p < b.core.chans.length) :
    ((b.thermalWarnClear n now p).core.chan p).thermal.warned = false := by
  obtain ⟨unwarned, -⟩ := Chan.heat_fields (Bank.editChan_heat n now hp fun x => { x with thermal := { x.thermal with warned := false } })
  exact unwarned

theorem Bank.thermalLatchClear_heat {b : Bank} {p : Nat} (n now : Nat) (hp : p < b.core.chans.length)
    (latched : elapsed (b.core.chan p).thermal.latchedAt 10000000 now = true) (off : elapsed (b.core.chan p).io.demandOffSince 10000000 now = true) :
    ((b.thermalLatchClear n now p).core.chan p).heat = { (b.core.chan p).heat with latchedAt := none, streak := 0 } :=
  (Bank.editChan_heat n now hp _).trans (congrArg Chan.heat (if_pos (Bool.and_eq_true_iff.2 ⟨latched, off⟩)))

theorem Bank.thermalCountReset_heat {b : Bank} {p : Nat} (n now : Nat) (hp : p < b.core.chans.length)
    (lasts : 1000000000 ≤ (b.core.chan p).thermal.streakT.value now) :
    ((b.thermalCountReset n now p).core.chan p).heat = { (b.core.chan p).heat with streak := 0 } :=
  (Bank.editChan_heat n now hp _).trans (congrArg Chan.heat (if_pos (decide_eq_true lasts)))

/-! ## The end of a warning -/

/-- The sensor of a channel is read. -/
def State.tempRead (s : State) (ch : Nat) (temp : Int) : State := s.onChan ch fun x b now p => x.act b now fun c => c.read p temp now

/-- The warning of a lane of one channel clears where that channel has cooled (R206). -/
theorem execThermalWarningClear_lone {s : State} {ch : Nat} {temp : Int} (lone : (s.hub.owner ch).elim [ch] s.hub.chansOf = [ch])
    (running : ((s.tempRead ch temp).bank (ch / 12)).core.running = true) (gone : ((s.tempRead ch temp).bank (ch / 12)).core.warnGone (ch % 12) = true) :
    execThermalWarningClear ch temp s = .next ((s.tempRead ch temp).onChan ch fun x b now p => x.thermalWarnClear b now p) := by
  have read : (s.onChan ch fun x b now p => x.act b now fun c => c.read p temp now) = s.tempRead ch temp := rfl
  have hub : (s.tempRead ch temp).hub = s.hub := rfl
  have clears : ∀ lane, lane = [ch] → (((s.tempRead ch temp).bank (ch / 12)).core.running && lane.all fun k =>
      !((s.tempRead ch temp).bank (k / 12)).core.running || ((s.tempRead ch temp).bank (k / 12)).core.warnGone (k % 12)) = true := by
    rintro _ rfl
    simp [running, gone]
  unfold execThermalWarningClear
  dsimp only
  rw [read, hub]
  cases owner : s.hub.owner ch with
  | none => exact congrArg Host.Outcome.next (if_pos (clears _ rfl))
  | some n =>
    have lane : s.hub.chansOf n = [ch] := by rwa [owner] at lone
    exact congrArg Host.Outcome.next ((if_pos (clears _ lane)).trans (by dsimp only; rw [lane]; rfl))

/-- A reading leaves a bank running, its sensor as read and the warning level of its channel. -/
theorem State.tempRead_leaves {s : State} {ch : Nat} {temp : Int} (h : Ready.sensed s ch temp = true) :
    ((s.tempRead ch temp).bank (ch / 12)).core.running = true
    ∧ ((s.tempRead ch temp).bank (ch / 12)).core.sensor (ch % 12) = { (s.bank (ch / 12)).core.sensor (ch % 12) with reading := temp }
    ∧ (((s.tempRead ch temp).bank (ch / 12)).core.chan (ch % 12)).cfg.warnLevel = (s.chan ch).cfg.warnLevel
    ∧ ch % 12 < ((s.tempRead ch temp).bank (ch / 12)).core.chans.length := by
  obtain ⟨hc, hs, running, -⟩ := Ready.sensed_bank h
  have hp := State.position_lt hc hs
  have bank : (s.tempRead ch temp).bank (ch / 12) = (s.bank (ch / 12)).act (ch / 12) s.now fun c => c.read (ch % 12) temp s.now :=
    State.bank_onChan hc hs _
  rw [bank]
  refine ⟨(Bank.act_keeps BankCore.running (by simp) (by simp) _ _ _ _).trans running, ?_, ?_, ?_⟩
  · unfold BankCore.sensor
    rw [Bank.act_keeps BankCore.sensors (by simp) (by simp)]
    exact BankCore.read_sensor ((s.bank (ch / 12)).core.rebase s.now) temp s.now (State.sensor_lt hc hs)
  · refine (Bank.act_chan (fun x => x.cfg.warnLevel) (fun c now p x => congrArg ChanCfg.warnLevel (c.finish_cfg now p x))
      (fun c now p x => (c.trip_heat now p .overload x).2) _ _ _ _ _ rfl ?_).trans ?_
    · exact hp.trans_eq (BankCore.rebase_chans_length _ _).symm
    · rw [BankCore.rebase_read_chan hp]
      rfl
  · have follows := (s.bank (ch / 12)).act_follows (ch / 12) s.now (fun c => c.read (ch % 12) temp s.now) (BankCore.read_tame _ _ _ _)
    rw [(BankCore.shaped_iff.1 (follows.1 (s.shaped_core hs _ (by omega)))).1]
    omega

/-- A lane of one channel that has cooled has no warning after it (R206). -/
theorem execThermalWarningClear_unwarned {s : State} {ch : Nat} {temp : Int} (sensed : Ready.sensed s ch temp = true)
    (cool : temp < (s.chan ch).cfg.warnLevel - 50) (lone : (s.hub.owner ch).elim [ch] s.hub.chansOf = [ch]) :
    ∃ t, execThermalWarningClear ch temp s = .next t ∧ (t.chan ch).thermal.warned = false := by
  obtain ⟨hc, hs, -, serves⟩ := Ready.sensed_bank sensed
  obtain ⟨running, sensor, level, hp⟩ := State.tempRead_leaves sensed
  have gone : ((s.tempRead ch temp).bank (ch / 12)).core.warnGone (ch % 12) = true := by
    unfold BankCore.warnGone
    rw [BankCore.tempIs_usable _ (by rw [sensor]; exact serves.usable), sensor, level]
    exact decide_eq_true cool
  have banks : ch / 12 < (s.tempRead ch temp).banks.length := by
    unfold State.tempRead State.onChan State.onBank
    rw [editAt_length, State.shaped_banks hs]
    omega
  refine ⟨_, execThermalWarningClear_lone lone running gone, ?_⟩
  unfold State.chan
  rw [State.onChan, State.bank_onBank_same _ _ _ banks]
  exact Bank.thermalWarnClear_unwarned _ _ hp

/-! ## The obligation -/

/-- Settles O10: each event by what it leaves of the thermal state of its channel, and a shutdown by what holds its channel off. -/
theorem channelTemperatureActions : Obligations.ChannelTemperatureActions := by
  refine ⟨fun s ch temp h => ⟨_, rfl, ?_⟩, fun s ch temp h => ?_, fun s ch temp h => ⟨_, rfl, ?_⟩, fun s ch temp h => ⟨_, rfl, ?_⟩,
    fun s ch h => ⟨_, rfl, ?_⟩, fun s ch h => ⟨_, rfl, ?_⟩⟩
  · simp only [Ready.thermalWarning, Bool.and_eq_true, decide_eq_true_eq] at h
    obtain ⟨sensed, warm⟩ := h
    obtain ⟨hc, hs, running, serves⟩ := Ready.sensed_bank sensed
    rw [State.chan_onChan s ch _ hs hc]
    obtain ⟨warned, -⟩ := Chan.heat_fields
      (Bank.thermalWarn_heat (ch / 12) s.now (State.position_lt hc hs) (State.sensor_lt hc hs) running serves warm)
    exact warned
  · simp only [Ready.thermalWarningClear, Bool.and_eq_true, decide_eq_true_eq] at h
    obtain ⟨⟨sensed, cool⟩, lone⟩ := h
    exact execThermalWarningClear_unwarned sensed cool lone
  · simp only [Ready.thermalShutdown, Bool.and_eq_true, Bool.not_eq_true', decide_eq_true_eq] at h
    obtain ⟨⟨sensed, idle⟩, hot⟩ := h
    obtain ⟨hc, hs, running, serves⟩ := Ready.sensed_bank sensed
    obtain ⟨heat, off⟩ := Bank.thermalShutdown_leaves (ch / 12) s.now (State.position_lt hc hs) (State.sensor_lt hc hs) running serves idle hot
    rw [State.chan_onChan s ch _ hs hc]
    obtain ⟨-, shut, counted, streak, latched, -⟩ := Chan.heat_fields heat
    rw [shut, counted, streak, latched]
    exact ⟨rfl, off, rfl, rfl, Chan.shut_latchedAt _ _⟩
  · simp only [Ready.thermalShutdownExit, Bool.and_eq_true, decide_eq_true_eq] at h
    obtain ⟨⟨sensed, shut⟩, cool⟩ := h
    obtain ⟨hc, hs, running, serves⟩ := Ready.sensed_bank sensed
    rw [State.chan_onChan s ch _ hs hc]
    obtain ⟨-, ended, -⟩ := Chan.heat_fields
      (Bank.thermalExit_heat (ch / 12) s.now (State.position_lt hc hs) (State.sensor_lt hc hs) running serves shut cool)
    exact ended
  · simp only [Ready.thermalLatchClear, Bool.and_eq_true] at h
    obtain ⟨⟨runs, latched⟩, off⟩ := h
    obtain ⟨hc, hs, whole⟩ := Ready.runs_bank runs
    rw [State.chan_onChan s ch _ hs hc]
    obtain ⟨-, -, -, streak, cleared, -⟩ := Chan.heat_fields (Bank.thermalLatchClear_heat (ch / 12) s.now whole.lt latched off)
    exact ⟨cleared, streak⟩
  · simp only [Ready.thermalCountReset, Bool.and_eq_true, decide_eq_true_eq] at h
    obtain ⟨runs, lasts⟩ := h
    obtain ⟨hc, hs, whole⟩ := Ready.runs_bank runs
    rw [State.chan_onChan s ch _ hs hc]
    obtain ⟨-, -, -, streak, -⟩ := Chan.heat_fields (Bank.thermalCountReset_heat (ch / 12) s.now whole.lt lasts)
    exact streak

end Sys2Proof.Machine
end


section
/-! O11: the thermal states of a bank (R210, Table 07-2), its shed holds (R213) and its sensors (R203, R204). -/

namespace Sys2Proof.Machine

/-! ## The reference sensors -/

/-- Both reference sensors of a bank serve with their readings. -/
structure BankCore.RefsServe (c : BankCore) (r1 r2 : Int) : Prop where
  sensors : c.sensors.length = 14
  first : (c.sensor 12).Serves r1
  second : (c.sensor 13).Serves r2

theorem Ready.refs_bank {s : State} {b : Nat} {r1 r2 : Int} (h : Ready.refs s b r1 r2 = true) :
    Ready.bankRuns s b = true ∧ (s.bank b).core.RefsServe r1 r2 := by
  simp only [Ready.refs, Bool.and_eq_true, Bool.not_eq_true', Option.isNone_iff_eq_none, decide_eq_true_eq] at h
  obtain ⟨⟨⟨⟨⟨⟨⟨⟨runs, sound1⟩, sound2⟩, closed1⟩, closed2⟩, low1⟩, high1⟩, low2⟩, high2⟩ := h
  obtain ⟨hb, hs, -⟩ := Ready.bankRuns_iff.1 runs
  exact ⟨runs, State.shaped_sensors hs hb, ⟨sound1, closed1, low1, high1⟩, ⟨sound2, closed2, low2, high2⟩⟩

/-- The readings leave what governs the channels, and the levels of the bank. -/
theorem BankCore.readRefs_leaves (c : BankCore) (r1 r2 : Int) (now : Nat) : (c.readRefs r1 r2 now).running = c.running
    ∧ (c.readRefs r1 r2 now).chans = c.chans ∧ (c.readRefs r1 r2 now).glideOn = c.glideOn
    ∧ (c.readRefs r1 r2 now).warnAt = c.warnAt ∧ (c.readRefs r1 r2 now).shedAt = c.shedAt := ⟨rfl, rfl, rfl, rfl, rfl⟩

section
variable {c : BankCore} {r1 r2 : Int} (now : Nat) (h : c.RefsServe r1 r2)
include h

/-- The bank temperature is the higher reference reading (R201). -/
theorem BankCore.readRefs_temperature : (c.readRefs r1 r2 now).temperature = some (max r1 r2) := by
  have first : (c.readRefs r1 r2 now).sensor 12 = { c.sensor 12 with reading := r1 } := by
    unfold BankCore.readRefs
    rw [BankCore.read_sensor_other _ _ _ (by decide), BankCore.read_sensor _ _ _ (by simp [h.sensors])]
  have second : (c.readRefs r1 r2 now).sensor 13 = { c.sensor 13 with reading := r2 } := by
    unfold BankCore.readRefs
    rw [BankCore.read_sensor _ _ _ (by simp [BankCore.read_sensors_length, h.sensors]), BankCore.read_sensor_other _ _ _ (by decide)]
  simp [BankCore.temperature, first, second, h.first.usable, h.second.usable]

/-- The readings alone leave the thermal state of the bank. -/
theorem BankCore.readRefs_thermal : (c.readRefs r1 r2 now).thermal = c.thermal := by
  unfold BankCore.readRefs
  rw [BankCore.read_thermal _ _ _ (by simp [BankCore.read_sensors_length, h.sensors])
      (by rw [BankCore.read_sensor_other _ _ _ (by decide)]; exact h.second.sound),
    BankCore.read_thermal _ _ _ (by simp [h.sensors]) h.first.sound]

end

/-! ## Moves between the thermal states -/

/-- The reference sensors of a bank are read, and a bank that runs moves where its temperature calls for it. -/
def BankCore.thermalMove (c : BankCore) (now : Nat) (r1 r2 : Int) (f : BankCore → Option Int → Option ThermalState) : BankCore :=
  if (c.readRefs r1 r2 now).running then
    match f (c.readRefs r1 r2 now) (c.readRefs r1 r2 now).temperature with
    | none => c.readRefs r1 r2 now
    | some st => { c.readRefs r1 r2 now with thermal := st }
  else c.readRefs r1 r2 now

theorem Bank.thermalMove_eq (b : Bank) (n now : Nat) (r1 r2 : Int) (f : BankCore → Option Int → Option ThermalState) :
    b.thermalMove n now r1 r2 f = b.act n now fun c => c.thermalMove now r1 r2 f := rfl

section
variable {b : Bank} {r1 r2 : Int} {f : BankCore → Option Int → Option ThermalState} {st : ThermalState} (n now : Nat)
  (running : b.core.running = true) (refs : b.core.RefsServe r1 r2)
  (moves : ∀ c : BankCore, c.thermal = b.core.thermal → c.warnAt = b.core.warnAt → c.shedAt = b.core.shedAt → f c (some (max r1 r2)) = some st)
include running refs moves

theorem BankCore.thermalMove_moves :
    (b.core.rebase now).thermalMove now r1 r2 f = { (b.core.rebase now).readRefs r1 r2 now with thermal := st } := by
  have serve : (b.core.rebase now).RefsServe r1 r2 := ⟨refs.sensors, refs.first, refs.second⟩
  obtain ⟨on, -, -, warnAt, shedAt⟩ := (b.core.rebase now).readRefs_leaves r1 r2 now
  have thermal := BankCore.readRefs_thermal now serve
  have temperature := BankCore.readRefs_temperature now serve
  unfold BankCore.thermalMove
  rw [if_pos (on.trans running), temperature, moves _ thermal warnAt shedAt]

/-- A bank whose temperature calls for a move is in the state that it leads to (R210). -/
theorem Bank.thermalMove_thermal : (b.thermalMove n now r1 r2 f).core.thermal = st := by
  rw [Bank.thermalMove_eq, Bank.act_keeps BankCore.thermal (by simp) (by simp), BankCore.thermalMove_moves now running refs moves]

/-- Every channel of a bank that trips is off (R210, R213). -/
theorem Bank.thermalMove_tripped_off (tripped : st = .tripped) {p : Nat} (hp : p < b.core.chans.length) :
    ((b.thermalMove n now r1 r2 f).core.chan p).io.on = false := by
  obtain ⟨-, chans, glide, -⟩ := (b.core.rebase now).readRefs_leaves r1 r2 now
  have moved := BankCore.thermalMove_moves now running refs moves
  rw [Bank.thermalMove_eq]
  refine Bank.act_hot_off (f := fun c => c.thermalMove now r1 r2 f) (by rw [moved]; exact glide) ?_
  rw [moved]
  exact ⟨by rw [chans]; simpa using hp, .inr tripped⟩

end

theorem toWarning_moves {c : BankCore} {t : Int} (from_ : c.thermal = .normal) (warm : c.warnAt ≤ t) : toWarning c (some t) = some .warning :=
  if_pos ⟨from_, warm⟩
theorem toNormal_moves {c : BankCore} {t : Int} (from_ : c.thermal = .warning) (cool : t < c.warnAt - 50) : toNormal c (some t) = some .normal :=
  if_pos ⟨from_, cool⟩
theorem toShedding_moves {c : BankCore} {t : Int} (from_ : c.thermal = .warning ∨ c.thermal = .normal) (warm : c.shedAt ≤ t) :
    toShedding c (some t) = some .shedding :=
  if_pos ⟨from_, warm⟩
theorem leaveShedding_moves {c : BankCore} {t : Int} (from_ : c.thermal = .shedding) (cool : t < c.shedAt) : leaveShedding c (some t) = some .warning :=
  if_pos ⟨from_, cool⟩
theorem toTripped_moves {c : BankCore} {t : Int} (from_ : c.thermal ≠ .tripped) (hot : 1700 ≤ t) : toTripped c (some t) = some .tripped :=
  if_pos ⟨from_, hot⟩
theorem leaveTripped_moves {c : BankCore} {t : Int} (from_ : c.thermal = .tripped) (cool : t < 1550) : leaveTripped c (some t) = some .warning :=
  if_pos ⟨from_, cool⟩

/-- A move of a bank of the hub, where its reference sensors serve and their higher reading calls for it. -/
theorem State.thermalMove_thermal {s : State} {b : Nat} {r1 r2 : Int} {f : BankCore → Option Int → Option ThermalState} {st : ThermalState}
    (h : Ready.refs s b r1 r2 = true)
    (moves : ∀ c : BankCore, c.thermal = (s.bank b).core.thermal → c.warnAt = (s.bank b).core.warnAt → c.shedAt = (s.bank b).core.shedAt →
      f c (some (max r1 r2)) = some st) : ((s.onBank b fun x => x.thermalMove b s.now r1 r2 f).bank b).core.thermal = st := by
  obtain ⟨runs, refs⟩ := Ready.refs_bank h
  obtain ⟨-, -, running⟩ := Ready.bankRuns_iff.1 runs
  rw [State.bank_onBank_runs runs]
  exact Bank.thermalMove_thermal b s.now running refs moves

/-! ## Shed holds -/

/-- The channels of a bank without shed holds. -/
def BankCore.unshed (c : BankCore) : BankCore := { c with chans := c.chans.map fun x => { x with thermal := { x.thermal with shedBy := 0 } } }

theorem BankCore.unshed_chan {c : BankCore} {p : Nat} (hp : p < c.chans.length) :
    (c.unshed.chan p).heat = { (c.chan p).heat with shedBy := 0 } := by
  unfold BankCore.unshed BankCore.chan
  rw [List.getD_eq_getElem?_getD, List.getD_eq_getElem?_getD, List.getElem?_map, List.getElem?_eq_getElem hp]
  rfl

/-- The shed holds of a bank that has cooled without its hub end on every channel (R213). -/
theorem Bank.shedHoldClear_unshed {b : Bank} {p : Nat} (n now : Nat) (running : b.core.running = true) (silent : b.core.silent = true)
    (cool : elapsed b.core.coolFrom 10000000000 now = true) (hp : p < b.core.chans.length) :
    ((b.shedHoldClear n now).core.chan p).thermal.shedBy = 0 := by
  have length : p < (b.core.rebase now).chans.length := by simpa using hp
  have clears : b.shedHoldClear n now = b.act n now BankCore.unshed := if_pos (by simp [running, silent, cool])
  have heat := b.act_heat n now p BankCore.unshed rfl (by simpa [BankCore.unshed] using hp)
  rw [BankCore.unshed_chan length, ← clears] at heat
  obtain ⟨-, -, -, -, -, shedBy⟩ := Chan.heat_fields heat
  exact shedBy

/-! ## Sensors -/

/-- A sensor that an event changes is as changed after it. -/
theorem Bank.editSensor_sensor {b : Bank} {i : Nat} (n now : Nat) (hi : i < b.core.sensors.length) (g : Sensor → Sensor) :
    (b.act n now fun c => BankCore.noteCool { c with sensors := editAt c.sensors i g } now).core.sensor i = g (b.core.sensor i) := by
  unfold BankCore.sensor
  rw [Bank.act_keeps BankCore.sensors (by simp) (by simp)]
  exact editAt_getD_same b.core.sensors i g {} hi

/-- A sensor that has disagreed for its time is broken, with the kind of its fault (R203). -/
theorem State.sensorBroken_broken {s : State} {b i held : Nat} {kind : SensorFault} (h : Ready.sensorBroken s b i kind held = true) :
    (((s.onBank b fun x => x.sensorBroken b s.now i kind held).bank b).core.sensor i).broken = some kind := by
  simp only [Ready.sensorBroken, Bool.and_eq_true, Bool.not_eq_true', Bool.or_eq_true, decide_eq_true_eq] at h
  obtain ⟨⟨⟨⟨⟨⟨runs, hi⟩, sound⟩, lasts⟩, calm⟩, settled⟩, disagrees⟩ := h
  obtain ⟨hb, hs, running⟩ := Ready.bankRuns_iff.1 runs
  have declared : (s.bank b).sensorBroken b s.now i kind held = (s.bank b).act b s.now fun c =>
      BankCore.noteCool { c with sensors := editAt c.sensors i fun x => { x with broken := some kind } } s.now :=
    if_pos (by simp [running, hi, sound, lasts, calm, settled, disagrees])
  rw [State.bank_onBank_runs runs, declared, Bank.editSensor_sensor b s.now (by rw [State.shaped_sensors hs hb]; exact hi)]

/-- A reading of a sensor stands after it, with the state of its circuit (R204). -/
theorem State.sensorFault_reading {s : State} {b i : Nat} (temp : Int) (circuit : Bool) (runs : Ready.bankRuns s b = true) (hi : i < 14) :
    ((s.onBank b fun x => x.sensorFault b s.now i temp circuit).bank b).core.sensor i
      = { (s.bank b).core.sensor i with reading := temp, circuit := circuit } := by
  obtain ⟨hb, hs, running⟩ := Ready.bankRuns_iff.1 runs
  have read : (s.bank b).sensorFault b s.now i temp circuit = (s.bank b).act b s.now fun c =>
      BankCore.noteCool { c with sensors := editAt c.sensors i fun x => { x with reading := temp, circuit := circuit } } s.now :=
    if_pos (by simp [running, hi])
  rw [State.bank_onBank_runs runs, read, Bank.editSensor_sensor b s.now (by rw [State.shaped_sensors hs hb]; exact hi)]

/-! ## The obligation -/

/-- Settles O11: each move by the state that the readings call for, a trip by what holds its channels off, the rest by what its event changes. -/
theorem bankTemperatureStates : Obligations.BankTemperatureStates := by
  refine ⟨fun s b r1 r2 h => ⟨_, rfl, ?_⟩, fun s b r1 r2 h => ⟨_, rfl, ?_⟩, fun s b r1 r2 h => ⟨_, rfl, ?_⟩, fun s b r1 r2 h => ⟨_, rfl, ?_⟩,
    fun s b r1 r2 h => ⟨_, rfl, ?_⟩, fun s b r1 r2 h => ⟨_, rfl, ?_⟩, fun s b h => ⟨_, rfl, fun p hp => ?_⟩,
    fun s b sensor kind held h => ⟨_, rfl, State.sensorBroken_broken h⟩, fun s b sensor temp circuit runs hi => ⟨_, rfl, ?_⟩⟩
  · simp only [Ready.bankThermalWarning, Bool.and_eq_true, decide_eq_true_eq] at h
    obtain ⟨⟨refs, normal⟩, warm⟩ := h
    exact State.thermalMove_thermal refs fun c thermal warnAt _ => toWarning_moves (thermal.trans normal) (warnAt ▸ warm)
  · simp only [Ready.bankThermalNormal, Bool.and_eq_true, decide_eq_true_eq] at h
    obtain ⟨⟨refs, warning⟩, cool⟩ := h
    exact State.thermalMove_thermal refs fun c thermal warnAt _ => toNormal_moves (thermal.trans warning) (warnAt ▸ cool)
  · simp only [Ready.bankSheddingEnter, Bool.and_eq_true, Bool.or_eq_true, decide_eq_true_eq] at h
    obtain ⟨⟨refs, below⟩, warm⟩ := h
    exact State.thermalMove_thermal refs fun c thermal _ shedAt => toShedding_moves (thermal ▸ below) (shedAt ▸ warm)
  · simp only [Ready.bankSheddingLeave, Bool.and_eq_true, decide_eq_true_eq] at h
    obtain ⟨⟨refs, shedding⟩, cool⟩ := h
    exact State.thermalMove_thermal refs fun c thermal _ shedAt => leaveShedding_moves (thermal.trans shedding) (shedAt ▸ cool)
  · simp only [Ready.bankThermalTrip, Bool.and_eq_true, decide_eq_true_eq] at h
    obtain ⟨⟨refs, untripped⟩, hot⟩ := h
    have moves : ∀ c : BankCore, c.thermal = (s.bank b).core.thermal → c.warnAt = (s.bank b).core.warnAt → c.shedAt = (s.bank b).core.shedAt →
        toTripped c (some (max r1 r2)) = some .tripped := fun c thermal _ _ => toTripped_moves (thermal ▸ untripped) hot
    refine ⟨State.thermalMove_thermal refs moves, fun p hp => ?_⟩
    obtain ⟨runs, serve⟩ := Ready.refs_bank refs
    obtain ⟨hb, hs, running⟩ := Ready.bankRuns_iff.1 runs
    rw [State.chan_of_bank _ _ _ hp, State.bank_onBank_runs runs]
    exact Bank.thermalMove_tripped_off b s.now running serve moves rfl (State.shaped_chans hs b hb ▸ hp)
  · simp only [Ready.bankTripLeave, Bool.and_eq_true, decide_eq_true_eq] at h
    obtain ⟨⟨refs, tripped⟩, cool⟩ := h
    exact State.thermalMove_thermal refs fun c thermal _ _ => leaveTripped_moves (thermal.trans tripped) cool
  · simp only [Ready.bankShedHoldClear, Bool.and_eq_true] at h
    obtain ⟨⟨runs, silent⟩, cool⟩ := h
    obtain ⟨hb, hs, running⟩ := Ready.bankRuns_iff.1 runs
    rw [State.chan_of_bank _ _ _ hp, State.bank_onBank_runs runs]
    exact Bank.shedHoldClear_unshed b s.now running silent cool (State.shaped_chans hs b hb ▸ hp)
  · rw [State.sensorFault_reading temp circuit runs hi]
    exact ⟨rfl, rfl⟩

end Sys2Proof.Machine
end


section
/-! O23: groups shed and restored (R211, R212), the MRAM window and its deferral marker (R215, R218), and CHGPERM (R220). -/

namespace Sys2Proof.Machine

/-! ## Groups -/

/-- A hub whose groups of a bank have changed, with the orders for their lanes; the next change waits one second (R211). -/
def Hub.regrouped (h : Hub) (os : List Order) (b now : Nat) (f : List (Nat × List Nat) → List (Nat × List Nat)) : Hub :=
  ((h.order os).1.onRun fun r => { r with shed := editAt r.shed b f }).setShedDue b (now + 1000000000)

theorem Hub.regrouped_leaves {h : Hub} {b : Nat} (os : List Order) (now : Nat) (f : List (Nat × List Nat) → List (Nat × List Nat)) (hb : b < 4)
    (shaped : h.shaped = true) : (h.regrouped os b now f).run.shed.getD b [] = f (h.run.shed.getD b [])
    ∧ (h.regrouped os b now f).run.shedDue.getD b 0 = now + 1000000000 ∧ (h.regrouped os b now f).outOfReset = h.outOfReset := by
  obtain ⟨-, -, -, -, -, -, -, -, -, shed, due, -⟩ := (Hub.shaped_iff h).1 shaped
  have rest : h.regrouped os b now f = { h with links := (h.order os).1.links, run := { h.run with
      shed := editAt h.run.shed b f, shedDue := editAt h.run.shedDue b fun _ => now + 1000000000 } } := by
    unfold Hub.regrouped
    rw [Hub.order_rest]
    rfl
  rw [rest]
  exact ⟨editAt_getD_same _ _ _ _ (shed ▸ hb), editAt_getD_same _ _ _ _ (due ▸ hb), rfl⟩

theorem Hub.outOfReset_of_serving {h : Hub} (serving : h.serving = true) : h.outOfReset = true := by
  obtain ⟨running, -⟩ := Hub.serving_iff.1 serving
  simp [Hub.outOfReset, Hub.serves, running]

/-- The lanes of a bank that are shed next: all candidates of a priority (R212). -/
def Hub.nextGroup (h : Hub) (b prio : Nat) : List Nat := (h.shedCandidates b).filter fun n => decide (h.shedPrio n = prio)

theorem execShedGroup_due {s : State} {b p : Nat} {c : BankCore} {ps : List Nat} (view : s.hub.view b = some c)
    (prios : (s.hub.shedCandidates b).map s.hub.shedPrio = p :: ps)
    (due : (s.hub.serving && s.hub.free && decide (c.thermal = .shedding) && decide (s.hub.run.shedDue.getD b 0 ≤ s.now)) = true) :
    ∃ h', execShedGroup b s = .next (State.notify
      { s with hub := s.hub.regrouped (s.hub.shedOrders b (s.hub.nextGroup b (ps.foldl min p)) true) b s.now fun l =>
          l ++ [(ps.foldl min p, s.hub.nextGroup b (ps.foldl min p))] } [.fault 0x56 1 b, Hub.shedNote h' b (ps.foldl min p)]) := by
  unfold execShedGroup
  dsimp only
  rw [view, prios]
  exact ⟨_, congrArg Host.Outcome.next (if_pos due)⟩

theorem execRestoreGroup_due {s : State} {b prio : Nat} {c : BankCore} {group : List Nat} (view : s.hub.view b = some c)
    (last : (s.hub.run.shed.getD b []).getLast? = some (prio, group))
    (due : (s.hub.serving && s.hub.free && elapsed c.coolFrom 10000000000 s.now && decide (s.hub.run.shedDue.getD b 0 ≤ s.now)) = true) :
    ∃ h', execRestoreGroup b s = .next (State.notify
      { s with hub := s.hub.regrouped (s.hub.shedOrders b group false) b s.now List.dropLast }
      [.event 4 (laneIdx (group.headD 0) 5) 3, Hub.shedNote h' b prio]) := by
  unfold execRestoreGroup
  dsimp only
  rw [view, last]
  exact ⟨_, congrArg Host.Outcome.next (if_pos due)⟩

theorem Hub.shedNote_quiet (h : Hub) (b prio : Nat) : (h.shedNote b prio).quiet = true := rfl

/-- The lowest priority of some lanes is that of one of them, and no lane has a lower one. -/
theorem foldl_min_map {lanes : List Nat} {prio : Nat → Nat} {p : Nat} {ps : List Nat} (prios : lanes.map prio = p :: ps) :
    (∀ n ∈ lanes, ps.foldl min p ≤ prio n) ∧ ∃ n ∈ lanes, prio n = ps.foldl min p := by
  have least : (lanes.map prio).min? = some (ps.foldl min p) := prios ▸ List.min?_cons'
  obtain ⟨taken, low⟩ := List.min?_eq_some_iff.1 least
  exact ⟨fun n hn => low _ (List.mem_map_of_mem hn), List.mem_map.1 taken⟩

theorem execShedGroup_sheds {s : State} {b : Nat} {c : BankCore} (h : Ready.shedGroup s b c = true) :
    ∃ t prio, execShedGroup b s = .next t
      ∧ (∀ n ∈ s.hub.shedCandidates b, prio ≤ s.hub.shedPrio n) ∧ (∃ n ∈ s.hub.shedCandidates b, s.hub.shedPrio n = prio)
      ∧ t.hub.run.shed.getD b [] = s.hub.run.shed.getD b [] ++ [(prio, s.hub.nextGroup b prio)]
      ∧ t.hub.run.shedDue.getD b 0 = s.now + 1000000000 ∧ t.hub.collector.stands 0x56 = true := by
  simp only [Ready.shedGroup, Bool.and_eq_true, decide_eq_true_eq, Bool.not_eq_true'] at h
  obtain ⟨⟨⟨⟨⟨⟨⟨hb, serving⟩, free⟩, shaped⟩, view⟩, shedding⟩, waited⟩, some_lane⟩ := h
  obtain ⟨p, ps, prios⟩ : ∃ p ps, (s.hub.shedCandidates b).map s.hub.shedPrio = p :: ps :=
    List.exists_cons_of_ne_nil (by simpa using some_lane)
  obtain ⟨lowest, taken⟩ := foldl_min_map prios
  obtain ⟨h', step⟩ := execShedGroup_due view prios (by simp only [serving, free, shedding, waited, decide_true, Bool.and_self])
  have quiet : ∀ n ∈ [Notice.fault 0x56 1 b, Hub.shedNote h' b (ps.foldl min p)], Notice.quiet n = true :=
    Notice.quiet_cons rfl (Notice.quiet_one rfl)
  refine ⟨_, ps.foldl min p, step, lowest, taken, ?_⟩
  rw [State.notify_hub_run_shed _ _ quiet, State.notify_hub_run_shedDue _ _ quiet]
  obtain ⟨shed, due, out⟩ := Hub.regrouped_leaves (s.hub.shedOrders b (s.hub.nextGroup b (ps.foldl min p)) true) s.now
    (fun l => l ++ [(ps.foldl min p, s.hub.nextGroup b (ps.foldl min p))]) hb shaped
  exact ⟨shed, due, State.notify_fault _ _ _ _ _ rfl (by decide) (by decide) (by decide) (out.trans (Hub.outOfReset_of_serving serving))
    (Notice.quiet_one rfl)⟩

theorem execRestoreGroup_restores {s : State} {b : Nat} {c : BankCore} (h : Ready.restoreGroup s b c = true) (groups : s.hub.run.shed.getD b [] ≠ []) :
    ∃ t, execRestoreGroup b s = .next t ∧ t.hub.run.shed.getD b [] = (s.hub.run.shed.getD b []).dropLast
      ∧ t.hub.run.shedDue.getD b 0 = s.now + 1000000000 := by
  simp only [Ready.restoreGroup, Bool.and_eq_true, decide_eq_true_eq] at h
  obtain ⟨⟨⟨⟨⟨⟨hb, serving⟩, free⟩, shaped⟩, view⟩, cool⟩, waited⟩ := h
  obtain ⟨prio, group, last⟩ : ∃ prio group, (s.hub.run.shed.getD b []).getLast? = some (prio, group) :=
    ⟨_, _, List.getLast?_eq_getLast_of_ne_nil groups⟩
  obtain ⟨h', step⟩ := execRestoreGroup_due view last (by simp only [serving, free, cool, waited, decide_true, Bool.and_self])
  have quiet : ∀ n ∈ [Notice.event 4 (laneIdx (group.headD 0) 5) 3, Hub.shedNote h' b prio], Notice.quiet n = true :=
    Notice.quiet_cons rfl (Notice.quiet_one rfl)
  refine ⟨_, step, ?_⟩
  rw [State.notify_hub_run_shed _ _ quiet, State.notify_hub_run_shedDue _ _ quiet]
  obtain ⟨shed, due, -⟩ := Hub.regrouped_leaves (s.hub.shedOrders b group false) s.now List.dropLast hb shaped
  exact ⟨shed, due⟩

/-! ## Temperature of the hub -/

/-- The reports of a new temperature: a marker where it rises through 127.0 degrees, from Runtime 3.2 on (R218). -/
def State.tempNotes (s : State) (temp : Int) : List Notice :=
  if decide (s.hub.temp < 1270) && decide (1270 ≤ temp) && decide (0x0302 ≤ s.rtVersion) then
    [.journal 0xF 1 (leBytes 2 s.hub.run.shadow.length)]
  else []

theorem State.hubTemp_eq (s : State) (temp : Int) : s.hubTemp temp = (s.onHub fun h => { h with temp := temp }).notify (s.tempNotes temp) := rfl

theorem State.tempNotes_quiet (s : State) (temp : Int) : ∀ n ∈ s.tempNotes temp, Notice.quiet n = true := Notice.quiet_if (Notice.quiet_one rfl)

/-- Without a marker the temperature alone changes. -/
theorem State.hubTemp_unmarked {s : State} {temp : Int} (h : temp < 1270 ∨ 1270 ≤ s.hub.temp ∨ s.rtVersion < 0x0302) :
    s.hubTemp temp = s.onHub fun h => { h with temp := temp } := by
  have unmarked : s.tempNotes temp = [] := if_neg (by simp only [Bool.and_eq_true, decide_eq_true_eq]; omega)
  rw [State.hubTemp_eq, unmarked]
  rfl

/-- A record of a class that is written under every mask waits in a shadow that has room (R216, R476). -/
theorem State.notify_marker {s : State} {code : Nat} {payload : List Byte} (on : s.hub.runtimeOn = true) (room : s.hub.run.shadow.length < 128) :
    (s.notify [.journal 0xF code payload]).hub.run.shadow = s.hub.run.shadow ++
      [{ seconds := s.hub.time.seconds % 2 ^ 32, nanos := s.hub.time.nanos, cls := 0xF, code := code, payload := payload }] := by
  have written : (s.hub.runtimeOn && s.hub.journals 0xF code) = true := by simp [on, Hub.journals]
  have room : s.hub.run.shadow.length < shadowRoom := room
  unfold State.notify
  rw [List.foldl_cons, List.foldl_nil, State.handle]
  dsimp only
  rw [if_pos written, if_pos room]
  rfl

theorem execDeferralMarker_rises {s : State} {temp : Int} (serves : s.hub.serves = true) (below : s.hub.temp < 1270) (above : 1270 ≤ temp) :
    execDeferralMarker temp s = .next (s.hubTemp temp) :=
  congrArg Host.Outcome.next (if_pos (by simp [serves, below, above]))

theorem State.hubTemp_marked {s : State} {temp : Int} (below : s.hub.temp < 1270) (above : 1270 ≤ temp) (version : 0x0302 ≤ s.rtVersion)
    (on : s.hub.runtimeOn = true) (room : s.hub.run.shadow.length < 128) : (s.hubTemp temp).hub.run.shadow = s.hub.run.shadow ++
      [{ seconds := s.hub.time.seconds % 2 ^ 32, nanos := s.hub.time.nanos, cls := 0xF, code := 1, payload := leBytes 2 s.hub.run.shadow.length }] := by
  have marker : s.tempNotes temp = [.journal 0xF 1 (leBytes 2 s.hub.run.shadow.length)] := if_pos (by simp [below, above, version])
  rw [State.hubTemp_eq, marker]
  exact State.notify_marker (s := s.onHub fun h => { h with temp := temp }) on room

/-! ## The MRAM window -/

theorem Hub.outOfReset_congr {h k : Hub} (phase : k.phase = h.phase) : k.outOfReset = h.outOfReset := by
  unfold Hub.outOfReset Hub.serves
  rw [phase]

theorem execMramWindowClose_closes {s : State} {temp : Int} (serves : s.hub.serves = true) (opened : s.hub.windowCode = 0) (outside : windowOf temp ≠ 0) :
    ∃ t, execMramWindowClose temp s = .next t ∧ t.hub.windowCode = windowOf temp ∧ t.hub.temp = temp ∧ t.hub.flushing = false
      ∧ t.hub.collector.stands 0x35 = true ∧ t.mram = s.mram := by
  have quiet : ∀ n ∈ [Notice.fault 0x35 (windowOf temp) 0xFF], Notice.quiet n = true := Notice.quiet_one rfl
  have closes : execMramWindowClose temp s = .next ((s.hubTemp temp).after (fun h => { h with windowCode := windowOf temp, flushing := false })
      [.fault 0x35 (windowOf temp) 0xFF]) := congrArg Host.Outcome.next (if_pos (by simp [serves, opened, outside]))
  obtain ⟨-, -, -, -, -, -, phase, measured⟩ := s.hubTemp_leaves temp
  have mram : (s.hubTemp temp).mram = s.mram := State.notify_mram _ _ (s.tempNotes_quiet temp)
  have out : (s.hubTemp temp).hub.outOfReset = true := (Hub.outOfReset_congr phase).trans (Hub.outOfReset_of_serves serves)
  refine ⟨_, closes, ?_⟩
  unfold State.after
  rw [State.notify_hub_windowCode _ _ quiet, State.notify_hub_temp _ _ quiet, State.notify_hub_flushing _ _ quiet, State.notify_mram _ _ quiet]
  exact ⟨rfl, measured, rfl, State.notify_fault _ _ _ _ _ rfl (by decide) (by decide) outside out Notice.quiet_nil, mram⟩

theorem Collector.raiseGone_causeOf (c : Collector) {source : Nat} (low : source < 0x40) : (c.raiseGone source).causeOf source = false := by
  unfold Collector.raiseGone Collector.acceptGone Collector.causeOf
  rw [if_pos low, if_pos low, putBit_getLsbD _ _ _ _ low, if_pos rfl]

/-- A cause of group S that ends after other reports has gone (R289). -/
theorem State.notify_gone {s : State} {ns : List Notice} {source : Nat} (quiet : ∀ n ∈ ns, Notice.quiet n = true) (out : s.hub.outOfReset = true)
    (low : source < 0x40) : (s.notify (ns ++ [.gone source])).hub.collector.causeOf source = false := by
  have still : (s.notify ns).hub.outOfReset = true := (Hub.outOfReset_congr (State.notify_hub_phase _ _ quiet)).trans out
  have last : s.notify (ns ++ [.gone source]) = State.handle 6 (s.notify ns) (.gone source) := by
    unfold State.notify
    rw [List.foldl_append]
    rfl
  rw [last, State.handle, if_pos still]
  exact Collector.raiseGone_causeOf _ low

/-- The next item of the store leaves the window, the flush, the temperature and the collector. -/
theorem State.storeNext_leaves (s : State) : s.storeNext.hub.windowCode = s.hub.windowCode ∧ s.storeNext.hub.temp = s.hub.temp
    ∧ s.storeNext.hub.flushing = s.hub.flushing ∧ s.storeNext.hub.collector = s.hub.collector := by
  unfold State.storeNext State.storeSave
  dsimp only
  repeat' split
  all_goals exact ⟨rfl, rfl, rfl, rfl⟩

/-- A deferred write begins where no records of a flush come first, unless one is under way (R216). -/
theorem State.storeNext_writing {s : State} (opened : s.hub.windowCode = 0) (flushed : s.hub.flushesRecords = false)
    (deferred : s.hub.run.store.deferred = true) : s.storeNext.hub.run.store.writing = true := by
  unfold State.storeNext
  dsimp only
  cases writing : s.hub.run.store.writing with
  | true => simp [writing]
  | false =>
    rw [if_neg (by simp [opened, flushed]), if_pos (by simp [deferred]), State.storeSave_begins writing opened flushed]
    rfl

theorem State.notify_hub_runtimeOn (s : State) {ns : List Notice} (quiet : ∀ n ∈ ns, Notice.quiet n = true) :
    (s.notify ns).hub.runtimeOn = s.hub.runtimeOn := by
  unfold Hub.runtimeOn
  rw [State.notify_hub_phase _ _ quiet]

theorem State.notify_hub_run_flushLeft (s : State) {ns : List Notice} (quiet : ∀ n ∈ ns, Notice.quiet n = true) :
    (s.notify ns).hub.run.flushLeft = s.hub.run.flushLeft := congrArg (fun k => k.run.flushLeft) (State.notify_calm _ _ quiet)

/-- The state as the window opens without a marker, before the next item of the store (R216, R218). -/
def State.windowOpened (s : State) (temp : Int) : State :=
  (s.onHub fun h => { h with temp := temp }).after (fun h => { h.beginFlush with windowCode := 0 }) [.event 12 0x2020 2, .gone 0x35]

theorem State.windowOpened_leaves {s : State} (temp : Int) (serves : s.hub.serves = true) : (s.windowOpened temp).hub.windowCode = 0
    ∧ (s.windowOpened temp).hub.temp = temp ∧ (s.windowOpened temp).hub.flushing = s.hub.shadowed
    ∧ (s.windowOpened temp).hub.collector.causeOf 0x35 = false ∧ (s.windowOpened temp).hub.runtimeOn = s.hub.runtimeOn
    ∧ (s.windowOpened temp).hub.run.store = s.hub.run.store ∧ (s.windowOpened temp).hub.run.flushLeft = s.hub.run.shadow.length := by
  have quiet : ∀ n ∈ [Notice.event 12 0x2020 2, .gone 0x35], Notice.quiet n = true := Notice.quiet_cons rfl (Notice.quiet_one rfl)
  have gone := State.notify_gone (s := (s.onHub fun h => { h with temp := temp }).onHub fun h => { h.beginFlush with windowCode := 0 })
    (ns := [.event 12 0x2020 2]) (source := 0x35) (Notice.quiet_one rfl) (Hub.outOfReset_of_serves serves) (by decide)
  unfold State.windowOpened State.after
  rw [State.notify_hub_windowCode _ _ quiet, State.notify_hub_temp _ _ quiet, State.notify_hub_flushing _ _ quiet, State.notify_hub_run_store _ _ quiet,
    State.notify_hub_runtimeOn _ quiet, State.notify_hub_run_flushLeft _ quiet]
  exact ⟨rfl, rfl, rfl, gone, rfl, rfl, rfl⟩

theorem execMramWindowOpen_opens {s : State} {temp : Int} {held : Nat} (serves : s.hub.serves = true) (closed : s.hub.windowCode ≠ 0)
    (low : -380 ≤ temp) (high : temp ≤ 1270) (lasts : 1000000000 ≤ held) (level : temp < 1270 ∨ 1270 ≤ s.hub.temp) :
    ∃ t, execMramWindowOpen temp held s = .next t
      ∧ t.hub.windowCode = 0 ∧ t.hub.temp = temp ∧ t.hub.flushing = s.hub.shadowed ∧ t.hub.collector.causeOf 0x35 = false
      ∧ (s.hub.runtimeOn = true → s.hub.run.store.deferred = true → s.hub.run.shadow = [] → t.hub.run.store.writing = true) := by
  obtain ⟨window, measured, flushing, gone, runs, store, left⟩ := State.windowOpened_leaves temp serves
  have opens : execMramWindowOpen temp held s
      = .next (if (s.windowOpened temp).hub.runtimeOn then (s.windowOpened temp).storeNext else s.windowOpened temp) := by
    unfold execMramWindowOpen
    rw [if_pos (by simp [serves, closed, low, high, lasts]), State.hubTemp_unmarked (level.imp_right .inl)]
    rfl
  refine ⟨_, opens, ?_⟩
  rw [runs]
  split
  case isTrue on =>
    obtain ⟨sameWindow, sameTemp, sameFlushing, sameCollector⟩ := (s.windowOpened temp).storeNext_leaves
    refine ⟨sameWindow.trans window, sameTemp.trans measured, sameFlushing.trans flushing, ?_, fun _ deferred empty => ?_⟩
    · rw [sameCollector]
      exact gone
    · exact State.storeNext_writing window (by simp [Hub.flushesRecords, left, empty]) (store ▸ deferred)
  case isFalse off => exact ⟨window, measured, flushing, gone, fun on => absurd on off⟩

/-! ## The obligation -/

/-- Settles O23: the groups as their bank is regrouped, the window by its reports and the next item of the store, the permit as one change of the hub. -/
theorem sheddingWindowAndPermission : Obligations.SheddingWindowAndPermission := by
  refine ⟨fun s b c h => execShedGroup_sheds h, fun s b c h groups => execRestoreGroup_restores h groups,
    fun s temp serves opened outside => execMramWindowClose_closes serves opened outside,
    fun s temp held serves closed low high lasts level => execMramWindowOpen_opens serves closed low high lasts level,
    fun s temp serves below above => ⟨_, execDeferralMarker_rises serves below above, ?_, fun old => ?_, fun version on room => ?_⟩,
    fun s high failed => ⟨_, ?_, rfl⟩, fun s held since low all lasts noted long => ⟨_, ?_, rfl⟩⟩
  · obtain ⟨-, -, -, -, -, -, -, measured⟩ := s.hubTemp_leaves temp
    exact measured
  · rw [State.hubTemp_unmarked (.inr (.inr old))]
    rfl
  · exact State.hubTemp_marked below above version on room
  · exact congrArg Host.Outcome.next (if_pos (by simpa [high] using failed))
  · have held_long : elapsed s.hub.permFrom 1000000000 s.now = true := by simpa [elapsed, noted] using long
    exact congrArg Host.Outcome.next (if_pos (by simp [low, all, lasts, held_long]))

end Sys2Proof.Machine
end

section
/-! O26, O37 and O38: the serial watchdog counts its misses, forces the banks (R241 to R243), and is armed, fed and disarmed (R238 to R241). -/

namespace Sys2Proof.Machine

/-! ## Misses -/

/-- One miss of a kind counted and reported, the next window from `next` on (R242). -/
def State.miss (s : State) (kind next : Nat) : State :=
  s.after (fun h => { h.onDog fun d => { d with misses := d.misses + 1, lastKind := kind, windowAt := next } with dogMisses := h.dogMisses + 1 })
    [.event 6 0x2032 7]

theorem State.miss_steady (s : State) (kind next : Nat) : s.Steady (s.miss kind next) := (State.Steady.refl s).after _ (Notice.quiet_one rfl)

theorem State.miss_dog (s : State) (kind next : Nat) :
    (s.miss kind next).hub.run.dog = { s.hub.run.dog with misses := s.hub.run.dog.misses + 1, lastKind := kind, windowAt := next } :=
  State.notify_hub_run_dog _ _ (Notice.quiet_one rfl)

theorem State.miss_dogMisses (s : State) (kind next : Nat) : (s.miss kind next).hub.dogMisses = s.hub.dogMisses + 1 :=
  State.notify_hub_dogMisses _ _ (Notice.quiet_one rfl)

theorem State.miss_links (s : State) (kind next : Nat) : (s.miss kind next).hub.links = s.hub.links :=
  State.notify_hub_links _ _ (Notice.quiet_one rfl)

/-- The next window lasts as long as the one before. -/
theorem State.miss_windowEnd (s : State) (kind next : Nat) :
    (s.miss kind next).hub.run.dog.windowAt + (s.miss kind next).hub.run.dog.span = next + s.hub.run.dog.span := by
  unfold Watchdog.span
  rw [State.miss_dog]

/-- The first miss in a row is counted and nothing more. -/
theorem State.dogMiss_first {s : State} (kind next : Nat) (first : s.hub.run.dog.misses = 0) : s.dogMiss kind next = s.miss kind next :=
  if_neg (c := 2 ≤ (s.miss kind next).hub.run.dog.misses) (by simp [State.miss_dog, first])

/-- Any further miss in a row forces (R242). -/
theorem State.dogMiss_again {s : State} (kind next : Nat) (again : 1 ≤ s.hub.run.dog.misses) :
    s.dogMiss kind next = (s.miss kind next).dogForce 1 :=
  if_pos (c := 2 ≤ (s.miss kind next).hub.run.dog.misses) (by rw [State.miss_dog]; exact Nat.succ_le_succ again)

/-! ## The forced state -/

/-- The hub forced, with W queued for the banks. -/
def Hub.forced (h : Hub) : Hub :=
  ((h.onDog fun d => { d with mode := .forced }).order (h.onDog fun d => { d with mode := .forced }).dogOrders).1

theorem State.dogForce_notify (s : State) (kind : Nat) : s.dogForce kind = State.notify { s with hub := s.hub.forced }
    [.fault 0x36 kind s.hub.run.dog.owner, .journal 9 3 (leBytes 1 s.hub.run.dog.owner)] := rfl

theorem State.dogForce_quiet (s : State) (kind : Nat) :
    ∀ n ∈ [Notice.fault 0x36 kind s.hub.run.dog.owner, .journal 9 3 (leBytes 1 s.hub.run.dog.owner)], Notice.quiet n = true :=
  Notice.quiet_cons rfl (Notice.quiet_one rfl)

theorem State.dogForce_dog (s : State) (kind : Nat) : (s.dogForce kind).hub.run.dog = { s.hub.run.dog with mode := .forced } := by
  rw [State.dogForce_notify, State.notify_hub_run_dog _ _ (s.dogForce_quiet kind), Hub.forced, Hub.order_run]
  rfl

theorem State.dogForce_dogMisses (s : State) (kind : Nat) : (s.dogForce kind).hub.dogMisses = s.hub.dogMisses := by
  rw [State.dogForce_notify, State.notify_hub_dogMisses _ _ (s.dogForce_quiet kind), Hub.forced, Hub.order_rest]
  rfl

theorem State.dogForce_stands {s : State} {kind : Nat} (out : s.hub.outOfReset = true) (some_kind : kind ≠ 0) :
    (s.dogForce kind).hub.collector.stands 0x36 = true := by
  rw [State.dogForce_notify]
  refine State.notify_fault _ _ _ _ _ rfl (by decide) (by decide) some_kind ?_ (Notice.quiet_one rfl)
  rw [Hub.forced, Hub.order_rest]
  exact out

/-- While no planned stop is under way every channel of every present bank is sent W. -/
theorem State.dogForce_forcesAll {s : State} (kind : Nat) {b : Nat} (links : s.hub.links.length = 4) (views : s.hub.views.length = 4)
    (free : s.hub.free = true) (present : s.hub.present b = true) : Ready.forcesAll (s.dogForce kind) b = true := by
  have going : s.hub.stopping = false := by
    unfold Hub.stopping
    rw [Option.isNone_iff_eq_none.1 free]
  have orders : (s.hub.onDog fun d => { d with mode := .forced }).dogOrders = s.hub.everyChan fun p => .setW p true :=
    if_pos (Bool.and_eq_true_iff.2 ⟨rfl, free⟩)
  have hb : b < 4 := Hub.present_lt views present
  unfold Ready.forcesAll Hub.link
  rw [State.dogForce_notify, State.notify_hub_links _ _ (s.dogForce_quiet kind), Hub.forced, orders]
  refine List.all_eq_true.2 fun p hp => ?_
  have hp : p < 12 := List.mem_range.1 hp
  have place : (12 * b + p) / 12 = b ∧ (12 * b + p) % 12 = p := by omega
  have ordered : ({ bank := b, lane := (s.hub.owner (12 * b + p)).getD 0xFF, cmd := .setW p true } : Order)
      ∈ s.hub.everyChan fun p => .setW p true :=
    List.mem_map.2 ⟨12 * b + p, List.mem_range.2 (by omega), by rw [place.1, place.2]⟩
  obtain ⟨r, hr, cmd, -⟩ := Hub.order_reaches (h := s.hub.onDog fun d => { d with mode := .forced })
    (o := { bank := b, lane := (s.hub.owner (12 * b + p)).getD 0xFF, cmd := .setW p true }) going links views present ordered (.inl rfl)
  exact List.any_eq_true.2 ⟨r, hr, decide_eq_true cmd⟩

/-- A steady hub keeps the number of its links and of the banks it knows. -/
theorem State.Steady.lengths {s t : State} (steady : s.Steady t) :
    t.hub.links.length = s.hub.links.length ∧ t.hub.views.length = s.hub.views.length := by
  refine ⟨?_, steady.keeps fun k => k.views.length⟩
  have kept := steady.keeps fun k => k.links.length
  simpa only [Hub.footing, List.length_map] using kept

/-- What the forced state brings to a serving hub. -/
theorem State.dogForce_of_steady {s u : State} {kind : Nat} (steady : s.Steady u) (serving : s.hub.serving = true) (shaped : s.hub.shaped = true)
    (some_kind : kind ≠ 0) : (u.dogForce kind).hub.collector.stands 0x36 = true
      ∧ ∀ b, s.hub.free = true → s.hub.present b = true → Ready.forcesAll (u.dogForce kind) b = true := by
  obtain ⟨links, views, -⟩ := (Hub.shaped_iff _).1 shaped
  obtain ⟨links_kept, views_kept⟩ := steady.lengths
  refine ⟨State.dogForce_stands (steady.outOfReset.trans (Hub.outOfReset_of_serving serving)) some_kind, fun b free present => ?_⟩
  exact State.dogForce_forcesAll kind (links_kept.trans links) (views_kept.trans views)
    ((congrArg Option.isNone steady.stop).trans free) ((congrArg Option.isSome (steady.view b)).trans present)

/-! ## Windows that end without a token -/

/-- The state `u` is `s` with `n` late misses counted and the expected token kept. -/
def State.LateBy (s u : State) (n : Nat) : Prop :=
  s.Steady u ∧ u.hub.run.dog.lastKind = 2 ∧ u.hub.run.dog.misses = s.hub.run.dog.misses + n
    ∧ u.hub.dogMisses = s.hub.dogMisses + BitVec.ofNat 32 n ∧ u.hub.run.dog.token = s.hub.run.dog.token

theorem State.miss_lateBy (s : State) (next : Nat) : s.LateBy (s.miss 2 next) 1 := by
  unfold State.LateBy
  rw [State.miss_dog, State.miss_dogMisses]
  exact ⟨s.miss_steady 2 next, rfl, rfl, rfl, rfl⟩

theorem State.LateBy.miss {s u : State} {n : Nat} (late : s.LateBy u n) (next : Nat) : s.LateBy (u.miss 2 next) (n + 1) := by
  obtain ⟨steady, -, misses, total, token⟩ := late
  unfold State.LateBy
  rw [State.miss_dog, State.miss_dogMisses]
  exact ⟨steady.trans (u.miss_steady 2 next), rfl, congrArg (· + 1) misses, by rw [total, BitVec.ofNat_add, BitVec.add_assoc]; rfl, token⟩

/-- No window has ended. -/
theorem State.dogLate_none {s : State} {at_ : Nat} (n : Nat)
    (none : ¬(s.hub.run.dog.mode = .armed ∧ s.hub.run.dog.windowAt + s.hub.run.dog.span < at_)) : s.dogLate at_ n = s := by
  cases n with
  | zero => rfl
  | succ n => exact if_neg none

theorem State.dogLate_next {s : State} {at_ : Nat} (n : Nat) (armed : s.hub.run.dog.mode = .armed)
    (past : s.hub.run.dog.windowAt + s.hub.run.dog.span < at_) :
    s.dogLate at_ (n + 1) = (s.dogMiss 2 (s.hub.run.dog.windowAt + s.hub.run.dog.span)).dogLate at_ n := if_pos ⟨armed, past⟩

/-- A window that ends after a miss forces, and no window ends in the forced state. -/
theorem State.dogLate_again {s : State} {at_ : Nat} (n : Nat) (armed : s.hub.run.dog.mode = .armed)
    (past : s.hub.run.dog.windowAt + s.hub.run.dog.span < at_) (again : 1 ≤ s.hub.run.dog.misses) :
    s.dogLate at_ (n + 1) = (s.miss 2 (s.hub.run.dog.windowAt + s.hub.run.dog.span)).dogForce 1 := by
  rw [State.dogLate_next n armed past, State.dogMiss_again _ _ again]
  refine State.dogLate_none n fun ⟨mode, _⟩ => ?_
  rw [State.dogForce_dog] at mode
  exact DogMode.noConfusion mode

theorem Ready.windowMissed_iff {s : State} : Ready.windowMissed s = true ↔ s.hub.serving = true ∧ s.hub.run.dog.mode = .armed
    ∧ s.hub.run.dog.windowAt + s.hub.run.dog.span < s.now := by
  simp only [Ready.windowMissed, Bool.and_eq_true, decide_eq_true_eq, and_assoc]

theorem execWatchdogLateMiss_serving {s : State} (serving : s.hub.serving = true) : execWatchdogLateMiss s = .next (s.dogLate s.now 2) :=
  congrArg Host.Outcome.next (if_pos serving)

theorem Ready.windowMissedTwice_iff {s : State} : Ready.windowMissedTwice s = true
    ↔ s.hub.run.dog.windowAt + s.hub.run.dog.span + s.hub.run.dog.span < s.now := decide_eq_true_iff

/-- One window missed, the first in a row. -/
theorem State.dogLate_first {s : State} (missed : Ready.windowMissed s = true) (first : s.hub.run.dog.misses = 0)
    (once : Ready.windowMissedTwice s = false) : s.dogLate s.now 2 = s.miss 2 (s.hub.run.dog.windowAt + s.hub.run.dog.span) := by
  obtain ⟨-, armed, past⟩ := Ready.windowMissed_iff.1 missed
  rw [State.dogLate_next 1 armed past, State.dogMiss_first _ _ first]
  refine State.dogLate_none 1 fun ⟨_, twice⟩ => ?_
  rw [State.miss_windowEnd] at twice
  exact Bool.eq_false_iff.1 once (Ready.windowMissedTwice_iff.2 twice)

/-- A second window in a row forces, whether the first has been counted or not. -/
theorem State.dogLate_forces {s : State} (missed : Ready.windowMissed s = true)
    (second : 1 ≤ s.hub.run.dog.misses ∨ Ready.windowMissedTwice s = true) :
    ∃ u n, s.LateBy u (n + 1) ∧ s.dogLate s.now 2 = u.dogForce 1 := by
  obtain ⟨-, armed, past⟩ := Ready.windowMissed_iff.1 missed
  by_cases again : 1 ≤ s.hub.run.dog.misses
  case pos => exact ⟨_, 0, s.miss_lateBy _, State.dogLate_again 1 armed past again⟩
  case neg =>
    have twice := Ready.windowMissedTwice_iff.1 (second.resolve_left again)
    have first : s.hub.run.dog.misses = 0 := by omega
    have again : 1 ≤ (s.miss 2 (s.hub.run.dog.windowAt + s.hub.run.dog.span)).hub.run.dog.misses := by
      rw [State.miss_dog]
      exact Nat.le_add_left 1 _
    have forces := State.dogLate_again (s := s.miss 2 (s.hub.run.dog.windowAt + s.hub.run.dog.span)) (at_ := s.now) 0
      (by rw [State.miss_dog]; exact armed) (by rw [State.miss_windowEnd]; exact twice) again
    refine ⟨_, 1, (s.miss_lateBy _).miss _, Eq.trans ?_ forces⟩
    rw [State.dogLate_next 1 armed past, State.dogMiss_first _ _ first]

/-- An arm deadline that passes counts two late misses and forces (R243). -/
theorem State.dogDeadline_forces {s : State} (serving : s.hub.serving = true) (awaiting : s.hub.run.dog.mode = .awaiting)
    (passed : s.hub.run.dog.deadline ≤ s.now) : ∃ u, s.LateBy u 2 ∧ s.dogDeadline = u.dogForce 2 := by
  have due : (s.hub.serving && decide (s.hub.run.dog.mode = .awaiting) && decide (s.hub.run.dog.deadline ≤ s.now)) = true := by
    simp [serving, awaiting, passed]
  exact ⟨_, (s.miss_lateBy s.hub.run.dog.windowAt).miss (s.miss 2 s.hub.run.dog.windowAt).hub.run.dog.windowAt, if_pos due⟩

/-- Settles O26: the first late miss is counted alone, and the second, like the arm deadline, forces every present bank. -/
theorem watchdogMissesForceTheBanks : Obligations.WatchdogMissesForceTheBanks := by
  refine ⟨fun s missed first once => ?_, fun s missed second shaped => ?_, fun s serving awaiting passed shaped => ?_⟩
  · obtain ⟨serving, armed, -⟩ := Ready.windowMissed_iff.1 missed
    refine ⟨_, execWatchdogLateMiss_serving serving, ?_⟩
    rw [State.dogLate_first missed first once, State.miss_dog, State.miss_dogMisses, State.miss_links, first]
    exact ⟨armed, rfl, rfl, rfl, rfl, rfl⟩
  · obtain ⟨serving, -⟩ := Ready.windowMissed_iff.1 missed
    obtain ⟨u, n, ⟨steady, kind, -⟩, forces⟩ := State.dogLate_forces missed second
    refine ⟨_, execWatchdogLateMiss_serving serving, ?_⟩
    rw [forces, State.dogForce_dog]
    exact ⟨rfl, kind, State.dogForce_of_steady steady serving shaped (by decide)⟩
  · obtain ⟨u, ⟨steady, -, misses, total, -⟩, forces⟩ := State.dogDeadline_forces serving awaiting passed
    refine ⟨_, rfl, ?_⟩
    rw [forces, State.dogForce_dog, State.dogForce_dogMisses]
    exact ⟨rfl, misses, total, State.dogForce_of_steady steady serving shaped (by decide)⟩

/-! ## Tokens -/

theorem nextToken_eq (v : Nat) : nextToken v = if v &&& 0x0001 = 1 then (v >>> 1) ^^^ 0xB400 else v >>> 1 := by
  rw [Nat.and_one_is_mod, Nat.shiftRight_eq_div_pow, Nat.pow_one]
  rfl

theorem nextToken_lt {v : Nat} (h : v < 2 ^ 16) : nextToken v < 2 ^ 16 := by
  have half : v / 2 < 2 ^ 16 := by omega
  unfold nextToken
  split
  · exact Nat.xor_lt_two_pow half (by decide)
  · exact half

/-- A miss by a token counts once with its kind and keeps the expected token, forced or not. -/
theorem State.dogMiss_counts (s : State) (kind next : Nat) :
    (s.dogMiss kind next).hub.run.dog.misses = s.hub.run.dog.misses + 1 ∧ (s.dogMiss kind next).hub.run.dog.lastKind = kind
      ∧ (s.dogMiss kind next).hub.run.dog.token = s.hub.run.dog.token ∧ (s.dogMiss kind next).hub.dogMisses = s.hub.dogMisses + 1 := by
  rcases Nat.eq_zero_or_pos s.hub.run.dog.misses with first | again
  · rw [State.dogMiss_first _ _ first, State.miss_dog, State.miss_dogMisses]
    exact ⟨rfl, rfl, rfl, rfl⟩
  · rw [State.dogMiss_again _ _ again, State.dogForce_dog, State.dogForce_dogMisses, State.miss_dog, State.miss_dogMisses]
    exact ⟨rfl, rfl, rfl, rfl⟩

theorem Ready.dogOwned_iff {s : State} {k : Nat} : Ready.dogOwned s k = true ↔ s.hub.run.dog.mode = .armed ∧ s.hub.run.dog.owner = k
    ∧ s.now ≤ s.hub.run.dog.windowAt + s.hub.run.dog.span := by
  simp only [Ready.dogOwned, Bool.and_eq_true, decide_eq_true_eq, and_assoc]

/-- A token of the owner within a window is early, wrong or accepted (R241, Table 08-3). -/
theorem State.dogToken_owned {s : State} {k : Nat} (v : Nat) (owned : Ready.dogOwned s k = true) :
    s.dogToken { session := k, arrival := s.now } v =
      if s.now < s.hub.run.dog.windowAt + s.hub.run.dog.span / 4 then (s.dogMiss 1 s.now).deny 0x030B
      else if v ≠ s.hub.run.dog.token then (s.dogMiss 3 s.now).deny 0x030B
      else State.accept (s.onHub fun h => h.onDog fun d => { d with token := nextToken d.token, misses := 0, windowAt := s.now }) := by
  obtain ⟨armed, owner, within⟩ := Ready.dogOwned_iff.1 owned
  unfold State.dogToken
  dsimp only
  rw [if_neg (by simp [armed, owner]), State.dogLate_none 2 (fun ⟨_, past⟩ => absurd past (Nat.not_lt.2 within)), if_neg (by simp [armed])]

/-- A write to the watchdog is its own operation, for the session and the moment of the write. -/
theorem State.writeNum_dog {s : State} {k sub v : Nat} (h : Ready.mayWrite s k 0x2032 sub v = true) :
    ∃ r, s.writeNum k 0x2032 sub v
      = ((s.usedBy k).dogWrite r { session := k, arrival := s.now } sub v).finish { session := k, arrival := s.now } :=
  State.writeNum_device h (by decide) (by decide)

theorem State.writeNum_token {s : State} {k token : Nat} (h : Ready.mayWrite s k 0x2032 4 token = true) (owned : Ready.dogOwned s k = true) :
    s.writeNum k 0x2032 4 token =
      (if s.now < s.hub.run.dog.windowAt + s.hub.run.dog.span / 4 then ((s.usedBy k).dogMiss 1 s.now).deny 0x030B
        else if token ≠ s.hub.run.dog.token then ((s.usedBy k).dogMiss 3 s.now).deny 0x030B
        else State.accept ((s.usedBy k).onHub fun h => h.onDog fun d =>
          { d with token := nextToken d.token, misses := 0, windowAt := s.now })).finish { session := k, arrival := s.now } := by
  obtain ⟨r, hw⟩ := State.writeNum_dog h
  rw [hw]
  exact congrArg (fun w => Written.finish w _) (State.dogToken_owned (s := s.usedBy k) token owned)

/-- A token that comes early or is wrong is refused and counted (Table 08-3). -/
theorem State.writeNum_badToken {s : State} {k token : Nat} (h : Ready.mayWrite s k 0x2032 4 token = true) (owned : Ready.dogOwned s k = true)
    (bad : s.now < s.hub.run.dog.windowAt + s.hub.run.dog.span / 4 ∨ token ≠ s.hub.run.dog.token) :
    s.writeNum k 0x2032 4 token
      = ((s.usedBy k).dogMiss (if s.now < s.hub.run.dog.windowAt + s.hub.run.dog.span / 4 then 1 else 3) s.now).replied 0x030B := by
  rw [State.writeNum_token h owned]
  split
  case isTrue early => exact Written.finish_deny _ _ _ _ (by decide)
  case isFalse due =>
    rw [if_pos (bad.resolve_left due)]
    exact Written.finish_deny _ _ _ _ (by decide)

/-- What a bad token leaves. -/
theorem State.writeNum_badToken_leaves {s : State} {k token : Nat} (h : Ready.mayWrite s k 0x2032 4 token = true)
    (owned : Ready.dogOwned s k = true) (bad : s.now < s.hub.run.dog.windowAt + s.hub.run.dog.span / 4 ∨ token ≠ s.hub.run.dog.token) :
    let t := s.writeNum k 0x2032 4 token
    Ready.refused t 0x030B ∧ t.hub.run.dog.lastKind = (if s.now < s.hub.run.dog.windowAt + s.hub.run.dog.span / 4 then 1 else 3)
      ∧ t.hub.run.dog.misses = s.hub.run.dog.misses + 1 ∧ t.hub.dogMisses = s.hub.dogMisses + 1
      ∧ t.hub.run.dog.token = s.hub.run.dog.token := by
  intro t
  obtain ⟨misses, kind, token, total⟩ := (s.usedBy k).dogMiss_counts
    (if s.now < s.hub.run.dog.windowAt + s.hub.run.dog.span / 4 then 1 else 3) s.now
  have row : t = _ := State.writeNum_badToken h owned bad
  rw [row]
  exact ⟨State.replied_refused _ _, kind, misses, total, token⟩

/-- The right token in the open part of the window restarts it (R241). -/
theorem State.writeNum_goodToken {s : State} {k token : Nat} (h : Ready.mayWrite s k 0x2032 4 token = true) (owned : Ready.dogOwned s k = true)
    (due : s.hub.run.dog.windowAt + s.hub.run.dog.span / 4 ≤ s.now) (right : token = s.hub.run.dog.token) :
    s.writeNum k 0x2032 4 token = ((s.usedBy k).onHub fun h => h.onDog fun d =>
      { d with token := nextToken d.token, misses := 0, windowAt := s.now }).replied 0 := by
  rw [State.writeNum_token h owned, if_neg (Nat.not_lt.2 due), if_neg (not_not.2 right)]
  exact Written.finish_accept _ _ _

/-! ## Arming and disarming -/

/-- W becomes C in every present bank (R232). -/
def releaseOrders : List Order := (List.range 4).map fun b => { bank := b, lane := 0xFF, cmd := .releaseW }

/-- A release queues orders and no more: those of all banks where the watchdog was forced. -/
theorem State.dogRelease_orders (s : State) : ∃ os, s.dogRelease.1 = { s with hub := (s.hub.order os).1 }
    ∧ (s.hub.run.dog.mode = .forced → os = releaseOrders) ∧ ∀ n ∈ s.dogRelease.2, Notice.quiet n = true := by
  unfold State.dogRelease
  split
  case isTrue => exact ⟨releaseOrders, rfl, fun _ => rfl, Notice.quiet_one rfl⟩
  case isFalse held =>
    refine ⟨[], rfl, fun forced => absurd ?_ held, Notice.quiet_nil⟩
    rw [decide_eq_true forced, Bool.true_or]

theorem State.usedBy_mayArm (s : State) (k n : Nat) : (s.usedBy k).hub.mayArm n = s.hub.mayArm n := by
  obtain ⟨at_, used⟩ := s.usedBy_session k n
  unfold Hub.mayArm
  rw [used]
  rfl

/-- The watchdog after an arm at a moment (R239). -/
def Hub.armedDog (h : Hub) (k seed at_ : Nat) : Watchdog :=
  { h.run.dog with mode := .armed, token := nextToken seed, windowAt := at_, period := h.val 0x2032 1 100, misses := 0, owner := k }

/-- An arm by a session that may (R239): the watchdog armed, and the links with the orders of the release. -/
theorem State.dogArm_allowed {s : State} {k at_ : Nat} (seed : Nat) (allowed : s.hub.mayArm k = true) :
    ∃ t os, s.dogArm { session := k, arrival := at_ } seed = State.accept t ∧ t.hub.run.dog = s.hub.armedDog k seed at_
      ∧ t.hub.links = (s.hub.order os).1.links ∧ (s.hub.run.dog.mode = .forced → os = releaseOrders) := by
  obtain ⟨os, released, orders, quiet⟩ := s.dogRelease_orders
  have rest := Hub.order_rest os s.hub
  unfold State.dogArm
  rw [if_neg (by simp [allowed])]
  dsimp only
  have reports := Notice.quiet_append (Notice.quiet_append quiet (Notice.quiet_unless (c := s.hub.run.dog.mode = .armed)
    (ns := [.event 6 0x2032 6]) (Notice.quiet_one rfl))) (Notice.quiet_one (n := .journal 9 2 (leBytes 1 k)) rfl)
  refine ⟨_, os, rfl, ?_, ?_, orders⟩
  · rw [State.notify_hub_run_dog _ _ reports, released, State.onHub_hub, rest]
    rfl
  · rw [State.notify_hub_links _ _ reports, released]
    rfl

/-- What an arm leaves (R232, R239). -/
theorem State.writeNum_arms {s : State} {k seed : Nat} (h : Ready.mayWrite s k 0x2032 3 seed = true) (allowed : s.hub.mayArm k = true) :
    let t := s.writeNum k 0x2032 3 seed
    Ready.accepted t ∧ t.hub.run.dog = s.hub.armedDog k seed s.now
      ∧ (s.hub.shaped = true → s.hub.run.dog.mode = .forced → ∀ b, s.hub.present b = true → Ready.onLink t b .releaseW = true) := by
  intro t
  obtain ⟨r, hw⟩ : ∃ r, t = ((s.usedBy k).dogWrite r { session := k, arrival := s.now } 3 seed).finish _ := State.writeNum_dog h
  have row : (s.usedBy k).dogWrite r { session := k, arrival := s.now } 3 seed = (s.usedBy k).dogArm { session := k, arrival := s.now } seed := rfl
  obtain ⟨u, os, armed, dog, links, orders⟩ := State.dogArm_allowed (s := s.usedBy k) (at_ := s.now) seed ((s.usedBy_mayArm k k).trans allowed)
  rw [hw, row, armed, Written.finish_accept]
  refine ⟨State.replied_accepted _, dog, fun shaped forced b present => Ready.onLink_of ?_⟩
  obtain ⟨four, views, -⟩ := (Hub.shaped_iff _).1 shaped
  have ordered : ({ bank := b, lane := 0xFF, cmd := .releaseW } : Order) ∈ releaseOrders :=
    List.mem_map_of_mem (List.mem_range.2 (Hub.present_lt views present))
  obtain ⟨q, hq, cmd, -⟩ := Hub.order_reaches (h := (s.usedBy k).hub) (o := { bank := b, lane := 0xFF, cmd := .releaseW })
    (Ready.mayWrite_going h) four views present ordered (.inl rfl)
  rw [orders forced] at links
  unfold Hub.link at hq ⊢
  exact ⟨q, by rw [show (u.replied 0).hub.links = _ from links]; exact hq, cmd⟩

/-- An arm by another session is refused. -/
theorem State.writeNum_armRefused {s : State} {k seed : Nat} (h : Ready.mayWrite s k 0x2032 3 seed = true) (barred : s.hub.mayArm k = false) :
    s.writeNum k 0x2032 3 seed = (s.usedBy k).replied 0x0307 := by
  obtain ⟨r, hw⟩ := State.writeNum_dog h
  have denied : (s.usedBy k).dogWrite r { session := k, arrival := s.now } 3 seed = (s.usedBy k).deny 0x0307 :=
    if_pos (by rw [s.usedBy_mayArm k k, barred]; rfl)
  rw [hw, denied, Written.finish_deny _ _ _ _ (by decide)]

/-- A disarm by a service session or the owner (R239). -/
theorem State.writeNum_disarms {s : State} {k : Nat} (h : Ready.mayWrite s k 0x2032 5 1 = true)
    (allowed : (s.hub.session k).role = .service ∨ s.hub.run.dog.owner = k) :
    let t := s.writeNum k 0x2032 5 1
    Ready.accepted t ∧ t.hub.run.dog.mode = .disarmed ∧ t.hub.run.dog.owner = 0xFF := by
  intro t
  obtain ⟨r, hw⟩ : ∃ r, t = ((s.usedBy k).dogWrite r { session := k, arrival := s.now } 5 1).finish _ := State.writeNum_dog h
  have row : (s.usedBy k).dogWrite r { session := k, arrival := s.now } 5 1 = (s.usedBy k).dogDisarm { session := k, arrival := s.now } := rfl
  obtain ⟨at_, used⟩ := s.usedBy_session k k
  obtain ⟨os, released, -, quiet⟩ := (s.usedBy k).dogRelease_orders
  have barred : ¬(((s.usedBy k).hub.session k).role ≠ .service ∧ (s.usedBy k).hub.run.dog.owner ≠ k) := by
    rw [used]
    exact not_and_or.2 (allowed.imp not_not.2 not_not.2)
  rw [hw, row]
  unfold State.dogDisarm
  dsimp only
  rw [if_neg barred, Written.finish_accept]
  refine ⟨State.replied_accepted _, ?_⟩
  unfold State.replied
  rw [State.onHub_hub]
  dsimp only
  rw [State.notify_hub_run_dog _ _ (Notice.quiet_append (Notice.quiet_append quiet (Notice.quiet_unless (Notice.quiet_one rfl)))
    (Notice.quiet_one rfl))]
  exact ⟨rfl, rfl⟩

/-- Settles O37: each write as the watchdog's own operation and what it leaves. -/
theorem theSerialWatchdogIsArmedFedAndDisarmed : Obligations.TheSerialWatchdogIsArmedFedAndDisarmed := by
  refine ⟨fun s k seed h allowed shaped => ⟨_, rfl, ?_⟩, fun s k seed h barred => ⟨_, rfl, ?_⟩,
    fun s k h allowed => ⟨_, rfl, State.writeNum_disarms h allowed⟩, fun s k token h owned due right => ⟨_, rfl, ?_⟩,
    fun s k token h owned early => ⟨_, rfl, ?_⟩, fun s k token h owned due wrong => ⟨_, rfl, ?_⟩⟩
  · obtain ⟨accepted, dog, released⟩ := State.writeNum_arms h allowed
    exact ⟨accepted, dog, released shaped⟩
  · rw [State.writeNum_armRefused h barred]
    exact ⟨State.replied_refused _ _, rfl⟩
  · rw [State.writeNum_goodToken h owned due right, right]
    exact ⟨State.replied_accepted _, rfl⟩
  · obtain ⟨refused, kind, misses, total, -⟩ := State.writeNum_badToken_leaves h owned (.inl early)
    exact ⟨refused, kind.trans (if_pos early), misses, total⟩
  · obtain ⟨refused, kind, misses, total, -⟩ := State.writeNum_badToken_leaves h owned (.inr wrong)
    exact ⟨refused, kind.trans (if_neg (Nat.not_lt.2 due)), misses, total⟩

/-- Settles O38: the shift register by its bits, and the expected token after an arm, a right token and a miss. -/
theorem tokensFollowTheShiftRegisterSequence : Obligations.TokensFollowTheShiftRegisterSequence := by
  refine ⟨nextToken_eq, fun v => nextToken_lt, fun s k seed h allowed => ⟨_, rfl, ?_⟩, fun s k token h owned due right => ⟨_, rfl, ?_⟩,
    fun s k token h owned bad => ⟨_, rfl, ?_⟩, fun s missed => ?_⟩
  · obtain ⟨-, dog, -⟩ := State.writeNum_arms h allowed
    rw [dog]
    exact ⟨rfl, rfl⟩
  · rw [State.writeNum_goodToken h owned due right]
    rfl
  · obtain ⟨-, -, misses, -, kept⟩ := State.writeNum_badToken_leaves h owned bad
    exact ⟨misses, kept⟩
  · obtain ⟨serving, -⟩ := Ready.windowMissed_iff.1 missed
    refine ⟨_, execWatchdogLateMiss_serving serving, ?_⟩
    by_cases second : 1 ≤ s.hub.run.dog.misses ∨ Ready.windowMissedTwice s = true
    case pos =>
      obtain ⟨u, n, ⟨-, -, misses, -, token⟩, forces⟩ := State.dogLate_forces missed second
      rw [forces, State.dogForce_dog]
      exact ⟨by rw [misses]; omega, token⟩
    case neg =>
      obtain ⟨none, once⟩ := not_or.1 second
      rw [State.dogLate_first missed (by omega) (Bool.eq_false_iff.2 once), State.miss_dog]
      exact ⟨Nat.lt_succ_self _, rfl⟩

end Sys2Proof.Machine
end

section
/-! O36: fail-safe and release of the channels of a lane or a bank (R228, R231). -/

namespace Sys2Proof.Machine

/-! ## What a command for channels is -/

/-- The order that gives a channel its fail-safe cause C, or ends it, for the lane that owns the channel. -/
def Hub.causeOrder (h : Hub) (c : Bool) (ch : Nat) : Order := { bank := ch / 12, lane := (h.owner ch).getD 0xFF, cmd := .setC (ch % 12) c }

theorem State.patternCommand_enters (s : State) (chans lanes : List Nat) :
    s.patternCommand chans lanes 1 = s.command (chans.map (s.hub.causeOrder true)) := rfl

/-- The state with the lanes of a release off, their bookings and degraded lanes reported. -/
def State.lanesOff (s : State) (lanes : List Nat) : State :=
  State.notify { (s.offLanes lanes).1 with hub := s.hub.rebook (s.offLanes lanes).1.hub } (s.hub.degradedNotices (s.offLanes lanes).1.hub)

/-- A release that the banks and the cause bits allow (R231): nothing, the end of C, or that behind the commands off. -/
theorem State.patternCommand_releases {s : State} {chans : List Nat} (lanes : List Nat) {v : Nat} (release : v ≠ 1)
    (ready : Ready.releasable s chans = true) :
    s.patternCommand chans lanes v = if chans.any s.hub.mayCarryCause = false then State.accept s
      else if v = 2 then s.command (chans.map (s.hub.causeOrder false))
      else (s.lanesOff lanes).command ((s.offLanes lanes).2 ++ chans.map (s.hub.causeOrder false)) := by
  obtain ⟨present, unheld⟩ := Bool.and_eq_true_iff.1 ready
  have absent : ¬((banksOf chans).any fun b => !s.hub.present b) = true := by
    simpa only [List.any_eq_true, Bool.not_eq_true', not_exists, not_and, Bool.not_eq_false] using List.all_eq_true.1 present
  have free := Bool.eq_false_iff.1 ((Bool.not_eq_true' _).mp unheld)
  unfold State.patternCommand
  dsimp only
  refine (if_neg release).trans ((if_neg absent).trans ((if_neg free).trans ?_))
  cases chans.any s.hub.mayCarryCause <;> rfl

theorem Ready.laneThere_iff {s : State} {lane : Nat} : Ready.laneThere s lane = true
    ↔ lane < 48 ∧ s.hub.shaped = true ∧ (s.hub.chansOf lane).isEmpty = false ∧ (s.hub.laneBanks lane).isEmpty = false := by
  simp only [Ready.laneThere, Bool.and_eq_true, decide_eq_true_eq, Bool.not_eq_true', and_assoc]

/-- A command for the channels of a lane that has a bank. -/
theorem State.lanePattern_there {s : State} {n : Nat} (v : Nat) (chans : (s.hub.chansOf n).isEmpty = false)
    (banks : (s.hub.laneBanks n).isEmpty = false) : s.lanePattern n v = s.patternCommand (s.hub.chansOf n) [n] v := by
  unfold State.lanePattern
  rw [if_neg (by simp [chans]), if_neg (by simp [banks])]

theorem State.writeLaneNum_pattern {s : State} {k lane v : Nat} (h : Ready.mayWrite s k (laneIdx lane 6) 3 v = true)
    (there : Ready.laneThere s lane = true) : s.writeLaneNum k lane 6 3 v
      = ((s.usedBy k).patternCommand (s.hub.chansOf lane) [lane] v).finish { session := k, arrival := s.now } := by
  obtain ⟨hl, -, chans, banks⟩ := Ready.laneThere_iff.1 there
  obtain ⟨r, hw⟩ := State.writeLaneNum_lane hl (by decide) h
  have row : (s.usedBy k).writeLane r lane 6 3 v = (s.usedBy k).lanePattern lane v := rfl
  rw [hw, row, State.lanePattern_there (s := s.usedBy k) v chans banks]
  rfl

theorem State.writeNum_bankPattern {s : State} {k b v : Nat} (h : Ready.mayWrite s k 0x2031 (b + 1) v = true) (present : s.hub.present b = true) :
    s.writeNum k 0x2031 (b + 1) v
      = ((s.usedBy k).patternCommand (bankChans b) (s.hub.bankLanes b) v).finish { session := k, arrival := s.now } := by
  obtain ⟨r, hw⟩ := State.writeNum_device h (by decide) (by decide)
  have row : (s.usedBy k).writeDevice r { session := k, arrival := s.now } 0x2031 (b + 1) v = (s.usedBy k).bankPatternWrite b v := rfl
  have there : (s.usedBy k).bankPatternWrite b v = (s.usedBy k).patternCommand (bankChans b) (s.hub.bankLanes b) v :=
    if_neg (by rw [show (s.usedBy k).hub.present b = true from present]; decide)
  rw [hw, row, there]

/-! ## Present channels -/

/-- Some channel of a list has a present bank. -/
def Hub.reaches (h : Hub) (chans : List Nat) : Prop := ∃ ch ∈ chans, h.present (ch / 12) = true

theorem Hub.shaped_lengths {h : Hub} (shaped : h.shaped = true) : h.links.length = 4 ∧ h.views.length = 4 := by
  obtain ⟨links, views, -⟩ := (Hub.shaped_iff h).1 shaped
  exact ⟨links, views⟩

theorem Ready.laneThere_reaches {s : State} {lane : Nat} (there : Ready.laneThere s lane = true) : s.hub.reaches (s.hub.chansOf lane) := by
  obtain ⟨-, -, -, banks⟩ := Ready.laneThere_iff.1 there
  obtain ⟨b, hb⟩ := List.exists_mem_of_ne_nil _ (List.isEmpty_eq_false_iff.1 banks)
  obtain ⟨carries, present⟩ := List.mem_filter.1 hb
  obtain ⟨ch, hc, place⟩ := List.any_eq_true.1 (List.mem_filter.1 carries).2
  exact ⟨ch, hc, by rw [beq_iff_eq.1 place]; exact present⟩

theorem Hub.bank_reaches {h : Hub} {b : Nat} (present : h.present b = true) : h.reaches (bankChans b) :=
  ⟨12 * b, List.mem_map.2 ⟨0, by decide, rfl⟩, by rw [Nat.mul_div_cancel_left b (by decide)]; exact present⟩

/-! ## Lanes off -/

/-- What commands to the banks rest on: the links, the banks as they were heard, the answers that wait and the planned stop. -/
def State.floor (s : State) : List Link × List (Option BankCore) × List Waiting × Option Stop :=
  (s.hub.links, s.hub.views, s.hub.run.waiting, s.hub.run.stop)

theorem State.floor_of_dealt {s t : State} (e : t.dealt = s.dealt) : t.floor = s.floor ∧ t.hub.run.accepted = s.hub.run.accepted :=
  ⟨congrArg (fun x => (x.2.1, x.2.2.1, x.2.2.2.2.2.1, x.2.2.2.2.2.2)) e, congrArg (fun x => x.2.2.2.1) e⟩

/-- A lane with its schedule cancelled and its command off (R268). -/
def State.laneOff (s : State) (n : Nat) : State := (s.cancelSchedule n).1.onHub fun h => h.put (laneIdx n 0) 1 0 true

theorem State.laneOff_leaves (s : State) (n : Nat) :
    (s.laneOff n).floor = s.floor ∧ (s.laneOff n).hub.run.accepted = s.hub.run.accepted.put (objKey (laneIdx n 0) 1) 0 := by
  obtain ⟨floor, accepted⟩ := State.floor_of_dealt (s.cancelSchedule_dealt n).1
  exact ⟨floor, congrArg (·.put (objKey (laneIdx n 0) 1) 0) accepted⟩

/-- A lane is off once it is taken off, and others that were off stay so. -/
theorem State.laneOff_given (s : State) {m n : Nat} (off : n = m ∨ Ready.given s (laneIdx n 0) 1 0) :
    Ready.given (s.laneOff m) (laneIdx n 0) 1 0 := by
  unfold Ready.given at off ⊢
  rw [(s.laneOff_leaves m).2, Values.get?_put]
  split
  case isTrue => rfl
  case isFalse other => exact off.resolve_left fun same => other (by rw [same])

/-- One more lane off, with the orders that carry it. -/
def offNext (acc : State × List Order) (n : Nat) : State × List Order :=
  (acc.1.laneOff n, acc.2 ++ (acc.1.cancelSchedule n).2 ++ (acc.1.laneOff n).hub.laneOrders n none false fun p => .setNormal p .off)

theorem State.offLanes_foldl (s : State) (lanes : List Nat) : s.offLanes lanes = lanes.foldl offNext (s, []) := rfl

theorem offNext_foldl_leaves (lanes : List Nat) (acc : State × List Order) :
    (lanes.foldl offNext acc).1.floor = acc.1.floor
      ∧ ∀ n, n ∈ lanes ∨ Ready.given acc.1 (laneIdx n 0) 1 0 → Ready.given (lanes.foldl offNext acc).1 (laneIdx n 0) 1 0 := by
  induction lanes generalizing acc with
  | nil => exact ⟨rfl, fun n hn => hn.resolve_left List.not_mem_nil⟩
  | cons m lanes ih =>
    obtain ⟨floor, given⟩ := ih (offNext acc m)
    refine ⟨floor.trans (acc.1.laneOff_leaves m).1, fun n hn => given n ?_⟩
    rcases hn with hn | old
    · rcases List.mem_cons.1 hn with new | hn
      · exact .inr (acc.1.laneOff_given (.inl new))
      · exact .inl hn
    · exact .inr (acc.1.laneOff_given (.inr old))

/-- What lanes off leave: all a command rests on, and each of the lanes has its command off. -/
theorem State.lanesOff_leaves (s : State) (lanes : List Nat) :
    (s.lanesOff lanes).floor = s.floor ∧ (s.lanesOff lanes).hub.run.accepted = (s.offLanes lanes).1.hub.run.accepted
      ∧ ∀ n ∈ lanes, Ready.given (s.lanesOff lanes) (laneIdx n 0) 1 0 := by
  obtain ⟨floor, given⟩ := offNext_foldl_leaves lanes (s, [])
  rw [← State.offLanes_foldl] at floor given
  have rebooked : ({ (s.offLanes lanes).1 with hub := s.hub.rebook (s.offLanes lanes).1.hub } : State).dealt = (s.offLanes lanes).1.dealt := by
    unfold Hub.rebook
    split <;> rfl
  obtain ⟨floor', accepted⟩ := State.floor_of_dealt ((State.notify_dealt _ _ (Hub.degradedNotices_quiet _ _)).trans rebooked)
  refine ⟨floor'.trans floor, accepted, fun n hn => ?_⟩
  have off := given n (.inl hn)
  unfold Ready.given at off ⊢
  rw [show (s.lanesOff lanes).hub.run.accepted = _ from accepted, off]

/-! ## What a command for channels leaves -/

theorem State.floor_present {s u : State} (floor : u.floor = s.floor) (b : Nat) : u.hub.present b = s.hub.present b :=
  congrArg (fun x : _ × List (Option BankCore) × _ => (x.2.1.getD b none).isSome) floor

theorem State.floor_stopping {s u : State} (floor : u.floor = s.floor) : u.hub.stopping = s.hub.stopping := by
  have stop : u.hub.run.stop = s.hub.run.stop := congrArg (fun x => x.2.2.2) floor
  unfold Hub.stopping
  rw [stop]

section
variable {s u : State} {chans : List Nat} {k at_ : Nat} (shaped : s.hub.links.length = 4 ∧ s.hub.views.length = 4)
  (going : s.hub.stopping = false) (floor : u.floor = s.floor)
include shaped going floor

/-- An order of a write for a present bank stands on its link, where those for its target, if it has one, are all alike (R42). -/
theorem State.command_onLink {os : List Order} {o : Order} (ho : o ∈ os) (present : s.hub.present o.bank = true)
    (alike : o.cmd.target = none ∨ ∀ x ∈ os, x.bank = o.bank → x.cmd.target = o.cmd.target → x = o) :
    Ready.onLink ((u.command os).finish { session := k, arrival := at_ }) o.bank o.cmd = true := by
  have links : u.hub.links = s.hub.links := congrArg (fun x => x.1) floor
  have views : u.hub.views = s.hub.views := congrArg (fun x => x.2.1) floor
  obtain ⟨queued, -⟩ := u.command_finish os k at_
  obtain ⟨r, hr, cmd, -⟩ := Hub.order_reaches ((State.floor_stopping floor).trans going) (links ▸ shaped.1) (views ▸ shaped.2)
    ((State.floor_present floor _).trans present) ho alike
  refine Ready.onLink_of ⟨r, ?_, cmd⟩
  unfold Hub.link at hr ⊢
  rwa [queued]

/-- Causes ordered behind other orders are awaited, and stand on the links of the present banks. -/
theorem State.causes_leave (reached : s.hub.reaches chans) (pre : List Order) (h : Hub) (c : Bool) :
    let t := (u.command (pre ++ chans.map (h.causeOrder c))).finish { session := k, arrival := at_ }
    Ready.awaited s t k ∧ (Ready.onLinks s t chans fun p => .setC p c) ∧ t.hub.run.accepted = u.hub.run.accepted := by
  have ordered : ∀ ch ∈ chans, h.causeOrder c ch ∈ pre ++ chans.map (h.causeOrder c) :=
    fun ch hc => List.mem_append_right _ (List.mem_map_of_mem hc)
  obtain ⟨-, accepted, -⟩ := u.command_finish (pre ++ chans.map (h.causeOrder c)) k at_
  refine ⟨?_, fun ch hc hp => State.command_onLink shaped going floor (ordered ch hc) hp (.inl rfl), accepted⟩
  obtain ⟨ch, hc, hp⟩ := reached
  have waiting : u.hub.run.waiting = s.hub.run.waiting := congrArg (fun x => x.2.2.1) floor
  have waits := State.command_waits k at_ ((State.floor_stopping floor).trans going) (ordered ch hc) ((State.floor_present floor _).trans hp)
  unfold Ready.awaited at waits ⊢
  rwa [waiting] at waits

/-- Normal states ordered for the channels of a lane stand on the links of the present banks, among orders without a target (R42). -/
theorem State.normals_leave (pre post : List Order) (n : Nat) (free : ∀ o ∈ pre ++ post, o.cmd.target = none) (same : u.hub.chansOf n = chans) :
    let t := (u.command (pre ++ u.hub.laneOrders n none false (fun p => .setNormal p .off) ++ post)).finish { session := k, arrival := at_ }
    Ready.onLinks s t chans fun p => .setNormal p .off := by
  intro t ch hc hp
  have ordered : ({ bank := ch / 12, lane := n, cmd := .setNormal (ch % 12) .off } : Order)
      ∈ u.hub.laneOrders n none false fun p => .setNormal p .off := List.mem_map.2 ⟨ch, same ▸ hc, rfl⟩
  have untargeted : ∀ x ∈ pre ++ post, x.cmd.target ≠ some (0, ch % 12) := fun x hx target => by
    rw [free x hx] at target
    exact absurd target.symm (Option.some_ne_none _)
  refine State.command_onLink (o := { bank := ch / 12, lane := n, cmd := .setNormal (ch % 12) .off }) shaped going floor
    (List.mem_append_left post (List.mem_append_right pre ordered)) hp (.inr fun x hx bank target => ?_)
  rcases List.mem_append.1 hx with hx | hx
  · rcases List.mem_append.1 hx with hx | hx
    · exact absurd target (untargeted x (List.mem_append_left _ hx))
    · obtain ⟨c, -, rfl⟩ := List.mem_map.1 hx
      simp only [BankCmd.target, Option.some.injEq, Prod.mk.injEq, true_and] at bank target
      rw [show c = ch by omega]
  · exact absurd target (untargeted x (List.mem_append_right _ hx))

end

section
variable {s : State} {chans : List Nat} {k at_ : Nat} (lanes : List Nat) (shaped : s.hub.links.length = 4 ∧ s.hub.views.length = 4)
  (going : s.hub.stopping = false) (reached : s.hub.reaches chans)
include shaped going reached

/-- Fail-safe entered (R228). -/
theorem State.patternCommand_entered : let t := (s.patternCommand chans lanes 1).finish { session := k, arrival := at_ }
    Ready.awaited s t k ∧ Ready.onLinks s t chans fun p => .setC p true := by
  rw [State.patternCommand_enters]
  obtain ⟨awaited, queued, -⟩ := State.causes_leave (k := k) (at_ := at_) shaped going rfl reached [] s.hub true
  exact ⟨awaited, queued⟩

variable (ready : Ready.releasable s chans = true) (caused : chans.any s.hub.mayCarryCause = true)
include ready caused

/-- A release as stored (R231). -/
theorem State.patternCommand_asStored : let t := (s.patternCommand chans lanes 2).finish { session := k, arrival := at_ }
    Ready.awaited s t k ∧ (Ready.onLinks s t chans fun p => .setC p false) ∧ t.hub.run.accepted = s.hub.run.accepted := by
  rw [State.patternCommand_releases lanes (by decide) ready, if_neg (by simp [caused]), if_pos rfl]
  exact State.causes_leave shaped going rfl reached [] s.hub false

/-- A release to off (R231): its lanes have their commands off. -/
theorem State.patternCommand_toOff : let t := (s.patternCommand chans lanes 3).finish { session := k, arrival := at_ }
    Ready.awaited s t k ∧ (Ready.onLinks s t chans fun p => .setC p false) ∧ ∀ n ∈ lanes, Ready.given t (laneIdx n 0) 1 0 := by
  obtain ⟨floor, -, off⟩ := s.lanesOff_leaves lanes
  rw [State.patternCommand_releases lanes (by decide) ready, if_neg (by simp [caused]), if_neg (by decide)]
  obtain ⟨awaited, queued, accepted⟩ := State.causes_leave (k := k) (at_ := at_) shaped going floor reached (s.offLanes lanes).2 s.hub false
  refine ⟨awaited, queued, fun n hn => ?_⟩
  have given := off n hn
  unfold Ready.given at given ⊢
  rwa [accepted]

end

/-- A release to off of a lane gives its channels the normal state off. -/
theorem State.patternCommand_laneOff {s : State} {n k at_ : Nat} (hn : n < 48) (shaped : s.hub.links.length = 4 ∧ s.hub.views.length = 4)
    (going : s.hub.stopping = false) (ready : Ready.releasable s (s.hub.chansOf n) = true) (caused : (s.hub.chansOf n).any s.hub.mayCarryCause = true) :
    let t := (s.patternCommand (s.hub.chansOf n) [n] 3).finish { session := k, arrival := at_ }
    Ready.onLinks s t (s.hub.chansOf n) fun p => .setNormal p .off := by
  obtain ⟨floor, accepted, -⟩ := s.lanesOff_leaves [n]
  have off : (s.laneOff n).hub.run.accepted = _ := (s.laneOff_leaves n).2
  have same : (s.lanesOff [n]).hub.chansOf n = s.hub.chansOf n := Hub.chansOf_of_put n hn (by decide) (by decide) (accepted.trans off)
  have sameOff : (s.laneOff n).hub.chansOf n = s.hub.chansOf n := Hub.chansOf_of_put n hn (by decide) (by decide) off
  have orders : (s.offLanes [n]).2 = (s.cancelSchedule n).2 ++ (s.lanesOff [n]).hub.laneOrders n none false fun p => .setNormal p .off := by
    unfold Hub.laneOrders
    rw [same, ← sameOff]
    rfl
  rw [State.patternCommand_releases [n] (by decide) ready, if_neg (by simp [caused]), if_neg (by decide), orders]
  refine State.normals_leave shaped going floor (s.cancelSchedule n).2 _ n (fun o ho => ?_) same
  rcases List.mem_append.1 ho with ho | ho
  · exact (s.cancelSchedule_dealt n).2 o ho
  · obtain ⟨ch, -, rfl⟩ := List.mem_map.1 ho
    rfl

/-- A release of channels without a cause (R231). -/
theorem State.patternCommand_nothing {s : State} {chans : List Nat} {k at_ : Nat} (lanes : List Nat) {v : Nat} (release : v ≠ 1)
    (ready : Ready.releasable s chans = true) (uncaused : chans.any s.hub.mayCarryCause = false) :
    Ready.releasedNothing s ((s.patternCommand chans lanes v).finish { session := k, arrival := at_ }) := by
  rw [State.patternCommand_releases lanes release ready, if_pos uncaused, Written.finish_accept]
  exact ⟨State.replied_accepted s, rfl, rfl⟩

/-- Settles O36: each command as its write for the channels of the lane or the bank, and what that leaves. -/
theorem failSafeAndReleaseReachTheChannels : Obligations.FailSafeAndReleaseReachTheChannels := by
  refine ⟨fun s k lane h there => ⟨_, rfl, ?_⟩, fun s k lane h there ready caused => ⟨_, rfl, ?_⟩,
    fun s k lane h there ready caused => ⟨_, rfl, ?_⟩,
    fun s k b hb shaped h present => ⟨_, rfl, ?_⟩, fun s k b hb shaped h present ready caused => ⟨_, rfl, ?_⟩,
    fun s k b hb shaped h present ready caused => ⟨_, rfl, ?_⟩, fun s k lane h there ready uncaused => ⟨_, rfl, ?_⟩,
    fun s k lane h there ready uncaused => ⟨_, rfl, ?_⟩, fun s k b hb h present ready uncaused => ⟨_, rfl, ?_⟩,
    fun s k b hb h present ready uncaused => ⟨_, rfl, ?_⟩⟩
  · obtain ⟨-, shaped, -⟩ := Ready.laneThere_iff.1 there
    have reached := Ready.laneThere_reaches there
    rw [State.writeLaneNum_pattern h there]
    exact State.patternCommand_entered (s := s.usedBy k) _ (Hub.shaped_lengths shaped :) (Ready.mayWrite_going h) reached
  · obtain ⟨-, shaped, -⟩ := Ready.laneThere_iff.1 there
    have reached := Ready.laneThere_reaches there
    rw [State.writeLaneNum_pattern h there]
    exact State.patternCommand_asStored (s := s.usedBy k) _ (Hub.shaped_lengths shaped :) (Ready.mayWrite_going h) reached ready caused
  · obtain ⟨hl, shaped, -⟩ := Ready.laneThere_iff.1 there
    have reached := Ready.laneThere_reaches there
    have normal := State.patternCommand_laneOff (s := s.usedBy k) (k := k) (at_ := s.now) hl (Hub.shaped_lengths shaped :) (Ready.mayWrite_going h)
      ready caused
    obtain ⟨awaited, queued, off⟩ := State.patternCommand_toOff (s := s.usedBy k) (k := k) (at_ := s.now) [lane] (Hub.shaped_lengths shaped :)
      (Ready.mayWrite_going h) reached ready caused
    rw [State.writeLaneNum_pattern h there]
    exact ⟨awaited, queued, normal, off lane (List.mem_singleton_self _)⟩
  · rw [if_pos hb, State.writeNum_bankPattern h present]
    exact State.patternCommand_entered (s := s.usedBy k) _ (Hub.shaped_lengths shaped :) (Ready.mayWrite_going h) (Hub.bank_reaches present)
  · rw [if_pos hb, State.writeNum_bankPattern h present]
    exact State.patternCommand_asStored (s := s.usedBy k) _ (Hub.shaped_lengths shaped :) (Ready.mayWrite_going h) (Hub.bank_reaches present)
      ready caused
  · rw [if_pos hb, State.writeNum_bankPattern h present]
    exact State.patternCommand_toOff (s := s.usedBy k) _ (Hub.shaped_lengths shaped :) (Ready.mayWrite_going h) (Hub.bank_reaches present)
      ready caused
  · rw [State.writeLaneNum_pattern h there]
    exact State.patternCommand_nothing (s := s.usedBy k) _ (by decide) ready uncaused
  · rw [State.writeLaneNum_pattern h there]
    exact State.patternCommand_nothing (s := s.usedBy k) _ (by decide) ready uncaused
  · rw [if_pos hb, State.writeNum_bankPattern h present]
    exact State.patternCommand_nothing (s := s.usedBy k) _ (by decide) ready uncaused
  · rw [if_pos hb, State.writeNum_bankPattern h present]
    exact State.patternCommand_nothing (s := s.usedBy k) _ (by decide) ready uncaused

end Sys2Proof.Machine
end
